-- ==== Sys2Proof/Word.lean ====
section
/-!
DEFINITION. The word types of the wall engine: bytes, register words and 64-bit words.
-/

namespace Sys2Proof

/-- One byte of a packet, a memory or a register. -/
abbrev Byte := BitVec 8

/-- One 32-bit register (00_scope.md, "Registers and access codes"), or a 32-bit wrapping counter. -/
abbrev Word := BitVec 32

/-- One 64-bit word. -/
abbrev DWord := BitVec 64

end Sys2Proof
end

