-- ==== Sys2Proof/Types.lean ====
section
/-!
DEFINITION. Plain data shared by the commands and the state: packets, messages, records and requests as the
chapters of spec/ lay them out.
-/
namespace Sys2Proof

/-- The two parts of the engine (R1). -/
inductive Part where
  | head | tile
  deriving DecidableEq, Repr

/-- Where a Plopex packet comes from (R91, R100, R102): a PCIe queue, a management session, the partner Head
over the twin port, or, at a Tile, the Head named by the HEAD bit and the port of arrival (R336). -/
inductive Source where
  | queue (q : Nat) | session (n : Nat) | twin | chain (headB : Bool) (port : Nat)
  deriving DecidableEq, Repr

/-- The register spaces of R121 to R123. -/
inductive Space where
  | bar0 | bar4 | tileLocal
  deriving DecidableEq, Repr

/-- A register access: the space and the byte offset in it (R122 to R124). `more` are the further words of a larger BAR write,
which the Head splits into 32-bit writes in ascending address order (R124). -/
structure RegAccess where
  space : Space
  addr : Nat
  more : List (BitVec 32) := []
  deriving DecidableEq, Repr

/-- What a client offers when it opens a management session (R113): the TCP port, the TLS versions, cipher suites, key exchange groups
and signature schemes by their code points in TLS 1.3, whether it asks only for a resumption, and its certificate. The reset values
are those that the Head supports. PRESUMED, log entry 104. -/
structure TlsHello where
  port : Nat := 4720
  versions : List Nat := [0x0304]
  suites : List Nat := [0x1302, 0x1301]
  groups : List Nat := [0x0018]
  schemes : List Nat := [0x0503]
  resumeOnly : Bool := false
  cert : List Byte := []
  deriving DecidableEq, Repr

/-- A Graed packet (R331, R332): class, type, LEN in words, the fields of word 0 and the bytes of its contents. -/
structure GPkt where
  cls : Nat
  typ : Nat
  len : Nat
  seq : BitVec 12 := 0
  headB : Bool := false
  bcast : Bool := false
  pair : Nat := 0
  chain : Nat := 0
  position : Nat := 0
  payload : List Byte := []
  deriving DecidableEq, Repr

/-- How a packet has come over a Graed link (R332, R350): the port at which it arrived, and the packet with its SEQ. -/
structure Via where
  port : Nat
  pkt : GPkt
  deriving DecidableEq, Repr

/-- A message and the packet that has brought it over a Graed link; without one, the link has accepted it already (log entry 95). -/
structure Linked (α : Type) where
  msg : α
  via : Option Via := none
  deriving DecidableEq, Repr

/-- What comes or falls due at a port, and whether it does so amid a packet: one that the port is sending (R352), or one that the
Tile is forwarding (R349). -/
structure Amid (α : Type) where
  msg : α
  inPacket : Bool := false
  deriving DecidableEq, Repr

/-- A port that reaches block lock (R355), with the last payload that each lane has received, as the line carries it (R326). -/
structure Locked where
  port : Nat
  last : List (BitVec 64) := []
  deriving DecidableEq, Repr

/-- A Plopex command packet as Porch takes it (R81): the header fields, the arrival timestamp of R91 and the
parameter area. LENGTH is the length of `params`; the OPCODE is that of the command's row. `link` is the SEQ of the COMMAND packet
that brings it to a Tile (R333, R350); none: the link has accepted it already. -/
structure Cmd where
  part : Part
  src : Source
  tag : Nat := 0
  flags : BitVec 8 := 0
  status : Nat := 0
  pair : Nat := 0
  chain : Nat := 0
  position : Nat := 0
  frame : BitVec 32 := 0
  arrival : Nat := 0
  params : List Byte := []
  link : Option (BitVec 12) := none
  deriving DecidableEq, Repr

/-- A PL_RETIRE (R237, R250): the record of a lease that leaves for a queue or session, or with `cmd` a packet of that opcode that
comes in. -/
structure RetireTo where
  src : Source
  cmd : Option Cmd := none
  deriving DecidableEq, Repr

/-- A Plopex reply (R81, R85, R97). -/
structure Reply where
  opcode : Nat
  tag : Nat
  status : Nat
  flags : BitVec 8 := 1
  pair : Nat := 0
  chain : Nat := 0
  position : Nat := 0
  frame : BitVec 32 := 0
  params : List Byte := []
  deriving DecidableEq, Repr

/-- A reply of a Tile as it comes back to the Head (R88), with the originating Head's HEAD bit. -/
structure TileReply where
  headB : Bool := false
  reply : Reply
  deriving DecidableEq, Repr

/-- The event record of R130, without its reserved bits. -/
structure EventRec where
  time : Nat
  seq : BitVec 32 := 0
  block : Nat
  severity : Nat
  code : Nat
  pair : Nat := 0
  chain : Nat := 0
  position : Nat := 0
  headB : Bool := false
  fromTile : Bool := false
  unlocked : Bool := false
  detA : BitVec 32 := 0
  detB : BitVec 64 := 0
  deriving DecidableEq, Repr

/-- The tick parameters of R23 and R72. `origin` is O in ns. -/
structure TickPar where
  slots : Nat
  refresh : Nat
  pNum : Nat
  pDen : Nat
  gUs : Nat
  fUs : Nat
  origin : Int
  nO : Nat
  deriving DecidableEq, Repr

/-- The PTP messages of R51 to R53. -/
inductive PtpKind where
  | announce | sync | followUp | delayReq | delayResp | management
  deriving DecidableEq, Repr

/-- A received PTP message: the fields of IEEE 1588-2019 that the instance reads. Times in ns, corrections and
delays in 1/256 ns; `clockIdentity` and `gmIdentity` are 8-byte numbers in wire order. -/
structure PtpMsg where
  kind : PtpKind
  transport : Nat
  domain : Nat
  clockIdentity : Nat
  portNumber : Nat
  seqId : Nat
  twoStep : Bool := false
  correction : Int := 0
  originTs : Int := 0
  gmIdentity : Nat := 0
  priority1 : Nat := 0
  clockClass : Nat := 0
  accuracy : Nat := 0
  variance : Nat := 0
  priority2 : Nat := 0
  stepsRemoved : Nat := 0
  reqIdentity : Nat := 0
  deriving DecidableEq, Repr

/-- A TIME message (R57): T_DEP and T_ECHO_ARR are short times in 1/256 ns. -/
structure TimeMsg where
  seq : BitVec 8
  tDep : BitVec 40
  echoSeq : BitVec 8
  tEchoArr : BitVec 40
  state : Nat
  hops : Nat
  path : Bool
  sec : Option Nat
  deriving DecidableEq, Repr

/-- What an Ethernet frame holds, as far as Foyer's checks go (R141). -/
inductive EthKind where
  | ptp | arp | neighbour | icmpEcho | pause | stream (kind stream path : Nat) | other
  deriving DecidableEq, Repr

/-- A received Ethernet frame (R141): its size with FCS, the FCS check, its 802.1Q tag if any. -/
structure EthFrame where
  bytes : Nat
  fcsOk : Bool := true
  vlan : Option Nat := none
  kind : EthKind
  deriving DecidableEq, Repr

/-- A sample row of an ST 2110-20 packet: line, offset in pixels, and the samples in the order of its pixel groups
(Cb Y0 Cr Y1; Cb Y Cr; R G B). -/
structure SampleRow where
  line : Nat
  offset : Nat
  samples : List Nat
  deriving DecidableEq, Repr

/-- An ST 2110-20 packet (R148 to R153): RTP fields, extended sequence number, raw MAC receive time (R54), bytes on the wire. -/
structure VideoPkt where
  rtp : BitVec 32
  seq : BitVec 32
  marker : Bool := false
  pt : Nat
  rows : List SampleRow := []
  rxTime : Nat
  bytes : Nat := 0
  deriving DecidableEq, Repr

/-- An ST 2110-30 packet (R145, R162): the first sample's RTP timestamp and the samples, one list per sample time. -/
structure AudioPkt where
  rtp : BitVec 32
  seq : BitVec 16
  pt : Nat
  frames : List (List Nat)
  rxTime : Nat
  bytes : Nat := 0
  deriving DecidableEq, Repr

/-- One ANC data packet of RFC 8331 (R146). -/
structure AncData where
  did : Nat
  sdid : Nat
  bytes : List Byte
  deriving DecidableEq, Repr

/-- An ST 2110-40 packet (R146, R163). -/
structure AncPkt where
  rtp : BitVec 32
  seq : BitVec 32
  pt : Nat
  anc : List AncData
  rxTime : Nat
  bytes : Nat := 0
  deriving DecidableEq, Repr

/-- The requesters of Cellar (R181, R189). -/
inductive Requester where
  | layerRead | paneCache | push | graedReplay | twinForward | foyer | audio | dumbwaiter | bar2 | core | porch | scrub
  deriving DecidableEq, Repr

/-- A request to Cellar (R181): class, requester, address, a write's bytes or a read's length; `upsets` are the bit
errors (positions 0 to 71 of a word) that have struck words of Cellar before it is served. A `probe` only holds a place in a
stack's queue for a block that waits. -/
structure CellarReq where
  cls : Nat
  req : Requester
  addr : Nat
  write : Option (List Byte) := none
  len : Nat := 0
  upsets : List (Nat × List Nat) := []
  probe : Bool := false
  deriving DecidableEq, Repr

/-- An access to BAR2 (R202): a write's bytes, or a read's length. -/
structure Bar2 where
  offset : Nat
  write : Option (List Byte) := none
  len : Nat := 0
  deriving DecidableEq, Repr

/-- A pane of a slot image of a Tile. -/
structure PaneKey where
  chain : Nat
  position : Nat
  pane : Nat
  slot : Nat := 0
  deriving DecidableEq, Repr

/-- A pane acknowledgement (R299). -/
structure PaneAck where
  port : Nat
  key : PaneKey
  fn : BitVec 32
  originB : Bool := false
  status : Nat
  deriving DecidableEq, Repr

/-- A Tile's frame report as the Head receives it (R306, R407). -/
structure FrameReport where
  chain : Nat
  position : Nat
  fn : BitVec 32
  accepted : Nat
  rejected : Nat
  missing : Nat
  deriving DecidableEq, Repr

/-- A surface (R164 to R167) with its lease guard (R239). -/
structure Surface where
  format : Nat
  layout : Nat
  width : Nat
  height : Nat
  pitch : Nat
  base : Nat
  hdrBase : Nat
  guarded : Bool := false
  deriving DecidableEq, Repr

/-- A tile map entry (R208). DESIGN CHOICE, log entry 6. -/
structure TileMap where
  enable : Bool := false
  x : Nat := 0
  y : Nat := 0
  rot : Nat := 0
  offX : Int := 0
  offY : Int := 0
  group : Nat := 0xFF
  deriving DecidableEq, Repr

/-- A layer of the layer table (R211, R251), with its slot mask (R272), the LOSS_ACTION in force (R159) and the
timecode of its last Foyer commit (R157). Sizes are 1 at reset (DESIGN CHOICE, log entry 6). -/
structure Layer where
  visible : Bool := false
  blend : Nat := 0
  opacity : Nat := 0
  surface : Nat := 0xFFFF
  colorimetry : Nat := 0
  tcs : Nat := 0
  range : Nat := 0
  coefH : Nat := 0
  coefV : Nat := 0
  pixSet : Nat := 0
  srcX : Nat := 0
  srcY : Nat := 0
  srcW : Nat := 1
  srcH : Nat := 1
  dstX : Int := 0
  dstY : Int := 0
  dstW : Nat := 1
  dstH : Nat := 1
  slotMask : Nat := 15
  loss : Nat := 0
  timecode : List Byte := []
  deriving DecidableEq, Repr

/-- A power group's settings (R243). -/
structure PowerGroup where
  budget : Nat := 0
  staticMw : Nat := 0
  recRate : Nat := 600
  wR : Nat := 0
  wG : Nat := 0
  wB : Nat := 0
  deriving DecidableEq, Repr

/-- A pixel-processing set (R267 to R271); a table that is `none` holds its reset contents (R268). -/
structure PixSet where
  knee : Nat := 0x100000
  m709 : List Int := [10279, 5395, 710, 1132, 15065, 187, 269, 1442, 14673]
  m2020 : List Int := [16384, 0, 0, 0, 16384, 0, 0, 0, 16384]
  tones : List (Option (List Nat)) := [none, none, none]
  deriving DecidableEq, Repr

/-- A layer's scaler sets (R265); a set that is `none` holds its reset contents (R266). -/
structure CoefSets where
  h : List (Option (List Int)) := [none, none, none, none]
  v : List (Option (List Int)) := [none, none, none, none]
  deriving DecidableEq, Repr

/-- A signature window (R281). -/
structure SigWin where
  en : Bool := false
  expect : Bool := false
  twin : Bool := false
  policy : Nat := 0
  slotMask : Nat := 0
  x : Nat := 0
  y : Nat := 0
  w : Nat := 1
  h : Nat := 1
  deriving DecidableEq, Repr

/-- An expected CRC (R287). -/
structure SigExpect where
  win : Nat
  key : PaneKey
  crc : BitVec 32
  deriving DecidableEq, Repr

/-- Everything that a frame is composed from (R207 to R211, R243, R267 to R287). The tile map lists the entries ever
set, by Tile index (R229). DESIGN CHOICE, log entry 6. -/
structure Scene where
  width : Nat := 65536
  height : Nat := 16384
  bgR : Nat := 0
  bgG : Nat := 0
  bgB : Nat := 0
  tiles : List (Nat × TileMap) := []
  layers : List Layer := List.replicate 32 {}
  groups : List PowerGroup := List.replicate 64 {}
  pix : List PixSet := List.replicate 16 {}
  coefs : List CoefSets := List.replicate 32 {}
  sigs : List SigWin := List.replicate 16 {}
  expects : List SigExpect := []
  deriving DecidableEq, Repr

/-- One entry of a commit (R251): the layer, the CHANGE mask, the new field values, and the fence. -/
structure Entry where
  layer : Nat
  change : Nat
  vals : Layer
  fence : Option (Nat × BitVec 32) := none
  deriving DecidableEq, Repr

/-- What a frame-targeted command changes. -/
inductive Change where
  | canvas (w h r g b : Nat)
  | tile (t : Nat) (e : TileMap)
  | commit (id : BitVec 32) (entries : List Entry)
  | foyer (layer stream : Nat) (rtp : BitVec 32) (surface : Nat) (timecode : List Byte) (col tcs rng : Nat)
  | loss (layer act : Nat)
  | group (g : Nat) (p : PowerGroup)
  | refresh (chain pos : Nat)
  | apply (pixMask layerMask : Nat) (pix : List (Nat × PixSet)) (coefs : List (Nat × CoefSets))
  | slotmap (masks : List Nat)
  | sigSet (w : Nat) (v : SigWin)
  | sigExpect (w : Nat) (clear : Bool) (l : List SigExpect)
  deriving DecidableEq, Repr

/-- An accepted change with its frame of application and its place in the order of R217: effective timestamp, source
kind, source number, order of submission. -/
structure Pend where
  frame : Nat
  eff : Nat
  rank : Nat
  sub : Nat
  seq : Nat
  change : Change
  deriving DecidableEq, Repr

/-- The governor's state for a group (R246, R248). The accumulator is `accNum / accDen` in units of 10⁻¹¹ dB. -/
structure Gov where
  q : Nat := 0
  accNum : Nat := 0
  accDen : Nat := 1
  above : Bool := false
  static : Bool := false
  dMw : Nat := 0
  predMw : Nat := 0
  fn : BitVec 32 := 0
  deriving DecidableEq, Repr

/-- A training frame as received (R358): its eight bytes by their fields (`lanes` is the count of enabled lanes, `reserved` the
reserved bits of CAP, REQ, STATUS and bytes 5 and 6, `check` byte 7), with the physical lane, the polarity, and the receiver's own
figure of merit for it (R362). -/
structure TrainFrame where
  phys : Nat
  inverted : Bool := false
  lane : Nat
  rateMax : Nat := 0
  lanes : Nat := 1
  fails : Nat := 0
  reqPre : Nat := 0
  reqPost : Nat := 0
  preset : Nat := 0
  fom : Nat := 0
  detected : Bool := false
  ready : Bool := false
  acked : Bool := false
  reserved : List Nat := [0, 0, 0, 0, 0]
  check : Nat := 0
  fomHere : Nat := 0
  deriving DecidableEq, Repr

/-- The fields of a CAPS block (R363). `serial` is no field of the block: it is the serial number of a Tile that a chain port
meets, as the enumeration that follows learns it. DEDUCED, log entry 32. -/
structure Caps where
  version : Nat
  isTile : Bool
  headB : Bool := false
  pair : Nat := 0
  port : Nat := 0
  rate : Nat := 0
  lanes : Nat := 0
  acked : Bool := false
  serial : List Byte := []
  deriving DecidableEq, Repr

/-- What the far end of a Tile's port is (R15 to R19): a further Tile with its serial and the port that faces the sender,
or a chain port of a Head. -/
inductive Beyond where
  | tile (serial : List Byte) (facing : Nat)
  | head (headB : Bool) (port : Nat)
  deriving DecidableEq, Repr

/-- A LINK_STATE packet of a Tile (R333, R367), with what enumeration learns beyond the reported port (R16, R17, R618).
`passed` says that the partner passed it over the twin port (R337), `serial` is that of the Tile that sends it.
DEDUCED, log entry 32. -/
structure LinkState where
  chain : Nat
  position : Nat
  port : Nat
  state : Nat
  laneMask : Nat
  rate : Nat
  next : Option Beyond := none
  passed : Bool := false
  serial : List Byte := []
  deriving DecidableEq, Repr

/-- A TICK message (R305, R346). -/
structure TickMsg where
  fn : BitVec 32
  slots : Nat
  wl12 : Bool := false
  blackout : Bool := false
  headB : Bool := false
  tFlip : BitVec 32
  sent : List Nat := []
  deriving DecidableEq, Repr

/-- A block as it arrives on a lane, to be checked (R325 to R328, R351, R651): whether it belongs to a packet in reception, whether
it is part of a TIME-class message, whether a Tile is forwarding that packet (R338), the logical lane, its sync header, its 64 payload bits as the line carries them, and those of
the block before it on the lane. -/
structure BlockErr where
  inPacket : Bool
  timeMsg : Bool := false
  forwarding : Bool := false
  lane : Nat := 0
  header : BitVec 2 := 0
  bits : BitVec 64 := 0
  before : BitVec 64 := 0
  deriving DecidableEq, Repr

/-- A HELLO of the twin (R377). -/
structure Hello where
  pair : Nat
  roleB : Bool
  claimMode : Bool
  tick : Option TickPar
  claim : Bool
  fwVersion : BitVec 32
  deriving DecidableEq, Repr

/-- What the publisher forwards (R311, R381, R384): an opcode's packet, a Foyer commit by stream and RTP timestamp, a
LOSS_ACTION of a live layer, or the format of a ring. -/
inductive FwdBody where
  | cmd (op : Nat) (c : Cmd)
  | foyer (stream : Nat) (rtp : BitVec 32)
  | loss (layer act : Nat)
  | format (chain : Nat) (wl12 : Bool)
  deriving DecidableEq, Repr

/-- FWD_CMD (R381): the frame of application, the COMMIT_ID or tag, the timestamp and the order key of R217. -/
structure FwdCmd where
  frame : BitVec 32
  id : BitVec 32
  stamp : Nat
  key : Nat
  body : FwdBody
  deriving DecidableEq, Repr

/-- The state a SNAPSHOT carries (R378): that in force at frame `m` − 1 and the accepted changes of
later frames, Foyer's commits apart, which `live` holds by frame, timestamp, stream and RTP timestamp. The surface of a live
layer is given by its stream. -/
structure Snapshot where
  m : BitVec 32
  scene : Scene
  bound : List (Option Nat) := []
  pend : List Pend := []
  live : List (Nat × Nat × Nat × BitVec 32) := []
  govs : List Gov := []
  surfaces : List (Nat × Surface) := []
  formats : List Bool := []
  deriving DecidableEq, Repr

/-- DIGEST (R386): FN, STATE_CRC, the q of the groups, the WL12L mask, the signatures. -/
structure Digest where
  fn : BitVec 32
  stateCrc : BitVec 32
  q : List Nat
  wl12 : BitVec 32
  sigs : List (PaneKey × BitVec 32)
  deriving DecidableEq, Repr

/-- What one row slot shows of the panel and the memories (R424 to R427, R441, R453, R454, R556): bits of Landing words that have
flipped since they were written (pane, word, mask of the 72 bits), failing row sums (pane, row of the pane, half of the row, colour), lamps below 0.15 V at the end of their main
window (x, y, colour), forward voltages in mV by bank × 3 + colour, segment measurements and bank reference errors. -/
structure RowObs where
  flips : List (Nat × Nat × Nat) := []
  sums : List (Nat × Nat × Nat × Nat) := []
  opens : List (Nat × Nat × Nat) := []
  vf : List Int := []
  segs : List Nat := []
  refErr : List Int := []
  deriving DecidableEq, Repr

/-- A PANE packet at a Tile (R295, R399): whether no staging buffer was free at its SOP, and the bits of Larder words that have
flipped since they were written (record, word of the record, mask of the 72 bits). -/
structure PanePkt where
  pkt : GPkt
  noStaging : Bool := false
  flips : List (Nat × Nat × Nat) := []
  deriving DecidableEq, Repr

/-- A sample of Hearth (R468): output voltages in mV, phase currents in mA, the input voltage. -/
structure HearthMeas where
  v : List Int
  i : List (List Int)
  vin : Int
  deriving DecidableEq, Repr

/-- A response of a burst (R496, R498): the burst's offset in its transfer, the error code of R509 or 0, and the data of
a read from host memory or from a Tile; `position` names the Tile that answers a broadcast. -/
structure BurstResp where
  offset : Nat
  err : Nat := 0
  data : List Byte := []
  position : Nat := 0
  deriving DecidableEq, Repr

/-- A BULK packet at a Tile's remote port (R512, R513), and whether a read of Tile memory fails parity. -/
structure BulkPkt where
  port : Nat
  pkt : GPkt
  parity : Bool := false
  deriving DecidableEq, Repr

/-- A Tile's answer to the Head's challenge (R581, R582): its device certificate with the chain, the fields it signs, and its
signature. -/
structure ChallengeReply where
  cert : List Byte := []
  chain : List (List Byte) := []
  signature : List Byte := []
  loaded : Bool
  serial : List Byte
  romVersion : BitVec 32 := 0
  fwVersion : BitVec 32 := 0
  loadDigest : List Byte := []
  deriving DecidableEq, Repr

/-- What a part finds at its start: the TWSEL level (R20), whether the fuse table passes its check (R554), and the die
sensor conversions of R553. -/
structure BootInput where
  twsel : Bool := false
  fuseOk : Bool := true
  readings : List (Option Int) := []
  deriving DecidableEq, Repr

end Sys2Proof
end

