-- ==== Sys2Proof/Syntax.lean ====
section
/-!
DEFINITION. The commands of the block: one constructor per row of spec/opcode_table.json, each with its row's
mnemonic and rule. Rows with an opcode carry the packet `c`; the others carry the event's own operands.
-/
namespace Sys2Proof

/-- The commands (spec/opcode_table.json, 323 rows). -/
inductive Instr where
  /-- REGISTER_WRITE (R13). -/
  | registerWrite (w : RegAccess) (value : Word)
  /-- BAR_PARTIAL_WRITE (R124). -/
  | barPartialWrite (w : RegAccess) (value : Word) (enables : BitVec 4)
  /-- PO_PAD (R107). -/
  | poPad (c : Cmd)
  /-- PO_NOP (R95). -/
  | poNop (c : Cmd)
  /-- PO_GET_INFO (R95). -/
  | poGetInfo (c : Cmd)
  /-- PO_REG_READ (R95). -/
  | poRegRead (c : Cmd)
  /-- PO_REG_WRITE (R95). -/
  | poRegWrite (c : Cmd)
  /-- PO_EVENT_READ (R95). -/
  | poEventRead (c : Cmd)
  /-- PO_EVENT_SUBSCRIBE (R136). -/
  | poEventSubscribe (c : Cmd)
  /-- PO_ABORT (R105). -/
  | poAbort (c : Cmd)
  /-- PO_RESTART (R95). -/
  | poRestart (c : Cmd)
  /-- PO_TILE_CONFIG (R96). -/
  | poTileConfig (c : Cmd)
  /-- PO_CQ_TAIL (R108). -/
  | poCqTail (q : Nat) (count : Word) (packets : List (List Byte))
  /-- PO_RQ_HEAD (R108). -/
  | poRqHead (q : Nat) (count : Word)
  /-- PO_Q_ENABLE (R111). -/
  | poQEnable (q : Nat) (value : Word)
  /-- PO_Q_DISABLE (R111). -/
  | poQDisable (q : Nat) (value : Word)
  /-- REPLY_WRITE (R109). -/
  | replyWrite (q : Nat)
  /-- MSIX_COALESCE_EXPIRY (R129). -/
  | msixCoalesceExpiry (q : Nat)
  /-- PORCH_RESUME_TAKING (R101). -/
  | porchResumeTaking (src : Source)
  /-- TILE_REPLY_RECEIVED (R88). -/
  | tileReplyReceived (r : Linked TileReply)
  /-- TILE_COMMAND_TIMEOUT (R90). -/
  | tileCommandTimeout (chain position : Nat) (tag : Nat)
  /-- MGMT_SESSION_OPEN (R113). -/
  | mgmtSessionOpen (hello : TlsHello)
  /-- MGMT_SESSION_CLOSE (R106). -/
  | mgmtSessionClose (n : Nat) (tlsError : Bool)
  /-- MGMT_SESSION_IDLE_TIMEOUT (R115). -/
  | mgmtSessionIdleTimeout (n : Nat)
  /-- PO_FRAMING_ERROR (R114). -/
  | poFramingError (n : Nat) (length : Nat)
  /-- TILE_EVENT_RECEIVED (R135). -/
  | tileEventReceived (e : Linked EventRec)
  /-- EVENTS_SUPPRESSED (R134). -/
  | eventsSuppressed
  /-- LOG_PAGE_WRITE (R599). -/
  | logPageWrite
  /-- MT_GET_TIME (R71). -/
  | mtGetTime (c : Cmd)
  /-- MT_SET_TICK (R72). -/
  | mtSetTick (c : Cmd)
  /-- MT_GET_TICK (R71). -/
  | mtGetTick (c : Cmd)
  /-- MT_STEP_TIME (R46). -/
  | mtStepTime (c : Cmd)
  /-- MT_SET_TOD (R52). -/
  | mtSetTod (c : Cmd)
  /-- MT_SET_PTP (R77). -/
  | mtSetPtp (c : Cmd)
  /-- MT_GET_PTP (R647). -/
  | mtGetPtp (c : Cmd)
  /-- MT_SET_CHAIN_TIME (R65). -/
  | mtSetChainTime (c : Cmd)
  /-- MT_CNT_LO_READ (R79). -/
  | mtCntLoRead (p : Part)
  /-- MT_RATE_WRITE (R45). -/
  | mtRateWrite (p : Part) (value : Word)
  /-- MT_HOLD_SET (R47). -/
  | mtHoldSet (p : Part)
  /-- MT_SERVO_MODE_SET (R47). -/
  | mtServoModeSet (p : Part)
  /-- MT_TRIG_ARM (R68). -/
  | mtTrigArm (p : Part) (u : Nat) (value : Word)
  /-- MT_TRIG_TGT_WRITE (R68). -/
  | mtTrigTgtWrite (p : Part) (u : Nat) (hi : Bool) (value : Word)
  /-- TRIGGER_FIRE (R67). -/
  | triggerFire (p : Part) (u : Nat)
  /-- SPEC (R222). -/
  | spec (n : Nat)
  /-- CUTOFF (R29). -/
  | cutoff (n : Nat)
  /-- PUSH_OPEN (R29). -/
  | pushOpen (n : Nat)
  /-- PUSH_CLOSE (R34). -/
  | pushClose (n : Nat)
  /-- TICK (R66). -/
  | tick (p : Part) (n : Nat)
  /-- FRAME_REPORT_SEND (R407). -/
  | frameReportSend (n : Nat)
  /-- REFRESH (R39). -/
  | refresh (n j : Nat)
  /-- ROW (R437). -/
  | row (n j r : Nat) (obs : RowObs)
  /-- HEARTH (R473). -/
  | hearth (n j r : Nat) (arrived : Bool)
  /-- AUDIO (R66). -/
  | audio (g k : Nat)
  /-- PTP_MESSAGE_RECEIVED (R53). -/
  | ptpMessageReceived (port : Nat) (m : PtpMsg) (rawTs : Int)
  /-- PTP_MESSAGE_SEND (R51). -/
  | ptpMessageSend (port : Nat) (kind : PtpKind) (rawTs : Int)
  /-- PPS_IN_EDGE (R52). -/
  | ppsInEdge
  /-- ANNOUNCE_TIMEOUT (R49). -/
  | announceTimeout (port : Nat)
  /-- PPS_LOSS_TIMEOUT (R49). -/
  | ppsLossTimeout
  /-- TIME_MESSAGE_SEND (R57). -/
  | timeMessageSend (p : Part) (port : Nat)
  /-- TIME_MESSAGE_RECEIVED (R58). -/
  | timeMessageReceived (p : Part) (port : Nat) (m : TimeMsg) (arrival : BitVec 40)
  /-- TIME_SOURCE_INVALID (R59). -/
  | timeSourceInvalid (p : Part) (port : Nat)
  /-- TIME_SOURCE_RETURN (R60). -/
  | timeSourceReturn
  /-- HOLDOVER_EXPIRED (R65). -/
  | holdoverExpired
  /-- TWIN_TIME_ALARM (R64). -/
  | twinTimeAlarm
  /-- FY_SET_PORT (R138). -/
  | fySetPort (c : Cmd)
  /-- FY_SET_SUBPORT (R172). -/
  | fySetSubport (c : Cmd)
  /-- FY_GET_PORT (R172). -/
  | fyGetPort (c : Cmd)
  /-- FY_SET_VIDEO_STREAM (R173). -/
  | fySetVideoStream (c : Cmd)
  /-- FY_SET_AUDIO_STREAM (R172). -/
  | fySetAudioStream (c : Cmd)
  /-- FY_SET_ANC_STREAM (R172). -/
  | fySetAncStream (c : Cmd)
  /-- FY_STREAM_CTL (R172). -/
  | fyStreamCtl (c : Cmd)
  /-- FY_GET_STREAM_STATS (R172). -/
  | fyGetStreamStats (c : Cmd)
  /-- FY_SURFACE_CREATE (R164). -/
  | fySurfaceCreate (c : Cmd)
  /-- FY_SURFACE_DESTROY (R172). -/
  | fySurfaceDestroy (c : Cmd)
  /-- ETH_FRAME_RECEIVED (R141). -/
  | ethFrameReceived (subport : Nat) (f : EthFrame)
  /-- VIDEO_PACKET_RECEIVED (R148). -/
  | videoPacketReceived (stream path : Nat) (v : VideoPkt)
  /-- VIDEO_FRAME_CLOSE_TIMEOUT (R149). -/
  | videoFrameCloseTimeout (stream : Nat) (rtp : Word)
  /-- AUDIO_PACKET_RECEIVED (R162). -/
  | audioPacketReceived (stream path : Nat) (a : AudioPkt)
  /-- ANC_PACKET_RECEIVED (R163). -/
  | ancPacketReceived (stream path : Nat) (a : AncPkt)
  /-- FY_STREAM_LOST (R159). -/
  | fyStreamLost (stream : Nat)
  /-- FY_PATH_LOST (R161). -/
  | fyPathLost (kind stream path : Nat)
  /-- FY_LINK_UP (R174). -/
  | fyLinkUp (subport : Nat)
  /-- FY_LINK_DOWN (R175). -/
  | fyLinkDown (subport : Nat)
  /-- CL_GET_INFO (R204). -/
  | clGetInfo (c : Cmd)
  /-- CL_SET_FREQ (R194). -/
  | clSetFreq (c : Cmd)
  /-- CL_TRAIN (R193). -/
  | clTrain (c : Cmd)
  /-- CL_SELF_REFRESH (R201). -/
  | clSelfRefresh (c : Cmd)
  /-- CL_GET_ERRORS (R204). -/
  | clGetErrors (c : Cmd)
  /-- CL_SET_SCRUB (R190). -/
  | clSetScrub (c : Cmd)
  /-- CL_INJECT_ERROR (R204). -/
  | clInjectError (c : Cmd)
  /-- CELLAR_REQUEST (R181). -/
  | cellarRequest (r : CellarReq)
  /-- CE_WRITEBACK (R188). -/
  | ceWriteback (addr : Nat)
  /-- PATROL_SCRUB (R190). -/
  | patrolScrub (words : Nat)
  /-- STACK_TEMP_READ (R184). -/
  | stackTempRead (stack : Nat) (reading : Option Int)
  /-- TRAINING_COMPLETE (R196). -/
  | trainingComplete (failed : Option Nat)
  /-- FREQ_CHANGE_COMPLETE (R194). -/
  | freqChangeComplete (stopNs : Nat)
  /-- SR_AUTO_ENTRY (R200). -/
  | srAutoEntry (stack : Nat)
  /-- SR_POINT_OF_NO_RETURN (R197). -/
  | srPointOfNoReturn (stack : Nat)
  /-- SR_EXIT (R199). -/
  | srExit (stack : Nat)
  /-- SR_EXIT_COMPLETE (R201). -/
  | srExitComplete (stack : Nat)
  /-- BAR2_ACCESS (R202). -/
  | bar2Access (a : Bar2)
  /-- PL_SET_CANVAS (R207). -/
  | plSetCanvas (c : Cmd)
  /-- PL_SET_TILE (R208). -/
  | plSetTile (c : Cmd)
  /-- PL_GET_TILE (R250). -/
  | plGetTile (c : Cmd)
  /-- PL_COMMIT (R214). -/
  | plCommit (c : Cmd)
  /-- PL_GET_LAYER (R250). -/
  | plGetLayer (c : Cmd)
  /-- PL_FENCE_SIGNAL (R220). -/
  | plFenceSignal (c : Cmd)
  /-- PL_FENCE_GET (R250). -/
  | plFenceGet (c : Cmd)
  /-- PL_FENCE_TIMEOUT (R221). -/
  | plFenceTimeout (commitId : Word)
  /-- PL_LEASE_GUARD (R239). -/
  | plLeaseGuard (c : Cmd)
  /-- PL_SET_POWER_GROUP (R243). -/
  | plSetPowerGroup (c : Cmd)
  /-- PL_GET_POWER (R250). -/
  | plGetPower (c : Cmd)
  /-- PL_REFRESH (R223). -/
  | plRefresh (c : Cmd)
  /-- PL_PANE_READ (R234). -/
  | plPaneRead (c : Cmd)
  /-- PANE_COMPOSE_DONE (R231). -/
  | paneComposeDone (k : PaneKey) (n : Nat) (powerPass : Bool)
  /-- LEASE_RETIRE (R236). -/
  | leaseRetire (surface layer : Nat)
  /-- PL_RETIRE (R237): the record of a lease leaves, or a packet with its opcode comes in (R250). -/
  | plRetire (src : RetireTo)
  /-- PL_SET_COEF (R277). -/
  | plSetCoef (c : Cmd)
  /-- PL_SET_TONE (R277). -/
  | plSetTone (c : Cmd)
  /-- PL_SET_PIXSET (R277). -/
  | plSetPixset (c : Cmd)
  /-- PL_PP_APPLY (R278). -/
  | plPpApply (c : Cmd)
  /-- PL_GET_PIXSET (R288). -/
  | plGetPixset (c : Cmd)
  /-- PL_SET_SLOTMAP (R280). -/
  | plSetSlotmap (c : Cmd)
  /-- PL_SIG_SET (R281). -/
  | plSigSet (c : Cmd)
  /-- PL_SIG_EXPECT (R287). -/
  | plSigExpect (c : Cmd)
  /-- PL_SIG_READ (R288). -/
  | plSigRead (c : Cmd)
  /-- PP_SET_STATUS_RING (R307). -/
  | ppSetStatusRing (c : Cmd)
  /-- PP_GET_FRAME_STATUS (R319). -/
  | ppGetFrameStatus (c : Cmd)
  /-- PP_SET_CHAIN (R319). -/
  | ppSetChain (c : Cmd)
  /-- PP_GET_CHAIN (R319). -/
  | ppGetChain (c : Cmd)
  /-- PP_BLACKOUT (R316). -/
  | ppBlackout (c : Cmd)
  /-- PANE_PACKET_SEND (R298). -/
  | panePacketSend (k : PaneKey) (replay : Bool)
  /-- PANE_ACK_RECEIVED (R299). -/
  | paneAckReceived (a : Linked PaneAck)
  /-- PANE_TRANSACTION_LOST (R300). -/
  | paneTransactionLost (k : PaneKey) (unreachable : Bool)
  /-- REPLAY_REQ_RECEIVED (R304). -/
  | replayReqReceived (k : Linked PaneKey) (fn : Word)
  /-- FRAME_REPORT_RECEIVED (R306). -/
  | frameReportReceived (r : Linked FrameReport)
  /-- FSR_WRITE (R308). -/
  | fsrWrite (n : Nat)
  /-- FORMAT_RETURN_TIMER (R311). -/
  | formatReturnTimer (chain : Nat)
  /-- HEAD_BLACKOUT_CHANGE (R316). -/
  | headBlackoutChange
  /-- BLACKOUT_BLOCK_REPEAT (R316). -/
  | blackoutBlockRepeat
  /-- BLACKOUT_BLOCK_RECEIVED (R317). -/
  | blackoutBlockReceived (port : Nat) (active : Bool) (headB : Bool)
  /-- HEAD_BLACKOUT_RELEASE_TIMEOUT (R317). -/
  | headBlackoutReleaseTimeout (headB : Bool)
  /-- GL_GET_PORT (R370). -/
  | glGetPort (c : Cmd)
  /-- GL_SET_PORT (R370). -/
  | glSetPort (c : Cmd)
  /-- GL_RETRAIN (R370). -/
  | glRetrain (c : Cmd)
  /-- GL_TEST (R370). -/
  | glTest (c : Cmd)
  /-- GL_TEST_DONE (R370). -/
  | glTestDone (p : Part) (port : Nat) (bits errors : Nat)
  /-- GL_CLEAR_COUNTERS (R370). -/
  | glClearCounters (c : Cmd)
  /-- GL_PORT_CTL_RETRAIN (R370). -/
  | glPortCtlRetrain (p : Part) (port : Nat)
  /-- GL_PORT_ENABLE (R355). -/
  | glPortEnable (p : Part) (port : Nat)
  /-- GL_PORT_DISABLE (R355). -/
  | glPortDisable (p : Part) (port : Nat)
  /-- TRAINING_FRAME_RECEIVED (R358). -/
  | trainingFrameReceived (p : Part) (port : Nat) (f : TrainFrame)
  /-- TRAIN_TIMEOUT (R355). -/
  | trainTimeout (p : Part) (port : Nat)
  /-- BLOCK_LOCK (R355). -/
  | blockLock (p : Part) (port : Locked)
  /-- LOCK_TIMEOUT (R355). -/
  | lockTimeout (p : Part) (port : Nat)
  /-- CAPS_RECEIVED (R363). -/
  | capsReceived (p : Part) (port : Nat) (caps : Caps)
  /-- CAPS_TIMEOUT (R355). -/
  | capsTimeout (p : Part) (port : Nat)
  /-- RETRAIN_REQ_RECEIVED (R355). -/
  | retrainReqReceived (p : Part) (port : Nat) (cause : Nat)
  /-- RETRAIN_TIMEOUT (R355). -/
  | retrainTimeout (p : Part) (port : Nat)
  /-- HOLD_EXPIRY (R355). -/
  | holdExpiry (p : Part) (port : Nat)
  /-- LANE_FAIL (R364). -/
  | laneFail (p : Part) (port lane cause : Nat)
  /-- LANE_SET_RECEIVED (R365). -/
  | laneSetReceived (p : Part) (port : Nat) (mask : BitVec 4) (copy : Nat)
  /-- LANE_RETRAIN_TIMER (R368). -/
  | laneRetrainTimer (p : Part) (port lane : Nat) (clean : Bool)
  /-- LINK_STATE_RECEIVED (R367). -/
  | linkStateReceived (m : Linked LinkState)
  /-- ACK_RECEIVED (R350). -/
  | ackReceived (p : Part) (port : Nat) (seq : BitVec 12)
  /-- NAK_RECEIVED (R352). -/
  | nakReceived (p : Part) (port : Nat) (seq : Amid (BitVec 12))
  /-- REPLAY_TIMEOUT (R352). -/
  | replayTimeout (p : Part) (port : Amid Nat)
  /-- CREDIT_RECEIVED (R341). -/
  | creditReceived (p : Part) (port : Nat) (clsA : Nat) (freedA : BitVec 16) (clsB : Nat) (freedB : BitVec 16)
  /-- CREDIT_INIT_RECEIVED (R342). -/
  | creditInitReceived (p : Part) (port : Nat) (poolA sizeA poolB sizeB : Nat)
  /-- CREDIT_SEND (R341). -/
  | creditSend (p : Part) (port cls : Nat)
  /-- ALIGN_SEND (R330). -/
  | alignSend (p : Part) (port : Nat)
  /-- SKIP_SEND (R330). -/
  | skipSend (p : Part) (port : Nat)
  /-- ALIGN_RECEIVED (R330). -/
  | alignReceived (p : Part) (port physLane : Nat) (lane lanes rate count : Nat)
  /-- SKIP_RECEIVED (R330). -/
  | skipReceived (p : Part) (port : Nat)
  /-- ABORT_RECEIVED (R349). -/
  | abortReceived (p : Part) (port : Amid Nat)
  /-- PACKET_FORWARD (R335). -/
  | packetForward (port : Nat) (k : GPkt)
  /-- TICK_MESSAGE_RECEIVED (R347). -/
  | tickMessageReceived (p : Part) (port : Nat) (m : TickMsg)
  /-- TW_GET_STATUS (R392). -/
  | twGetStatus (c : Cmd)
  /-- TW_SET_MODE (R392). -/
  | twSetMode (c : Cmd)
  /-- TW_HANDOVER (R388). -/
  | twHandover (c : Cmd)
  /-- TW_RESYNC (R392). -/
  | twResync (c : Cmd)
  /-- DB_BEAT_TOGGLE (R373). -/
  | dbBeatToggle
  /-- DB_PEER_CLAIM_CHANGE (R374). -/
  | dbPeerClaimChange (level : Bool)
  /-- PEER_BEAT_LOST (R373). -/
  | peerBeatLost
  /-- TWIN_WATCHDOG_EXPIRY (R373). -/
  | twinWatchdogExpiry
  /-- TW_SPLIT (R375). -/
  | twSplit
  /-- HELLO_SEND (R377). -/
  | helloSend
  /-- HELLO_RECEIVED (R377). -/
  | helloReceived (h : Linked Hello)
  /-- SNAPSHOT_REQUEST_RECEIVED (R378). -/
  | snapshotRequestReceived
  /-- SNAPSHOT_RECEIVED (R378). -/
  | snapshotReceived (sn : Linked Snapshot)
  /-- FWD_CMD_RECEIVED (R382). -/
  | fwdCmdReceived (f : Linked FwdCmd)
  /-- FWD_ACK_RECEIVED (R381). -/
  | fwdAckReceived (id : Linked Word)
  /-- FWD_ACK_TIMEOUT (R381). -/
  | fwdAckTimeout (id : Word)
  /-- CUT_RECEIVED (R383). -/
  | cutReceived (fn : Linked Word) (count : Nat)
  /-- CUT_WAIT_EXPIRY (R383). -/
  | cutWaitExpiry (n : Nat)
  /-- DIGEST_RECEIVED (R386). -/
  | digestReceived (d : Linked Digest)
  /-- ROLE_SEND (R373). -/
  | roleSend
  /-- ROLE_RECEIVED (R376). -/
  | roleReceived (claim beat : Bool) (role : Linked Nat)
  /-- PASSED_RECEIVED (R337). -/
  | passedReceived (k : Linked GPkt)
  /-- CLAIM_TAKEOVER_TIMEOUT (R391). -/
  | claimTakeoverTimeout
  /-- LD_GET_STATUS (R430). -/
  | ldGetStatus (c : Cmd)
  /-- LD_SET_LIMITS (R430). -/
  | ldSetLimits (c : Cmd)
  /-- LD_READ (R430). -/
  | ldRead (c : Cmd)
  /-- LR_WRITE (R417). -/
  | lrWrite (c : Cmd)
  /-- LR_READ (R430). -/
  | lrRead (c : Cmd)
  /-- LR_RELOAD (R430). -/
  | lrReload (c : Cmd)
  /-- LR_SET_DRIFT (R419). -/
  | lrSetDrift (c : Cmd)
  /-- PANE_PACKET_RECEIVED (R399). -/
  | panePacketReceived (port : Nat) (k : PanePkt)
  /-- LARDER_REFETCH (R428). -/
  | larderRefetch (index : Nat) (readable : Bool)
  /-- LARDER_SCRUB (R428). -/
  | larderScrub (words : Nat) (flips : List (Nat × Nat × Nat))
  /-- LP_GET_STATUS (R464). -/
  | lpGetStatus (c : Cmd)
  /-- LP_SET_CURRENT (R436). -/
  | lpSetCurrent (c : Cmd)
  /-- LP_SET_TRIM (R464). -/
  | lpSetTrim (c : Cmd)
  /-- LP_GET_TRIM (R464). -/
  | lpGetTrim (c : Cmd)
  /-- LP_FADE (R448). -/
  | lpFade (c : Cmd)
  /-- LP_SET_WAVEFORM (R451). -/
  | lpSetWaveform (c : Cmd)
  /-- LP_SET_SCAN (R440). -/
  | lpSetScan (c : Cmd)
  /-- LP_GET_DEAD (R464). -/
  | lpGetDead (c : Cmd)
  /-- LP_CLEAR_DEAD (R457). -/
  | lpClearDead (c : Cmd)
  /-- LP_SET_DETECT (R464). -/
  | lpSetDetect (c : Cmd)
  /-- LP_CTL_EN_WRITE (R459). -/
  | lpCtlEnWrite (value : Word)
  /-- BLACKOUT_N_CHANGE (R460). -/
  | blackoutNChange (p : Part) (active : Bool)
  /-- CHATTER_CLEAR (R463). -/
  | chatterClear (p : Part)
  /-- DETECT_RESUME_TIMER (R456). -/
  | detectResumeTimer
  /-- HT_GET_STATUS (R491). -/
  | htGetStatus (c : Cmd)
  /-- HT_SET_RAIL (R477). -/
  | htSetRail (c : Cmd)
  /-- HT_SET_COEF (R480). -/
  | htSetCoef (c : Cmd)
  /-- HT_SWAP_BANK (R479). -/
  | htSwapBank (c : Cmd)
  /-- HT_CLEAR_FAULT (R481). -/
  | htClearFault (c : Cmd)
  /-- HT_GET_COEF (R491). -/
  | htGetCoef (c : Cmd)
  /-- HT_SET_LEAD (R475). -/
  | htSetLead (c : Cmd)
  /-- HT_CTL_BANK_WRITE (R479). -/
  | htCtlBankWrite (value : Word)
  /-- HT_RAIL_CTL_EN_WRITE (R481). -/
  | htRailCtlEnWrite (rail : Nat) (value : Word)
  /-- HEARTH_SAMPLE (R469). -/
  | hearthSample (m : HearthMeas)
  /-- VREF_STEP (R477). -/
  | vrefStep
  /-- ILIM_HW_EVENT (R472). -/
  | ilimHwEvent (rail phase : Nat)
  /-- OVERVOLTAGE_FAULT (R482). -/
  | overvoltageFault (rail : Nat) (v : Int)
  /-- SS_TIMEOUT (R481). -/
  | ssTimeout (rail : Nat)
  /-- RETRY_WAIT_EXPIRY (R485). -/
  | retryWaitExpiry (rail : Nat) (v : Int)
  /-- HT_INPUT_LOW (R487). -/
  | htInputLow (vin : Int)
  /-- HT_INPUT_OK (R487). -/
  | htInputOk (vin : Int)
  /-- VCORE_RESTART (R486). -/
  | vcoreRestart
  /-- HEARTH_DARK_RELEASE (R489). -/
  | hearthDarkRelease
  /-- DW_SET_TABLE (R515). -/
  | dwSetTable (c : Cmd)
  /-- DW_CHANNEL_START (R510). -/
  | dwChannelStart (c : Cmd) (host : Option (List Byte))
  /-- DW_CHANNEL_STOP (R510). -/
  | dwChannelStop (c : Cmd)
  /-- DW_CHANNEL_ABORT (R511). -/
  | dwChannelAbort (c : Cmd)
  /-- DW_CHANNEL_RELOAD (R500). -/
  | dwChannelReload (c : Cmd) (host : Option (List Byte))
  /-- DW_GET_CHANNEL (R515). -/
  | dwGetChannel (c : Cmd)
  /-- DW_CH_CTL_START (R510). -/
  | dwChCtlStart (p : Part) (ch : Nat) (reset : Bool) (host : Option (List Byte))
  /-- DW_CH_CTL_STOP (R510). -/
  | dwChCtlStop (p : Part) (ch : Nat)
  /-- DW_CH_CTL_ABORT (R511). -/
  | dwChCtlAbort (p : Part) (ch : Nat)
  /-- DW_CH_CTL_RELOAD (R500). -/
  | dwChCtlReload (p : Part) (ch : Nat) (host : Option (List Byte))
  /-- DW_CH_TAIL (R501). -/
  | dwChTail (p : Part) (ch : Nat) (count : Word)
  /-- DESCRIPTOR_FETCHED (R505). -/
  | descriptorFetched (p : Part) (ch : Nat) (host : Option (List Byte))
  /-- BURST_ISSUE (R497). -/
  | burstIssue (p : Part) (ch : Nat)
  /-- BURST_RESPONSE (R496). -/
  | burstResponse (p : Part) (ch : Nat) (r : BurstResp)
  /-- HOST_READ_TIMEOUT (R498). -/
  | hostReadTimeout (ch offset : Nat)
  /-- TILE_BURST_TIMEOUT (R498). -/
  | tileBurstTimeout (ch offset : Nat)
  /-- BULK_PACKET_RECEIVED (R513). -/
  | bulkPacketReceived (b : BulkPkt)
  /-- AU_SET_PORT (R537). -/
  | auSetPort (c : Cmd)
  /-- AU_SET_GROUP (R537). -/
  | auSetGroup (c : Cmd)
  /-- AU_SET_SLOTS (R535). -/
  | auSetSlots (c : Cmd)
  /-- AU_GET_STATUS (R537). -/
  | auGetStatus (c : Cmd)
  /-- AU_GET_STREAM_STATS (R537). -/
  | auGetStreamStats (c : Cmd)
  /-- AU_HOST_TAIL (R534). -/
  | auHostTail (port : Nat) (tail : Word)
  /-- TDM_FRAME (R520). -/
  | tdmFrame (port n : Nat)
  /-- AU_PLL_UNLOCK (R522). -/
  | auPllUnlock
  /-- AU_PLL_RELOCK (R522). -/
  | auPllRelock
  /-- CH_GET_STATUS (R562). -/
  | chGetStatus (c : Cmd)
  /-- CH_SET_LIMITS (R544). -/
  | chSetLimits (c : Cmd)
  /-- CH_SET_VF_CAL (R545). -/
  | chSetVfCal (c : Cmd)
  /-- CH_GET_FIELD (R562). -/
  | chGetField (c : Cmd)
  /-- CH_GET_TRIM (R562). -/
  | chGetTrim (c : Cmd)
  /-- CH_TRIM_CTL (R562). -/
  | chTrimCtl (c : Cmd)
  /-- SENSOR_CONVERSION (R540). -/
  | sensorConversion (p : Part) (readings : List (Option Int))
  /-- THERMAL_TRIP (R549). -/
  | thermalTrip (p : Part) (cause sensor : Nat)
  /-- TRIP_COOL_RESTART (R551). -/
  | tripCoolRestart (p : Part)
  /-- TRIM_SWEEP_EVAL (R557). -/
  | trimSweepEval
  /-- TERM_TRIM_MEASURE (R560). -/
  | termTrimMeasure (p : Part) (port lane : Nat) (targetP targetN : Int)
  /-- TRIM_SAVE (R561). -/
  | trimSave (p : Part)
  /-- AT_GET_INFO (R601). -/
  | atGetInfo (c : Cmd)
  /-- AT_GET_CERT (R601). -/
  | atGetCert (c : Cmd)
  /-- AT_GET_CSR (R579). -/
  | atGetCsr (c : Cmd)
  /-- AT_SET_CERT (R579). -/
  | atSetCert (c : Cmd)
  /-- AT_SET_TRUST (R580). -/
  | atSetTrust (c : Cmd)
  /-- AT_CHALLENGE (R581). -/
  | atChallenge (c : Cmd)
  /-- AT_ENROL (R582). -/
  | atEnrol (c : Cmd)
  /-- AT_STAGE_BEGIN (R593). -/
  | atStageBegin (c : Cmd)
  /-- AT_STAGE_DATA (R594). -/
  | atStageData (c : Cmd)
  /-- AT_STAGE_VERIFY (R594). -/
  | atStageVerify (c : Cmd)
  /-- AT_STAGE_ABORT (R601). -/
  | atStageAbort (c : Cmd)
  /-- AT_ACTIVATE (R595). -/
  | atActivate (c : Cmd)
  /-- AT_CONFIRM (R596). -/
  | atConfirm (c : Cmd)
  /-- AT_ROLLBACK (R598). -/
  | atRollback (c : Cmd)
  /-- AT_TILE_RELOAD (R591). -/
  | atTileReload (c : Cmd)
  /-- AT_TILE_STAGE_BEGIN (R590). -/
  | atTileStageBegin (c : Cmd)
  /-- AT_TILE_BOOT (R589). -/
  | atTileBoot (c : Cmd)
  /-- AT_TILE_STAGE_ABORT (R590). -/
  | atTileStageAbort (c : Cmd)
  /-- TILE_LOAD_LOCK_TIMEOUT (R590). -/
  | tileLoadLockTimeout
  /-- TILE_ENROL_AND_LOAD (R582). -/
  | tileEnrolAndLoad (chain position : Nat) (r : ChallengeReply)
  /-- NV_PROGRAM_DONE (R564). -/
  | nvProgramDone (p : Part) (ok : Bool)
  /-- NV_ERASE_DONE (R570). -/
  | nvEraseDone (p : Part)
  /-- ACTIVATE_RESTART (R595). -/
  | activateRestart (n : Nat)
  /-- ACTIVATE_RESUME (R595). -/
  | activateResume
  /-- HEALTH_CONFIRM (R596). -/
  | healthConfirm
  /-- HEALTH_WINDOW_EXPIRY (R597). -/
  | healthWindowExpiry
  /-- POR_N_ASSERT (R609). -/
  | porNAssert
  /-- POR_N_RELEASE (R614). -/
  | porNRelease (b : BootInput)
  /-- PERST_ASSERT (R611). -/
  | perstAssert
  /-- PERST_RELEASE (R615). -/
  | perstRelease
  /-- SUPPLY_MONITOR_TRIP (R605). -/
  | supplyMonitorTrip (rail : Nat)
  /-- SUPPLY_RETURN (R605). -/
  | supplyReturn (b : BootInput)
  /-- VIN_POWER_ON (R606). -/
  | vinPowerOn (b : BootInput)
  /-- VIN_POWER_OFF (R606). -/
  | vinPowerOff
  /-- CLOCK_SYNTH_LOCK (R555). -/
  | clockSynthLock (port : Nat)
  /-- LED_RAIL_ENABLE_SEQUENCE (R608). -/
  | ledRailEnableSequence (step : Nat)
  /-- WATCHDOG_EXPIRY (R610). -/
  | watchdogExpiry (p : Part)
  /-- BLOCK_ERROR (R351). -/
  | blockError (p : Part) (port : Nat) (k : BlockErr)
  /-- PEER_BEAT_REGAINED (R373). -/
  | peerBeatRegained
  /-- INPUT_LOW_WRITE_TIMEOUT (R607). -/
  | inputLowWriteTimeout
  /-- PROGRESS_REPLY (R103). -/
  | progressReply (p : Part) (src : Source) (tag : Nat)
  /-- FOM_MEASUREMENT (R362). -/
  | fomMeasurement (p : Part) (port lane fom : Nat)
  deriving DecidableEq, Repr

end Sys2Proof
end

