-- ==== Sys2Proof/Decode.lean ====
section
/-!
DEFINITION. The command that a word spells. The rows of spec/opcode_table.json give no bits, so no word spells a command.
-/
namespace Sys2Proof

/-- The command of a word of `nbits` bits: none, since no row of the table gives bits. DESIGN CHOICE, log entry 81. -/
def decodeTableWord (_nbits _w : Nat) : Option Instr := none

end Sys2Proof
end

