-- ==== Sys2Proof/Config.lean ====
section
/-!
DEFINITION. What the spec leaves open: free values. Each is a constant without a body, applied to the counter of
draws or to the operands it depends on, so that nothing can be proved of its value.
-/
namespace Sys2Proof.Config

/-- The rounding direction of a quantity whose rounding the spec does not state: `true` rounds an inexact result up.
DESIGN CHOICE, log entry 13. -/
opaque roundUp : Nat → Bool

/-- The rate word a servo computes from a sample at or below the step threshold (R47, R63 give no control law);
applied to the draw counter; the model clamps it under R44. DESIGN CHOICE, log entry 13. -/
opaque servoRate : Nat → Int

/-- The servo's frequency estimate (R47), applied to the draw counter. DESIGN CHOICE, log entry 13. -/
opaque freqEstimate : Nat → Int

/-- How much of its TOTAL a running command reports as DONE (R104), applied to the draw counter; the model holds it at or below
TOTAL. DESIGN CHOICE, log entry 25. -/
opaque progressDone : Nat → Nat

/-- FLAGS of a PO_EVENT_NOTIFY packet, which R83 and R95 leave open. DESIGN CHOICE, log entry 22. -/
opaque notifyFlags : BitVec 8

/-- The Head's own PTP clockIdentity, which the spec does not lay out (R647). DESIGN CHOICE, log entry 18. -/
opaque clockIdentity : Nat

/-- The clock class announced in grandmaster role after the first edge while not LOCKED and not in HOLDOVER
(R52 names none). DESIGN CHOICE, log entry 18. -/
opaque gmClassAcquiring : Nat

/-- Which message of 64 carries SEC (R57): the count modulo 64. DESIGN CHOICE, log entry 15. -/
opaque secPhase : Nat

/-- Whether a DER certificate chains to one of the trust anchors (R580): X.509 path validation lies outside the spec.
DESIGN CHOICE, log entry 73; DESIGN CHOICE, log entry 78. -/
opaque chains : List (List Byte) → List Byte → Bool

/-- The first 8 bytes of a certificate's SHA-384 fingerprint, as a little-endian number (R137). DESIGN CHOICE, log entry 78. -/
opaque fingerprint : List Byte → BitVec 64

/-- TX_INT and RX_INT that firmware loads for a port (0 to 3) in a speed mode (R54). DESIGN CHOICE, log entry 3. -/
opaque txInt : Nat → Nat → BitVec 16
opaque rxInt : Nat → Nat → BitVec 16

/-- What the ST 2110-21 models of a stream rest on beside RX_MODEL, of its parameters: the packets of a frame, the frame period in
ns, and the wall time at which the virtual receiver begins to read the frame of an RTP timestamp. DESIGN CHOICE, log entry 93. -/
opaque framePackets : List Byte → Nat
opaque framePeriod : List Byte → Nat
opaque readStart : List Byte → BitVec 32 → Nat

/-- The last 58 payload bits that a lane sent before an ALIGN or SKIP block (R326): how many IDLE blocks and words leave between two
blocks that the commands name is time alone. Applied to the draw counter. DESIGN CHOICE, log entry 94. -/
opaque lineBits : Nat → BitVec 58

/-- Which of several equally good candidates is taken where the spec names none, applied to the draw counter.
DESIGN CHOICE, log entry 33. -/
opaque pick : Nat → Nat

/-- STATE_CRC of the state in force at a frame (R386): the snapshot's encoding is not laid out. DESIGN CHOICE, log entry 42. -/
opaque stateCrc : Snapshot → BitVec 32

/-- The tag of a burst in TILE space (R512), applied to the draw counter. DEDUCED, log entry 68. -/
opaque burstTag : Nat → BitVec 12

/-- What host memory holds at an address, where a command carries no copy of it; applied to the draw counter and the address.
DESIGN CHOICE, log entry 10. -/
opaque hostBytes : Nat → Nat → List Byte

/-- The packets that a command ring holds in its new slots, where a doorbell carries no copy of them; applied to the draw counter.
DESIGN CHOICE, log entry 10. -/
opaque hostPackets : Nat → List (List Byte)

/-- Whether the certificates of a bundle's signature block chain to the image root and the signature is the signer's over a digest
(R585): ECDSA and X.509 lie outside the spec. DESIGN CHOICE, log entry 73. -/
opaque imageSigned : List Byte → List (List Byte) → List Byte → Bool

/-- Whether a device certificate with its chain leads to the device root by the product CA of Tiles, and the signature is that of its
key over a digest (R578, R582). DESIGN CHOICE, log entry 73. -/
opaque deviceSigned : List Byte → List (List Byte) → List Byte → List Byte → Bool

/-- The serial in a device certificate's subject (R578). DESIGN CHOICE, log entry 73. -/
opaque certSerial : List Byte → List Byte

/-- A nonce of the Head's random source (R582), applied to the draw counter. DESIGN CHOICE, log entry 73. -/
opaque nonce : Nat → List Byte

/-- The signature of a part's device key (R581). DESIGN CHOICE, log entry 3. -/
opaque signature : Part → List Byte → List Byte

/-- The PKCS #10 request for the Head's device key (R579). DESIGN CHOICE, log entry 3. -/
opaque certRequest : List Byte

/-- Whether a certificate's public key is the device public key (R579). DESIGN CHOICE, log entry 73. -/
opaque keyMatches : List Byte → Bool

/-- BITS and ERRORS of a lane test that MODE 0 stops (R370 gives no count), applied to the draw counter.
DESIGN CHOICE, log entry 85. -/
opaque testBits : Nat → Nat
opaque testErrors : Nat → Nat

/-- The image that a slot holds from the factory, whose bytes the spec does not give: its Tile sections with their load
addresses, the bytes of AT_TILE_BOOT, and its LOAD_DIGEST. DESIGN CHOICE, log entry 73. -/
opaque factorySections : List (Nat × List Byte)
opaque factoryBoot : List Byte
opaque factoryDigest : List Byte

end Sys2Proof.Config
end

