-- ==== Sys2Proof/Machine/State.lean ====
section
/-!
DEFINITION. The state of the block as plain data: one Head and one Tile (R1, R2), the queue of waiting commands,
the clock, and what the parts have sent. Every reset value the spec gives is a default or stands in `State.reset`;
every other one is INVENTORY.md's (DESIGN CHOICE, log entry 1).
-/
namespace Sys2Proof.Machine

/-- The servo states of R47, coded as STATE of MT_STATUS. -/
inductive Servo where
  | freeRun | acquiring | locked | holdover | expired
  deriving DecidableEq, Repr

/-- A general compare unit (R67, MT_TRIG_*). `next` is the target it waits for, `done` those it has fired for (R68). -/
structure Trig where
  tgt : BitVec 64 := 0
  period : BitVec 32 := 0
  pulseW : BitVec 8 := 0
  out : Nat := 0
  late : Bool := false
  fired : Bool := false
  event : Bool := false
  periodic : Bool := false
  arm : Bool := false
  next : Nat := 0
  done : List Nat := []
  deriving DecidableEq, Repr

/-- A pending SWITCH or STOP with its frame S (R28, R75, R648): `par = none` is a STOP. -/
structure PendTick where
  s : Nat
  par : Option TickPar
  deriving DecidableEq, Repr

/-- Chain time on one Graed port (R57 to R60): messages sent (SEQ, T_DEP), the last one received with its
arrival, the D history and since when the port is valid. -/
structure TimePort where
  nextSeq : BitVec 8 := 0
  sentCount : Nat := 0
  sent : List (BitVec 8 × BitVec 40) := []
  last : Option TimeMsg := none
  lastArr : BitVec 40 := 0
  lastAt : Nat := 0
  dHist : List Int := []
  validSince : Option Nat := none
  lastSent : Option Nat := none
  v1 : Bool := false
  deriving DecidableEq, Repr

/-- Mantel, both parts (R42 to R76, R79). `gUs` and `fUs` are G and F as they stand, with the reset values of R30. -/
structure Mantel where
  cnt : BitVec 64 := 0
  cB : BitVec 64 := 0
  wB : BitVec 64 := 0
  rate : Int := 0
  latCntHi : BitVec 32 := 0
  latNs : BitVec 32 := 0
  latSec : BitVec 48 := 0
  servo : Servo := .freeRun
  srcPort : Nat := 15
  hops : Nat := 0
  stepped : Bool := false
  manual : Bool := false
  tsEn : Bool := true
  ppsOutEn : Bool := false
  hold : Bool := false
  inCount : Nat := 0
  outCount : Nat := 0
  freqEst : Int := 0
  rateHist : List (Nat × Int) := []
  lastOffset : Int := 0
  holdSince : Nat := 0
  trigs : List Trig
  ports : List TimePort
  tick : Option TickPar := none
  gUs : Nat := 500
  fUs : Nat := 300
  prevTick : Option TickPar := none
  pendTicks : List PendTick := []
  firstN : Nat := 0
  lastN : Option Nat := none
  deriving DecidableEq, Repr

/-- A foreign master of one PTP port (R50 table: 16 per port), with the times of its last two Announces. -/
structure Foreign where
  port : Nat
  msg : PtpMsg
  last : Nat
  prev : Option Nat
  deriving DecidableEq, Repr

/-- The MT_SET_PTP settings with the reset values of R77. -/
structure PtpCfg where
  profile : Nat := 0
  role : Nat := 0
  transport : Nat := 1
  flags : BitVec 8 := 0
  domain : Nat := 127
  priority1 : Nat := 128
  priority2 : Nat := 128
  portMask : BitVec 8 := 0x10
  logAnnounce : Int := -2
  logSync : Int := -3
  logDelayReq : Int := -3
  announceTimeout : Nat := 3
  stepThrNs : Nat := 1000000
  lockThrNs : Nat := 100
  deriving DecidableEq, Repr

/-- Timestamp corrections of an Ethernet port (MT_TS_*, R54, R56). -/
structure TsPort where
  txInt : BitVec 16 := 0
  rxInt : BitVec 16 := 0
  txBoard : BitVec 16 := 0
  rxBoard : BitVec 16 := 0
  asym : BitVec 32 := 0
  deriving DecidableEq, Repr

/-- Head-only Mantel state: PTP, 1PPS, twin offset, generators of R66, the Tile holdover limit. -/
structure HeadTime where
  cfg : PtpCfg := {}
  ts : List TsPort
  foreign : List Foreign := []
  master : Option PtpMsg := none
  masterPort : Nat := 15
  masterNow : Bool := false
  lastAnnounce : Nat := 0
  syncWait : Option (Nat × Int) := none
  t1 : Option Int := none
  t2 : Option Int := none
  t3 : Option (Nat × Int) := none
  txSeq : Nat := 0
  mpd : Int := 0
  lastOffset : Int := 0
  ppsOffset : Int := 0
  todSec : BitVec 48 := 0
  ppsLast : Nat := 0
  ppsSeen : Bool := false
  twinOffset : BitVec 32 := 0
  twinThr : Nat := 12
  twinOverSince : Option Nat := none
  twinAlarm : Bool := false
  holdLimitMs : Nat := 2000
  specN : Nat := 0
  cutN : Nat := 0
  openN : Nat := 0
  closeN : Nat := 0
  deriving DecidableEq, Repr

/-- Tile-only Mantel state: the holdover limit in force (R65), dark waiting for the first tick after LOCKED (R61),
the last REFRESH, ROW and HEARTH instants that fired (R66). -/
structure TileTime where
  holdLimitMs : Nat := 2000
  refN : Nat := 0
  refJ : Nat := 0
  refSeen : Bool := false
  rowR : Nat := 0
  rowSeen : Bool := false
  hearthN : Nat := 0
  hearthJ : Nat := 0
  hearthR : Nat := 0
  hearthSeen : Bool := false
  changed : Bool := false
  shownOnce : Bool := false
  deriving DecidableEq, Repr

/-- A reply waiting to be written into the reply ring (R109), or a packet taken and not yet fetched. -/
structure RingPkt where
  arrival : Nat
  bytes : List Byte
  deriving DecidableEq, Repr

/-- One PCIe queue pair (R107 to R111, R129). `fullSince` is the time since which a reply has waited for space (R103). -/
structure Queue where
  cqBase : BitVec 64 := 0
  cqSize : Nat := 6
  cqWb : BitVec 64 := 0
  rqBase : BitVec 64 := 0
  rqSize : Nat := 6
  rqWb : BitVec 64 := 0
  coalUs : BitVec 8 := 0
  coalCnt : BitVec 8 := 0
  irqEn : Bool := false
  en : Bool := false
  ringError : Bool := false
  halted : Bool := false
  cqTail : BitVec 32 := 0
  cqHead : BitVec 32 := 0
  rqTail : BitVec 32 := 0
  rqHead : BitVec 32 := 0
  unfetched : List RingPkt := []
  replies : List Reply := []
  fullSince : Option Nat := none
  unsignalled : Nat := 0
  firstUnsig : Nat := 0
  deriving DecidableEq, Repr

/-- A management session (R113 to R115). -/
structure Session where
  isOpen : Bool := false
  last : Nat := 0
  fingerprint : BitVec 64 := 0
  deriving DecidableEq, Repr

/-- A Tile that a command addresses (R87, R90, R102): when the command left the Head for it, or when it last answered with
PROGRESS (`none` while it waits to leave), and the status that its final reply, or its absence, gives. -/
structure TileLeg where
  chain : Nat
  position : Nat
  sentAt : Option Nat := none
  status : Option Nat := none
  deriving DecidableEq, Repr

/-- A command taken and not yet finally replied to (R100 to R106). `started` is false while it waits to start
(R83 ORDERED, R99); `legs` are the Tiles it addresses, for a broadcast those present when it was taken (R87); `late` says that the
Head has decided LATE (R93); `discard` when its queue or session is gone (R106). -/
structure Outst where
  src : Source
  tag : Nat
  opcode : Nat
  flags : BitVec 8 := 0
  pair : Nat := 0
  chain : Nat := 0
  position : Nat := 0
  arrival : Nat := 0
  lastReply : Nat := 0
  replied : Bool := false
  started : Bool := true
  frame : BitVec 32 := 0
  late : Bool := false
  legs : List TileLeg := []
  discard : Bool := false
  final : Option Reply := none
  payload : List Byte := []
  deriving DecidableEq, Repr

/-- The rate limiter's key: source address, Head bit, forwarded bit, block and code (R134). -/
structure RateKey where
  pair : Nat
  chain : Nat
  position : Nat
  headB : Bool
  fromTile : Bool
  block : Nat
  code : Nat
  deriving DecidableEq, Repr

/-- Porch of the Head (R94 to R137). `log` holds the newest record first; `cfgTag` is the tag of the next PO_TILE_CONFIG. -/
structure Porch where
  queues : List Queue
  sessions : List Session
  outst : List Outst := []
  rangeEn : BitVec 16 := 0xFFFF
  regWrite : Bool := false
  log : List EventRec := []
  nextSeq : BitVec 32 := 0
  rateSec : Nat := 0
  rates : List (RateKey × Nat) := []
  subs : List (Source × Nat) := []
  logPending : List EventRec := []
  cfgTag : Nat := 0
  deriving DecidableEq, Repr

/-- Porch of the Tile (R89, R96, R102, R135). -/
structure TilePorch where
  events : List EventRec := []
  lost : Nat := 0
  outst : List Outst := []
  claimMode : Bool := false
  routeA : Nat := 0xFF
  routeB : Nat := 0xFF
  deriving DecidableEq, Repr

/-- Power and reset phase of a part (R609, R614, R617). -/
inductive Phase where
  | off | inReset | inService
  deriving DecidableEq, Repr

/-- How the PCIe endpoint answers a configuration request (R615). -/
inductive ConfigAnswer where
  | silent | retry | normal
  deriving DecidableEq, Repr

/-- Head-wide state of 18_startup and R20 to R22. `porFree` and `perstFree` are when the Head's reset and PERST# were last released
(`none`: still held), `crsUntil` the 900 ms point of R614 (R615). `pair` is the head pair number (R22), which each start takes from the
settings (`Attic.pairNumber`); the spec names no KEY and no command that writes it. DESIGN CHOICE, log entry 103. -/
structure HeadSys where
  phase : Phase := .inService
  roleB : Bool := false
  twsel : Bool := false
  pair : Nat := 0
  por : Bool := false
  perst : Bool := false
  porFree : Option Nat := some 0
  perstFree : Option Nat := some 0
  crsUntil : Nat := 0
  supplyBad : Bool := false
  starts : BitVec 8 := 0
  cause : BitVec 8 := 0x01
  fwVersion : BitVec 32 := 0
  romVersion : BitVec 32 := 0
  serial : List Byte := []
  deriving DecidableEq, Repr

/-- Tile-wide state: address (R2, R16), load state (R89), input supply (R606, R607), VCORE (R486). -/
structure TileSys where
  phase : Phase := .inService
  pair : Nat := 0
  chain : Nat := 0
  position : Nat := 1
  loaded : Bool := false
  vinOn : Bool := true
  inputLow : Bool := false
  starts : BitVec 8 := 0
  cause : BitVec 8 := 0x01
  fwVersion : BitVec 32 := 0
  romVersion : BitVec 32 := 0
  serial : List Byte := []
  vcoreFaultAt : Option Nat := none
  deriving DecidableEq, Repr

/-- A PO_TILE_CONFIG sent to a Tile and not yet answered (R76, R96): its tag, whether it carries tick parameters, and the frame S
of the SWITCH or STOP it carries. -/
structure CfgSent where
  tag : Nat
  tick : Bool := false
  change : Option Nat := none
  deriving DecidableEq, Repr

/-- What the Head knows of one enumerated Tile (R16, R17, R87, R367, R618, R619). `here` and `there` say whether
this Head and the partner reach it; `port` is the Head port on whose path it lies; `lowB` says that the low end of its chain is
Head B's port, `ret` names the Head and port that its far port meets, at the high end of a loop or ring; `nearActive` and
`farActive` say that its link toward the low and toward the high end is ACTIVE; `prov` that it holds the position of R619 while
its ring is open; `genuine` that it has passed the challenge of R582; `ticks` that it holds tick parameters in force (R649);
`unacked` lists the frames S of the changes that it has not acknowledged (R76). -/
structure TileEnt where
  chain : Nat
  position : Nat
  serial : List Byte := []
  port : Nat := 0
  lowB : Bool := false
  ret : Option (Bool × Nat) := none
  nearActive : Bool := true
  prov : Bool := false
  cfgs : List CfgSent := []
  ticks : Bool := false
  here : Bool := true
  there : Bool := false
  loaded : Bool := false
  loading : Bool := false
  reversed : Bool := false
  granted : Bool := false
  lost0 : Bool := false
  lost1 : Bool := false
  unacked : List Nat := []
  routeA : Nat := 0xFF
  routeB : Nat := 0xFF
  genuine : Bool := false
  farActive : Bool := false
  heldDark : Bool := false
  deriving DecidableEq, Repr

/-- Pins whose level the parts drive (R626). -/
inductive Pin where
  | thermTrip | thermAlert | dbClaim | dbBeat | auOut (port : Nat)
  deriving DecidableEq, Repr

/-- What a part has sent, newest first: the model's own record of what leaves it (DESIGN CHOICE, log entry 4). -/
inductive Out where
  /-- A reply or notification of a session, of the twin path or of a Tile. -/
  | reply (src : Source) (r : Reply)
  /-- A write into host memory. -/
  | hostWrite (addr : Nat) (bytes : List Byte)
  /-- A read request to host memory. -/
  | hostRead (addr len : Nat)
  /-- An MSI-X message (R112). -/
  | msix (vector : Nat)
  /-- An out-of-packet block or message on a Graed port (R57, R305, R316, R330, R341 …): kind code and fields. -/
  | block (port kind : Nat) (fields : List Int)
  /-- An ALIGN or SKIP block on a logical lane of a port as the line carries it (R325 to R327): sync header, scrambled payload. -/
  | line (port lane : Nat) (header : BitVec 2) (bits : BitVec 64)
  /-- A Graed packet on a port (R331, R332), with its SEQ. -/
  | packet (port : Nat) (k : GPkt)
  /-- An Ethernet frame sent: port, kind and fields. -/
  | eth (port kind : Nat) (fields : List Int)
  /-- The TLS server certificate presented (R579), a TLS alert (R114), a TCP reset (R115). -/
  | tlsCert (der : List Byte)
  | tlsAlert (session : Nat)
  | tcpReset
  /-- A pin level. -/
  | pin (p : Pin) (level : Bool)
  /-- A pulse at PPS_OUT0 or PPS_OUT1, of a width in ns (PULSE_W, MT_TRIG_CTL). -/
  | pulse (out ns : Nat)
  /-- One TDM frame of an audio port: the sample of each slot (R520). -/
  | tdm (port : Nat) (samples : List Int)
  /-- The restart of a part, or of its firmware (R95, R595). -/
  | restart (scope : Nat)
  /-- Cellar's answer to a read (R181, R189, R202): the bytes, and the addresses of the words that failed. -/
  | cellar (req : Requester) (addr : Nat) (bytes : List Byte) (bad : List Nat)
  /-- A SNAPSHOT sent to the partner (R378). -/
  | snapshot (sn : Snapshot)
  deriving DecidableEq, Repr

/-- Port states, coded as STATE of GL_PORT_STATUS (R355). -/
inductive GlState where
  | disabled | detect | train | lock | caps | active | retrain | hold
  deriving DecidableEq, Repr

/-- Why a port is in HOLD (R355, R356, R360, R363). -/
inductive HoldCause where
  | none | mismatch | training | flap
  deriving DecidableEq, Repr

/-- The equaliser search of R362 on one lane: the preset being measured and the frames it has been held, the best
preset so far, then the steps tried (0 to 3: +1 and −1 on c(−1), +1 and −1 on c(+1)). -/
structure EqSearch where
  preset : Nat := 0
  held : Nat := 0
  bestPreset : Nat := 0
  bestFom : Nat := 0
  stepping : Bool := false
  dir : Nat := 0
  kept : Bool := false
  rounds : Nat := 0
  finished : Bool := false
  deriving DecidableEq, Repr

/-- One lane of a Graed port (R326, R358 to R362, R364, R368). `reqPre`, `reqPost`, `reqPreset` are what this receiver
asks of the far transmitter; `scr` and `descr` the last 58 payload bits sent and received on the line, the newest in bit 0;
`errTimes` when its block errors of the last 1 ms came, `fomLowSince` since when its FOM lies below FOM_MIN − 16 (R364). -/
structure GlLane where
  fom : Nat := 0
  lock : Bool := false
  inverted : Bool := false
  phys : Nat := 0
  cPre : Nat := 0
  cPost : Nat := 4
  reqPre : Nat := 0
  reqPost : Nat := 0
  reqPreset : Nat := 0
  seen : Bool := false
  detFrames : Nat := 0
  readyFrames : Nat := 0
  readyHere : Bool := false
  readyPeer : Bool := false
  eq : EqSearch := {}
  outSince : Option Nat := none
  fomLowAt : Option Nat := none
  scr : BitVec 58 := 0
  descr : BitVec 58 := 0
  errTimes : List Nat := []
  fomLowSince : Option Nat := none
  deriving DecidableEq, Repr

/-- A PRBS or loopback test (R370). -/
structure GlTest where
  cmd : Cmd
  lane : Nat
  mode : Nat
  ends : Nat
  deriving DecidableEq, Repr

/-- One Graed port (R321 to R371). `cred` and `credShared` are the transmitter's word counts per class 0 to 5 and
shared; `freedRx` the last FREED received, `freedTx` the FREED of this receiver, per class. `laneUse`, `presetUse` and `fixedUse` are LANE_EN, TX_PRESET and EQ_FIXED as the last
TRAIN took them, and `rateUse` RATE_MAX as the last DETECT took it (R370); `laneReplay` says that a lane change still has a replay
due (R366); `ctlSent` holds the CONTROL packets of the last 64 µs: when they left and their words (R343). -/
structure GlPort where
  en : Bool := true
  rateMax : Nat := 0
  laneEn : BitVec 4 := 3
  txPreset : Nat := 1
  eqFixed : Bool := false
  laneUse : BitVec 4 := 0
  rateUse : Nat := 0
  presetUse : Nat := 1
  fixedUse : Bool := false
  laneReplay : Bool := false
  fomMin : Nat := 80
  replayToUs : Nat := 20
  state : GlState := .detect
  since : Nat := 0
  sub : Nat := 0
  rate : Nat := 2
  fellBack : Option Nat := none
  fails : Nat := 0
  laneActive : BitVec 4 := 0
  lanes : List GlLane
  holdCause : HoldCause := .none
  linkDropped : Bool := false
  laneDropped : Bool := false
  retrained : Bool := false
  drops : List Nat := []
  peer : Option Caps := none
  lastCaps : Option Caps := none
  capsSame : Nat := 0
  ackSame : Nat := 0
  seqNext : BitVec 12 := 0
  seqExp : BitVec 12 := 0
  replayBuf : List GPkt := []
  oldestSince : Nat := 0
  attempts : Nat := 0
  nakAt : Option Nat := none
  txq : List GPkt := []
  ctlSent : List (Nat × Nat) := []
  bulkPassed : Nat := 0
  cred : List Nat := []
  credShared : Nat := 0
  credSize : List Nat := []
  freedRx : List (BitVec 16) := []
  freedTx : List (BitVec 16) := []
  alignCount : BitVec 8 := 0
  blockErrors : BitVec 32 := 0
  replays : BitVec 32 := 0
  retrains : BitVec 32 := 0
  abortsRx : BitVec 32 := 0
  discards : BitVec 32 := 0
  deriving DecidableEq, Repr

/-- Tests and retrain commands waiting for their outcome on a port (R370). -/
structure GlWait where
  tests : List (Nat × GlTest) := []
  retrains : List (Nat × Nat × Cmd) := []
  deriving DecidableEq, Repr

/-- The Twin roles, coded as ROLE of TW_STATUS (R376, R391). -/
inductive TwRole where
  | alone | joining | publisher | mirror | isolated | active | standby
  deriving DecidableEq, Repr

/-- A command forwarded to the mirror whose reply waits for FWD_ACK (R381). -/
structure FwdWait where
  id : BitVec 32
  sentAt : Nat
  cmd : Cmd
  opcode : Nat
  reply : Reply
  deriving DecidableEq, Repr

/-- Twin (R372 to R392). Times are of the reference clock but for `lastOtherTick`, a wall time. `snapFor` is the join frame
for which this Head sends a snapshot, `joinFrame` that of the snapshot it holds; `keeps` says that a joining Head goes on
composing and sending (R376); `live` holds the publisher's Foyer commits: frame, timestamp, stream, RTP timestamp. -/
structure Twin where
  cutWaitUs : Nat := 50
  digestLimit : Nat := 2
  autoTakeover : Bool := true
  claimMode : Bool := false
  role : TwRole := .alone
  dbClaim : Bool := false
  peerLine : Bool := false
  peerRoleClaim : Bool := false
  beatOut : Bool := false
  beatAt : Nat := 0
  beat : Bool := false
  lastRoleBeat : Option Nat := none
  dbFaultBeat : Bool := false
  dbFaultClaim : Bool := false
  claimDiffers : Option Nat := none
  split : Bool := false
  diverged : Bool := false
  paired : Bool := false
  bothSince : Option Nat := none
  everActive : Bool := false
  peer : Option Hello := none
  peerRole : Nat := 0
  fault : Nat := 0
  pairedPosted : Bool := false
  lastHello : Option Hello := none
  sentHello : Nat := 0
  sentRole : Nat := 0
  fwdCount : BitVec 32 := 0
  liveMiss : BitVec 32 := 0
  qMismatch : BitVec 32 := 0
  tileDivergent : BitVec 32 := 0
  fwdWait : List FwdWait := []
  fwdForFrame : List (Nat × Nat) := []
  crcMiss : Nat := 0
  joinFrame : Option Nat := none
  keeps : Bool := false
  snapFor : Option Nat := none
  resync : List Cmd := []
  live : List (Nat × Nat × Nat × BitVec 32) := []
  handoverM : Option Nat := none
  handoverIn : Option Nat := none
  own : List Digest := []
  theirs : List Digest := []
  claim : BitVec 16 := 1
  claimUp : BitVec 16 := 2
  claimPend : Option (BitVec 16 × BitVec 16) := none
  goActive : Bool := false
  wdExpired : Bool := false
  lastOtherTick : Option Nat := none
  fullFrame : Option Nat := none
  divPosted : List ((Nat × Nat) × Nat) := []
  deriving DecidableEq, Repr

/-! Cellar (R176 to R206) -/

/-- The state of a stack (R201), coded as STATE_s of CL_GET_INFO. -/
inductive StackState where
  | active | srEntering | selfRefresh | srExiting | training
  deriving DecidableEq, Repr

/-- One HBM3E stack: R184, R188, R189, R197 to R201 and its registers. `queue` holds the requests that wait; those
beyond 1 024 are requesters that stall. -/
structure Stack where
  state : StackState := .active
  auto : Bool := false
  band : Nat := 0
  temp : Int := 0
  lastReq : Nat := 0
  enteredAt : Nat := 0
  queue : List CellarReq := []
  peak : Nat := 0
  stalls : BitVec 32 := 0
  fullPosted : Bool := false
  exitCmd : Bool := false
  forced : Bool := false
  ceCount : BitVec 32 := 0
  ueCount : BitVec 32 := 0
  ceAddr : Nat := 0
  ueAddr : Nat := 0
  ceMinute : Nat := 0
  ceInMinute : Nat := 0
  cePosted : Option Nat := none
  deriving DecidableEq, Repr

/-- A training record (R192): the stack temperatures in 1/16 °C and the package serial number. -/
structure TrainRec where
  temp0 : Int
  temp1 : Int
  serial : List Byte
  deriving DecidableEq, Repr

/-- A frequency change or training in progress (R193 to R196). `running` says that a fresh run is in progress, `sensor` that a
sensor fault struck; `back` is the point a training at another point returns to and `result` the status and REASON it then
answers with (R204). -/
structure ClOp where
  cmd : Option Cmd
  train : Bool
  point : Nat
  running : Bool
  sensor : Bool := false
  back : Option Nat := none
  result : Option (Nat × Nat) := none
  deriving DecidableEq, Repr

/-- Cellar. `mem` holds the data of the words (R176) and `flips` the bit positions of a word (0 to 63 data, 64 to 71
check bits) that differ from what was written (R186); `writeBack` the corrected words waiting for class BULK (R188). -/
structure Cellar where
  mem : List Host.Cell := []
  flips : List (Nat × List Nat) := []
  inject : List (Nat × Nat) := []
  writeBack : List Nat := []
  pcXor : List (BitVec 22) := [0x1041, 0x2082, 0x4104, 0x8208, 0x10410, 0x20820]
  bkXor : List (BitVec 22) := [0x21080, 0x42100, 0x84200, 0x108400, 0x210800]
  stks : List Stack := [{}, {}]
  point : Nat := 0
  usable : BitVec 4 := 0xF
  records : List (Option TrainRec) := [none, none, none, none]
  op : Option ClOp := none
  queued : Option (Cmd × Nat) := none
  srWait : List (Cmd × Nat × Bool) := []
  idleUs : BitVec 16 := 1000
  scrubEn : Bool := true
  autoSr : Bool := false
  scrubHours : Nat := 12
  ceThr : Nat := 256
  scrubPtr : Nat := 0
  ueSeen : Bool := false
  ceSeen : Bool := false
  deriving DecidableEq, Repr

/-! Foyer (R138 to R175) -/

/-- A packet that the ingress buffer holds (R142): its stream's kind and number, its path and its bytes. -/
structure HeldPkt where
  kind : Nat
  stream : Nat
  path : Nat
  bytes : Nat
  deriving DecidableEq, Repr

/-- One of E0 to E3 (R138 to R142): `held` is what its ingress buffer holds, oldest first; `ovTimes` when the discards of the last
second happened. No command carries the corrections of FEC, whose two counters keep their values. DESIGN CHOICE, log entry 40. -/
structure FyPort where
  mode : Nat := 0
  linkUp : BitVec 4 := 0
  dropped : BitVec 4 := 0
  overflowed : Bool := false
  rxBad : BitVec 32 := 0
  overflow : BitVec 32 := 0
  fecCorr : BitVec 32 := 0
  fecUncorr : BitVec 32 := 0
  held : List HeldPkt := []
  ovPosted : Option Nat := none
  ovTimes : List Nat := []
  deriving DecidableEq, Repr

/-- A sub-port's addresses (FY_SET_SUBPORT). -/
structure SubPort where
  vlan : Nat := 0
  ipv4 : Nat := 0
  prefix4 : Nat := 0
  prefix6 : Nat := 0
  ipv6 : Nat := 0
  deriving DecidableEq, Repr

/-- The counters of FY_GET_STREAM_STATS. -/
structure StreamStats where
  committed : BitVec 32 := 0
  incomplete : BitVec 32 := 0
  noBuffer : BitVec 32 := 0
  late : BitVec 32 := 0
  formatErrors : BitVec 32 := 0
  model : BitVec 32 := 0
  discarded : BitVec 32 := 0
  path0 : BitVec 32 := 0
  path1 : BitVec 32 := 0
  duplicates : BitVec 32 := 0
  lastCommit : Nat := 0
  deriving DecidableEq, Repr

/-- A stream of any kind. `cfg` is the parameter area of the command that set it (R172, R173), with the reset values
of its fields; `seen` the wall time of the last packet of each path; `seqs` the sequence numbers taken lately. -/
structure Stream where
  cfg : List Byte
  en : Bool := false
  stats : StreamStats := {}
  seen0 : Option Nat := none
  seen1 : Option Nat := none
  lost0 : Bool := false
  lost1 : Bool := false
  seqs : List Nat := []
  deriving DecidableEq, Repr

/-- A frame in reception (R148, R149): its RTP timestamp and buffer (none: discarded under R155), the extended sequence
numbers filled, those of its first packet and of its marker packet, and when a later frame began. -/
structure OpenFrame where
  rtp : BitVec 32
  buf : Option Nat
  startAt : Nat := 0
  seqs : List (BitVec 32) := []
  first : Option (BitVec 32) := none
  last : Option (BitVec 32) := none
  laterAt : Option Nat := none
  deriving DecidableEq, Repr

/-- The ST 2110-21 models of one path of a stream (R152): the network model's leaky bucket in packets and the instant of its last
drain, and the packets of the current frame that have come to the virtual receiver buffer. -/
structure SenderModel where
  level : Nat := 0
  drained : Nat := 0
  frame : Option (BitVec 32) := none
  came : Nat := 0
  deriving DecidableEq, Repr

/-- Video state of a stream: its layer (R157 to R160), the first tick after its last complete frame (R159), the frames open and
lately closed (with the sequence numbers of the first and the last packet of a complete one), the buffers that hold a
complete frame not committed by this Head (R384), and the models of its two paths (R152). -/
structure VideoSt where
  bound : Option Nat := none
  frames : List OpenFrame := []
  done : List (BitVec 32 × Option (BitVec 32 × BitVec 32)) := []
  models : List SenderModel := [{}, {}]
  newest : Option (BitVec 32) := none
  complete : List (Nat × BitVec 32) := []
  lost : Bool := false
  fromTick : Nat := 0
  deriving DecidableEq, Repr

/-- Foyer. `timecodes` holds the ATC timecodes of each ancillary stream by RTP timestamp; `captions` its producer
count (R163). -/
structure Foyer where
  ports : List FyPort := List.replicate 4 {}
  subs : List SubPort := List.replicate 16 {}
  video : List Stream
  vst : List VideoSt := List.replicate 64 {}
  audio : List Stream
  anc : List Stream
  timecodes : List (List (BitVec 32 × List Byte)) := List.replicate 64 []
  captions : List (BitVec 32) := List.replicate 64 0
  surfaces : List (Nat × Surface) := []
  deriving DecidableEq, Repr

/-! Audio (R517 to R538) -/

/-- A slot source: a stream 0 to 63 with a channel, 0xFE the host ring, 0xFF none (R529, R537). -/
structure SlotSrc where
  src : Nat := 0xFF
  ch : Nat := 0
  deriving DecidableEq, Repr

/-- An audio port (R517 to R522, R528 to R536). `ahead` holds what was read for the next frame, slot by slot (`none`: repeat
the last sample); `runs` the consecutive underrun samples of each slot; `pend` the mask and sources that wait for frame Z;
`held` says that the port waits for the audio PLL; `repeats` counts the frames that repeat the last samples (R526). -/
structure AuPort where
  slots : Nat := 8
  group : Nat
  fsMode : Nat := 0
  pack4 : Bool := true
  en : Bool := false
  hostOverrun : Bool := false
  underrun : Bool := false
  mask : BitVec 32 := 0
  srcs : List SlotSrc := List.replicate 32 {}
  pend : Option (Nat × BitVec 32 × List SlotSrc) := none
  hostBase : Nat := 0
  hostFrames : Nat := 4096
  tail : BitVec 32 := 0
  held : Bool := true
  last : List Int := List.replicate 32 0
  ahead : List (Option Int) := []
  runs : List Nat := List.replicate 32 0
  hostRun : Nat := 0
  repeats : Nat := 0
  sentN : Option Nat := none
  deriving DecidableEq, Repr

/-- The settings of AU_SET_GROUP that wait for a boundary. -/
structure AuGroupCfg where
  mode : Nat := 1
  video : Nat := 0
  offset : Int := 0
  mute : Nat := 480
  deriving DecidableEq, Repr

/-- An audio group (R523 to R527); `hasD`: a D_s is in force (R526); `fired`: the boundary last taken. -/
structure AuGroup where
  rate : Nat := 0
  la : Nat := 48
  cfg : AuGroupCfg := {}
  pend : Option AuGroupCfg := none
  ds : Nat := 0
  hasD : Bool := false
  fired : Option Nat := none
  lw : Option Int := none
  differ : Nat := 0
  deriving DecidableEq, Repr

/-- Counters of an audio source (AU_GET_STREAM_STATS): streams 0 to 63, then the host rings of ports 0 to 7. -/
structure AuStats where
  underSamples : BitVec 32 := 0
  underRuns : BitVec 32 := 0
  overSamples : BitVec 32 := 0
  discardedOld : BitVec 32 := 0
  underPosted : Option Nat := none
  underCount : Nat := 0
  overPosted : Option Nat := none
  overCount : Nat := 0
  deriving DecidableEq, Repr

/-- Audio. -/
structure Audio where
  ports : List AuPort := (List.range 8).map (fun p => { group := p })
  groups : List AuGroup := List.replicate 8 {}
  stats : List AuStats := List.replicate 72 {}
  pllLock : Bool := false
  lockSince : Nat := 0
  deriving DecidableEq, Repr

/-! Parlour (R207 to R289) -/

/-- A commit that waits on its fences (R219, R221), with its place in the order of submission. `limit` is the frame V + 1 024;
when `rel`, it counts from the frame before the first. -/
structure Waiting where
  cmd : Cmd
  id : BitVec 32
  seq : Nat
  entries : List Entry
  limit : Int
  rel : Bool
  deriving DecidableEq, Repr

/-- A version of a pane (R229 to R231) with its header fields; `n` is the frame as a 64-bit number. STATE: 0 FREE,
1 SPECULATIVE, 2 COMPOSED, 3 INVALID, 4 PREDICTED. -/
structure Ver where
  key : PaneKey
  w : Nat
  n : Nat
  crc : BitVec 32 := 0
  power : BitVec 32 := 0
  state : Nat
  shown : Bool := false
  live : Bool := false
  rescale : Bool := false
  deriving DecidableEq, Repr

/-- A lease (R235): the layer and surface, the commit that set it (`src` none: Foyer's), the frame from which it is
superseded, and the last frame that read it. `waits`: its commit waits on a fence; `gone`: the queue or session that sent the
commit has ended (R237). -/
structure Lease where
  layer : Nat
  surface : Nat
  src : Option Source
  id : BitVec 32 := 0
  from_ : Nat := 0
  until_ : Option Nat := none
  lastFn : Nat := 0
  waits : Bool := false
  gone : Bool := false
  deriving DecidableEq, Repr

/-- What a snapshot replaced, which a join that fails takes back (R376, R378). -/
structure Replaced where
  base : Scene
  pend : List Pend
  govs : List Gov
  surfaces : List (Nat × Surface)
  bound : List (Option Nat)
  leases : List Lease
  formats : List (Option (Nat × Bool))
  deriving DecidableEq, Repr

/-- A RETIRE record waiting to be sent (R237). -/
structure Retire where
  src : Source
  surface : Nat
  layer : Nat
  id : BitVec 32
  lastFn : BitVec 32
  time : Nat
  deriving DecidableEq, Repr

/-- A closed frame (R29, R290 to R308): what it is composed from, its dirty panes, the orders in which power passes and
compositions take them (R242, R245), what became of them, and the counts of its frame status record. -/
structure FrameRec where
  n : Nat
  scene : Scene
  slots : Nat
  dirty : List PaneKey
  live : List PaneKey
  passes : List PaneKey := []
  todo : List PaneKey := []
  stale : List PaneKey := []
  heldKeys : List PaneKey := []
  qs : List Nat := []
  isOpen : Bool := false
  isClosed : Bool := false
  flipped : Bool := false
  rescale : List PaneKey := []
  resend : List PaneKey := []
  sent : List PaneKey := []
  acks : List (PaneKey × Nat) := []
  replays : List (PaneKey × Nat) := []
  served : List (PaneKey × Nat) := []
  failed : List PaneKey := []
  want : List PaneKey := []
  serve : List PaneKey := []
  staleCompose : Nat := 0
  stalePush : Nat := 0
  staleReplay : Nat := 0
  held : Nat := 0
  replayed : Nat := 0
  tileStale : Nat := 0
  accepted : Nat := 0
  reports : List (Nat × Nat) := []
  lastOut : Nat := 0
  wl12 : BitVec 32 := 0
  oneLane : BitVec 32 := 0
  blackout : Bool := false
  publisher : Bool := false
  claim : BitVec 16 := 0
  written : Bool := false
  load : Nat := 0
  sigs : List (PaneKey × BitVec 32) := []
  video : List (Nat × BitVec 32) := []
  deriving DecidableEq, Repr

/-- Parlour. `base` is the scene of the newest closed frame (without ticks: the scene in force), `shown` that of the
last flip; `pend` the accepted changes of later frames; `frames` the closed frames, oldest first; `signals` what each fence was
set to and when, newest first (R216). -/
structure Parlour where
  replaced : Option Replaced := none
  specEn : Bool := true
  govEn : Bool := true
  base : Scene := {}
  shown : Scene := {}
  pend : List Pend := []
  seq : Nat := 256
  frames : List FrameRec := []
  openFrame : Option Nat := none
  carry : List PaneKey := []
  vers : List Ver := []
  fences : List (BitVec 32) := List.replicate 256 0
  signals : List (Nat × BitVec 32 × Nat) := []
  waiting : List Waiting := []
  commitId : BitVec 32 := 0
  leases : List Lease := []
  retires : List Retire := []
  staleTotal : BitVec 32 := 0
  discarded : BitVec 32 := 0
  loadLast : Nat := 0
  decodeErrors : BitVec 32 := 0
  staleSeen : Bool := false
  leaseViolated : Bool := false
  stalePosted : Option Nat := none
  stagePix : List PixSet := List.replicate 16 {}
  stageCoef : List CoefSets := List.replicate 32 {}
  sigStatus : BitVec 32 := 0
  sigMismatches : BitVec 32 := 0
  sigHeld : BitVec 32 := 0
  sigTwin : BitVec 32 := 0
  govs : List Gov := List.replicate 64 {}
  deriving DecidableEq, Repr

/-! Pane push (R290 to R320) -/

/-- A pane transaction (R298): the port it left by, its pane and frame, its payload CRC and when it left. -/
structure Trans where
  port : Nat
  chain : Nat
  position : Nat
  pane : Nat
  slot : Nat
  fn : BitVec 32
  sentAt : Nat
  replays : Nat := 0
  lost : Bool := false
  deriving DecidableEq, Repr

/-- One chain port of Pane push (R301, R310, R311, PP_PORT_c). `buf` is its output buffer: panes read ahead, each with its frame. -/
structure PushPort where
  lowWm : Nat := 32
  policy : Nat := 0
  wl12 : Bool := false
  buf : List (PaneKey × Nat × List Byte) := []
  urgent : Bool := false
  stale : BitVec 32 := 0
  replays : BitVec 32 := 0
  goodSince : Option Nat := some 0
  mayReturn : Bool := false
  fmtNext : Option (Nat × Bool) := none
  deriving DecidableEq, Repr

/-- Pane push: open transactions, the status ring, the blackout state of R316 with its filter and CHATTER (R463). -/
structure Push where
  trans : List Trans := []
  ports : List PushPort := List.replicate 32 {}
  fsrBase : Nat := 0
  fsrSize : Nat := 8
  fsrCount : BitVec 32 := 0
  recDelayUs : Nat := 1000
  fsrEn : Bool := false
  staleTotal : BitVec 32 := 0
  replayTotal : BitVec 32 := 0
  exhausted : Bool := false
  pushStale : Bool := false
  exhaustedPosted : Option Nat := none
  noReport : List ((Nat × Nat) × Nat) := []
  swBlackout : Bool := false
  pinBlackout : Bool := false
  chatter : Bool := false
  chatterAt : Nat := 0
  changes : List Nat := []
  blackout : Bool := false
  blackoutSent : Nat := 0
  fsrs : List (BitVec 32 × Nat) := []
  again : List PaneKey := []
  deriving DecidableEq, Repr

/-! Landing and Larder (R394 to R431) -/

/-- A copy held for frame V + 1 (R387, R390). -/
structure Held where
  slot : Nat
  pane : Nat
  fn : BitVec 32
  pcrc : BitVec 32
  pub : Bool
  claim : BitVec 16
  deriving DecidableEq, Repr

/-- Repair requests for a (slot, pane) of the frame in view (R425). -/
structure Repair where
  slot : Nat
  pane : Nat
  sent : Nat := 0
  outstanding : Bool := false
  persisted : Bool := false
  deriving DecidableEq, Repr

/-- A row sum that R427 recomputed: (slot, pane, half, row of the pane, half of the row, colour) and its value. -/
structure RowSum where
  slot : Nat
  pane : Nat
  half : Nat
  row : Nat
  side : Nat
  c : Nat
  value : Nat
  deriving DecidableEq, Repr

/-- The counts of a frame's report (R407), fixed at its flip. -/
structure TileReport where
  n : Nat
  noTick : Bool
  mismatch : Bool
  notLocked : Bool
  limited : Bool
  accepted : Nat
  rejected : Nat
  missing : Nat
  divergence : Nat
  claimDrops : Nat
  tFlip : BitVec 32
  q : Nat
  deriving DecidableEq, Repr

/-- Limits of R421 and R422 and drift values of R419, in mW, mA, 1/16 °C and 2⁻¹⁶ per °C. -/
structure Limits where
  budget : Nat := 28000
  peaks : List Nat := [4000, 4000, 4000]
  tRef : Int := 640
  base : List Int := [0, 0, 0]
  deriving DecidableEq, Repr

/-- Landing. `codes` maps (slot, pane, half) to the 960 words of R395 (a half not listed holds zeros), `show` lists the
(slot, pane) whose half 1 is in view, `flips` the bits of a word (slot, pane, half, word) and its parity that differ from what was written, `resum` the row sums
that R427 recomputed. `seen` holds the keys for which a copy of frame V + 1 arrived, `ticks` the TICK messages of frames
after V. `pred` is the sum of PRED of the frame so far, `energy` E of R422 as a fraction of mW. -/
structure Landing where
  ready : Bool := false
  codes : List ((Nat × Nat × Nat) × List Nat) := []
  show_ : List (Nat × Nat) := []
  flips : List ((Nat × Nat × Nat × Nat) × Nat) := []
  resum : List RowSum := []
  held : List Held := []
  seen : List (Nat × Nat) := []
  repairs : List Repair := []
  claim : BitVec 16 := 0
  divFrame : Nat := 0
  dropFrame : Nat := 0
  parityFrame : Nat := 0
  limFrame : Bool := false
  ticks : List TickMsg := []
  tickCame : Bool := false
  report : Option TileReport := none
  limitEn : Bool := true
  repairEn : Bool := true
  lim : Limits := {}
  limNow : Limits := {}
  q : Nat := 0
  energyReg : Nat := 0
  pred : List Nat := [0, 0, 0]
  predMax : List Nat := [0, 0, 0]
  factor : List Nat := [65536, 65536, 65536]
  load : List Nat := [0, 0, 0]
  ks : List (List Nat) := []
  paritySeen : Bool := false
  limited : Bool := false
  diverged : Bool := false
  tickMismatch : Bool := false
  noTick : Bool := false
  shownFn : BitVec 32 := 0
  parityErrors : BitVec 32 := 0
  repairReqs : BitVec 32 := 0
  divergence : BitVec 32 := 0
  posted : List (Nat × Nat) := []
  deriving DecidableEq, Repr

/-- Larder: the working copy (a record not listed is the identity record of R414), the bits of its words (record, word of the
record) and their parity that differ from what was written, the records whose parity has failed, the LR_RELOADs in progress, and
the state of R416, R428 and R429. `driftNow` is DRIFT_EN in force (R13, R420, LR_SET_DRIFT). -/
structure Larder where
  recs : List (Nat × Nat) := []
  flips : List ((Nat × Nat) × Nat) := []
  bad : List Nat := []
  reload : List Cmd := []
  driftEn : Bool := true
  driftNow : Bool := true
  noGolden : Bool := false
  refetched : Bool := false
  goldenBad : Bool := false
  parityErrors : BitVec 32 := 0
  refetches : BitVec 32 := 0
  scrubAt : Nat := 0
  deriving DecidableEq, Repr

/-! Lamp drive (R432 to R465) -/

/-- A waveform (R451): times in ns, voltages in units of 20 mV. -/
structure Wave where
  tDg : Nat
  tPc : Nat
  vDg : Nat
  vR : Nat
  vG : Nat
  vB : Nat
  deriving DecidableEq, Repr

/-- The reset waveforms of R451. -/
def resetWaves : List Wave :=
  [{ tDg := 80, tPc := 60, vDg := 20, vR := 85, vG := 125, vB := 125 },
   { tDg := 60, tPc := 40, vDg := 20, vR := 80, vG := 120, vB := 120 },
   { tDg := 50, tPc := 30, vDg := 20, vR := 75, vG := 115, vB := 115 },
   { tDg := 40, tPc := 30, vDg := 20, vR := 70, vG := 110, vB := 110 }]

/-- A run-time flag of a lamp (R455). -/
structure DeadLamp where
  x : Nat
  y : Nat
  c : Nat
  short : Bool
  deriving DecidableEq, Repr

/-- A fade in progress (R448): f_0, t_0, f_1, and D_F in ns. -/
structure Fade where
  f0 : Nat
  t0 : Nat
  f1 : Nat
  dur : Nat
  deriving DecidableEq, Repr

/-- A sink that is lit in the row slot now running: its main window in ns and the levels of its residual pulses (R443
to R445). -/
structure Lit where
  sink : Nat
  w : Nat
  pulses : List Nat := []
  deriving DecidableEq, Repr

/-- A Head's blackout as a Tile sees it (R317). -/
structure HeadBlackout where
  active : Bool := false
  at_ : Nat := 0
  deriving DecidableEq, Repr

/-- Lamp drive. `cur` and `trim` are the registers, `curNow` and `trimNow` what is in force (trims not listed are 0);
`curPend` and `fadePend` wait for a frame, or with `none` for a refresh cycle start; `codes` are the delivered codes of
the next scan slot by sink, `lit` the sinks of the slot now running, `samples` the forward voltages that wait for the quiet slot,
by lamp (x, y, colour). -/
structure Lamp where
  causes : BitVec 8 := 1
  dark : Bool := true
  en : Bool := true
  openEn : Bool := true
  shortEn : Bool := true
  phase : Nat := 8
  phaseNow : Nat := 8
  cur : List Nat := [0x808080, 0x808080, 0x808080, 0x808080]
  curNow : List Nat := [0x808080, 0x808080, 0x808080, 0x808080]
  curPend : List (Nat × Nat × Nat) := []
  trim : List (Nat × Int) := []
  trimNow : List (Nat × Int) := []
  waves : List Wave := resetWaves
  waveNow : Wave := { tDg := 60, tPc := 40, vDg := 20, vR := 80, vG := 120, vB := 120 }
  band : Nat := 1
  shortV : List Nat := [50, 80, 80]
  f : Nat := 0
  target : Nat := 0
  fade : Option Fade := none
  fadePend : List (Option Nat × Nat × Nat) := []
  flags : List DeadLamp := []
  frameFlags : List DeadLamp := []
  deadFull : Bool := false
  deadAdded : Bool := false
  suspect : Bool := false
  openRuns : List ((Nat × Nat × Nat) × Nat) := []
  shortRuns : List ((Nat × Nat × Nat) × Nat) := []
  detecting : Bool := false
  okSince : Option Nat := none
  column : Nat := 0
  samples : List ((Nat × Nat × Nat) × Int) := []
  pin : Bool := false
  chatter : Bool := false
  changes : List Nat := []
  transitions : BitVec 32 := 0
  inactiveSince : Nat := 0
  headA : HeadBlackout := {}
  headB : HeadBlackout := {}
  codes : List (Nat × Nat) := []
  lit : List Lit := []
  row : Option Nat := none
  deriving DecidableEq, Repr

/-! Hearth (R466 to R492) -/

/-- The states of R481, coded as STATE of HT_RAIL_STATUS. -/
inductive RailState where
  | off | softStart | run | retryWait | latched
  deriving DecidableEq, Repr

/-- The coefficients of one rail in one bank (R478). -/
structure Coef where
  kp : Nat := 128
  ki : Nat := 1647
  intMax : Int := 4000
  intMin : Int := -1000
  irefMax : Int := 4000
  irefMin : Int := -1000
  ffGain : Nat := 207
  h : Nat := 600
  feTime : Nat := 2000
  feLimit : Nat := 150
  deriving DecidableEq, Repr

/-- One rail (R466 to R490). `sw` holds s[φ], `blocked` the phases whose high side R472 holds off; `pendV` a V_SET that
waits for its frame; `hist` the rail currents of the last 100 ms, newest first; `settled` the samples in a row of the first
line of SOFT_START in R481; `failTimes` the faults of the last 10 s, `ocTimes` the events of R472 in the last 1 ms; `good`
the time since which v has not stayed within 300 mV of Vin (R487). -/
structure Rail where
  en : Bool := false
  ssRate : Nat := 5
  vSet : Nat
  pendV : List (Nat × Option Bool × Nat × Nat) := []
  state : RailState := .off
  vRef : Int := 0
  acc : Int := 0
  sw : List Bool := [false]
  blocked : List Bool := [false]
  fe : Nat := 0
  settled : Nat := 0
  since : Nat := 0
  lastCause : Nat := 0
  failTimes : List Nat := []
  ocTimes : List Nat := []
  faults : BitVec 32 := 0
  oc : BitVec 32 := 0
  v : Int := 0
  i : List Int := [0]
  hist : List Int := []
  discharge : Bool := false
  dropSince : Option Nat := none
  dropPosted : Bool := false
  overPosted : Option Nat := none
  coef : List Coef
  deriving DecidableEq, Repr

/-- VCORE's reset coefficients, in both banks (R478). -/
def coreCoef : Coef :=
  { kp := 221, ki := 2844, intMax := 9000, intMin := -2000, irefMax := 9000, irefMin := -2000, ffGain := 0, h := 1000
    feTime := 200, feLimit := 40 }

/-- Hearth. `swap` is a pending HT_SWAP_BANK, its bank and its frame; `bankWrite` is BANK; `load` is LOAD, `late` the rails' loads that come late (R474); `coreFails`
the VCORE faults of the last 10 s (HT_CORE_LOG), which a VCORE restart keeps; `runSince` the time since which all LED rails
have been in RUN (R489). -/
structure Hearth where
  rails : List Rail :=
    [{ vSet := 2600, coef := [{}, {}] }, { vSet := 3500, coef := [{}, {}] }, { vSet := 3500, coef := [{}, {}] },
     { en := true, ssRate := 1, vSet := 750, state := .run, vRef := 750, v := 750, sw := [false, false, false]
       blocked := [false, false, false], i := [0, 0, 0], coef := [coreCoef, coreCoef] }]
  bankWrite : Nat := 0
  bank : Nat := 0
  swap : Option (Nat × Option Nat) := none
  hLead : Nat := 200
  hLeadNow : Nat := 200
  retryMax : Nat := 3
  retryMs : Nat := 100
  vin : Int := 5000
  load : List Nat := [0, 0, 0]
  late : Bool := false
  ffLate : BitVec 32 := 0
  lateSeen : Bool := false
  latePosted : Option Nat := none
  lateCount : Nat := 0
  overload : Bool := false
  faulted : BitVec 4 := 0
  inputLow : Bool := false
  coreRestarted : Bool := false
  coreFails : List Nat := []
  coreCause : Nat := 0
  runSince : Option Nat := none
  sampleAt : Nat := 0
  stepAt : Nat := 0
  deriving DecidableEq, Repr

/-! Dumbwaiter (R493 to R516) -/

/-- A channel table entry (R499). -/
structure DwEntry where
  base : Nat := 0
  space : Nat := 0
  log2 : Nat := 4
  maxOut : Nat := 1
  irqEn : Bool := false
  wbEn : Bool := false
  wbAddr : Nat := 0
  wbSpace : Nat := 0
  weight : Nat := 1
  deriving DecidableEq, Repr

/-- A descriptor's fields (R504). -/
structure DwDesc where
  src : Nat
  dst : Nat
  count : Nat
  srcSpace : Nat
  dstSpace : Nat
  flags : Nat
  chain : Nat
  position : Nat
  fence : Nat
  fenceValue : Nat
  pattern : List Byte
  deriving DecidableEq, Repr

/-- A burst without a response (R495 to R498): its place in the transfer, the data once its read has returned, when its present
half was issued, and the positions of a broadcast's Tiles that have not answered (R514). -/
structure DwBurst where
  k : BitVec 32
  offset : Nat
  len : Nat
  data : Option (List Byte) := none
  at_ : Nat
  waiting : List Nat := []
  refused : Bool := false
  deriving DecidableEq, Repr

/-- A descriptor in progress (R504 to R511): its count left, and the first error with its residue and offset. -/
structure DwRun where
  k : BitVec 32
  desc : DwDesc
  left : Nat
  next : Nat := 0
  err : Option (Nat × Nat × Nat) := none
  abortAt : Option Nat := none
  deriving DecidableEq, Repr

/-- The channel states of R510, coded as STATE of DW_CH_STATUS. -/
inductive DwState where
  | stopped | running | error
  deriving DecidableEq, Repr

/-- One channel (R499 to R511). `runs` are the descriptors fetched and not yet written back, in ring order; `fetched` the
count up to which descriptors have been fetched. `failing` is 1 after a failed fetch and 2 after a ring error, `failDet` the
DETAIL_B of its event; `reload` is a reload that waits, with the entry as host memory holds it. -/
structure DwChan where
  state : DwState := .stopped
  fetchError : Bool := false
  ringError : Bool := false
  tail : BitVec 32 := 0
  head : BitVec 32 := 0
  fetched : BitVec 32 := 0
  entry : DwEntry := {}
  irq : BitVec 4 := 0
  bad : BitVec 32 := 0
  runs : List DwRun := []
  bursts : List DwBurst := []
  stopping : Bool := false
  aborting : Bool := false
  failing : Nat := 0
  reload : Option (Option (List Byte)) := none
  failDet : Nat := 0
  waits : List (Cmd × Nat) := []
  turn : Nat := 0
  badPosted : Option Nat := none
  deriving DecidableEq, Repr

/-- Dumbwaiter of a part. -/
structure Dw where
  space : Nat := 0
  base : Nat := 0
  chans : List DwChan
  current : Nat := 0
  deriving DecidableEq, Repr

/-! Chimney (R539 to R563) -/

/-- The lamp calibration of a colour (R545). -/
structure VfCal where
  vfRef : Int
  kt : Int
  rs : Int := 20
  iRef : Int := 1000
  tCal : Int := 400
  deriving DecidableEq, Repr

/-- A group of the lamp temperature field (R546): its value, its age in ns, and the samples since the last flip. -/
structure FieldGroup where
  value : Option Int := none
  age : Nat := 0
  n : Nat := 0
  sum : Int := 0
  deriving DecidableEq, Repr

/-- A measured segment (R556, R558): the last accepted value with its drive-tier temperature, and rejections in a row. -/
structure Segment where
  m : Nat
  temp : Int
  rejected : Nat := 0
  deriving DecidableEq, Repr

/-- A receive lane's termination codes (R560). -/
structure TermCode where
  port : Nat
  lane : Nat
  p : Nat := 16
  n : Nat := 16
  wantP : Nat := 16
  wantN : Nat := 16
  steppedAt : Nat := 0
  limited : Bool := false
  deriving DecidableEq, Repr

/-- Chimney of a part. Segments not listed read nominal, sinks not listed select segments 0 to 15, lanes not listed hold
code 16; `segsKept` are the segments as the last sweep left them. `trips` are the times of the last trips, `coolSince` since when a tripped part is cool. -/
structure Chimney where
  hotCapEn : Bool := true
  termEn : Bool := true
  sinkEn : Bool := true
  temps : List Int
  badRun : List Nat
  broken : List Bool
  bands : List Nat
  brokenPosted : List Bool
  convAt : Nat := 0
  dieBand : Nat := 0
  tripRestart : Bool := false
  oscUncomp : Bool := false
  lampHotNow : Bool := false
  hotCap : Bool := false
  trimDefaulted : Bool := false
  lampBand : Nat := 1
  trimDegraded : Bool := false
  trimReject : Bool := false
  tripCause : Nat := 0
  tripSensor : Nat := 0
  trips : List Nat := []
  tripped : Bool := false
  coolSince : Option Nat := none
  rejects : BitVec 32 := 0
  hotBudget : Nat := 14000
  lampHot : Nat := 1360
  hotBudgetNow : Nat := 14000
  lampHotSet : Nat := 1360
  vf : List VfCal := [{ vfRef := 1950, kt := -2000 }, { vfRef := 2850, kt := -3000 }, { vfRef := 2750, kt := -3000 }]
  vfNow : List VfCal := [{ vfRef := 1950, kt := -2000 }, { vfRef := 2850, kt := -3000 }, { vfRef := 2750, kt := -3000 }]
  field : List FieldGroup := []
  segs : List ((Nat × Nat) × Segment) := []
  segsKept : List ((Nat × Nat) × Segment) := []
  segAt : Nat := 0
  sweepDone : Bool := false
  refErr : List Int := [0, 0, 0, 0]
  sels : List (Nat × BitVec 20) := []
  selPend : List (Nat × BitVec 20) := []
  degraded : List Nat := []
  terms : List TermCode := []
  saveDue : Bool := false
  savedAt : Nat := 0
  deriving DecidableEq, Repr

/-! Attic (R564 to R602) -/

/-- A record of a store (R568): its region (0 SETTINGS, 1 GOLDEN), the page that holds it, the header fields and the payload;
`good` says that its CRC matches. TXN is 0 outside a transaction. -/
structure StoreRec where
  region : Nat := 0
  page : Nat := 0
  key : Nat
  schema : Nat := 0
  seq : Nat := 0
  txn : Nat := 0
  commit : Bool := false
  index : Nat := 0
  payload : List Byte := []
  good : Bool := true
  deriving DecidableEq, Repr

/-- The boot record (R592): the states of both slots, as AT_BOOT codes them, and the slot it names. -/
structure BootRec where
  states : List Nat := [4, 0]
  named : Nat := 0
  deriving DecidableEq, Repr

/-- A copy of the boot record in one of its two sectors (R571, R592); `good` says that it is valid. -/
structure BootCopy where
  seq : Nat := 0
  boot : BootRec := {}
  good : Bool := true
  deriving DecidableEq, Repr

/-- What non-volatile memory is to do. -/
inductive NvKind where
  | records (l : List StoreRec)
  | erase (region sector : Nat)
  | eraseSlot (slot : Nat)
  | image (slot offset : Nat) (bytes : List Byte)
  | boot (b : BootRec)
  | log (l : List EventRec)
  | cert (der : List Byte)
  | trust (index : Nat) (der : Option (List Byte))
  deriving DecidableEq, Repr

/-- An operation waiting or in progress; `cmd` is the command that its end answers, with its opcode and the parameter area of
its reply, `reason` the REASON of its failure. -/
structure NvOp where
  kind : NvKind
  cmd : Option (Cmd × Nat × List Byte) := none
  reason : Nat := 7
  deriving DecidableEq, Repr

/-- The non-volatile controller: its operations in order; `busy` says that the first one is in progress; `torn` lists the
(region, sector) left partly erased, `begun` those with ERASE_BEGIN and no ERASE_DONE. -/
structure Nv where
  ops : List NvOp := []
  busy : Bool := false
  heldSince : Option Nat := none
  store : List StoreRec := []
  torn : List (Nat × Nat) := []
  begun : List (Nat × Nat) := []
  nextTxn : Nat := 1
  deriving DecidableEq, Repr

/-- The identity of a part (R565, R578, R579): device certificate, its chain, operational certificate, MAC address base. -/
structure Identity where
  device : List Byte := []
  chain : List (List Byte) := []
  operational : Option (List Byte) := none
  mac : BitVec 48 := 0
  deriving DecidableEq, Repr

/-- What an image bundle says of itself (R583, R584, R590): none of it while its slot holds no verified bundle. -/
structure ImageInfo where
  fwVersion : BitVec 32 := 0
  minRom : Nat := 0
  epoch : Nat := 0
  schema : Nat := 0
  schemaMin : Nat := 0
  tileSchema : Nat := 0
  tileSchemaMin : Nat := 0
  tileCompat : Nat := 0
  digest : List Byte := []
  deriving DecidableEq, Repr

/-- A page of the LOG region (R599): PAGE_NO, the records, and whether its CRC matches. -/
structure LogPage where
  number : Nat := 0
  recs : List EventRec
  good : Bool := true
  deriving DecidableEq, Repr

/-- A staging session (R593, R594): its source, the slot, TOTAL_LEN and the ranges written. -/
structure Staging where
  src : Source
  slot : Nat
  total : Nat
  written : List (Nat × Nat) := []
  deriving DecidableEq, Repr

/-- A restart under way (R595 to R598): frame N, the target slot, and its phase (0 before C_N, 1 before T_N, 2 until the
image resumes at `at_`'s restart); `fallback` marks one of R597. -/
structure Activation where
  n : Nat
  slot : Nat
  fallback : Bool := false
  phase : Nat := 0
  at_ : Nat := 0
  deriving DecidableEq, Repr

/-- Attic of the Head. `bytes` holds the bundles as chunks (slot, offset, bytes); an erased slot holds an empty chunk, and a slot
with none the image from the factory; `info` what a verified bundle of each slot
says; `pairNumber` is the head pair number of R22 in the settings; `log` the pages of the LOG region. -/
structure Attic where
  nv : Nv := {}
  ident : Identity := {}
  anchors : List (Option (List Byte)) := List.replicate 16 none
  boot : BootRec := {}
  copies : List BootCopy := [{ seq := 1 }, { good := false }]
  running : Nat := 0
  bytes : List (Nat × Nat × List Byte) := [(1, 0, [])]
  info : List ImageInfo := [{}, {}]
  healthWindow : Nat := 300
  enrolPolicy : Bool := false
  confirmMode : Bool := true
  recovery : Bool := false
  torn : Bool := false
  fellBack : Bool := false
  unreadable : Bool := false
  staging : Option Staging := none
  epochFused : Nat := 0
  trialSince : Nat := 0
  confirmed : Bool := false
  confirming : Bool := false
  toRun : List (Nat × Nat) := []
  act : Option Activation := none
  reloads : List (Cmd × List (Nat × Nat)) := []
  enrolled : List ((Nat × Nat) × List Byte) := []
  pairNumber : BitVec 3 := 0
  log : List LogPage := []
  deriving DecidableEq, Repr

/-- Attic of the Tile. `lock` is the holder of the load lock and its last write (R590); `mem` the Tile's local memory, of
which the load window is part (R588); `booted` says that an image has run since the start, `railStep` which LED rail is
enabled next from `railAt` on, as step + 1 (R608; 0: none). -/
structure TileAttic where
  nv : Nv := {}
  ident : Identity := {}
  torn : Bool := false
  unreadable : Bool := false
  lock : Option (Bool × Nat) := none
  loadDigest : List Byte := []
  mem : List Host.Cell := []
  schema : Nat := 0
  schemaMin : Nat := 0
  booted : Bool := false
  railStep : Nat := 0
  railAt : Nat := 0
  deriving DecidableEq, Repr

/-- All state of the Head. -/
structure HeadSt where
  sys : HeadSys := {}
  mt : Mantel
  time : HeadTime
  po : Porch
  en : List TileEnt := []
  gl : List GlPort
  glw : GlWait := {}
  tw : Twin := {}
  cl : Cellar := {}
  fy : Foyer
  pl : Parlour := {}
  pp : Push := {}
  au : Audio := {}
  dw : Dw
  ch : Chimney
  at_ : Attic := {}
  out : List Out := []
  deriving DecidableEq, Repr

/-- All state of the Tile. -/
structure TileSt where
  sys : TileSys := {}
  mt : Mantel
  time : TileTime := {}
  po : TilePorch := {}
  gl : List GlPort
  glw : GlWait := {}
  ld : Landing := {}
  lr : Larder := {}
  lp : Lamp := {}
  ht : Hearth := {}
  dw : Dw
  ch : Chimney
  at_ : TileAttic := {}
  out : List Out := []
  deriving DecidableEq, Repr

/-- The reasons a command stops the model: the spec gives none, so there is none. -/
inductive Fault where
  /-- Raised by no command: every command of the table has an effect (safe). -/
  | unreachable
  deriving DecidableEq, Repr

/-- A command without a meaning. -/
inductive Refusal where
  /-- Raised by `exec` for a command not yet modelled (safe). -/
  | notModelled (mnemonic : String)
  deriving DecidableEq, Repr

/-- The whole state: both parts, the queue of waiting commands, the reference clock in ns and the counter of free
values drawn (DESIGN CHOICE, log entries 2 and 3). -/
structure State where
  head : HeadSt
  tile : TileSt
  now : Nat := 0
  freeCtr : Nat := 0
  pending : List Instr := []
  deriving DecidableEq, Repr

/-- Chimney at reset, with `n` die sensors. -/
def resetChimney (n : Nat) : Chimney :=
  { temps := List.replicate n 0, badRun := List.replicate n 0, broken := List.replicate n false, bands := List.replicate n 0
    brokenPosted := List.replicate n false }

/-- The state right after reset. DESIGN CHOICE, log entry 1; DESIGN CHOICE, log entry 6; DESIGN CHOICE, log entry 7. -/
def State.reset : State where
  head := {
    mt := { trigs := List.replicate 16 {}, ports := List.replicate 33 {} }
    time := { ts := List.replicate 6 {} }
    po := { queues := List.replicate 16 {}, sessions := List.replicate 8 {} }
    gl := List.replicate 32 { lanes := List.replicate 2 {} } ++ [{ laneEn := 0xF, lanes := List.replicate 4 {} }]
    fy := {
      video := List.replicate 64 { cfg := [0, 0, 0, 0, 0, 0, 0, 0, 0, 0, 4, 3] ++ List.replicate 88 0 }
      audio := List.replicate 64 { cfg := List.replicate 92 0 }
      anc := List.replicate 64 { cfg := List.replicate 92 0 } }
    dw := { chans := List.replicate 64 {} }
    ch := resetChimney 16 }
  tile := {
    mt := { trigs := List.replicate 4 {}, ports := List.replicate 2 {} }
    gl := List.replicate 2 { lanes := List.replicate 2 {} }
    dw := { space := 1, chans := List.replicate 8 {} }
    ch := { resetChimney 8 with field := List.replicate 540 {} } }

end Sys2Proof.Machine
end

