-- ==== Sys2Proof/Machine/Operands.lean ====
section
/-!
DEFINITION. Operand forms: little-endian fields of parameter areas and memory structures (R6), and the signed and
wrapping comparisons of R10.
-/
namespace Sys2Proof.Machine

/-- The number a little-endian byte list spells (R6). -/
def leNat : List Byte → Nat
  | [] => 0
  | b :: r => b.toNat + 256 * leNat r

/-- The unsigned field of `n` bytes at byte offset `i`; bytes beyond the area count as 0. -/
def fld (p : List Byte) (i n : Nat) : Nat := leNat ((p.drop i).take n)

/-- A two's-complement reading of `v` in `w` bits. -/
def signed (w v : Nat) : Int :=
  if v % 2 ^ w < 2 ^ (w - 1) then (v % 2 ^ w : Nat) else ((v % 2 ^ w : Nat) : Int) - (2 ^ w : Nat)

/-- The signed field of `n` bytes at byte offset `i`. -/
def sfld (p : List Byte) (i n : Nat) : Int := signed (8 * n) (fld p i n)

/-- The low `n` bytes of `v`, least significant first (R6). -/
def leBytes : Nat → Nat → List Byte
  | 0, _ => []
  | n + 1, v => BitVec.ofNat 8 v :: leBytes n (v / 256)

/-- `v` in two's complement in `w` bits, as an unsigned number. -/
def unsigned (w : Nat) (v : Int) : Nat := (v % ((2 ^ w : Nat) : Int)).toNat

/-- A signed value in `n` little-endian bytes. -/
def leInt (n : Nat) (v : Int) : List Byte := leBytes n (unsigned (8 * n) v)

/-- The bytes of a number in big-endian order (network byte order, R6). -/
def beBytes (n v : Nat) : List Byte := (leBytes n v).reverse

/-- `n` zero bytes. -/
def zeros (n : Nat) : List Byte := List.replicate n 0

/-- `l` cut or filled with zeros to `n` bytes. -/
def padTo (n : Nat) (l : List Byte) : List Byte := l.take n ++ zeros (n - l.length)

/-- Bits `[hi:lo]` of a number (R5). -/
def bits (v hi lo : Nat) : Nat := (v / 2 ^ lo) % 2 ^ (hi + 1 - lo)

/-- Bit `i` of a number. -/
def bit (v i : Nat) : Bool := v.testBit i

/-- A flag as a number. -/
def b2n (b : Bool) : Nat := if b then 1 else 0

/-- The signed difference of two 32-bit wrapping quantities (R10). -/
def sdiff (a b : BitVec 32) : Int :=
  (((a.toNat : Int) - b.toNat + 2147483648) % 4294967296) - 2147483648

/-- The signed difference of two `w`-bit wrapping quantities, by the same formula. -/
def sdiffW (w a b : Nat) : Int :=
  (((a : Int) - b + ((2 ^ (w - 1) : Nat) : Int)) % ((2 ^ w : Nat) : Int)) - ((2 ^ (w - 1) : Nat) : Int)

/-- `v` held between two limits. -/
def clampI (lo hi v : Int) : Int := if v < lo then lo else if hi < v then hi else v

/-- Ceiling of a quotient of naturals. -/
def ceilDiv (a b : Nat) : Nat := (a + b - 1) / b

/-- Nearest integer to `a / b`, halves rounded up. -/
def roundDiv (a b : Nat) : Nat := (2 * a + b) / (2 * b)

/-- Floor of the square root of a natural, by bisection on bits from `2^k` down. -/
def isqrtFrom (v : Nat) : Nat → Nat → Nat
  | 0, acc => if (acc + 1) * (acc + 1) ≤ v then acc + 1 else acc
  | k + 1, acc =>
    let t := acc + 2 ^ (k + 1)
    isqrtFrom v k (if t * t ≤ v then t else acc)

/-- Floor of the square root of a number below 2^64. -/
def isqrt (v : Nat) : Nat := isqrtFrom v 32 0

/-- Replace entry `i` of a list (no change beyond its end). -/
def upd {α : Type} (l : List α) (i : Nat) (f : α → α) : List α := l.modify i f

/-- Replace the value under a key, or add it at the end. -/
def putKey {κ ν : Type} [DecidableEq κ] (l : List (κ × ν)) (k : κ) (v : ν) : List (κ × ν) :=
  if l.any (fun e => e.1 == k) then l.map (fun e => if e.1 = k then (k, v) else e) else l ++ [(k, v)]

/-- The value under a key. -/
def getKey {κ ν : Type} [DecidableEq κ] (l : List (κ × ν)) (k : κ) : Option ν :=
  (l.find? (fun e => e.1 == k)).map Prod.snd

/-- Remove a key. -/
def delKey {κ ν : Type} [DecidableEq κ] (l : List (κ × ν)) (k : κ) : List (κ × ν) := l.filter (fun e => e.1 ≠ k)

/-- Sum of a list of integers. -/
def sumI (l : List Int) : Int := l.foldl (· + ·) 0

/-- Insert into a sorted list. -/
def insertSorted (v : Int) : List Int → List Int
  | [] => [v]
  | x :: r => if v ≤ x then v :: x :: r else x :: insertSorted v r

/-- A list of integers in rising order. -/
def sortI (l : List Int) : List Int := l.foldr insertSorted []

/-- One step of CRC-32 over one bit (polynomial 0x04C1_1DB7, reflected). -/
def crcBit (c : BitVec 32) : BitVec 32 := if c.getLsbD 0 then (c >>> 1) ^^^ 0xEDB88320#32 else c >>> 1

/-- One step of CRC-32 over one byte. -/
def crcByte (c : BitVec 32) (b : Byte) : BitVec 32 :=
  crcBit (crcBit (crcBit (crcBit (crcBit (crcBit (crcBit (crcBit (c ^^^ b.zeroExtend 32))))))))

/-- CRC-32 of a byte string: IEEE 802.3, initial value and final inversion all ones. -/
def crc32 (l : List Byte) : BitVec 32 := ~~~(l.foldl crcByte 0xFFFFFFFF#32)

end Sys2Proof.Machine
end

