-- ==== Sys2Proof/Machine/Flags.lean ====
section
/-!
DEFINITION. The flags and status codes of Plopex packets (R83, R97), the error reply of R85, and the frame choice
of R92, R93 and R649 that decides OK or LATE.
-/
namespace Sys2Proof.Machine

abbrev stOk : Nat := 0
abbrev stBusy : Nat := 1
abbrev stBadOpcode : Nat := 2
abbrev stBadParam : Nat := 3
abbrev stNotInRole : Nat := 4
abbrev stDenied : Nat := 5
abbrev stLate : Nat := 6
abbrev stTimeout : Nat := 7
abbrev stNoTarget : Nat := 8
abbrev stFailed : Nat := 9
abbrev stProgress : Nat := 10

/-- FLAGS.REPLY, FLAGS.FRAME, FLAGS.ORDERED of R83. -/
def flReply (f : BitVec 8) : Bool := f.getLsbD 0
def flFrame (f : BitVec 8) : Bool := f.getLsbD 1
def flOrdered (f : BitVec 8) : Bool := f.getLsbD 2

/-- A refusal: status with REASON, FIELD and DETAIL of R85. -/
structure Err where
  status : Nat
  field : Nat := 0xFFFF
  reason : Nat := 0x8000
  detail : Nat := 0
  deriving DecidableEq, Repr

/-- BAD_PARAM at a field. -/
def badParam (f : Nat) : Option Err := some { status := stBadParam, field := f }
/-- BAD_PARAM at no single field. -/
def badParamAny : Option Err := some { status := stBadParam }
/-- A refusal with no single field at fault. -/
def errSt (st : Nat) : Option Err := some { status := st }
/-- A refusal with a block's own REASON and DETAIL. -/
def errReason (st reason : Nat) (detail : Nat := 0) (field : Nat := 0xFFFF) : Option Err :=
  some { status := st, field := field, reason := reason, detail := detail }

/-- The parameter area of an error reply (R85). -/
def Err.params (e : Err) : List Byte := leBytes 2 e.reason ++ leBytes 2 e.field ++ leBytes 4 e.detail

/-- The first of several checks that fails (R98). -/
def firstErr : List (Option Err) → Option Err
  | [] => none
  | some e :: _ => some e
  | none :: r => firstErr r

/-- Fail with `e` unless `b`. -/
def need (b : Bool) (e : Option Err) : Option Err := if b then none else e

/-- BAD_PARAM at field `f` unless `lo ≤ v ≤ hi`. -/
def inRange (v lo hi f : Nat) : Option Err := need (decide (lo ≤ v ∧ v ≤ hi)) (badParam f)

/-! ## Ticks and frames -/

/-- T_N as realised (R26): O + floor((N − N_O) × P_NUM / P_DEN). -/
def tickAt (t : TickPar) (n : Nat) : Int := t.origin + (((n : Int) - t.nO) * t.pNum) / (t.pDen : Int)

/-- The lowest N with T_N above `w`, minus one: the last tick at or before `w` (R26, R92). -/
def lastTickBy (t : TickPar) (w : Int) : Int := (t.nO : Int) + ((w - t.origin + 1) * t.pDen - 1) / (t.pNum : Int)

/-- The parameters of frame `n` before any pending change: those before the last SWITCH for a frame before its S.
DEDUCED, log entry 51. -/
def parHeld (m : Mantel) (n : Nat) : Option TickPar :=
  match m.tick, m.prevTick with
  | some t, some q => if n < t.nO then some q else some t
  | t, _ => t

/-- The parameters in force for frame `n`, pending changes at or before `n` included (R28, R648). -/
def parFor (m : Mantel) (n : Nat) : Option TickPar :=
  m.pendTicks.foldl (fun acc c => if c.s ≤ n then c.par else acc) (parHeld m n)

/-- T_N under the parameters that will be in force (R28): the tick of a switch frame S is that of the old period. -/
def tickOf (m : Mantel) (n : Nat) : Option Int := (parFor m n).map (fun t => tickAt t n)

/-- C_N = T_{N−1} − G, with the G of frame N (R28, R29). -/
def cutoffOf (m : Mantel) (n : Nat) : Option Int :=
  match parFor m n with
  | none => none
  | some t =>
    let prev := match (if n = 0 then some t else parFor m (n - 1)) with | some q => q | none => t
    some ((prev.origin + (((n : Int) - 1 - prev.nO) * prev.pNum) / (prev.pDen : Int)) - 1000 * t.gUs)

/-- The next tick of a part. -/
def nextTick (m : Mantel) : Nat := match m.lastN with | some n => n + 1 | none => m.firstN

/-- The frame in view at time `w` (R92), as an integer: the frame before the first tick reads as `firstN − 1`.
DEDUCED, log entry 51. -/
def frameInView (m : Mantel) (w : Nat) : Int :=
  match m.tick with
  | none => 0
  | some t =>
    let base : Int := match m.prevTick with
      | some q => if (w : Int) < t.origin then min (lastTickBy q w) ((t.nO : Int) - 1) else lastTickBy t w
      | none => lastTickBy t w
    let v := m.pendTicks.foldl
      (fun (acc : Int) c =>
        match c.par with
        | some q => if (c.s : Int) ≤ acc then max (c.s : Int) (lastTickBy q w) else acc
        | none => min acc ((c.s : Int) - 1)) base
    if v < (m.firstN : Int) then (m.firstN : Int) - 1 else v

/-- The first of `k` frames from `n` on whose cutoff lies after `w`. -/
def findCut (m : Mantel) (w : Nat) : Nat → Nat → Nat
  | 0, n => n
  | k + 1, n =>
    match cutoffOf m n with
    | some c => if (w : Int) < c then n else findCut m w k (n + 1)
    | none => n

/-- The first frame whose cutoff is still ahead at `w` (R92). -/
def nextFrame (m : Mantel) (w : Nat) : Nat :=
  let v := frameInView m w
  findCut m w 4 (max (v + 1).toNat m.firstN)

/-- The outcome of choosing a frame (R92, R649). -/
inductive FrameChoice where
  | noTicks
  | tooFar
  | onFrame (n : Nat) (late : Bool)
  deriving DecidableEq, Repr

/-- The frame a 32-bit FRAME names, nearest to V (R92). -/
def namedFrame (v : Int) (frame : BitVec 32) : Int := v + sdiff frame (BitVec.ofInt 32 v)

/-- R92 and R649: the frame at which a command takes effect. `named` is FRAME when FLAGS.FRAME is set. -/
def chooseFrame (m : Mantel) (named : Option (BitVec 32)) (w : Nat) : FrameChoice :=
  match m.tick with
  | none => .noTicks
  | some _ =>
    let next := nextFrame m w
    match named with
    | none => .onFrame next false
    | some f =>
      let v := frameInView m w
      let n := namedFrame v f
      if v + 1024 < n then .tooFar
      else if (next : Int) ≤ n then .onFrame n.toNat false
      else .onFrame next true

/-- FRAME of a command when FLAGS.FRAME is set. -/
def namedOf (c : Cmd) : Option (BitVec 32) := if flFrame c.flags then some c.frame else none

end Sys2Proof.Machine
end

