-- ==== Sys2Proof/Machine/Ops.lean ====
section
/-!
DEFINITION. The named operations every meaning is written over: wall time and its steps (R43 to R46), output, the
event log (R130 to R136), the reply ring (R107 to R112), replies and their order (R99, R103 to R106), the targets
and the check order of Porch (R86 to R98), and free values.
-/
namespace Sys2Proof.Machine

/-! ## Free values -/

/-- Draw a fresh free value: the counter's present value is its name. DESIGN CHOICE, log entry 3. -/
def draw (s : State) : Nat × State := (s.freeCtr, { s with freeCtr := s.freeCtr + 1 })

/-- `a / b` (b > 0) where the spec states no rounding: the floor, or one more by a free choice when inexact.
DESIGN CHOICE, log entry 3; DESIGN CHOICE, log entry 13. -/
def freeDiv (k : Nat) (a b : Int) : Int :=
  a / b + (if a % b ≠ 0 ∧ Config.roundUp k then 1 else 0)

/-! ## Parts -/

/-- The Mantel of a part. -/
def mtOf (p : Part) (s : State) : Mantel := match p with | .head => s.head.mt | .tile => s.tile.mt

/-- Change the Mantel of a part. -/
def setMt (p : Part) (m : Mantel) (s : State) : State :=
  match p with
  | .head => { s with head.mt := m }
  | .tile => { s with tile.mt := m }

/-- Record something a part sends. DESIGN CHOICE, log entry 4. -/
def emit (p : Part) (o : Out) (s : State) : State :=
  match p with
  | .head => { s with head.out := o :: s.head.out }
  | .tile => { s with tile.out := o :: s.tile.out }

/-- A part takes commands only while it is in service (R609, R614, R617). -/
def inService (p : Part) (s : State) : Bool :=
  match p with
  | .head => s.head.sys.phase == .inService
  | .tile => s.tile.sys.phase == .inService

/-- The Head's firmware is gone for the pause of R595: it takes no command, no sample and no session. -/
def firmwareGone (s : State) : Bool := match s.head.at_.act with | some a => decide (2 ≤ a.phase) | none => false

/-- The later of POR_N release and PERST# release (R615), while neither is held: from then on, within 20 ms, the PCIe endpoint
begins link training. -/
def trainsFrom (s : State) : Option Nat :=
  match s.head.sys.porFree, s.head.sys.perstFree with
  | some a, some b => some (max a b)
  | _, _ => none

/-- How the PCIe endpoint answers a configuration request (R615): not at all in reset, with Retry Status until the 900 ms point of
R614, normally after it. -/
def configAnswer (s : State) : ConfigAnswer :=
  match trainsFrom s with
  | none => .silent
  | some _ => if s.now < s.head.sys.crsUntil then .retry else .normal

/-- Accesses of the host reach the Head over PCIe once its endpoint answers configuration requests normally (R611, R615).
DEDUCED, log entry 77. -/
def fromHost (f : State → State) (s : State) : State := if configAnswer s = .normal then f s else s

/-! ## Wall time -/

/-- Wall time W at counter value `c` (R43), as a 64-bit count of ns. -/
def wallAt (m : Mantel) (c : BitVec 64) : Nat :=
  let d : Nat := (c - m.cB).toNat
  unsigned 64 ((m.wB.toNat : Int) + d + ((d : Int) * m.rate) / 1099511627776)

/-- Wall time now. -/
def wall (m : Mantel) : Nat := wallAt m m.cnt

/-- A counter of a part in service counts on by 1 ns (R42). DESIGN CHOICE, log entry 2. -/
def countOn (m : Mantel) : Mantel := { m with cnt := m.cnt + 1 }

/-- One nanosecond passes with no command (DESIGN CHOICE, log entry 2): the reference clock and the counters of the parts in service. -/
def idle (s : State) : State :=
  let s1 := if s.head.sys.phase = .inService then { s with head.mt := countOn s.head.mt } else s
  let s2 := if s.tile.sys.phase = .inService then { s1 with tile.mt := countOn s1.tile.mt } else s1
  { s2 with now := s.now + 1 }

/-- Wall time of a part. DESIGN CHOICE, log entry 27. -/
def wallOf (p : Part) (s : State) : Nat := wall (mtOf p s)

/-- RATE held within ±500 ppm (R44). -/
def clampRate (r : Int) : Int := clampI (-549755813) 549755813 r

/-- Take (c, W) now as the base pair (R45). -/
def rebase (m : Mantel) : Mantel := { m with cB := m.cnt, wB := BitVec.ofNat 64 (wall m) }

/-- RATE takes a new value, wall time staying continuous (R44, R45); the history of the last second is kept for
R47's mean. -/
def setRate (r : Int) (m : Mantel) : Mantel :=
  let w := m.cnt.toNat
  { rebase m with
    rate := clampRate r
    rateHist := (w, clampRate r) ::
      (m.rateHist.filter (fun e => w ≤ e.1 + 1000000000) ++
        (m.rateHist.filter (fun e => ¬ w ≤ e.1 + 1000000000)).take 1) }

/-- Short time (R9). -/
def shortTime (w : Nat) : BitVec 32 := BitVec.ofNat 32 w

/-! ## Graed: handing a packet to a port -/

/-- The ports of a part. -/
def portsOf (p : Part) (s : State) : List GlPort := match p with | .head => s.head.gl | .tile => s.tile.gl

/-- Port `k` of a part. -/
def portAt (p : Part) (k : Nat) (s : State) : GlPort := (portsOf p s).getD k { lanes := [] }

/-- Change port `k` of a part. -/
def updPort (p : Part) (k : Nat) (f : GlPort → GlPort) (s : State) : State :=
  match p with
  | .head => { s with head.gl := upd s.head.gl k f }
  | .tile => { s with tile.gl := upd s.tile.gl k f }

/-- Words in the replay buffer (R348). -/
def replayWords (g : GlPort) : Nat := (g.replayBuf.map (fun k => k.len)).foldl (· + ·) 0

/-- A packet may start when credits cover its LEN (R340) and the replay buffer has room (R348). -/
def canStart (g : GlPort) (k : GPkt) : Bool :=
  k.len ≤ g.cred.getD k.cls 0 + g.credShared && g.replayBuf.length < 2047 && replayWords g + k.len ≤ 9362

/-- Draw the credits of a packet, reserved ones first (R340). -/
def drawCredit (g : GlPort) (cls len : Nat) : GlPort :=
  let r := g.cred.getD cls 0
  { g with cred := upd g.cred cls (fun _ => r - min r len), credShared := g.credShared - (len - min r len) }

/-- Send one packet: its SEQ, the replay buffer, the credits (R340, R348). -/
def transmit (p : Part) (port : Nat) (k : GPkt) (s : State) : State :=
  let g := portAt p port s
  let k' := { k with seq := g.seqNext }
  let g' := drawCredit g k.cls k.len
  emit p (.packet port k')
    (updPort p port (fun _ =>
      { g' with
        seqNext := g.seqNext + 1
        replayBuf := g.replayBuf ++ [k']
        oldestSince := if g.replayBuf.isEmpty then s.now else g.oldestSince
        ctlSent := g.ctlSent.filter (fun x => decide (s.now ≤ x.1 + 64000)) ++ (if k.cls = 1 then [(s.now, k.len)] else [])
        bulkPassed := if k.cls = 4 then 0 else if g.txq.any (fun q => q.cls == 4) then g.bulkPassed + 1 else 0 }) s)

/-- The classes in the order of R343: CONTROL, TWIN, REPLAY, PANE, BULK, a BULK packet first once it has waited
behind 63 others. -/
def classOrder (g : GlPort) : List Nat := if 63 ≤ g.bulkPassed then [4, 1, 5, 3, 2] else [1, 5, 3, 2, 4]

/-- The first queued packet of a class, when it may start. -/
def firstOf (g : GlPort) (c : Nat) : Option GPkt := (g.txq.find? (fun k => k.cls == c)).filter (canStart g)

/-- The words that a port sends in 64 µs (R321). -/
def words64 (g : GlPort) : Nat :=
  ((List.range 4).filter (fun i => g.laneActive.getLsbD i)).length * (match g.rate with | 0 => 25000 | 1 => 12500 | _ => 10000)

/-- CONTROL packets take at most 4 % of a port's words over 64 µs while a packet of a lower class waits to leave (R343).
DEDUCED, log entry 30. -/
def controlHeld (now : Nat) (g : GlPort) (k : GPkt) : Bool :=
  let used := ((g.ctlSent.filter (fun x => decide (now ≤ x.1 + 64000))).map Prod.snd).foldl (· + ·) 0
  k.cls == 1 && decide (words64 g * 4 < (used + k.len) * 100) && [5, 3, 2, 4].any (fun c => (firstOf g c).isSome)

/-- The next queued packet that may start (R343). DEDUCED, log entry 30. -/
def nextQueued (now : Nat) (g : GlPort) : Option GPkt :=
  (classOrder g).findSome? (fun c => (firstOf g c).filter (fun k => !controlHeld now g k))

/-- Send queued packets while any may start; `n` bounds how many. DEDUCED, log entry 30. -/
def drainPort (p : Part) (port : Nat) : Nat → State → State
  | 0, s => s
  | n + 1, s =>
    let g := portAt p port s
    if g.state ≠ .active then s
    else match nextQueued s.now g with
      | some k => drainPort p port n (transmit p port k (updPort p port (fun g => { g with txq := g.txq.erase k }) s))
      | none => s

/-- Hand a packet to a port: an ACTIVE port queues and sends it, a port in RETRAIN holds it, any other discards and
counts it (R335, R357). -/
def hand (p : Part) (port : Nat) (k : GPkt) (s : State) : State :=
  let g := portAt p port s
  match g.state with
  | .active =>
    drainPort p port (g.txq.length + 1) (updPort p port (fun g => { g with txq := g.txq ++ [k] }) s)
  | .retrain => updPort p port (fun g => { g with txq := g.txq ++ [k] }) s
  | _ => updPort p port (fun g => { g with discards := g.discards + 1 }) s

/-! ## Receiving packets (R333, R334, R337, R341, R348, R350, R351) -/

/-- Signed difference of 12-bit SEQ values (R348). -/
def seqDiff (a b : BitVec 12) : Int := sdiffW 12 a.toNat b.toNat

/-- Discard the packet in reception and ask for its replay (R351, R365), unless a NAK is still out. -/
def nakNow (p : Part) (port : Nat) (s : State) : State :=
  let g := portAt p port s
  let free := match g.nakAt with | some t => decide (t + 1000 * g.replayToUs ≤ s.now) | none => true
  if free then
    emit p (.block port 0x55 [((g.seqExp - 1).toNat : Nat), 1]) (updPort p port (fun g => { g with nakAt := some s.now }) s)
  else s

/-- The receiver's judgement of a complete packet (R350, R351): accepted with an ACK, an earlier SEQ discarded, a
later one answered with a NAK. -/
def linkAccept (p : Part) (port : Nat) (k : GPkt) (s : State) : Bool × State :=
  let g := portAt p port s
  if g.state ≠ .active then (false, s)
  else if k.seq = g.seqExp then
    (true, emit p (.block port 0x55 [(k.seq.toNat : Nat), 0])
      (updPort p port (fun g => { g with seqExp := g.seqExp + 1, nakAt := none }) s))
  else if seqDiff k.seq g.seqExp < 0 then (false, s)
  else (false, nakNow p port s)

/-- The receiver frees the words of a consumed packet (R341). -/
def freeRx (p : Part) (port cls n : Nat) (s : State) : State :=
  updPort p port (fun g => { g with freedTx := upd g.freedTx cls (fun v => v + BitVec.ofNat 16 n) }) s

/-- Class, largest LEN of a packet type (R333); none for a reserved type. -/
def typeInfo (t : Nat) : Option (List Nat × Nat) :=
  match t with
  | 1 => some ([2, 3], 826) | 2 => some ([2], 2) | 3 => some ([1], 587) | 4 => some ([1], 587) | 5 => some ([1], 8)
  | 6 => some ([1], 6) | 7 => some ([1], 2) | 8 => some ([1], 2) | 9 => some ([4], 256) | 10 => some ([5], 1024)
  | _ => none

/-- R334: a packet the receiver counts and discards. -/
def packetBad (k : GPkt) : Bool :=
  match typeInfo k.typ with
  | some (cs, mx) => !cs.contains k.cls || mx < k.len
  | none => true

/-- The whole of a packet as bytes, word 0 first (R332). -/
def wholePkt (k : GPkt) : List Byte :=
  if [3, 4, 6, 8].contains k.typ then
    leBytes 7 (k.typ + 128 * b2n k.headB + 2 ^ 11 * b2n k.bcast + 2 ^ 32 * (k.position - 1) + 2 ^ 36 * k.chain + 2 ^ 41 * k.pair) ++ k.payload
  else k.payload

/-- Pass a packet over the twin port, whole, as TWIN KIND 0x08 (R88, R337). DEDUCED, log entry 41. -/
def passOver (k : GPkt) (s : State) : State :=
  hand .head 32
    { cls := 5, typ := 0xA, len := k.len + 1, headB := s.head.sys.roleB, pair := s.head.sys.pair
      payload := leBytes 1 8 ++ wholePkt k } s

/-- A message that came over a link (R334, R337, R341, R350): its packet is judged, its words are freed, and it takes effect when
the link accepts it; a chain port's packet for the partner is passed on. A message without a `via` is one that the link has accepted
already. DEDUCED, log entry 95. -/
def overLink (p : Part) (via : Option Via) (f : State → State) (s : State) : State :=
  match via with
  | none => f s
  | some v =>
    let a := linkAccept p v.port v.pkt s
    if ¬ a.1 then a.2
    else
      let s1 := freeRx p v.port v.pkt.cls v.pkt.len a.2
      let passed := p = .head ∧ v.port = 32 ∧ v.pkt.cls = 5
      if packetBad v.pkt ∧ ¬ passed then updPort p v.port (fun g => { g with discards := g.discards + 1 }) s1
      else if p = .head ∧ v.port ≠ 32 ∧ v.pkt.headB ≠ s.head.sys.roleB then passOver v.pkt s1
      else f s1

/-- A TIME-class message leaves while the port holds a credit of its class, counted in messages (R339, R340). -/
def timeSend (p : Part) (port kind : Nat) (fields : List Int) (s : State) : State :=
  if (portAt p port s).state = .active ∧ 1 ≤ (portAt p port s).cred.getD 0 0 then
    emit p (.block port kind fields) (updPort p port (fun g => { g with cred := upd g.cred 0 (fun n => n - 1) }) s)
  else s

/-- A TIME-class message has been taken from a port (R339, R341). -/
def timeTaken (p : Part) (port : Nat) (s : State) : State := freeRx p port 0 1 s

/-- LEN of a packet that carries `n` bytes from word 1 on, 7 bytes to a word (R333). -/
def lenFor (n : Nat) : Nat := max 2 (1 + ceilDiv n 7)

/-- The port by which the Tile sends what it originates for a Head, by the route table, or the other port when that
one is not ACTIVE (R336). -/
def routePort (headB : Bool) (s : State) : Nat :=
  let mine := if headB then s.tile.po.routeB else s.tile.po.routeA
  let r := if mine = 0xFF then (if headB then s.tile.po.routeA else s.tile.po.routeB) else mine
  let q := if r = 1 then 1 else 0
  if (portAt .tile q s).state = .active then q else 1 - q

/-- A packet the Tile originates. -/
def tilePkt (typ cls len : Nat) (headB : Bool) (payload : List Byte) (s : State) : GPkt :=
  { cls := cls, typ := typ, len := len, headB := headB, pair := s.tile.sys.pair, chain := s.tile.sys.chain,
    position := s.tile.sys.position, payload := payload }

/-- The bytes of a packet: the header of R81 and its parameter area. -/
def encodeReply (r : Reply) : List Byte :=
  leBytes 2 r.opcode ++ leBytes 2 r.tag ++ leBytes 2 r.params.length ++ [r.flags] ++ leBytes 1 r.status ++
    leBytes 1 r.pair ++ leBytes 1 r.chain ++ leBytes 1 r.position ++ [0] ++ leBytes 4 r.frame.toNat ++ r.params

/-! ## The reply ring -/

/-- Slots a packet with `n` parameter bytes occupies (R107). -/
def slotsFor (n : Nat) : Nat := ceilDiv (16 + n) 64

/-- Padding slots before the ring's end (R107) for a packet of `n` slots at count `tail`. -/
def padSlots (size : Nat) (tail : BitVec 32) (n : Nat) : Nat :=
  let pos := tail.toNat % 2 ^ size
  if 2 ^ size < pos + n then 2 ^ size - pos else 0

/-- Free slots of a reply ring. -/
def rqRoom (q : Queue) : Nat := 2 ^ q.rqSize - (q.rqTail - q.rqHead).toNat

/-- Whether a packet fits the reply ring now. -/
def rqFits (q : Queue) (n : Nat) : Bool := padSlots q.rqSize q.rqTail n + n ≤ rqRoom q

/-- Change queue `k`. -/
def updQueue (k : Nat) (f : Queue → Queue) (s : State) : State :=
  { s with head.po.queues := upd s.head.po.queues k f }

/-- Queue `k`. -/
def queueAt (k : Nat) (s : State) : Queue := s.head.po.queues.getD k {}

/-- A reply waits for space in the reply ring (RQ_FULL). -/
def rqFull (k : Queue) : Bool :=
  match k.replies with
  | r :: _ => !rqFits k (slotsFor r.params.length)
  | [] => false

/-- Note since when a reply has waited for space (R103). -/
def noteFull (k : Nat) (s : State) : State :=
  updQueue k (fun q => if rqFull q then { q with fullSince := some (q.fullSince.getD (wall s.head.mt)) } else q) s

/-- The final replies of a queue's commands that still wait to be written (R99, R129). -/
def waitingFinals (src : Source) (s : State) : List Reply :=
  match src with
  | .queue k => (queueAt k s).replies.filter (fun r => !r.flags.getLsbD 3)
  | _ => []

/-- Send the MSI-X message of a reply ring at once or leave it to coalescing (R109, R129). -/
def signalReply (k : Nat) (s : State) : State :=
  let q := queueAt k s
  let first := if q.unsignalled = 0 then wall s.head.mt else q.firstUnsig
  let n := q.unsignalled + 1
  if q.coalUs = 0 ∨ max 1 q.coalCnt.toNat ≤ n then
    let s1 := updQueue k (fun q => { q with unsignalled := 0 }) s
    if q.irqEn then emit .head (.msix k) s1 else s1
  else updQueue k (fun q => { q with unsignalled := n, firstUnsig := first }) s

/-- Write one packet into a reply ring: padding, the packet, the producer count, then the signal (R107 to R109). -/
def ringWrite (k : Nat) (r : Reply) (s : State) : State :=
  let q := queueAt k s
  let n := slotsFor r.params.length
  let pad := padSlots q.rqSize q.rqTail n
  let addr := fun (c : BitVec 32) => q.rqBase.toNat + 64 * (c.toNat % 2 ^ q.rqSize)
  let s1 := if pad = 0 then s
    else emit .head (.hostWrite (addr q.rqTail) (leBytes 2 0x0100 ++ leBytes 2 0 ++ leBytes 2 (64 * pad - 16) ++ zeros 10)) s
  let at0 := q.rqTail + BitVec.ofNat 32 pad
  let s2 := emit .head (.hostWrite (addr at0) (encodeReply r)) s1
  let tail := at0 + BitVec.ofNat 32 n
  let s3 := updQueue k (fun q => { q with rqTail := tail }) s2
  noteFull k (signalReply k (emit .head (.hostWrite q.rqWb.toNat (leBytes 4 tail.toNat)) s3))

/-- Hand a reply to its transport: a queue's waiting replies (R109), a session, or a Tile's Head.
The twin path carries FWD_ACK instead (R381). Replies to a queue that is disabled or a session that is closed are discarded (R106). -/
def deliver (p : Part) (src : Source) (r : Reply) (s : State) : State :=
  match p, src with
  | .head, .queue k =>
    if (queueAt k s).en then noteFull k (updQueue k (fun q => { q with replies := q.replies ++ [r] }) s) else s
  | .head, .session n =>
    if (s.head.po.sessions.getD n {}).isOpen then
      emit .head (.reply (.session n) r)
        { s with head.po.sessions := upd s.head.po.sessions n (fun x => { x with last := wall s.head.mt }) }
    else s
  | .head, .twin => s
  | .tile, .chain b port => hand .tile port (tilePkt 4 1 (lenFor (16 + r.params.length)) b (encodeReply r) s) s
  | p, src => emit p (.reply src r) s

/-! ## The event log -/

/-- The record a part makes of its own event (R130). -/
def mkEvent (p : Part) (block sev code : Nat) (a : BitVec 32) (b : BitVec 64) (s : State) : EventRec :=
  match p with
  | .head =>
    { time := wall s.head.mt, block := block, severity := sev, code := code, pair := s.head.sys.pair,
      headB := s.head.sys.roleB, unlocked := s.head.mt.servo != .locked, detA := a, detB := b }
  | .tile =>
    { time := wall s.tile.mt, block := block, severity := sev, code := code, pair := s.tile.sys.pair,
      chain := s.tile.sys.chain, position := s.tile.sys.position, fromTile := true,
      unlocked := s.tile.mt.servo != .locked, detA := a, detB := b }

/-- The 32 bytes of a record (R130). -/
def eventBytes (e : EventRec) : List Byte :=
  leBytes 8 e.time ++ leBytes 4 e.seq.toNat ++ leBytes 1 e.block ++ leBytes 1 e.severity ++
    leBytes 2 e.code ++ leBytes 1 e.pair ++ leBytes 1 e.chain ++ leBytes 1 e.position ++
    leBytes 1 (b2n e.headB + 2 * b2n e.fromTile + 4 * b2n e.unlocked) ++ leBytes 4 e.detA.toNat ++
    leBytes 8 e.detB.toNat

/-- The notification packet of a record (R95, R136). DESIGN CHOICE, log entry 22. -/
def notification (e : EventRec) : Reply :=
  { opcode := 0x010A, tag := 0xFFFF, status := 0, flags := Config.notifyFlags, params := eventBytes e }

/-- Send a notification to one subscriber, or drop it when the reply ring has no room (R136). -/
def notify (src : Source) (e : EventRec) (s : State) : State :=
  match src with
  | .queue k => if (queueAt k s).en ∧ rqFits (queueAt k s) 1 then ringWrite k (notification e) s else s
  | .session n => deliver .head (.session n) (notification e) s
  | _ => s

/-- Put a record into the log: its SEQ (R132), the newest 65 536 (R133), the journal from severity notice up
(R133), and the subscribers (R136). -/
def logRecord (e0 : EventRec) (s : State) : State :=
  let e := { e0 with seq := s.head.po.nextSeq }
  let s1 := { s with
    head.po.log := e :: s.head.po.log.take 65535
    head.po.nextSeq := s.head.po.nextSeq + 1
    head.po.logPending := if 1 ≤ e.severity then s.head.po.logPending ++ [e] else s.head.po.logPending }
  s.head.po.subs.foldl (fun t u => if u.2 ≤ e.severity then notify u.1 e t else t) s1

/-- The limiter's key of a record (R134). -/
def rateKey (e : EventRec) : RateKey :=
  { pair := e.pair, chain := e.chain, position := e.position, headB := e.headB, fromTile := e.fromTile,
    block := e.block, code := e.code }

/-- The summary record of one suppressed combination (R134, R137). -/
def suppressedRec (k : RateKey) (n : Nat) (s : State) : EventRec :=
  { time := wall s.head.mt, block := 0x01, severity := 1, code := 0x0008, pair := k.pair, chain := k.chain,
    position := k.position, headB := k.headB, fromTile := k.fromTile, unlocked := s.head.mt.servo != .locked,
    detA := BitVec.ofNat 32 n, detB := BitVec.ofNat 64 (k.block % 256 + 256 * k.code) }

/-- The Head's wall time has entered another whole second: one summary for each combination suppressed in the
second before, and the counts start again (R134). -/
def rollSecond (s : State) : State :=
  let sec := wall s.head.mt / 1000000000
  if sec = s.head.po.rateSec then s
  else
    let s1 := { s with head.po.rateSec := sec, head.po.rates := [] }
    s.head.po.rates.foldl (fun t r => if 100 < r.2 then logRecord (suppressedRec r.1 (r.2 - 100) t) t else t) s1

/-- Insert a record under the limit of 100 a second per source, BLOCK and CODE (R134); EVENTS_SUPPRESSED records
are not limited. -/
def insertEvent (e : EventRec) (s : State) : State :=
  let s0 := rollSecond s
  if e.block = 0x01 ∧ e.code = 0x0008 then logRecord e s0
  else
    let n := (getKey s0.head.po.rates (rateKey e)).getD 0
    let s1 := { s0 with head.po.rates := putKey s0.head.po.rates (rateKey e) (n + 1) }
    if n < 100 then logRecord e s1 else s1

/-- Post an event: into the Head's log, or into the Tile's 64 records awaiting forwarding (R135). -/
def post (p : Part) (block sev code : Nat) (a : BitVec 32 := 0) (b : BitVec 64 := 0) (s : State) : State :=
  match p with
  | .head => insertEvent (mkEvent .head block sev code a b s) s
  | .tile =>
    if s.tile.po.events.length < 64 then
      { s with tile.po.events := s.tile.po.events ++ [mkEvent .tile block sev code a b s] }
    else { s with tile.po.lost := s.tile.po.lost + 1 }

/-! ## Outstanding commands and replies -/

/-- The outstanding commands of a part. -/
def outstOf (p : Part) (s : State) : List Outst :=
  match p with | .head => s.head.po.outst | .tile => s.tile.po.outst

/-- Change them. -/
def setOutst (p : Part) (l : List Outst) (s : State) : State :=
  match p with
  | .head => { s with head.po.outst := l }
  | .tile => { s with tile.po.outst := l }

/-- Whether an entry is the command `c` with opcode `op`, without a final reply yet: Porch knows a packet by its source, tag,
opcode, target and arrival (R84, R99). DEDUCED, log entry 101. -/
def isEntry (c : Cmd) (op : Nat) (e : Outst) : Bool :=
  e.src == c.src && e.tag == c.tag && e.opcode == op && e.chain == c.chain && e.position == c.position &&
    e.arrival == c.arrival && e.final.isNone

/-- Replace the first entry equal to `e`. -/
def putFirst (e e' : Outst) : List Outst → List Outst
  | [] => []
  | x :: r => if x = e then e' :: r else x :: putFirst e e' r

/-- Replace an outstanding command of the Head. -/
def putEntry (e e' : Outst) (s : State) : State := setOutst .head (putFirst e e' s.head.po.outst) s

/-- Same source, opcode range and target: replies keep submission order (R99). -/
def sameGroup (a b : Outst) : Bool :=
  a.src == b.src && a.opcode / 256 == b.opcode / 256 && a.chain == b.chain && a.position == b.position

/-- Release final replies in submission order within each group (R99): `kept` holds the entries before this one
that still wait. -/
def flushReplies (p : Part) : List Outst → List Outst → State → List Outst × State
  | [], kept, s => (kept, s)
  | e :: r, kept, s =>
    match e.final with
    | some rep =>
      if kept.any (sameGroup e) then flushReplies p r (kept ++ [e]) s
      else flushReplies p r kept (if e.discard then s else deliver p e.src rep s)
    | none => flushReplies p r (kept ++ [e]) s

/-- Give the first entry that matches its final reply. -/
def markFinal (c : Cmd) (op : Nat) (rep : Reply) : List Outst → List Outst
  | [] => []
  | e :: r => if isEntry c op e ∧ e.started then { e with final := some rep } :: r else e :: markFinal c op rep r

/-- Send the final reply of a command: it leaves at once or behind earlier ones of its group (R99). Replies to
commands taken from no list (the twin path) leave at once. -/
def finish (c : Cmd) (op : Nat) (rep : Reply) (s : State) : State :=
  if (outstOf c.part s).any (fun e => isEntry c op e && e.started) then
    let r := flushReplies c.part (markFinal c op rep (outstOf c.part s)) [] s
    setOutst c.part r.1 r.2
  else deliver c.part c.src rep s

/-- The reply to `c` with opcode `op`: header fields echoed (R81). -/
def replyTo (c : Cmd) (op status : Nat) (params : List Byte) (frame : Option (BitVec 32) := none) : Reply :=
  { opcode := op, tag := c.tag, status := status, flags := if frame.isSome then 3 else 1, pair := c.pair,
    chain := c.chain, position := c.position, frame := frame.getD 0, params := params }

/-- Final reply with status OK. -/
def ok (c : Cmd) (op : Nat) (params : List Byte) (s : State) : State :=
  finish c op (replyTo c op stOk params) s

/-- Final reply with status OK or LATE and the frame of application (R92). DEDUCED, log entry 23. -/
def okFrame (c : Cmd) (op : Nat) (params : List Byte) (n : Nat) (late : Bool) (s : State) : State :=
  finish c op (replyTo c op (if late then stLate else stOk) params (some (BitVec.ofNat 32 n))) s

/-- Final error reply (R85). -/
def refuse (c : Cmd) (op : Nat) (e : Err) (s : State) : State := finish c op (replyTo c op e.status e.params) s

/-- Final FAILED reply with a reason of the block. -/
def failed (c : Cmd) (op reason detail : Nat) (s : State) : State :=
  refuse c op { status := stFailed, reason := reason, detail := detail } s

/-! ## Targets -/

/-- Whether a broadcast's address matches a Tile's (R87). -/
def matchesAddr (c : Cmd) (e : TileEnt) : Bool :=
  (c.chain = 0xFF ∨ c.chain = e.chain) ∧ (c.position = 0xFF ∨ c.position = e.position)

/-- A Tile is present when it is enumerated and either Head reaches it (R87). -/
def present (e : TileEnt) : Bool := e.here || e.there

/-- The present Tiles a broadcast addresses, in ascending chain and position order (R87). -/
def bcastTiles (c : Cmd) (s : State) : List TileEnt :=
  let l := s.head.en.filter (fun e => present e && matchesAddr c e)
  (List.range 32).flatMap (fun ch => (List.range 17).flatMap (fun po =>
    l.filter (fun e => e.chain == ch && e.position == po)))

/-- The enumeration entry of a Tile. -/
def tileEnt (chain pos : Nat) (s : State) : Option TileEnt :=
  s.head.en.find? (fun e => e.chain == chain && e.position == pos)

/-- A command addressed to this Head itself. -/
def toHead (c : Cmd) : Bool := c.position = 0

/-- A command addressed to several Tiles (R87). -/
def isBcast (c : Cmd) : Bool := c.chain = 0xFF ∨ c.position = 0xFF

/-- Whether an entry is a packet like `c` that Porch holds and has not started. -/
def isHeld (c : Cmd) (e : Outst) : Bool :=
  e.src == c.src && e.tag == c.tag && e.chain == c.chain && e.position == c.position && e.arrival == c.arrival &&
    e.final.isNone && !e.started

/-- The Tiles of a command: those of the packet that Porch holds, or for a broadcast taken now those present now (R87). -/
def legsOf (c : Cmd) (s : State) : List TileLeg :=
  match s.head.po.outst.find? (isHeld c) with
  | some e => e.legs
  | none => if isBcast c then (bcastTiles c s).map (fun e => { chain := e.chain, position := e.position }) else []

/-! ## Porch's checks and the frame of an opcode's meaning -/

/-- What the owning chapter says of one opcode: its targets, whether it may be frame-targeted (R652), how LENGTH
fits, and the checks and the effect of R98 steps 4 to 7. `run` sends the reply. -/
structure OpSpec where
  opcode : Nat
  onHead : Bool := true
  onTile : Bool := false
  frameable : Bool := false
  fits : Nat → Bool := fun n => n == 0
  role : Cmd → State → Option Err := fun _ _ => none
  denied : Bool := false
  params : Cmd → State → Option Err := fun _ _ => none
  state : Cmd → State → Option Err := fun _ _ => none
  run : Cmd → State → State

/-- Step 1 of R98: the header. -/
def headerErr (c : Cmd) : Option Err :=
  if c.status ≠ 0 ∨ flReply c.flags then badParamAny
  else if c.tag = 0xFFFF then badParamAny
  else if 4080 < c.params.length then badParamAny
  else none

/-- Step 3 of R98 at the Head: R86, R87 and R88. -/
def targetErr (c : Cmd) (s : State) : Option Err :=
  if 7 < c.pair ∨ (31 < c.chain ∧ c.chain < 0xFF) ∨ 0xFF < c.chain ∨ (16 < c.position ∧ c.position < 0xFF) ∨
      0xFF < c.position ∨ (c.position = 0 ∧ 1 ≤ c.chain ∧ c.chain ≤ 31) then badParamAny
  else if c.position = 0 ∧ c.chain = 0xFF then errSt stNoTarget
  else if c.pair ≠ s.head.sys.pair then errSt stNoTarget
  else if toHead c then none
  else if isBcast c then (if (legsOf c s).isEmpty then errSt stNoTarget else none)
  else match tileEnt c.chain c.position s with
    | some e => if present e then none else errSt stNoTarget
    | none => errSt stNoTarget

/-- Software's transports, as against the twin path (R96, R116). -/
def fromSoftware (c : Cmd) : Bool :=
  match c.src with
  | .queue _ => true
  | .session _ => true
  | _ => false

/-- Step 5 of R98: commands only a Head sends, and the mask of management sessions (R95, R96, R116). -/
def transportErr (o : OpSpec) (c : Cmd) (s : State) : Option Err :=
  if o.denied ∧ fromSoftware c then errSt stDenied
  else match c.src with
    | .session _ =>
      if ¬ s.head.po.rangeEn.getLsbD (o.opcode / 256 - 1) then errSt stDenied
      else if o.opcode = 0x0104 ∧ ¬ s.head.po.regWrite then errSt stDenied
      else none
    | _ => none

/-- R652 and LENGTH (R98 step 6). -/
def formErr (o : OpSpec) (c : Cmd) : Option Err :=
  if flFrame c.flags ∧ ¬ o.frameable then badParamAny
  else if ¬ o.fits c.params.length then badParamAny
  else none

/-- R92's limit of 1 024 frames, for a frame-targetable opcode. -/
def frameErr (o : OpSpec) (c : Cmd) (m : Mantel) : Option Err :=
  if o.frameable ∧ flFrame c.flags ∧ chooseFrame m (namedOf c) c.arrival = .tooFar then badParamAny else none

/-- ROM recovery executes the opcode ranges of Porch and Attic only (R587). -/
def recoveryErr (op : Nat) (s : State) : Option Err :=
  if s.head.at_.recovery ∧ op / 256 ≠ 0x01 ∧ op / 256 ≠ 0x10 then errSt stNotInRole else none

/-- All of R98 for a command addressed to this Head. -/
def headErr (o : OpSpec) (c : Cmd) (s : State) : Option Err :=
  firstErr [headerErr c, targetErr c s, (if o.onHead then none else errSt stNotInRole), recoveryErr o.opcode s, o.role c s,
    transportErr o c s, formErr o c, frameErr o c s.head.mt, o.params c s, o.state c s]

/-- R89: the opcodes that a Tile executes before it is loaded. -/
def servesUnloaded (op : Nat) : Bool := (op / 256 == 0x01 && op != 0x0109) || op / 256 == 0x10

/-- The Tiles that a command addresses, as the Head holds them. -/
def tilesOf (c : Cmd) (s : State) : List TileEnt :=
  if isBcast c then (legsOf c s).filterMap (fun l => tileEnt l.chain l.position s) else (tileEnt c.chain c.position s).toList

/-- Steps 5 and 6 of R98 at the Head for a command to Tiles: R92's limit holds while a Tile that it addresses holds tick
parameters (R649). -/
def passErr (o : OpSpec) (c : Cmd) (s : State) : Option Err :=
  firstErr [transportErr o c s, (if flFrame c.flags ∧ ¬ o.frameable then badParamAny else none),
    (if (tilesOf c s).any (fun e => e.ticks) then frameErr o c s.head.mt else none)]

/-- What the Head checks of a command it forwards to Tiles. A Tile that is not loaded refuses at step 4 what the Head would refuse at
steps 5 and 6. -/
def forwardErr (o : OpSpec) (c : Cmd) (s : State) : Option Err :=
  let unloaded := !isBcast c && (tilesOf c s).any (fun e => !e.loaded) && !servesUnloaded o.opcode
  firstErr [headerErr c, targetErr c s, (if o.onTile then none else errSt stNotInRole), recoveryErr o.opcode s,
    (if unloaded ∧ (passErr o c s).isSome then errSt stNotInRole else none), passErr o c s]

/-- R89: what a Tile executes before it is loaded. -/
def tileRoleErr (o : OpSpec) (s : State) : Option Err :=
  if ¬ o.onTile then errSt stNotInRole
  else if s.tile.sys.loaded ∨ servesUnloaded o.opcode then none
  else errSt stNotInRole

/-- All of R98 for a command at the Tile. -/
def tileErr (o : OpSpec) (c : Cmd) (s : State) : Option Err :=
  firstErr [headerErr c, tileRoleErr o s, o.role c s, formErr o c, o.params c s, o.state c s]

/-- The packet as Porch holds it: a packet fetched from a queue carries the arrival that its doorbell stamped (R91). -/
def stamped (op : Nat) (c : Cmd) (s : State) : Cmd :=
  match c.part, c.src with
  | .head, .queue _ =>
    match s.head.po.outst.find? (fun e => isEntry { c with arrival := e.arrival } op e && !e.started) with
    | some e => { c with arrival := e.arrival }
    | none => c
  | _, _ => c

/-- A packet of a management session has come in (R115). -/
def touchSession (c : Cmd) (s : State) : State :=
  match c.part, c.src with
  | .head, .session n => { s with head.po.sessions := upd s.head.po.sessions n (fun x => { x with last := wall s.head.mt }) }
  | _, _ => s

/-- The outstanding command that a packet becomes. -/
def entryOf (op : Nat) (c : Cmd) (s : State) : Outst :=
  { src := c.src, tag := c.tag, opcode := op, flags := c.flags, pair := c.pair, chain := c.chain, position := c.position
    arrival := c.arrival, lastReply := c.arrival, frame := c.frame, payload := c.params, legs := legsOf c s }

/-- Start the first entry that is the packet `c`, or add one. -/
def startEntry (op : Nat) (c : Cmd) (fresh : Outst) : List Outst → List Outst
  | [] => [fresh]
  | e :: r => if isEntry c op e ∧ ¬ e.started then { e with started := true } :: r else e :: startEntry op c fresh r

/-- Take a command into the outstanding list: start the entry the fetch made (R108), or add one. -/
def take (op : Nat) (c : Cmd) (s : State) : State :=
  setOutst c.part (startEntry op c (entryOf op c s) (outstOf c.part s)) (touchSession c s)

/-- Take a command that cannot start yet (R83, R99): Porch holds it. -/
def holdCmd (op : Nat) (c : Cmd) (s : State) : State :=
  if s.head.po.outst.any (fun e => isEntry c op e && !e.started) then s
  else setOutst .head (s.head.po.outst ++ [{ entryOf op c s with started := false }]) (touchSession c s)

/-- Outstanding commands of a source: taken and not yet finally replied to, a reply that waits for its ring included (R129). -/
def outstCount (src : Source) (s : State) : Nat :=
  (s.head.po.outst.filter (fun e => e.src == src && !e.discard)).length + (waitingFinals src s).length

/-- The final replies of all queues that wait to be written. -/
def allWaiting (s : State) : List Reply := (List.range 16).flatMap (fun k => waitingFinals (.queue k) s)

/-- A limit of R100 stops the taking of commands from a source (R101). -/
def atLimit (src : Source) (s : State) : Bool :=
  let own := match src with | .queue _ => 256 | _ => 64
  own ≤ outstCount src s || 2048 ≤ s.head.po.outst.length + (allWaiting s).length

/-- Commands outstanding on a chain port; a broadcast counts on each chain it addresses (R100). -/
def onChain (chain : Nat) (s : State) : Nat :=
  (s.head.po.outst.filter (fun e => e.position != 0 && (e.chain == chain || e.chain == 0xFF))).length +
    ((allWaiting s).filter (fun r => r.position != 0 && (r.chain == chain || r.chain == 0xFF))).length

/-- A Tile-targeted command finds 64 outstanding on a chain port that it addresses (R100). -/
def chainFull (c : Cmd) (s : State) : Bool :=
  c.position != 0 && (List.range 32).any (fun k => (c.chain == k || c.chain == 0xFF) && 64 ≤ onChain k s)

/-- The Head cannot take a command that is not yet outstanding (R100, R101). -/
def notTaken (op : Nat) (c : Cmd) (s : State) : Bool :=
  match c.part, c.src with
  | .head, .queue _ | .head, .session _ =>
    (atLimit c.src s || chainFull c s) && !(s.head.po.outst.any (fun e => isEntry c op e && !e.started))
  | _, _ => false

/-- A command at the Head cannot start yet: an earlier one of its source has not started (R99), or with FLAGS.ORDERED has not
sent its final reply (R83), or a limit keeps it from being taken (R101). A Tile starts each command as it comes: the Head
keeps R83 for the commands it forwards. DEDUCED, log entry 101. -/
def mustWait (op : Nat) (c : Cmd) (s : State) : Bool :=
  match c.part with
  | .head =>
    notTaken op c s || (flOrdered c.flags && !(waitingFinals c.src s).isEmpty) ||
      (s.head.po.outst.takeWhile (fun e => !(isEntry c op e && !e.started))).any
        (fun e => e.src == c.src && (flOrdered c.flags || !e.started))
  | .tile => false

/-- A leg that has left for its Tile and has no status yet. -/
def atTile (chain pos : Nat) (l : TileLeg) : Bool := l.chain == chain && l.position == pos && l.sentAt.isSome && l.status.isNone

/-- Outstanding commands this Head has forwarded to a Tile (R102). -/
def forwardedTo (chain pos : Nat) (s : State) : Nat :=
  (s.head.po.outst.filter (fun e => e.final.isNone && e.legs.any (atTile chain pos))).length

/-- Send a command packet toward a Tile on this Head's chain port, or over the twin port as a passed packet of the
TWIN class (R88). -/
def sendToTile (e : TileEnt) (op tag : Nat) (flags : BitVec 8) (frame : BitVec 32) (params : List Byte) (s : State) : State :=
  let bytes := encodeReply
    { opcode := op, tag := tag, status := 0, flags := flags, pair := s.head.sys.pair,
      chain := e.chain, position := e.position, frame := frame, params := params }
  let k : GPkt :=
    { cls := 1, typ := 3, len := lenFor bytes.length, headB := s.head.sys.roleB, pair := s.head.sys.pair,
      chain := e.chain, position := e.position, payload := bytes }
  if e.here then hand .head e.port k s else passOver k s

/-- The command an entry stands for. -/
def entryCmd (e : Outst) : Cmd :=
  { part := .head, src := e.src, tag := e.tag, flags := e.flags, pair := e.pair, chain := e.chain,
    position := e.position, frame := e.frame, arrival := e.arrival, params := e.payload }

/-- An entry addressed to several Tiles. -/
def wasBcast (e : Outst) : Bool := e.chain == 0xFF || e.position == 0xFF

/-- The reply of a broadcast, which lists every Tile's status (R87). -/
def bcastReply (e : Outst) : Reply :=
  let st := fun (x : TileLeg) => x.status.getD stTimeout
  replyTo (entryCmd e) e.opcode (if e.legs.all (fun x => st x == stOk) then stOk else stFailed)
    (e.legs.flatMap (fun x => leBytes 1 x.chain ++ leBytes 1 x.position ++ leBytes 1 (st x) ++ [0]))

/-- A broadcast whose Tiles all have a status replies (R87). -/
def settleBcast (e : Outst) (s : State) : State :=
  if wasBcast e ∧ e.legs.all (fun x => x.status.isSome) then finish (entryCmd e) e.opcode (bcastReply e) s else s

/-- Change the legs of an entry that name a Tile. -/
def mapLegs (chain pos : Nat) (f : TileLeg → TileLeg) (e : Outst) : Outst :=
  { e with legs := e.legs.map (fun x => if x.chain = chain ∧ x.position = pos then f x else x) }

/-- Send a taken command to one of its Tiles that has a place for it (R102). -/
def sendLeg (p : Outst × State) (l : TileLeg) : Outst × State :=
  match tileEnt l.chain l.position p.2 with
  | some t =>
    if l.sentAt.isNone ∧ l.status.isNone ∧ forwardedTo l.chain l.position p.2 < 8 then
      let e := mapLegs l.chain l.position (fun x => { x with sentAt := some (wall p.2.head.mt) }) p.1
      (e, sendToTile t e.opcode e.tag e.flags e.frame e.payload (putEntry p.1 e p.2))
    else p
  | none => p

/-- Send a started command to those of its Tiles that it has not reached (R100, R102). -/
def sendLegs (e : Outst) (s : State) : State := (e.legs.foldl sendLeg (e, s)).2

/-- A Tile no longer reached by either Head: a broadcast lists it with NO_TARGET (R87), and a command that has not left for it is
refused so. DEDUCED, log entry 101. -/
def tileGone (chain pos : Nat) (s : State) : State :=
  s.head.po.outst.foldl (fun a e =>
    if e.final.isSome ∨ ¬ e.legs.any (fun l => l.chain == chain && l.position == pos && l.status.isNone) then a
    else if wasBcast e then
      let e' := mapLegs chain pos (fun x => if x.status.isNone then { x with status := some stNoTarget } else x) e
      (if e.started then settleBcast e' (putEntry e e' a) else putEntry e e' a)
    else if e.legs.all (fun l => l.sentAt.isNone) then
      finish (entryCmd e) e.opcode (replyTo (entryCmd e) e.opcode stNoTarget ({ status := stNoTarget } : Err).params) a
    else a) s

/-- The FLAGS and FRAME a forwarded command carries, and whether the Head has decided LATE (R93). Without ticks it is forwarded
untargeted (R649). DEDUCED, log entry 23. -/
def forwardFrame (c : Cmd) (s : State) : BitVec 8 × BitVec 32 × Bool :=
  match chooseFrame s.head.mt (namedOf c) c.arrival with
  | .onFrame n late => if flFrame c.flags then (c.flags, BitVec.ofNat 32 n, late) else (c.flags, c.frame, false)
  | .noTicks => if flFrame c.flags then (c.flags &&& ~~~2#8, 0, false) else (c.flags, c.frame, false)
  | .tooFar => (c.flags, c.frame, false)

/-- Forward a command to the Tiles it addresses, under the limits of R100 and R102. -/
def forward (o : OpSpec) (c : Cmd) (s : State) : State :=
  let s1 := take o.opcode c s
  match s1.head.po.outst.find? (fun e => isEntry c o.opcode e && e.started && e.legs.all (fun l => l.sentAt.isNone)) with
  | some e =>
    let fl := forwardFrame c s
    let e' := { e with
      flags := fl.1, frame := fl.2.1, late := fl.2.2, payload := c.params
      legs := if isBcast c then e.legs else [{ chain := c.chain, position := c.position }] }
    settleBcast e' (sendLegs e' (putEntry e e' s1))
  | none => s1

/-- A command at the Head: the checks of R98, then the effect; Tile targets are forwarded (R87, R88). One that cannot start yet is
held (R83). -/
def headRun (o : OpSpec) (c : Cmd) (s : State) : State :=
  if firmwareGone s then s
  else if mustWait o.opcode c s then (if notTaken o.opcode c s then s else holdCmd o.opcode c s)
  else if toHead c ∨ (targetErr c s).isSome ∨ (headerErr c).isSome then
    match headErr o c s with
    | some e => refuse c o.opcode e (take o.opcode c s)
    | none => o.run c (take o.opcode c s)
  else
    match forwardErr o c s with
    | some e => refuse c o.opcode e (take o.opcode c s)
    | none => forward o c s

/-- Whether a command is addressed to this Tile. -/
def toThisTile (c : Cmd) (s : State) : Bool :=
  (c.chain = 0xFF ∨ c.chain = s.tile.sys.chain) ∧ (c.position = 0xFF ∨ c.position = s.tile.sys.position)

/-- Two sources of a Tile that name the same Head (R102: by the HEAD bit). -/
def sameHead (a b : Source) : Bool :=
  match a, b with
  | .chain x _, .chain y _ => x == y
  | a, b => a == b

/-- A command at the Tile (R89, R98, R102). -/
def tileRun (o : OpSpec) (c : Cmd) (s : State) : State :=
  if ¬ toThisTile c s then s
  else if 8 ≤ (s.tile.po.outst.filter (fun e => sameHead e.src c.src)).length then
    deliver .tile c.src (replyTo c o.opcode stBusy ({ status := stBusy } : Err).params) s
  else
    match tileErr o c s with
    | some e => refuse c o.opcode e (take o.opcode c s)
    | none => o.run c (take o.opcode c s)

/-- The COMMAND packet that brings a command to a Tile (R333). -/
def cmdPacket (o : OpSpec) (c : Cmd) (seq : BitVec 12) (headB : Bool) : GPkt :=
  let bytes := encodeReply
    { opcode := o.opcode, tag := c.tag, status := c.status, flags := c.flags, pair := c.pair, chain := c.chain
      position := c.position, frame := c.frame, params := c.params }
  { cls := 1, typ := 3, len := lenFor bytes.length, seq := seq, headB := headB, bcast := c.position == 0xFF, pair := c.pair
    chain := c.chain, position := c.position, payload := bytes }

/-- A command reaches a Tile (R335, R350): one whose packet the link has still to accept is judged, and passed on when it is not, or
not only, for this Tile. -/
def tileArrive (o : OpSpec) (c : Cmd) (s : State) : State :=
  match c.link, c.src with
  | some q, .chain b port =>
    let k := cmdPacket o c q b
    overLink .tile (some { port := port, pkt := k }) (fun t =>
      tileRun o c (if k.bcast ∨ ¬ toThisTile c t then hand .tile (1 - port) k t else t)) s
  | _, _ => tileRun o c s

/-- The meaning of a command packet with an opcode: nothing while the part is not in service. -/
def runCmd (o : OpSpec) (c : Cmd) (s : State) : Host.Outcome State Fault Refusal :=
  .next (if ¬ inService c.part s then s
    else match c.part with
      | .head => headRun o (stamped o.opcode c s) s
      | .tile => tileArrive o c s)

/-- The frame at which an accepted command takes effect on its part: at the Head R92 and R649; at the Tile the
frame the Head chose, or the next flip with LATE (R93). -/
def frameOf (c : Cmd) (s : State) : FrameChoice :=
  match c.part with
  | .head => chooseFrame s.head.mt (namedOf c) c.arrival
  | .tile =>
    match s.tile.mt.tick with
    | none => .noTicks
    | some _ =>
      let v : Int := match s.tile.mt.lastN with
        | some n => n
        | none => (s.tile.mt.firstN : Int) - 1
      let next := (v + 1).toNat
      if flFrame c.flags then
        let n := namedFrame v c.frame
        if (next : Int) ≤ n then .onFrame n.toNat false else .onFrame next true
      else .onFrame next false

/-- A meaning that is not an opcode's: an event at a part, which happens only while the part is in service. -/
def onPart (p : Part) (f : State → State) (s : State) : Host.Outcome State Fault Refusal :=
  .next (if inService p s then f s else s)

/-! ## Leases (R235 to R237) -/

/-- The source takes RETIRE records (R237). -/
def takesRetire (src : Source) (s : State) : Bool :=
  match src with
  | .queue q => (queueAt q s).en
  | .session n => (s.head.po.sessions.getD n {}).isOpen
  | _ => false

/-- End one lease (R236, R237): a Foyer lease frees its buffer, a software lease leaves a RETIRE record for the queue or session
that sent its commit, unless that has ended since. -/
def endLease (l : Lease) (s : State) : State :=
  let s1 := { s with head.pl.leases := s.head.pl.leases.erase l }
  match l.src with
  | none => s1
  | some src =>
    if l.gone ∨ ¬ takesRetire src s then s1
    else
      { s1 with
        head.pl.retires := s1.head.pl.retires ++
          [{ src := src, surface := l.surface, layer := l.layer, id := l.id, lastFn := BitVec.ofNat 32 l.lastFn
             time := wall s.head.mt }] }

/-- A waiting commit ends without effect: its leases end with their RETIRE records. DEDUCED, log entry 100. -/
def endHeld (w : Waiting) (s : State) : State :=
  (s.head.pl.leases.filter (fun l => l.waits && l.id == w.id)).foldl (fun t l => endLease l t) s

/-- A queue or session has ended (R237): its leases leave no RETIRE record, and the records that wait for it are discarded. -/
def sourceGone (p : Source → Bool) (s : State) : State :=
  { s with
    head.pl.leases := s.head.pl.leases.map (fun l =>
      match l.src with | some x => if p x then { l with gone := true } else l | none => l)
    head.pl.retires := s.head.pl.retires.filter (fun r => ¬ p r.src) }

end Sys2Proof.Machine
end

