-- ==== Sys2Proof/Machine/Nv.lean ====
section
/-!
DEFINITION. The non-volatile controller of both parts (R564, R568 to R572): stores of records, their pages and sectors,
operations in order, and what a trip or a loss of power leaves.
-/
namespace Sys2Proof.Machine

/-- The controller of a part. -/
def nvOf (p : Part) (s : State) : Nv := match p with | .head => s.head.at_.nv | .tile => s.tile.at_.nv

/-- Change the controller of a part. -/
def setNv (p : Part) (v : Nv) (s : State) : State :=
  match p with
  | .head => { s with head.at_.nv := v }
  | .tile => { s with tile.at_.nv := v }

/-- No operation starts: after a trip (R550), or on a Tile whose input is low (R607). -/
def nvHeld (p : Part) (s : State) : Bool :=
  match p with
  | .head => s.head.ch.tripped
  | .tile => s.tile.ch.tripped || s.tile.ht.inputLow

/-- Start the first operation that waits; one that may not start is held back since now. -/
def nvStart (p : Part) (s : State) : State :=
  let v := nvOf p s
  if v.busy ∨ v.ops.isEmpty then s
  else if nvHeld p s then setNv p { v with heldSince := some (v.heldSince.getD s.now) } s
  else setNv p { v with busy := true, heldSince := none } s

/-- The regions of the non-volatile memory. -/
inductive NvRegion where
  | identity | trust | boot | settings | slot0 | slot1 | log | golden
  deriving DecidableEq, Repr

/-- Where a region starts and how many bytes it has (R565, R566). -/
def regionSpan (p : Part) (r : NvRegion) : Option (Nat × Nat) :=
  match p, r with
  | .head, .identity => some (0x00000000, 0x100000)
  | .head, .trust => some (0x00100000, 0x100000)
  | .head, .boot => some (0x00200000, 0x80000)
  | .head, .settings => some (0x04000000, 0x4000000)
  | .head, .slot0 => some (0x08000000, 0x10000000)
  | .head, .slot1 => some (0x18000000, 0x10000000)
  | .head, .log => some (0x28000000, 0x10000000)
  | .head, .golden => none
  | .tile, .identity => some (0x00000000, 0x40000)
  | .tile, .golden => some (0x00100000, 0xC00000)
  | .tile, .settings => some (0x00D00000, 0x400000)
  | .tile, _ => none

/-- Pages of 4 096 bytes of a region (R564). -/
def regionPages (p : Part) (r : NvRegion) : Nat := ((regionSpan p r).getD (0, 0)).2 / 4096

/-- Pages of a store: SETTINGS (0), or the Tile's GOLDEN (1). DEDUCED, log entry 55. -/
def storePages (p : Part) (region : Nat) : Nat := regionPages p (if region = 1 then .golden else .settings)

/-- A page is erased: nothing has been programmed into it since, and its sector is not left partly erased. -/
def pageErased (v : Nv) (region page : Nat) : Bool :=
  !(v.store.any (fun r => r.region == region && r.page == page)) && !(v.torn.contains (region, page / 64)) &&
    !(v.begun.contains (region, page / 64))

/-- A page can be programmed: it is erased, and its sector does not wait for its erase (R570). -/
def pageFree (v : Nv) (region page : Nat) : Bool :=
  pageErased v region page && !(v.ops.any (fun o => o.kind == .erase region (page / 64)))

/-- The pages of a store that can be programmed. -/
def freePages (p : Part) (region : Nat) (v : Nv) : List Nat := (List.range (storePages p region)).filter (pageFree v region)

/-- STORE_FREE_KIB (R601). -/
def storeFreeKib (p : Part) (s : State) : Nat :=
  4 * ((List.range (storePages p 0)).filter (pageErased (nvOf p s) 0)).length

/-- The bytes of a record (R568). -/
def recordBytes (r : StoreRec) : List Byte :=
  let txn := r.txn != 0
  let head := leBytes 2 r.key ++ leBytes 2 r.schema ++ leBytes 8 r.seq ++ leBytes 2 r.payload.length ++
    leBytes 1 (b2n (txn && !r.commit) + 2 * b2n r.commit) ++ [0] ++ leBytes 4 r.txn ++ leBytes 4 r.index ++ zeros 4
  let body := padTo (32 * ceilDiv r.payload.length 32) r.payload
  head ++ leBytes 4 (crc32 (head ++ body)).toNat ++ body

/-- The bytes of a page of the event log (R599). DEDUCED, log entry 55. -/
def logPageBytes (g : LogPage) : List Byte :=
  let head := leBytes 4 ((g.recs.head?.map (fun e => e.seq.toNat)).getD 0) ++ leBytes 1 g.recs.length ++ zeros 3 ++ leBytes 8 g.number ++
    zeros 12
  let body := padTo 4064 (g.recs.flatMap eventBytes)
  head ++ leBytes 4 (crc32 (head ++ body)).toNat ++ body

/-- A record is valid (R569). -/
def validRec (l : List StoreRec) (r : StoreRec) : Bool :=
  r.good && (r.txn == 0 || r.commit ||
    l.any (fun c => c.region == r.region && c.commit && c.txn == r.txn && c.good && decide (r.seq < c.seq)))

/-- The record of highest SEQ among those that `f` takes. -/
def newestOf (l : List StoreRec) (f : StoreRec → Bool) : Option StoreRec :=
  (l.filter (fun r => validRec l r && f r)).foldl
    (fun a r => match a with
      | some b => if b.seq < r.seq then some r else some b
      | none => some r) none

/-- The newest valid record of its (KEY, SCHEMA, INDEX) (R570); Attic's own markers are none. -/
def isLiveRec (l : List StoreRec) (r : StoreRec) : Bool :=
  r.key != 0 && !r.commit && validRec l r &&
    newestOf l (fun x => x.region == r.region && x.key == r.key && x.schema == r.schema && x.index == r.index) == some r

/-- A marker record of R570: ERASE_BEGIN (1) or ERASE_DONE (2) with its sector. -/
def marker (region kind sector : Nat) : StoreRec :=
  { region := region, key := 0, payload := leBytes 4 kind ++ leBytes 4 sector }

/-- The elements of an array that a record holds: 16 bytes each in the golden Larder copy, one in the golden trims. -/
def elemEnd (r : StoreRec) : Nat := r.index + r.payload.length / (if r.key = 0x0A01 then 16 else 1)

/-- Two golden records hold an element in common. -/
def overlaps (a b : StoreRec) : Bool :=
  a.region == 1 && b.region == 1 && a.key == b.key && a.schema == b.schema && decide (a.index < elemEnd b ∧ b.index < elemEnd a)

/-- A record closes a transaction of which a live record lies outside sector `g`. -/
def closesOther (l : List StoreRec) (g : Nat) (c : StoreRec) : Bool :=
  c.commit && c.good && l.any (fun r => isLiveRec l r && r.region == c.region && r.page / 64 != g && r.txn == c.txn)

/-- What is copied before sector `g` is erased (R570): its live records, with newer ones that share their elements, and the COMMIT
records that records of other sectors need. DEDUCED, log entry 55. -/
def keptOf (region g : Nat) (l : List StoreRec) : List StoreRec :=
  let mine := l.filter (fun r => r.region == region)
  let live := (mine.filter (isLiveRec l)).foldl (fun (a : List StoreRec) r => if r.page / 64 = g ∨ a.any (overlaps r) then a ++ [r] else a) []
  live.map (fun r => { r with txn := 0, commit := false }) ++ mine.filter (fun r => r.page / 64 == g && closesOther l g r)

/-- What waits to be written leaves a record as it is: no newer one of its element, and no COMMIT that it needs. -/
def isSettled (v : Nv) (r : StoreRec) : Bool :=
  !v.ops.any (fun o => match o.kind with
    | .records l => l.any (fun x => x.region == r.region &&
        ((x.key == r.key && x.schema == r.schema && x.index == r.index) || overlaps x r || (x.commit && x.txn == r.txn)))
    | _ => false)

/-- The operations that free a sector (R570): copies, the marker, the erase. The sector with the fewest copies among those that hold
a dead page is taken. DEDUCED, log entry 55. -/
def collectOps (p : Part) (region : Nat) (v : Nv) : List NvOp :=
  let inSector := fun (g : Nat) => v.store.filter (fun r => r.region == region && r.page / 64 == g)
  let kept := fun (g : Nat) => (keptOf region g v.store).length
  let pages := fun (g : Nat) => ((inSector g).map (fun r => r.page)).eraseDups.length
  let room := fun (g : Nat) => ((freePages p region v).filter (fun k => k / 64 != g)).length
  let good := (List.range (storePages p region / 64)).filter
    (fun g => decide (kept g < pages g ∧ kept g + 2 ≤ room g) && (inSector g).all (isSettled v))
  match good.foldl (fun (a : Option Nat) g => match a with
      | some b => if kept g < kept b then some g else some b
      | none => some g) none with
  | none => []
  | some g =>
    (keptOf region g v.store).map (fun r => { kind := .records [r] }) ++
      [{ kind := .records [marker region 1 g] }, { kind := .erase region g }]

/-- An operation that frees a sector of a store. -/
def isCleaning (region : Nat) (o : NvOp) : Bool :=
  match o.kind with
  | .erase r _ => r == region
  | .records [m] => m.key == 0 && !m.commit && m.region == region && fld m.payload 0 4 == 1
  | _ => false

/-- Add operations at the end. DEDUCED, log entry 55. -/
def nvPush (p : Part) (l : List NvOp) (s : State) : State :=
  nvStart p (setNv p { nvOf p s with ops := (nvOf p s).ops ++ l } s)

/-- Write groups of records, one page each, for a command; a sector is freed first when no more than one sector's pages
are left, and a full store fails the command (R570, R602). DEDUCED, log entry 55. -/
def storeWrite (p : Part) (region : Nat) (groups : List (List StoreRec)) (cmd : Option (Cmd × Nat × List Byte)) (reason : Nat)
    (s : State) : State :=
  let v := nvOf p s
  let queued := (v.ops.filter (fun o => match o.kind with | .records (r :: _) => r.region == region | _ => false)).length
  let free := (freePages p region v).length - queued
  let cleaning := v.ops.any (fun o => match o.kind with | .erase r _ => r == region | _ => false)
  let clean := if free < 64 + groups.length ∧ ¬ cleaning then collectOps p region v else []
  if free < groups.length ∧ clean.isEmpty ∧ ¬ cleaning then
    let s1 := post p 0x10 3 0x000A (BitVec.ofNat 32 region) 0 s
    match cmd with
    | some (c, op, _) => failed c op reason 0 s1
    | none => s1
  else
    nvPush p (clean ++ groups.map (fun g => { kind := .records (g.map (fun r => { r with region := region })), cmd := cmd, reason := reason })) s

/-- The record closing a transaction (R568). -/
def commitRec (txn : Nat) : StoreRec := { key := 0, txn := txn, commit := true }

/-- Put programmed records into the store, with their page and their SEQ (R568). -/
def putRecs (p : Part) (l : List StoreRec) (good : Bool) (v : Nv) : Nv :=
  match l with
  | [] => v
  | r0 :: _ =>
    match (freePages p r0.region v).head? with
    | none => v
    | some page =>
      let top := (v.store.filter (fun r => r.region == r0.region)).foldl (fun a r => max a r.seq) 0
      let begun := match r0.key, bits (leNat r0.payload) 31 0 with
        | 0, 1 => if r0.commit then v.begun else v.begun ++ [(r0.region, bits (leNat r0.payload) 63 32)]
        | 0, 2 => v.begun.erase (r0.region, bits (leNat r0.payload) 63 32)
        | _, _ => v.begun
      { v with
        store := v.store ++ l.mapIdx (fun i r => { r with page := page, seq := top + 1 + i, good := good })
        begun := if good then begun else v.begun }

/-- There is a page for what is programmed. -/
def hasPage (p : Part) (k : NvKind) (s : State) : Bool :=
  match k with
  | .records (r :: _) => ((freePages p r.region (nvOf p s)).head?).isSome
  | _ => true

/-- A page of the LOG region takes its place (R599): 65 536 pages in rotation, in sectors of 64. PAGE_NO starts at 0.
DEDUCED, log entry 55. -/
def putLog (l : List EventRec) (good : Bool) (pages : List LogPage) : List LogPage :=
  let kept := if 65536 ≤ pages.length then pages.drop 64 else pages
  kept ++ [{ number := (pages.getLast?.map (fun g => g.number + 1)).getD 0, recs := l, good := good }]

/-- The valid copy of the boot record with the higher SEQ (R571). -/
def newestCopy (l : List BootCopy) : Option BootCopy :=
  (l.filter (fun c => c.good)).foldl (fun a c => match a with
    | some b => if b.seq < c.seq then some c else some b
    | none => some c) none

/-- Rewrite the boot record (R592): a copy of higher SEQ in the sector that does not hold the copy in force. -/
def putCopy (b : BootRec) (good : Bool) (l : List BootCopy) : List BootCopy :=
  let now := newestCopy l
  upd l (if now = l[0]? then 1 else 0) (fun _ => { seq := (now.map (fun c => c.seq + 1)).getD 0, boot := b, good := good })

/-- The boot record is rewritten. -/
def writeBoot (b : BootRec) (s : State) : State :=
  { s with head.at_.boot := b, head.at_.copies := putCopy b true s.head.at_.copies }

/-- What a completed program leaves. -/
def nvApply (p : Part) (k : NvKind) (s : State) : State :=
  match k with
  | .records l => setNv p (putRecs p l true (nvOf p s)) s
  | .image slot off b => { s with head.at_.bytes := s.head.at_.bytes ++ [(slot, off, b)] }
  | .boot b => writeBoot b s
  | .log l => { s with head.at_.log := putLog l true s.head.at_.log }
  | .cert d => { s with head.at_.ident := { s.head.at_.ident with operational := some d } }
  | .trust i d => { s with head.at_.anchors := upd s.head.at_.anchors i (fun _ => d) }
  | .erase region g =>
    setNv p { nvOf p s with
      store := (nvOf p s).store.filter (fun r => ¬ (r.region = region ∧ r.page / 64 = g))
      torn := (nvOf p s).torn.erase (region, g) } s
  | .eraseSlot slot =>
    { s with
      head.at_.bytes := s.head.at_.bytes.filter (fun b => b.1 ≠ slot) ++ [(slot, 0, [])]
      head.at_.info := upd s.head.at_.info slot (fun _ => {}) }

/-- An erase, as against a page program. -/
def isErase (k : NvKind) : Bool :=
  match k with
  | .erase _ _ => true
  | .eraseSlot _ => true
  | _ => false

/-- The operation in progress. -/
def nvFront (p : Part) (s : State) : Option NvOp := if (nvOf p s).busy then (nvOf p s).ops.head? else none

/-- Take the operation in progress off the queue. -/
def nvPop (p : Part) (s : State) : State := setNv p { nvOf p s with ops := (nvOf p s).ops.tail, busy := false } s

/-- Whether an operation belongs to a command. -/
def opOf (c : Cmd) (o : NvOp) : Bool :=
  match o.cmd with
  | some (d, _, _) => d == c
  | none => false

/-- Reply to an operation's command once the last of its operations has ended. -/
def nvAnswer (o : NvOp) (p : Part) (s : State) : State :=
  match o.cmd with
  | some (c, op, params) => if (nvOf p s).ops.any (opOf c) then s else ok c op params s
  | none => s

/-- A program or erase has failed: its command fails, and its other operations are dropped; of no command, it may have been a copy,
and the sector of its store that was to be freed is not erased (R570). DEDUCED, log entry 55. -/
def nvFail (o : NvOp) (p : Part) (s : State) : State :=
  match o.cmd, o.kind with
  | some (c, op, _), _ =>
    failed c op o.reason 0 (setNv p { nvOf p s with ops := (nvOf p s).ops.filter (fun x => ¬ opOf c x) } s)
  | none, .records (r :: _) => setNv p { nvOf p s with ops := (nvOf p s).ops.filter (fun x => ¬ isCleaning r.region x) } s
  | none, _ => s

/-- The operation in progress ends: what it leaves, the reply, and the next operation. -/
def nvEnd (p : Part) (good : Bool) (s : State) : State :=
  match nvFront p s with
  | none => s
  | some o =>
    let s1 := nvPop p s
    if good ∧ hasPage p o.kind s1 then
      let s2 := nvApply p o.kind s1
      let s3 := match o.kind with
        | .erase region g =>
          setNv p { nvOf p s2 with ops := { kind := .records [marker region 2 g] } :: (nvOf p s2).ops } s2
        | _ => s2
      nvStart p (nvAnswer o p s3)
    else
      let s2 := match o.kind with
        | .records l => setNv p (putRecs p l false (nvOf p s1)) s1
        | .log l => { s1 with head.at_.log := putLog l false s1.head.at_.log }
        | .boot b => { s1 with head.at_.copies := putCopy b false s1.head.at_.copies }
        | _ => s1
      nvStart p (nvFail o p s2)

/-- A trip or a reset (R550, R572): a program in progress completes, an erase in progress leaves its sector partly erased,
and nothing else runs. DEDUCED, log entry 76. -/
def nvStop (p : Part) (s : State) : State :=
  let s1 := match nvFront p s with
    | none => s
    | some o =>
      match o.kind with
      | .erase region g => setNv p { nvOf p s with torn := (nvOf p s).torn ++ [(region, g)] } s
      | .eraseSlot slot =>
        { s with
          head.at_.bytes := s.head.at_.bytes.filter (fun b => b.1 ≠ slot) ++ [(slot, 0, [])]
          head.at_.info := upd s.head.at_.info slot (fun _ => {}) }
      | k => nvApply p k s
  setNv p { nvOf p s1 with ops := [], busy := false, heldSince := none } s1

/-- The power goes while an operation runs: a page program leaves a torn page (R571). -/
def nvCut (p : Part) (s : State) : State :=
  match nvFront p s with
  | some { kind := .records l, .. } =>
    setNv p { putRecs p l false (nvOf p s) with ops := [], busy := false, heldSince := none } s
  | _ => nvStop p s

/-- Recovery at a start (R571): the newer valid copy of the boot record, sectors erased again, records ignored;
AT_TORN_RECOVERED when anything was found. -/
def recoverStore (p : Part) (s : State) : State :=
  let v := nvOf p s
  let sectors := (v.torn ++ v.begun).eraseDups
  let ignored := (v.store.filter (fun r => !validRec v.store r)).length
  let s1 := setNv p { v with
    store := v.store.filter (fun r => !sectors.contains (r.region, r.page / 64)), torn := [], begun := [] } s
  let found : Bool := !sectors.isEmpty || decide (ignored ≠ 0)
  let s2 := match p with
    | .head =>
      { s1 with
        head.at_.torn := found
        head.at_.boot := ((newestCopy s1.head.at_.copies).map (fun c => c.boot)).getD s1.head.at_.boot }
    | .tile => { s1 with tile.at_.torn := found }
  if ¬ found then s2
  else
    post p 0x10 2 0x0002 (BitVec.ofNat 32 sectors.length) (BitVec.ofNat 64 ignored) s2

/-- Let the operations in hand end, as before a commanded restart (R561): `n` bounds how many. DEDUCED, log entry 76. -/
def nvDrain (p : Part) : Nat → State → State
  | 0, s => s
  | n + 1, s => if (nvOf p s).busy then nvDrain p n (nvEnd p true s) else s

/-- NV_PROGRAM_DONE for what needs nothing further. -/
def nvProgramDone (p : Part) (good : Bool) (s : State) : State :=
  match nvFront p s with
  | some o => if isErase o.kind then s else nvEnd p good s
  | none => s

/-- NV_ERASE_DONE (R570): the sector is erased, and ERASE_DONE is written. -/
def nvEraseDone (p : Part) (s : State) : State :=
  match nvFront p s with
  | some o => if isErase o.kind then nvEnd p true s else s
  | none => s

/-- INPUT_LOW_WRITE_TIMEOUT (R607): a write held back for 1 s is given up, and its command fails. -/
def execInputLowWriteTimeout (s : State) : Host.Outcome State Fault Refusal :=
  onPart .tile (fun s =>
    let v := nvOf .tile s
    match v.heldSince, v.ops with
    | some t, o :: rest =>
      if ¬ v.busy ∧ s.tile.ht.inputLow ∧ t + 1000000000 ≤ s.now then
        nvStart .tile (nvFail { o with reason := 7 } .tile (setNv .tile { v with ops := rest, heldSince := none } s))
      else s
    | _, _ => s) s

end Sys2Proof.Machine
end

