-- ==== Sys2Proof/Machine/Settings.lean ====
section
/-!
DEFINITION. The settings store (R573 to R577): keys, schemas, reading and writing.
-/
namespace Sys2Proof.Machine

/-- The keys of Cellar's training records, the enrolment list, the saved trims and the lamp calibration (R573). -/
abbrev keyTrain : Nat := 0x0401
abbrev keyEnrol : Nat := 0x1001
abbrev keySinkSel : Nat := 0x0F01
abbrev keyTerm : Nat := 0x0F02
abbrev keyVfCal : Nat := 0x0F03

/-- The schema that the running image writes (R575). -/
def schemaOf (p : Part) (s : State) : Nat :=
  match p with
  | .head => (s.head.at_.info.getD s.head.at_.running {}).schema
  | .tile => s.tile.at_.schema

/-- The lowest schema that it reads (R574). -/
def schemaMinOf (p : Part) (s : State) : Nat :=
  match p with
  | .head => (s.head.at_.info.getD s.head.at_.running {}).schemaMin
  | .tile => s.tile.at_.schemaMin

/-- Settings may not be written (R576). -/
def settingsHeld (p : Part) (s : State) : Bool := match p with | .head => s.head.at_.unreadable | .tile => s.tile.at_.unreadable

/-- The record of a setting that the running image reads (R574). -/
def readSetting (p : Part) (key index : Nat) (s : State) : Option StoreRec :=
  newestOf (nvOf p s).store (fun r => r.region == 0 && r.key == key && r.index == index && decide (schemaMinOf p s ≤ r.schema ∧
    r.schema ≤ schemaOf p s))

/-- Write settings (R575, R576): one record, or a transaction. -/
def writeSettings (p : Part) (l : List (Nat × Nat × List Byte)) (cmd : Option (Cmd × Nat × List Byte)) (s : State) : State :=
  if settingsHeld p s then
    match cmd with
    | some (c, op, params) => ok c op params s
    | none => s
  else
    let v := nvOf p s
    let sc := schemaOf p s
    let recs := l.map (fun e => ({ key := e.1, schema := sc, index := e.2.1, payload := e.2.2 } : StoreRec))
    if recs.length ≤ 1 then storeWrite p 0 (recs.map (fun r => [r])) cmd 7 s
    else
      storeWrite p 0 (recs.map (fun r => [{ r with txn := v.nextTxn }]) ++ [[commitRec v.nextTxn]]) cmd 7
        (setNv p { v with nextTxn := v.nextTxn + 1 } s)

/-- The settings of the store: every (KEY, INDEX) of a valid record. DEDUCED, log entry 54. -/
def settingKeys (p : Part) (s : State) : List (Nat × Nat) :=
  let l := (nvOf p s).store
  ((l.filter (fun r => r.region == 0 && r.key != 0 && !r.commit && validRec l r)).map (fun r => (r.key, r.index))).eraseDups

/-- Reading the settings at a start (R574 to R576): a key of which no record is understood makes the settings unreadable;
otherwise records of a lower schema are migrated. DEDUCED, log entry 54. -/
def startSettings (p : Part) (s : State) : State :=
  let keys := settingKeys p s
  let lost := keys.filter (fun k => (readSetting p k.1 k.2 s).isNone)
  let s1 := match p with
    | .head => { s with head.at_.unreadable := !lost.isEmpty }
    | .tile => { s with tile.at_.unreadable := !lost.isEmpty }
  let s2 := lost.foldl (fun a k => post p 0x10 3 0x0001 (BitVec.ofNat 32 k.1) 0 a) s1
  if ¬ lost.isEmpty then s2
  else keys.foldl (fun a k => match readSetting p k.1 k.2 a with
    | some r => if r.schema < schemaOf p a then writeSettings p [(k.1, k.2, r.payload)] none a else a
    | none => a) s2

/-- What the Head's firmware reads from its settings: the enrolment list (its INDEX is chain × 16 + position − 1, an
empty payload removes), and the head pair number (R22). DESIGN CHOICE, log entry 103. -/
def readStored (s : State) : State :=
  let enrolled := (List.range 512).filterMap (fun i => match readSetting .head keyEnrol i s with
    | some r => if r.payload.isEmpty then none else some ((i / 16, i % 16 + 1), r.payload)
    | none => none)
  { s with head.at_.enrolled := enrolled, head.sys.pair := s.head.at_.pairNumber.toNat }

end Sys2Proof.Machine
end

