-- ==== Sys2Proof/Machine/Tables.lean ====
section
/-!
DEFINITION. The curves that the spec gives by formula, evaluated in fixed point with 96 fraction bits: logarithm,
exponential and sine, the reset scaler sets (R266), the reset tone tables (R268), WL12L (R275), and the governor's
scales (R246).
-/
namespace Sys2Proof.Machine

/-- 1.0 in fixed point. -/
def fxOne : Int := 2 ^ 96

/-- Round a fixed-point value to the nearest integer, halves upward (R254). -/
def fxRound (v : Int) : Int := (2 * v + fxOne) / (2 * fxOne)

/-- atanh of z, for |z| at most 1/3, by its series. -/
def fxAtanh (z : Int) : Int :=
  let z2 := z * z / fxOne
  ((List.range 40).foldl (fun (a : Int × Int) (i : Nat) => (a.1 + a.2 / (2 * (i : Int) + 1), a.2 * z2 / fxOne)) (0, z)).1

/-- ln 2. -/
def fxLn2 : Int := 2 * fxAtanh (fxOne / 3)

/-- Natural logarithm of a positive value. -/
def fxLn (y : Int) : Int :=
  let k : Int := (Nat.log2 y.toNat : Int) - 96
  let m := if 0 ≤ k then y / 2 ^ k.toNat else y * 2 ^ (-k).toNat
  k * fxLn2 + 2 * fxAtanh ((m - fxOne) * fxOne / (m + fxOne))

/-- Exponential. -/
def fxExp (x : Int) : Int :=
  let k := x / fxLn2
  let r := x - k * fxLn2
  let e := (List.range 32).foldr (fun (n : Nat) acc => fxOne + r * acc / (((n : Int) + 1) * fxOne)) fxOne
  if 0 ≤ k then e * 2 ^ k.toNat else e / 2 ^ (-k).toNat

/-- x to the power num / den, for x at least 0. -/
def fxPow (x num den : Int) : Int := if x ≤ 0 then 0 else fxExp (fxLn x * num / den)

/-- π. -/
def fxPi : Int := 248902613312231085230521944622

/-- sin (π m / d), for 0 ≤ m ≤ d. -/
def fxSinPi (m d : Nat) : Int :=
  let m' := if 2 * m ≤ d then m else d - m
  let x := fxPi * (m' : Int) / (d : Int)
  let x2 := x * x / fxOne
  ((List.range 20).foldl
    (fun (a : Int × Int) (i : Nat) => (a.1 + a.2, -(a.2 * x2 / fxOne) / ((2 * (i : Int) + 2) * (2 * (i : Int) + 3)))) (0, x)).1

/-! ## Reset scaler sets (R266) -/

/-- The tap's curve value up to a common factor: Lanczos window of width `a` at distance `m / 64`. -/
def lanczos (a : Nat) (m : Int) : Int :=
  if m = 0 ∨ (64 * a : Nat) ≤ m.natAbs then 0
  else
    let s := fxSinPi m.natAbs (64 * a) * fxOne / (m * m)
    if decide ((m + 64 * 1024) / 64 % 2 = 0) = decide (0 < m) then s else -s

/-- Distances of the taps of a phase from the sampling position, in 1/64. -/
def tapDist (taps centre p k : Nat) : Int := if k < taps then 64 * ((k : Int) - centre) - p else 0

/-- Index of the tap that takes the rounding difference: largest magnitude, then nearest, then lowest. -/
def fixTap (centre p : Nat) (c : List Int) : Nat :=
  ((List.range c.length).foldl (fun best k =>
    let a := (c.getD k 0).natAbs
    let b := (c.getD best 0).natAbs
    if b < a ∨ (a = b ∧ (tapDist c.length centre p k).natAbs < (tapDist c.length centre p best).natAbs) then k else best) 0)

/-- The coefficients of one phase of a Lanczos set. -/
def lanczosPhase (taps centre a p : Nat) : List Int :=
  if p = 0 then (List.range taps).map (fun k => if k = centre then 1024 else 0)
  else
    let w := (List.range taps).map (fun k => lanczos a (tapDist taps centre p k))
    let sum := sumI w
    let c := w.map (fun v => if sum < 0 then (2 * 1024 * (-v) - sum) / (2 * -sum) else (2 * 1024 * v + sum) / (2 * sum))
    upd c (fixTap centre p c) (fun v => v + (1024 - sumI c))

/-- The coefficients of phase `p` of reset set `set`, horizontally (8 taps) or vertically (6 taps). -/
def resetPhase (horizontal : Bool) (set p : Nat) : List Int :=
  let taps := if horizontal then 8 else 6
  let centre := if horizontal then 3 else 2
  match set with
  | 0 => lanczosPhase taps centre (if horizontal then 4 else 3) p
  | 1 => (List.range taps).map (fun k => if k = centre then 1024 - 16 * (p : Int) else if k = centre + 1 then 16 * (p : Int) else 0)
  | 2 => (List.range taps).map (fun k => if k = (if p < 32 then centre else centre + 1) then 1024 else 0)
  | _ => lanczosPhase taps centre 2 p

/-! ## Reset tone tables (R268) -/

/-- The PQ constants of SMPTE ST 2084 (PRESUMED, log entry 20): E(e) / 10 000. -/
def pqCurve (e : Int) : Int :=
  let p := fxPow e 32 2523
  let num := p - 3424 * fxOne / 4096
  if num ≤ 0 then 0
  else fxPow (num * fxOne / (2413 * fxOne / 128 - 2392 * p / 128)) 8192 1305

/-- The inverse OETF of HLG in BT.2100 (PRESUMED, log entry 20). -/
def hlgCurve (e : Int) : Int :=
  let a := 17883277 * fxOne / 100000000
  if 2 * e ≤ fxOne then e * e / (3 * fxOne)
  else
    let c := fxOne / 2 - a * fxLn (4 * a) / fxOne
    (fxExp ((e - c) * fxOne / a) + (fxOne - 4 * a)) / 12

/-- T[k] of the reset table of a TCS. PRESUMED, log entry 20. -/
def resetTone (tcs k : Nat) : Nat :=
  let e := 64 * (k : Int) * fxOne / 65535
  let t : Int := match tcs with
    | 0 => fxPow e 12 5 / 10
    | 1 => min fxOne (10 * pqCurve e)
    | _ => fxPow (hlgCurve e) 6 5
  (clampI 0 0xFFFFFF (fxRound (1048576 * t))).toNat

/-! ## WL12L (R275) and the governor's scale (R246) -/

/-- w(c). -/
def wl12Decode (c : Nat) : Nat :=
  if c < 256 then c
  else min 65535 (fxRound (256 * fxExp (fxLn2 * 8 * ((c : Int) - 256) / 3839))).toNat

/-- The first code from `lo` on, within `2^k` codes, whose w reaches v, by bisection. -/
def wl12Search (v : Nat) : Nat → Nat → Nat
  | 0, lo => lo
  | k + 1, lo => if wl12Decode (lo + 2 ^ k - 1) < v then wl12Search v k (lo + 2 ^ k) else wl12Search v k lo

/-- The code whose w is nearest to v, the lower of two equally near (R275). -/
def wl12Encode (v : Nat) : Nat :=
  if v < 256 then v
  else
    let c := min 4095 (wl12Search v 12 0)
    if v - wl12Decode (c - 1) ≤ wl12Decode c - v then c - 1 else c

/-- M_q (R246). -/
def govScale (q : Nat) : Nat :=
  if q = 0 then 65536
  else (fxRound (65536 * fxExp (-(fxLn2 + fxLn (5 * fxOne)) * (q : Int) / 40))).toNat

end Sys2Proof.Machine
end

