-- ==== Sys2Proof/Machine/TwinOps.lean ====
section
/-!
DEFINITION. Operations shared by Mantel, the Twin and Porch: the claim and the publisher role (R374, R375), the
delivery of PO_TILE_CONFIG (R96), the encoding of tick parameters (R72), and the darkening of the Tile (R459).
-/
namespace Sys2Proof.Machine

/-- Change the Twin state. -/
def updTw (f : Twin → Twin) (s : State) : State := { s with head.tw := f s.head.tw }

/-- The Head's ticks run, from the acceptance of an INIT until a STOP takes effect (R74, R75). -/
def ticksRun (s : State) : Bool := s.head.mt.tick.isSome

/-- The twin port is ACTIVE. -/
def twinUpNow (s : State) : Bool := (portAt .head 32 s).state == .active

/-- The partner's claim as this Head sees it: its Doorbell line, or ROLE messages in the line's place while the Doorbell is
at fault (R373, R393); outside a handover either one holds it up. DEDUCED, log entry 45. -/
def peerClaim (s : State) : Bool :=
  let t := s.head.tw
  if t.dbFaultBeat || t.dbFaultClaim then twinUpNow s && t.peerRoleClaim
  else t.peerLine || (t.handoverIn.isNone && twinUpNow s && t.peerRoleClaim)

/-- The partner's claim stands: asserted, with its beat present (R374). -/
def peerClaimLive (s : State) : Bool := peerClaim s && s.head.tw.beat

/-- The Head is publisher (R374). -/
def isPublisher (s : State) : Bool := s.head.tw.dbClaim && !peerClaimLive s

/-- Drive DB_CLAIM. -/
def setClaim (b : Bool) (s : State) : State :=
  if s.head.tw.dbClaim = b then s else emit .head (.pin .dbClaim b) (updTw (fun t => { t with dbClaim := b }) s)

/-- The conditions of R375 other than a handover. A Head that has handed over waits for its partner's claim (R388).
DEDUCED, log entry 43. -/
def mayClaim (s : State) : Bool :=
  let gave := s.head.tw.handoverM.isSome && !s.head.tw.dbClaim && s.head.tw.beat
  (!s.head.sys.roleB && !peerClaimLive s && !gave) || !s.head.tw.everActive ||
    (s.head.sys.roleB && s.head.tw.autoTakeover && !s.head.tw.beat)

/-- This Head's own beat (R373). -/
def ownBeat (s : State) : Bool := ticksRun s && !s.head.tw.wdExpired

/-- Since when both claims have been asserted with both beats and no handover pending (R375). -/
def noteBoth (s : State) : State :=
  let t := s.head.tw
  if t.dbClaim ∧ peerClaimLive s ∧ ownBeat s ∧ t.handoverM.isNone ∧ t.handoverIn.isNone ∧ t.everActive then
    updTw (fun t => { t with bothSince := some (t.bothSince.getD s.now) }) s
  else updTw (fun t => { t with bothSince := none }) s

/-- Evaluate the claim again (R375): deasserted without ticks, asserted when a condition holds, else kept. -/
def evalClaim (s : State) : State :=
  noteBoth (if ¬ ticksRun s then setClaim false s
    else if mayClaim s then setClaim true s
    else s)

/-- Send the replies that wait for FWD_ACK (R376, R381). -/
def replyWaiting (s : State) : State :=
  s.head.tw.fwdWait.foldl (fun a w => finish w.cmd w.opcode w.reply a) (updTw (fun t => { t with fwdWait := [] }) s)

/-- Discard a snapshot (R376): the state that it replaced holds again. -/
def dropSnapshot (s : State) : State :=
  match s.head.pl.replaced with
  | none => s
  | some r =>
    { s with
      head.pl.replaced := none, head.pl.base := r.base, head.pl.pend := r.pend, head.pl.govs := r.govs, head.pl.leases := r.leases
      head.fy.surfaces := s.head.fy.surfaces.filter (fun x => 3584 ≤ x.1) ++ r.surfaces
      head.fy.vst := s.head.fy.vst.mapIdx (fun k v => { v with bound := r.bound.getD k none })
      head.pp.ports := s.head.pp.ports.mapIdx (fun c q => { q with fmtNext := r.formats.getD c none }) }

/-- Enter a role (R376). A publisher that ends replies without waiting; an abandoned join discards its snapshot, and its
TW_RESYNC fails. DEDUCED, log entry 47. -/
def setRole (r : TwRole) (s : State) : State :=
  let old := s.head.tw.role
  let s1 := updTw (fun t => { t with role := r }) s
  let s2 := if old = .publisher ∧ r ≠ .publisher then replyWaiting s1 else s1
  if old = .joining ∧ r ≠ .joining ∧ r ≠ .mirror then
    s2.head.tw.resync.foldl (fun a c => failed c 0x0904 0x8000 0 a)
      (updTw (fun t => { t with resync := [], joinFrame := none, keeps := false }) (dropSnapshot s2))
  else s2

/-- The twin link leaves ACTIVE for DETECT (R376). -/
def twinDown (s : State) : State :=
  let s1 := updTw (fun t =>
    { t with paired := false, lastHello := none, snapFor := none, handoverM := none, handoverIn := none, fault := 0
             peerRoleClaim := false, lastRoleBeat := none }) s
  match s.head.tw.role with
  | .publisher => evalClaim (setRole .alone s1)
  | .joining => evalClaim (setRole .alone s1)
  | .mirror =>
    if s.head.tw.beat then post .head 0x09 3 0x0007 0 0 (setRole .isolated s1) else evalClaim (setRole .alone s1)
  | _ => evalClaim s1

/-- The Head follows a publisher (R380): MIRROR or JOINING in native mode. -/
def isFollower (s : State) : Bool :=
  !s.head.tw.claimMode && (s.head.tw.role == .mirror || s.head.tw.role == .joining)

/-- R380 and R388: commands of the publisher's list refused from own queues and sessions, on a mirror and between
C_M of a handover and the partner's claim. -/
def publisherOnly (c : Cmd) (s : State) : Option Err :=
  if fromSoftware c ∧ (isFollower s ∨ (s.head.tw.handoverM.isSome ∧ ¬ s.head.tw.dbClaim)) then errSt stNotInRole
  else none

/-- Send a TWIN packet (R333): KIND, held in word 0, then the contents. -/
def twinSend (kind : Nat) (body : List Byte) (s : State) : State :=
  hand .head 32
    { cls := 5, typ := 0xA, len := lenFor body.length, headB := s.head.sys.roleB, pair := s.head.sys.pair,
      payload := leBytes 1 kind ++ body } s

/-- Ask the claim holder for a snapshot (R376). DEDUCED, log entry 41. -/
def requestSnapshot (keeps : Bool) (s : State) : State :=
  twinSend 0x06 [] (updTw (fun t => { t with joinFrame := none, keeps := keeps, crcMiss := 0, live := [] }) (setRole .joining s))

/-- The final reply of a command that the publisher forwards (R381): FWD_CMD leaves with the frame of application,
the arrival timestamp and the order key, and the reply waits for FWD_ACK; an unpaired Head replies at once. `id` is the
COMMIT_ID, or the tag; `stamp` the effective timestamp of a commit that waited on its fences, by which R217 orders it.
DEDUCED, log entry 41. -/
def finishFwd (c : Cmd) (op : Nat) (rep : Reply) (frame : Nat) (id : BitVec 32) (key : Nat) (s : State)
    (stamp : Option Nat := none) : State :=
  if s.head.tw.role = .publisher ∧ ¬ s.head.tw.claimMode ∧ fromSoftware c then
    let pkt := encodeReply
      { opcode := op, tag := c.tag, status := 0, flags := c.flags, pair := c.pair, chain := c.chain,
        position := c.position, frame := c.frame, params := c.params }
    let s1 := twinSend 0x02
      (leBytes 4 frame ++ leBytes 4 id.toNat ++ leBytes 8 (stamp.getD c.arrival) ++ leBytes 2 key ++ pkt) s
    updTw (fun t =>
      { t with
        fwdCount := t.fwdCount + 1
        fwdWait := t.fwdWait ++
          [{ id := id, sentAt := s.now, cmd := c, opcode := op, reply := rep }]
        fwdForFrame := putKey t.fwdForFrame frame ((getKey t.fwdForFrame frame).getD 0 + 1) }) s1
  else finish c op rep s

/-- OK without a frame, forwarded under R381. -/
def okFwd (c : Cmd) (op : Nat) (params : List Byte) (s : State) : State :=
  finishFwd c op (replyTo c op stOk params) c.frame.toNat (BitVec.ofNat 32 c.tag) 0 s

/-- OK or LATE with the frame of application, forwarded under R381. -/
def okFwdFrame (c : Cmd) (op : Nat) (params : List Byte) (n : Nat) (late : Bool) (s : State) : State :=
  finishFwd c op (replyTo c op (if late then stLate else stOk) params (some (BitVec.ofNat 32 n))) n
    (BitVec.ofNat 32 c.tag) 0 s

/-- The 48 bytes of MT_SET_TICK (R72). -/
def tickBytes (mode : Nat) (t : TickPar) (origin : Bool) (frame : Nat) : List Byte :=
  let o := if origin then t.origin.toNat else 0
  leBytes 1 mode ++ leBytes 1 t.slots ++ leBytes 1 t.refresh ++ [0] ++ leBytes 4 t.pNum ++ leBytes 2 t.pDen ++
    [0, 0] ++ leBytes 4 t.gUs ++ leBytes 4 t.fUs ++ leBytes 4 (o % 1000000000) ++ leBytes 6 (o / 1000000000) ++
    [0, 0] ++ leBytes 8 frame ++ zeros 8

/-- The tick parameters in the 48 bytes of MT_SET_TICK. -/
def parseTick (p : List Byte) : TickPar :=
  { slots := fld p 1 1, refresh := fld p 2 1, pNum := fld p 4 4, pDen := fld p 8 2, gUs := fld p 12 4,
    fUs := fld p 16 4, origin := (fld p 24 6 * 1000000000 + fld p 20 4 : Nat), nO := fld p 32 8 }

/-- Take an accepted SWITCH (`par` some) or STOP at frame S into the pending changes (R28, R648): it replaces every
pending change at or after S, and a SWITCH's O and N_O are the tick of S under the parameters before it. -/
def addPending (m : Mantel) (n : Nat) (par : Option TickPar) : Mantel :=
  let keep := m.pendTicks.filter (fun c => c.s < n)
  let m1 := { m with pendTicks := keep }
  let par' := match par, parFor m1 n with
    | some q, some old => some { q with origin := tickAt old n, nO := n }
    | some q, none => some q
    | none, _ => none
  { m1 with pendTicks := keep ++ [{ s := n, par := par' }] }

/-- SLOTS within the limit of R24 for the period. -/
def slotsFit (t : TickPar) : Bool :=
  if t.slots = 4 then decide (1000000000 * t.pDen ≤ 60 * t.pNum)
  else if t.slots = 2 then decide (1000000000 * t.pDen ≤ 120 * t.pNum)
  else true

/-- R73's BAD_PARAM cases for the fields of a mode (R25, R30, R72). -/
def tickFieldErr (p : List Byte) : Option Err :=
  let mode := fld p 0 1
  let t := parseTick p
  if mode = 2 then
    firstErr [need (fld p 20 4 = 0) (badParam 20), need (fld p 24 6 = 0) (badParam 24)]
  else
    firstErr
      [inRange mode 0 2 0,
       need (t.slots = 1 ∨ t.slots = 2 ∨ t.slots = 4) (badParam 1),
       inRange t.refresh 0 2 2,
       inRange t.pDen 1 65535 8,
       need (12500000 * t.pDen ≤ 3 * t.pNum ∧ 3 * t.pNum ≤ 125125000 * t.pDen) (badParam 4),
       inRange t.gUs 100 2000 12, inRange t.fUs 100 1000 16,
       (if mode = 0 then inRange (fld p 20 4) 0 999999999 20 else need (fld p 20 4 = 0) (badParam 20)),
       (if mode = 0 then none else need (fld p 24 6 = 0) (badParam 24)),
       need (slotsFit t) (badParam 1)]

/-- G and F as they stand once tick parameters are in force (R30). -/
def takePar (t : TickPar) (m : Mantel) : Mantel := { m with tick := some t, gUs := t.gUs, fUs := t.fUs }

/-- Change the enumeration entry of a Tile. -/
def updTileEnt (chain pos : Nat) (f : TileEnt → TileEnt) (s : State) : State :=
  { s with head.en := s.head.en.map (fun e => if e.chain = chain ∧ e.position = pos then f e else e) }

/-- Send PO_TILE_CONFIG to one Tile (R96): the flags say what it carries; `tick` is the TICK field. -/
def sendTileConfig (e : TileEnt) (tick : Option (List Byte)) (route hold : Bool) (s : State) : State :=
  let flags := b2n tick.isSome + 2 * b2n route + 4 * b2n hold
  let tag := s.head.po.cfgTag
  let change := match tick with | some b => (if fld b 0 1 = 0 then none else some (fld b 32 8)) | none => none
  let s1 := updTileEnt e.chain e.position (fun e =>
    { e with cfgs := e.cfgs ++ [{ tag := tag, tick := tick.isSome, change := change }] })
    { s with head.po.cfgTag := (tag + 1) % 65535 }
  let bytes := leBytes 1 (b2n s.head.tw.claimMode) ++ leBytes 1 flags ++
    leBytes 2 (if hold then s.head.time.holdLimitMs else 0) ++
    leBytes 1 (if route then e.routeA else 0) ++ leBytes 1 (if route then e.routeB else 0) ++ [0, 0] ++
    (tick.getD (zeros 48))
  sendToTile e 0x0109 tag 0 0 bytes s1

/-- The TICK field for a Tile that is loaded or adopted: the parameters in force, if the Head holds any (R96). -/
def tickInForce (s : State) : Option (List Byte) := s.head.mt.tick.map (fun t => tickBytes 0 t true t.nO)

/-- The TICK field of a pending SWITCH or STOP (R72, R76). -/
def changeBytes (c : PendTick) (s : State) : List Byte :=
  match c.par with
  | some t => tickBytes 1 t false c.s
  | none => match s.head.mt.tick with | some t => tickBytes 2 t false c.s | none => zeros 48

/-- Configure a Tile that is loaded or adopted (R65, R76, R96): the parameters in force, then every pending change (R648). -/
def configLoaded (e : TileEnt) (s : State) : State :=
  s.head.mt.pendTicks.foldl (fun a c => sendTileConfig e (some (changeBytes c s)) false false a)
    (updTileEnt e.chain e.position (fun x => { x with unacked := s.head.mt.pendTicks.map (fun c => c.s), ticks := false })
      (sendTileConfig e (tickInForce s) true true s))

/-- A Tile's answer to a PO_TILE_CONFIG (R76, R649). An OK to the parameters in force acknowledges the changes that they hold.
DEDUCED, log entry 19. -/
def configReply (r : Reply) (s : State) : State :=
  let inForce := match s.head.mt.tick with | some t => t.nO | none => 0
  let seen : Nat := match s.head.mt.lastN with | some n => n + 2 | none => s.head.mt.firstN + 2
  updTileEnt r.chain r.position (fun e =>
    match e.cfgs.find? (fun c => c.tag == r.tag) with
    | none => e
    | some c =>
      let e1 := { e with cfgs := e.cfgs.erase c }
      if r.status ≠ stOk then e1
      else
        let left := e.unacked.filter (fun n => match c.change with
          | some k => decide (n ≠ k)
          | none => !c.tick || decide (inForce < n))
        { e1 with unacked := left, ticks := e.ticks || c.tick, heldDark := e.heldDark && left.any (fun n => decide (n ≤ seen)) }) s

/-- Send PO_TILE_CONFIG to every loaded Tile of the Head's chains (R96). -/
def sendConfigs (tick : Option (List Byte)) (route hold : Bool) (s : State) : State :=
  (s.head.en.filter (fun e => e.loaded && present e)).foldl (fun t e => sendTileConfig e tick route hold t) s

/-- Set a dark cause of R459 and darken the Tile's lamps. Bits: 0 not loaded, 1 EN, 2 own input, 3 Head blackout,
4 time, 5 tick stop or change, 6 Hearth, 7 Chimney. -/
def darken (i : Nat) (s : State) : State :=
  { s with tile.lp.causes := s.tile.lp.causes ||| (1#8 <<< i), tile.lp.dark := true, tile.lp.lit := [] }

/-- Clear a dark cause; the lamps relight where R459 says (a refresh cycle start or a tick). -/
def undark (i : Nat) (s : State) : State := { s with tile.lp.causes := s.tile.lp.causes &&& ~~~(1#8 <<< i) }

/-- Relight when no cause remains (R459). -/
def relight (s : State) : State := if s.tile.lp.causes = 0 then { s with tile.lp.dark := false } else s

end Sys2Proof.Machine
end

