-- ==== Sys2Proof/Machine/TileOps.lean ====
section
/-!
DEFINITION. Operations shared by the Tile's blocks: the refresh cycles and row slots of a frame (R39, R66, R440), lamps,
sinks and currents (R432 to R436), the fade (R447, R448), stored codes and their sums (R394 to R396, R412), Larder records
(R414, R415) and what the Tile sends to its Heads (R336).
-/
namespace Sys2Proof.Machine

/-! ## Instants -/

/-- K, the refresh cycles of a frame (R39). DEDUCED, log entry 84. -/
def cyclesOf (t : TickPar) : Nat :=
  let cls := 3840 * 2 ^ t.refresh
  t.slots * ((2 * cls * t.pNum + t.slots * t.pDen * 1000000000) / (2 * t.slots * t.pDen * 1000000000))

/-- A_j of frame N (R39). -/
def cycleStart (t : TickPar) (n j : Nat) : Int :=
  let k := cyclesOf t
  t.origin + ((((n : Int) - t.nO) * k + j) * t.pNum) / ((k : Int) * t.pDen)

/-- The start of row slot r of cycle j (R66). -/
def rowStart (t : TickPar) (n j r : Nat) : Int :=
  let a := cycleStart t n j
  a + ((r : Int) * (cycleStart t n (j + 1) - a)) / 69

/-- t_min, the shortest row slot (R440). -/
def tMin (t : TickPar) : Nat := t.pNum / (t.pDen * 69 * cyclesOf t)

/-- W, the largest main window (R440). -/
def mainWindow (t : TickPar) (phase : Nat) : Nat := tMin t - 240 - 15 * phase

/-- N of R442: the full-scale light of one slot image, in ns. -/
def fullScale (t : TickPar) (phase : Nat) : Nat := cyclesOf t / t.slots * mainWindow t phase

/-- D of R446. -/
def depthOf (t : TickPar) (phase : Nat) : Nat := min 20 (Nat.log2 (16 * fullScale t phase))

/-- The tick parameters of the Tile's frame `n`. -/
def tilePar (n : Nat) (s : State) : Option TickPar := parFor s.tile.mt n

/-- V, the frame in view at the Tile, as an integer. -/
def tileView (s : State) : Int :=
  match s.tile.mt.lastN with
  | some n => n
  | none => (s.tile.mt.firstN : Int) - 1

/-- The tick parameters of the frame in view. -/
def tileNow (s : State) : Option TickPar :=
  match s.tile.mt.lastN with
  | some n => tilePar n s
  | none => s.tile.mt.tick

/-! ## Lamps, sinks and currents -/

/-- The sink of a lamp (R432). -/
def sinkOf (x y c : Nat) : Nat := y / 68 * 1440 + c * 480 + x

/-- I_bank of a colour from the bank's register (R434). -/
def iBank (reg c : Nat) : Nat :=
  let g := bits reg (8 * c + 7) (8 * c)
  50 + roundDiv (g * 1450) 255

/-- I_bank(c, b) in force. -/
def iBankNow (c b : Nat) (s : State) : Nat := iBank (s.tile.lp.curNow.getD b 0) c

/-- The trim of a sink in force. -/
def trimNow (k : Nat) (s : State) : Int := (getKey s.tile.lp.trimNow k).getD 0

/-- Round a quotient to the nearest integer, halves upward (R254). -/
def roundI (a b : Int) : Int := (2 * a + b) / (2 * b)

/-- I_sink of a sink (R434), in µA. -/
def iSink (k : Nat) (s : State) : Nat :=
  let i := iBankNow (k % 1440 / 480) (k / 1440) s
  (clampI 50 1500 (roundI ((i : Int) * (256 + trimNow k s)) 256)).toNat

/-- Φ of a fade value (R447). -/
def fadeFactor (f : Nat) : Nat :=
  if f = 0 then 16777216
  else if 2400 < f then 0
  else (fxRound (16777216 * fxExp (-(fxLn2 + fxLn (5 * fxOne)) * (f : Int) / 400))).toNat

/-- The fade value where a fade begins or ends as 2 400 (R448). -/
def fadeEnd (f : Nat) : Nat := if f = 4095 then 2400 else f

/-- f of a fade at the cycle start `a` (R448). -/
def fadeAt (d : Fade) (a : Int) : Nat :=
  let el := a - d.t0
  if d.dur = 0 ∨ (d.dur : Int) ≤ el then d.f1
  else
    let f0 : Int := fadeEnd d.f0
    let f1 : Int := fadeEnd d.f1
    (f0 + roundI ((f1 - f0) * max 0 el) d.dur).toNat

/-- Φ in force, 0 while the lamps are dark (R435). -/
def phiSet (s : State) : Nat := if s.tile.lp.dark then 0 else fadeFactor s.tile.lp.f

/-! ## Landing -/

/-- Change Landing. -/
def updLd (f : Landing → Landing) (s : State) : State := { s with tile.ld := f s.tile.ld }

/-- Change Larder. -/
def updLr (f : Larder → Larder) (s : State) : State := { s with tile.lr := f s.tile.lr }

/-- Change lamp drive. -/
def updLp (f : Lamp → Lamp) (s : State) : State := { s with tile.lp := f s.tile.lp }

/-- The half in view of a pane (R396). -/
def shownHalf (l : Landing) (slot pane : Nat) : Nat := b2n (l.show_.contains (slot, pane))

/-- A data word of Landing (R394, R395). -/
def landWord (l : Landing) (slot pane half w : Nat) : Nat :=
  match getKey l.codes (slot, pane, half) with
  | some c => c.getD w 0
  | none => 0

/-- The 8 parity bits of a 64-bit word (R424): bit j is even parity over data bits j, j + 8, …, j + 56. -/
def parityByte (w : Nat) : Nat :=
  ((List.range 8).map (fun j => 2 ^ j * (((List.range 8).map (fun k => bits w (j + 8 * k) (j + 8 * k))).foldl (· + ·) 0 % 2))).foldl (· + ·) 0

/-- Read a 64-bit word whose bits in `m`, of data and parity, have flipped since it was written: what it holds and whether parity
fails (R424). -/
def readWord (w m : Nat) : Nat × Bool :=
  let v := (w + 2 ^ 64 * parityByte w) ^^^ m
  (v % 2 ^ 64, parityByte (v % 2 ^ 64) != v / 2 ^ 64)

/-- Flip the bits of a mask of 72 in a word's entry. -/
def flipBits {α : Type} [DecidableEq α] (k : α) (m : Nat) (l : List (α × Nat)) : List (α × Nat) :=
  let v := (getKey l k).getD 0 ^^^ (m % 2 ^ 72)
  if v = 0 then delKey l k else putKey l k v

/-- A read of a data word of Landing, with its parity check. -/
def landRead (l : Landing) (slot pane half w : Nat) : Nat × Bool :=
  match getKey l.flips (slot, pane, half, w) with
  | some m => readWord (landWord l slot pane half w) m
  | none => (landWord l slot pane half w, false)

/-- The pane of a pixel and its word in the pane (R3, R394). -/
def paneOf (x y : Nat) : Nat := y / 30 * 15 + x / 32
def pixelWord (x y : Nat) : Nat := y % 30 * 32 + x % 32

/-- The code of colour `c` in a data word (R395). -/
def codeIn (w c : Nat) : Nat := bits w (20 * c + 19) (20 * c)

/-- The row sum S16 of a row of a pane, a half of the row and a colour (R412), as recomputed under R427 where it was. -/
def rowSum (l : Landing) (slot pane half row side c : Nat) : Nat :=
  match l.resum.find? (fun r => r.slot == slot && r.pane == pane && r.half == half && r.row == row && r.side == side && r.c == c) with
  | some r => r.value
  | none => ((List.range 16).map (fun i => codeIn (landWord l slot pane half (row * 32 + 16 * side + i)) c)).foldl (· + ·) 0

/-- The drift factor of a group in force (R419, R420): the one computed at the flip, 32 768 while DRIFT_EN is 0. -/
def driftK (g c : Nat) (s : State) : Nat := if s.tile.lr.driftNow then (s.tile.ld.ks.getD g []).getD c 32768 else 32768

/-- The group of a pixel (R415, "The lamp temperature field"). -/
def fieldGroupOf (x y : Nat) : Nat := y / 15 * 30 + x / 16

/-- The scan rows of a scan slot: the pixel rows y = 68b + r that exist. -/
def slotRows (r : Nat) : List (Nat × Nat) := ((List.range 4).map (fun b => (b, 68 * b + r))).filter (fun e => e.2 < 270)

/-- PRED(c, r) in µA (R421), from the halves in view of a slot image. DEDUCED, log entry 60. -/
def predOf (slot c r : Nat) (s : State) : Nat :=
  let l := s.tile.ld
  let phi := phiSet s
  let total := ((slotRows r).map (fun e =>
    let y := e.2
    iBankNow c e.1 s * phi *
      ((List.range 30).map (fun gx =>
        let pane := y / 30 * 15 + gx / 2
        driftK (y / 15 * 30 + gx) c s * rowSum l slot pane (shownHalf l slot pane) (y % 30) (gx % 2) c)).foldl (· + ·) 0)).foldl (· + ·) 0
  total / 2 ^ 59

/-- F(c, r) (R421, R422). -/
def factorOf (c pred : Nat) (s : State) : Nat :=
  let l := s.tile.ld
  if ¬ l.limitEn then 65536
  else
    let m := govScale l.q
    if pred = 0 then m else min m (65536000 * l.limNow.peaks.getD c 4000 / pred)

/-- The delivered code (R418). DEDUCED, log entry 60. -/
def delivered (code k f : Nat) : Nat := min 0xFFFFF (code * k * f / 2 ^ 31)

/-! ## Larder -/

/-- The identity record (R414). -/
def identityRec : Nat := 1024 + 1024 * 2 ^ 48 + 1024 * 2 ^ 96

/-- A read of one of the two words of a record of the working copy, with its parity check (R424). -/
def larderWord (i w : Nat) (s : State) : Nat × Bool :=
  let v := bits ((getKey s.tile.lr.recs i).getD identityRec) (64 * w + 63) (64 * w)
  match getKey s.tile.lr.flips (i, w) with
  | some m => readWord v m
  | none => (v, false)

/-- A record of the working copy fails parity. -/
def larderFails (i : Nat) (s : State) : Bool := (larderWord i 0 s).2 || (larderWord i 1 s).2

/-- A record without its reserved bits, which read 0 (R7, R414): bits 127 and 111, and the slopes in a record that is no anchor
(R415). -/
def recMask (i v : Nat) : Nat :=
  let isAnchor := i % 480 % 16 = 0 ∧ i / 480 % 15 = 0
  bits v 110 0 + (if isAnchor then 2 ^ 112 * bits v 126 112 else 0)

/-- A record of the working copy, as it reads. -/
def larderRec (i : Nat) (s : State) : Nat := recMask i ((larderWord i 0 s).1 + 2 ^ 64 * (larderWord i 1 s).1)

/-- Set a record of the working copy; identity records are not listed. -/
def setRec (l : List (Nat × Nat)) (i v : Nat) : List (Nat × Nat) :=
  if recMask i v = identityRec then delKey l i else putKey l i (recMask i v)

/-- Write a record of the working copy, with parity (R424). -/
def writeRec (i v : Nat) (l : Larder) : Larder :=
  { l with recs := setRec l.recs i v, flips := l.flips.filter (fun f => f.1.1 ≠ i), bad := l.bad.erase i }

/-- A signed field of a record. -/
def recField (r hi lo : Nat) : Int := signed (hi + 1 - lo) (bits r hi lo)

/-- The slope of a group and colour, from its anchor record (R415). -/
def deltaOf (g c : Nat) (s : State) : Int :=
  let r := larderRec (g / 30 * 15 * 480 + g % 30 * 16) s
  recField r (116 + 5 * c) (112 + 5 * c)

/-- k of R419 for a group and colour. -/
def driftFactor (lim : Limits) (g c : Nat) (temp : Int) (s : State) : Nat :=
  let sigma := lim.base.getD c 0 + 8 * deltaOf g c s
  (clampI 24576 40960 (32768 - roundI (sigma * (temp - lim.tRef)) 32)).toNat

/-! ## What the Tile sends -/

/-- The Heads of the pair that reach the Tile, by its route table (R96, R336): the HEAD bit of each. -/
def headsReaching (s : State) : List Bool :=
  (if s.tile.po.routeA = 0xFF then [] else [false]) ++ (if s.tile.po.routeB = 0xFF then [] else [true])

/-- Word 0 of a packet that the Tile originates (R332), with a type's own bits. -/
def tileWord0 (typ own : Nat) (headB : Bool) (s : State) : Nat :=
  typ + 128 * b2n headB + own + 2 ^ 32 * (s.tile.sys.position - 1) + 2 ^ 36 * s.tile.sys.chain + 2 ^ 41 * s.tile.sys.pair

/-- Send a packet of the Tile by the route table (R336). -/
def tileSend (typ cls len : Nat) (headB : Bool) (payload : List Byte) (s : State) : State :=
  hand .tile (routePort headB s) (tilePkt typ cls len headB payload s) s

/-- Post an event of Landing at most once per second, by a key. DEDUCED, log entry 59. -/
def postOnce (key : Nat) (sev code : Nat) (a : BitVec 32) (b : BitVec 64) (s : State) : State :=
  if s.now < ((getKey s.tile.ld.posted key).map (fun t => t + 1000000000)).getD 0 then s
  else post .tile 0x0A sev code a b (updLd (fun l => { l with posted := putKey l.posted key s.now }) s)

/-- No frame can be chosen at the Tile (R649). DEDUCED, log entry 56. -/
def noFrames (s : State) : Bool := s.tile.mt.tick.isNone

end Sys2Proof.Machine
end

