-- ==== Sys2Proof/Machine/Chimney.lean ====
section
/-!
DEFINITION. Chimney of both parts (R539 to R563): die sensors and bands, the lamp temperature field, the self-trim of sinks
and terminations and the saved trims. The shutdown sequence stands in Machine/Startup.lean.
-/
namespace Sys2Proof.Machine

/-- Chimney of a part. -/
def chOf (p : Part) (s : State) : Chimney := match p with | .head => s.head.ch | .tile => s.tile.ch

/-- Change it. -/
def updCh (p : Part) (f : Chimney → Chimney) (s : State) : State :=
  match p with
  | .head => { s with head.ch := f s.head.ch }
  | .tile => { s with tile.ch := f s.tile.ch }

/-! ## Die sensors (R539 to R543) -/

/-- WARM, HOT and trip bounds of a sensor, in 1/16 °C (R539). -/
def sensorBounds (p : Part) (k : Nat) : Int × Int × Int :=
  match p with
  | .head => (1520, 1680, 1840)
  | .tile => if k < 4 then (1600, 1760, 1920) else (1760, 1920, 2080)

/-- A sensor's reading as it counts: a broken sensor reads the lower bound of HOT (R541). -/
def sensorValue (p : Part) (k : Nat) (c : Chimney) : Int :=
  if c.broken.getD k false then (sensorBounds p k).2.1 else c.temps.getD k 0

/-- The band of a reading: entered at its bound, left 3 °C below it (R543). -/
def bandOf (lo hi v : Int) (band : Nat) : Nat :=
  if hi ≤ v ∨ (band = 2 ∧ hi - 48 < v) then 2
  else if lo ≤ v ∨ (1 ≤ band ∧ lo - 48 < v) then 1
  else 0

/-- Take one conversion of every sensor (R540, R541). -/
def convert (p : Part) (readings : List (Option Int)) (c : Chimney) : Chimney :=
  let ok := fun (k : Nat) => match readings.getD k none with | some v => decide (-640 ≤ v ∧ v ≤ 2400) | none => false
  let run := c.badRun.mapIdx (fun k n => if ok k then 0 else n + 1)
  let c1 := { c with
    temps := c.temps.mapIdx (fun k t => if ok k then (readings.getD k none).getD t else t)
    badRun := run
    broken := c.broken.mapIdx (fun k b => b || decide (3 ≤ run.getD k 0)) }
  { c1 with bands := c1.bands.mapIdx (fun k b =>
      bandOf (sensorBounds p k).1 (sensorBounds p k).2.1 (sensorValue p k c1) b) }

/-- The sensor that indicates the highest band. -/
def hottest (c : Chimney) : Nat × Nat :=
  (List.range c.bands.length).foldl (fun a k => if a.1 < c.bands.getD k 0 then (c.bands.getD k 0, k) else a) (0, 0)

/-- Post CH_SENSOR_BROKEN once for each broken sensor (R541). -/
def postBroken (p : Part) (s : State) : State :=
  (List.range (chOf p s).broken.length).foldl (fun a k =>
    if (chOf p a).broken.getD k false ∧ ¬ (chOf p a).brokenPosted.getD k false then
      post p 0x0F 3 0x0002 (BitVec.ofNat 32 k) 0
        (updCh p (fun c => { c with brokenPosted := upd c.brokenPosted k (fun _ => true) }) a)
    else a) s

/-- Every sensor lies at least 20 °C below its trip threshold (R551), the Head's stacks too. -/
def isCool (p : Part) (s : State) : Bool :=
  let c := chOf p s
  (List.range c.temps.length).all (fun k => decide (sensorValue p k c ≤ (sensorBounds p k).2.2 - 320)) &&
    (match p with
     | .head => s.head.cl.stks.all (fun x => decide (x.temp ≤ 1680 - 320))
     | .tile => true)

/-- The die band after a conversion (R543): CH_BAND at a change, THERM_ALERT_N on the Head. -/
def dieBandStep (p : Part) (s : State) : State :=
  let h := hottest (chOf p s)
  let old := (chOf p s).dieBand
  if h.1 = old then s
  else
    let s1 := post p 0x0F 1 0x0001 (BitVec.ofNat 32 (h.1 + 256 * h.2)) 0 (updCh p (fun c => { c with dieBand := h.1 }) s)
    if p = .head ∧ (h.1 = 0) ≠ (old = 0) then emit .head (.pin .thermAlert (decide (h.1 = 0))) s1 else s1

/-- Note how long a tripped part has been cool (R551). -/
def noteCool (p : Part) (s : State) : State :=
  updCh p (fun c => { c with coolSince := if c.tripped ∧ isCool p s then some (c.coolSince.getD s.now) else none }) s

/-- Whether the always-on domain of a part runs. -/
def aonRuns (p : Part) (s : State) : Bool :=
  match p with
  | .head => s.head.sys.phase != .off
  | .tile => s.tile.sys.phase != .off

/-- SENSOR_CONVERSION (R540 to R543, R551): once per millisecond, in reset too. -/
def execSensorConversion (p : Part) (readings : List (Option Int)) (s : State) : Host.Outcome State Fault Refusal :=
  .next
    (if ¬ aonRuns p s ∨ s.now < (chOf p s).convAt + 1000000 then s
     else
       let s1 := updCh p (fun c => { convert p readings c with convAt := s.now }) s
       if inService p s then noteCool p (dieBandStep p (postBroken p s1)) else noteCool p s1)

/-! ## The lamp temperature field (R545 to R547) -/

/-- T16 of a sample (R545). DEDUCED, log entry 71. -/
def sampleTemp (cal : VfCal) (i vf : Int) : Int :=
  cal.tCal + roundI (-(16000 * (1000 * (vf - cal.vfRef) - cal.rs * (i - cal.iRef)))) (1000 * -cal.kt)

/-- Take a forward-voltage sample of a lamp (R454, R545). -/
def fieldSample (x y c : Nat) (vf : Int) (s : State) : State :=
  let cal := s.tile.ch.vfNow.getD c { vfRef := 0, kt := -1 }
  let t := sampleTemp cal (iSink (sinkOf x y c) s) vf
  if t < -640 ∨ 2400 < t then s
  else updCh .tile (fun h => { h with field := upd h.field (fieldGroupOf x y) (fun g => { g with n := g.n + 1, sum := g.sum + t }) }) s

/-- A group at a flip (R546); `period` is P in ns. -/
def fieldStep (period : Nat) (g : FieldGroup) : FieldGroup :=
  if 4 ≤ g.n then
    let m := roundI g.sum g.n
    { value := some (match g.value with | none => m | some v => v + roundI (m - v) 8) }
  else
    let age := g.age + period
    { value := if 10000000000 ≤ age then none else g.value, age := age }

/-- The median of a list of readings; of an even count the mean of the two in the middle, rounded under R254.
DEDUCED, log entry 71. -/
def median (l : List Int) : Int :=
  let t := sortI l
  let n := t.length
  if n % 2 = 1 then t.getD (n / 2) 0 else roundI (t.getD (n / 2 - 1) 0 + t.getD (n / 2) 0) 2

/-- The Tile's temperature band of a temperature (R547). -/
def lampBandOf (v : Int) (band : Nat) : Nat :=
  let inBand := fun (k : Nat) (lo : Int) => decide (lo ≤ v) || (decide (k ≤ band) && decide (lo - 48 < v))
  if inBand 3 960 then 3 else if inBand 2 640 then 2 else if inBand 1 320 then 1 else 0

/-- The band from the field, or from the drive-tier sensors with fewer than 54 valid groups (R547). -/
def bandStep (s : State) : State :=
  let c := s.tile.ch
  let valid := c.field.filterMap (fun g => g.value)
  let l := if valid.length < 54 then (List.range 4).map (fun k => sensorValue .tile (k + 4) c) else valid
  updCh .tile (fun c => { c with lampBand := lampBandOf (median l) c.lampBand }) s

/-- The hottest valid group. -/
def hotGroup (c : Chimney) : Option Int :=
  (c.field.filterMap (fun g => g.value)).foldl (fun a v => match a with | some b => some (max b v) | none => some v) none

/-- HOT_BUDGET_MW and LAMP_HOT come into force, and with them the LAMP_HOT bit of CH_STATUS. -/
def setHotLimits (s : State) : State :=
  updCh .tile (fun c =>
    { c with
      hotBudgetNow := c.hotBudget, lampHotSet := c.lampHot
      lampHotNow := match hotGroup c with | some v => decide ((c.lampHot : Int) ≤ v) | none => false }) s

/-- The HOT cap at a flip (R544). -/
def hotCapStep (s : State) : State :=
  let s1 := setHotLimits s
  let c := s1.tile.ch
  let on := c.hotCapEn && (c.dieBand == 2 || c.lampHotNow)
  let s2 := updCh .tile (fun c => { c with hotCap := on }) s1
  if on = c.hotCap then s2
  else post .tile 0x0F 1 0x0004 (BitVec.ofNat 32 (b2n on)) (BitVec.ofInt 64 ((hotGroup c).getD (-32768))) s2

/-! ## Self-trim of sinks (R556 to R559) -/

/-- The last accepted measurement of a segment, nominal before the first. DEDUCED, log entry 71. -/
def segValue (c : Chimney) (k j : Nat) : Nat := ((getKey c.segs (k, j)).map (fun g => g.m)).getD 4096

/-- The segments a sink has selected. DEDUCED, log entry 72. -/
def sinkSel (c : Chimney) (k : Nat) : BitVec 20 := (getKey c.sels k).getD 0xFFFF

/-- Take one measurement (R556, R558). -/
def measureSegment (idx m : Nat) (s : State) : State :=
  let k := idx / 20
  let j := idx % 20
  let c := s.tile.ch
  let t := sensorValue .tile (4 + k / 1440) c
  let put := fun (g : Segment) (s : State) => updCh .tile (fun c => { c with segs := putKey c.segs (k, j) g }) s
  match getKey c.segs (k, j) with
  | none => put { m := m, temp := t } s
  | some g =>
    if 410 < ((m : Int) - g.m).natAbs ∧ (t - g.temp).natAbs < 80 then
      let s1 := updCh .tile (fun c => { c with rejects := c.rejects + 1, trimReject := true }) s
      if 2 ≤ g.rejected then
        post .tile 0x0F 1 0x0006 (BitVec.ofNat 32 (k + 65536 * j)) (BitVec.ofNat 64 m) (put { m := m, temp := t } s1)
      else put { g with rejected := g.rejected + 1 } s1
    else put { m := m, temp := t } s

/-- The quiet slot's measurements (R441, R556): 8 segments in rotation, and the bank references. DEDUCED, log entry 72. -/
def measureSlot (obs : RowObs) (s : State) : State :=
  let at0 := s.tile.ch.segAt
  let s1 := (List.range 8).foldl (fun a i =>
    match obs.segs[i]? with
    | some m => measureSegment (at0 + i) m a
    | none => a) s
  let worst := fun (a b : Int) => if a.natAbs < b.natAbs then b else a
  updCh .tile (fun c =>
    { c with
      segAt := (at0 + 8) % 115200, sweepDone := c.sweepDone || decide (115200 ≤ at0 + 8)
      refErr := c.refErr.mapIdx (fun b e => worst e (obs.refErr.getD b 0)) }) s1

/-- Segments of a mask. -/
def segList (m : BitVec 20) : List Nat := (List.range 20).filter (fun j => m.getLsbD j)

/-- Mask of a list of segments. -/
def segMask (l : List Nat) : BitVec 20 := l.foldl (fun m j => m ||| (1#20 <<< j)) 0

/-- The candidates with the least cost, then one of them by a free choice. DESIGN CHOICE, log entry 33. -/
def leastBy (k : Nat) (l : List (Nat × Nat)) (cost : Nat × Nat → Nat) : Option (Nat × Nat) :=
  match l.map cost with
  | [] => none
  | c :: cs =>
    let best := cs.foldl min c
    let ties := l.filter (fun e => cost e == best)
    ties[Config.pick k % max 1 ties.length]?

/-- Add spares until 16 segments are active (R557). -/
def addSpares (k : Nat) (m : Nat → Nat) : Nat → List Nat → List Nat → List Nat × List Nat
  | 0, act, spare => (act, spare)
  | n + 1, act, spare =>
    if 16 ≤ act.length ∨ spare.isEmpty then (act, spare)
    else
      let sum : Int := ((act.map m).foldl (· + ·) 0 : Nat)
      match leastBy k (spare.map (fun j => (j, 0))) (fun e => (sum + m e.1 - 65536).natAbs) with
      | some e => addSpares k m n (act ++ [e.1]) (spare.erase e.1)
      | none => (act, spare)

/-- A sink's new selection (R557), and whether it is DEGRADED. DEDUCED, log entry 72. -/
def evalSink (k : Nat) (m : Nat → Nat) (sel : BitVec 20) : BitVec 20 × Bool :=
  let bad := fun (j : Nat) => m j < 2048 || 6144 < m j
  let r := addSpares k m 20 ((segList sel).filter (fun j => !bad j))
    ((List.range 20).filter (fun j => !sel.getLsbD j && !bad j))
  let e : Int := (((r.1.map m).foldl (· + ·) 0 : Nat) : Int) - 65536
  if r.1.length < 16 then (segMask r.1, true)
  else if 328 < e.natAbs then
    let cost := fun (p : Nat × Nat) => (e - m p.1 + m p.2).natAbs
    match leastBy k (r.1.flatMap (fun a => r.2.map (fun b => (a, b)))) cost with
    | some p => if 40 + cost p ≤ e.natAbs then (segMask (p.2 :: r.1.erase p.1), false) else (segMask r.1, false)
    | none => (segMask r.1, false)
  else (segMask r.1, false)

/-- Evaluate one sink after a sweep (R557, R559). -/
def trimSink (k : Nat) (s : State) : State :=
  let c := s.tile.ch
  let d := draw s
  let r := evalSink d.1 (segValue c k) ((getKey c.selPend k).getD (sinkSel c k))
  let n := (segList r.1).length
  let s1 := if r.1 = sinkSel c k then updCh .tile (fun c => { c with selPend := delKey c.selPend k }) d.2
    else updCh .tile (fun c => { c with selPend := putKey c.selPend k r.1, saveDue := true }) d.2
  if r.2 then
    if c.degraded.contains k then s1
    else post .tile 0x0F 2 0x0007 (BitVec.ofNat 32 (k + 65536 * n)) 0
      (updCh .tile (fun c => { c with degraded := c.degraded ++ [k], trimDegraded := true }) s1)
  else updCh .tile (fun c => { c with degraded := c.degraded.erase k }) s1

/-- A sweep ends (R558): what it measured of a bank whose sweep is discarded goes. DEDUCED, log entry 72. -/
def keepSweep (badBank : Nat → Bool) (c : Chimney) : Chimney :=
  let segs := c.segs.filter (fun e => !badBank (e.1.1 / 1440)) ++ c.segsKept.filter (fun e => badBank (e.1.1 / 1440))
  { c with segs := segs, segsKept := segs }

/-- Pending selections take effect (R559). DEDUCED, log entry 49. -/
def applySels (s : State) : State :=
  updCh .tile (fun c => { c with sels := c.selPend.foldl (fun l e => putKey l e.1 e.2) c.sels, selPend := [] }) s

/-- While no ticks run, no refresh cycle has begun that a new selection would wait for (R559). DEDUCED, log entry 72. -/
def applyIdle (s : State) : State := if noFrames s then applySels s else s

/-- TRIM_SWEEP_EVAL (R557, R558): a bank whose reference lies outside ±5 % keeps its selections. -/
def execTrimSweepEval (s : State) : Host.Outcome State Fault Refusal :=
  onPart .tile (fun s =>
    if ¬ s.tile.ch.sweepDone then s
    else
      let errs := s.tile.ch.refErr
      let badBank := fun (b : Nat) => decide (4096 < 20 * (errs.getD b 0).natAbs)
      let s1 := (List.range 4).foldl (fun a b =>
        if badBank b then post .tile 0x0F 2 0x0008 (BitVec.ofNat 32 b) (BitVec.ofInt 64 (errs.getD b 0)) a else a)
        (updCh .tile (keepSweep badBank) s)
      let s2 := if s.tile.ch.sinkEn then
          (List.range 5760).foldl (fun a k => if badBank (k / 1440) then a else trimSink k a) s1
        else s1
      applyIdle (updCh .tile (fun c => { c with sweepDone := false, refErr := [0, 0, 0, 0] }) s2)) s

/-! ## Self-trim of termination (R560) -/

/-- The codes of a lane. -/
def termOf (c : Chimney) (port lane : Nat) : TermCode :=
  (c.terms.find? (fun t => t.port == port && t.lane == lane)).getD { port := port, lane := lane }

/-- Set them. -/
def setTerm (t : TermCode) (c : Chimney) : Chimney :=
  { c with terms := c.terms.filter (fun x => ¬ (x.port = t.port ∧ x.lane = t.lane)) ++ [t] }

/-- One step of a code toward its target. -/
def stepTo (v want : Nat) : Nat := if v < want then v + 1 else if want < v then v - 1 else v

/-- A port whose lanes take a new code at once. DEDUCED, log entry 72. -/
def freeToTrim (p : Part) (port : Nat) (s : State) : Bool :=
  match (portAt p port s).state with
  | .disabled => true
  | .detect => true
  | .train => true
  | _ => false

/-- Move a lane's codes: at once, or one step per half. DEDUCED, log entry 72. -/
def moveTerm (p : Part) (t : TermCode) (s : State) : State :=
  let t' := if freeToTrim p t.port s then { t with p := t.wantP, n := t.wantN }
    else { t with p := stepTo t.p t.wantP, n := stepTo t.n t.wantN, steppedAt := s.now }
  if t'.p = t.p ∧ t'.n = t.n then s else updCh p (fun c => { setTerm t' c with saveDue := true }) s

/-- Every lane's step at a flip or at T_N (R560). -/
def stepTerms (p : Part) (s : State) : State := (chOf p s).terms.foldl (fun a t => moveTerm p t a) s

/-- TERM_TRIM_MEASURE: the target codes of both halves of a lane. -/
def execTermTrimMeasure (p : Part) (port lane : Nat) (targetP targetN : Int) (s : State) : Host.Outcome State Fault Refusal :=
  onPart p (fun s =>
    let c := chOf p s
    let lanes := ((portAt p port s).lanes).length
    if ¬ c.termEn ∨ lanes ≤ lane then s
    else
      let t := termOf c port lane
      let bad := fun (v : Int) => decide (v < 4 ∨ 27 < v)
      let t1 := { t with
        wantP := if bad targetP then t.p else targetP.toNat
        wantN := if bad targetN then t.n else targetN.toNat }
      let s1 := if (bad targetP ∨ bad targetN) ∧ ¬ t.limited then
          post p 0x0F 2 0x0009 (BitVec.ofNat 32 (port + 256 * lane)) (BitVec.ofInt 64 (if bad targetP then targetP else targetN))
            (updCh p (setTerm { t1 with limited := true }) s)
        else updCh p (setTerm t1) s
      let t2 := termOf (chOf p s1) port lane
      let ticks := (mtOf p s1).tick.isSome
      if freeToTrim p port s1 ∨ (¬ ticks ∧ t2.steppedAt + 1000000 ≤ s1.now) then moveTerm p t2 s1 else s1) s

/-! ## Saved trims (R561, R573) -/

/-- The records that hold the present trims. DEDUCED, log entry 53. -/
def trimRecords (p : Part) (s : State) : List (Nat × Nat × List Byte) :=
  let c := chOf p s
  let terms := [(keyTerm, 0, c.terms.flatMap (fun t => [BitVec.ofNat 8 t.port, BitVec.ofNat 8 t.lane, BitVec.ofNat 8 t.p, BitVec.ofNat 8 t.n]))]
  match p with
  | .head => terms
  | .tile =>
    (List.range 6).map (fun b => (keySinkSel, b, (List.range 960).flatMap (fun i => leBytes 4 (sinkSel c (960 * b + i)).toNat))) ++ terms

/-- Save changed trims. -/
def saveTrims (p : Part) (s : State) : State :=
  if (chOf p s).saveDue then
    writeSettings p (trimRecords p s) none (updCh p (fun c => { c with saveDue := false, savedAt := s.now }) s)
  else s

/-- TRIM_SAVE (R561): at most once per 10 min. -/
def execTrimSave (p : Part) (s : State) : Host.Outcome State Fault Refusal :=
  onPart p (fun s => if (chOf p s).savedAt + 600000000000 ≤ s.now then saveTrims p s else s) s

/-- Cut a byte list into fields of 4 bytes. -/
def fours : List Byte → List (List Byte)
  | a :: b :: c :: d :: r => [a, b, c, d] :: fours r
  | _ => []

/-- Take the saved trims at a start, or the factory values (R561). -/
def restoreTrims (p : Part) (s : State) : State :=
  let term := readSetting p keyTerm 0 s
  let sels := (List.range 6).map (fun b => readSetting p keySinkSel b s)
  let have_ := term.isSome && (p == .head || sels.all (fun r => r.isSome))
  if have_ then
    let terms := ((term.map (fun r => fours r.payload)).getD []).map (fun b =>
      let v := fun (i : Nat) => fld b i 1
      ({ port := v 0, lane := v 1, p := v 2, n := v 3, wantP := v 2, wantN := v 3 } : TermCode))
    let masks := if p = .head then [] else
      (sels.mapIdx (fun b r => ((r.map (fun r => fours r.payload)).getD []).mapIdx (fun i x =>
        (960 * b + i, BitVec.ofNat 20 (leNat x))))).flatten
    updCh p (fun c => { c with terms := terms, sels := masks.filter (fun e => e.2 ≠ 0xFFFF) }) s
  else
    post p 0x0F 1 0x000A 0 0 (updCh p (fun c => { c with terms := [], sels := [], trimDefaulted := true }) s)

/-! ## Commands (R562) -/

def chCtl (c : Chimney) : Nat := 4 * b2n c.hotCapEn + 2 * b2n c.termEn + b2n c.sinkEn

def chStatus (c : Chimney) : Nat :=
  32768 * b2n c.tripRestart + 16384 * b2n c.oscUncomp + 8192 * b2n c.lampHotNow + 4096 * b2n c.hotCap +
    2048 * b2n c.trimDefaulted + 64 * c.lampBand + 16 * c.dieBand + 8 * b2n (c.broken.any id) + 4 * b2n c.trimDegraded +
    2 * b2n c.trimReject

/-- Trips within the last 60 min. -/
def recentTrips (c : Chimney) (now : Nat) : Nat := (c.trips.filter (fun t => now ≤ t + 3600000000000)).length

def chTripLog (c : Chimney) (now : Nat) : Nat := 16777216 * min 255 (recentTrips c now) + 65536 * c.tripSensor + c.tripCause

/-- CH_TEMP_s. -/
def chTemp (c : Chimney) (k : Nat) : Nat := if c.broken.getD k false then 0x8000 else unsigned 16 (c.temps.getD k 0)

/-- A group's value as CH_FIELD shows it. -/
def chField (c : Chimney) (g : Nat) : Nat :=
  match ((c.field.getD g {}).value) with
  | some v => unsigned 16 v
  | none => 0x8000

def specChGetStatus : OpSpec where
  opcode := 0x0F01
  onTile := true
  run := fun c s =>
    let h := chOf c.part s
    ok c 0x0F01 (leBytes 4 (chStatus h) ++ leBytes 4 (chTripLog h s.now) ++ leBytes 1 h.temps.length ++ zeros 3 ++
      (List.range h.temps.length).flatMap (fun k => leBytes 2 (chTemp h k))) s

def execChGetStatus (c : Cmd) (s : State) : Host.Outcome State Fault Refusal := runCmd specChGetStatus c s

def specChSetLimits : OpSpec where
  opcode := 0x0F02
  onHead := false
  onTile := true
  fits := fun n => n == 4
  params := fun c _ => firstErr [inRange (fld c.params 0 2) 2000 28000 0, inRange (fld c.params 2 2) 800 1920 2]
  run := fun c s =>
    let s1 := updCh .tile (fun h => { h with hotBudget := fld c.params 0 2, lampHot := fld c.params 2 2 }) s
    ok c 0x0F02 [] (if noFrames s1 then hotCapStep s1 else s1)

def execChSetLimits (c : Cmd) (s : State) : Host.Outcome State Fault Refusal := runCmd specChSetLimits c s

/-- CH_SET_VF_CAL: stored in the Tile's settings, in force from the next flip. -/
def specChSetVfCal : OpSpec where
  opcode := 0x0F03
  onHead := false
  onTile := true
  fits := fun n => n == 12
  params := fun c _ =>
    let p := c.params
    firstErr [inRange (fld p 0 1) 0 2 0, need (decide (-6000 ≤ sfld p 4 2 ∧ sfld p 4 2 ≤ -500)) (badParam 4),
      inRange (fld p 6 1) 0 100 6, inRange (fld p 8 2) 50 1500 8]
  run := fun c s =>
    let p := c.params
    let cal : VfCal := { vfRef := fld p 2 2, kt := sfld p 4 2, rs := fld p 6 1, iRef := fld p 8 2, tCal := sfld p 10 2 }
    let s1 := updCh .tile (fun h => { h with vf := upd h.vf (fld p 0 1) (fun _ => cal) }) s
    let s2 := if noFrames s1 then updCh .tile (fun h => { h with vfNow := h.vf }) s1 else s1
    writeSettings .tile [(keyVfCal, fld p 0 1, p)] (some (c, 0x0F03, [])) s2

def execChSetVfCal (c : Cmd) (s : State) : Host.Outcome State Fault Refusal := runCmd specChSetVfCal c s

def specChGetField : OpSpec where
  opcode := 0x0F04
  onHead := false
  onTile := true
  fits := fun n => n == 4
  params := fun c _ => firstErr [inRange (fld c.params 0 2) 0 539 0, inRange (fld c.params 2 2) 1 540 2,
    need (fld c.params 0 2 + fld c.params 2 2 ≤ 540) (badParam 2)]
  run := fun c s =>
    ok c 0x0F04 (leBytes 4 s.tile.ld.shownFn.toNat ++
      (List.range (fld c.params 2 2)).flatMap (fun i => leBytes 2 (chField s.tile.ch (fld c.params 0 2 + i)))) s

def execChGetField (c : Cmd) (s : State) : Host.Outcome State Fault Refusal := runCmd specChGetField c s

/-- An entry of CH_GET_TRIM. -/
def trimEntry (p : Part) (kind i : Nat) (s : State) : Nat :=
  let c := chOf p s
  if kind = 0 then (sinkSel c i).toNat + 2 ^ 20 * b2n (c.degraded.contains i)
  else
    let t := termOf c (i / 4) (i % 4)
    i / 4 + 64 * (i % 4) + 256 * t.p + 8192 * t.n

def specChGetTrim : OpSpec where
  opcode := 0x0F05
  onTile := true
  fits := fun n => n == 6
  params := fun c s =>
    let p := c.params
    let top := if fld p 0 1 = 0 then 5760 else 4 * portCountOf c.part s
    firstErr [inRange (fld p 0 1) (if c.part = .head then 1 else 0) 1 0, inRange (fld p 4 2) 1 500 4,
      need (fld p 2 2 < top) (badParam 2), need (fld p 2 2 + fld p 4 2 ≤ top) (badParam 4)]
  run := fun c s =>
    let p := c.params
    ok c 0x0F05 ((List.range (fld p 4 2)).flatMap (fun i => leBytes 4 (trimEntry c.part (fld p 0 1) (fld p 2 2 + i) s))) s
where
  portCountOf (p : Part) (s : State) : Nat := (portsOf p s).length

def execChGetTrim (c : Cmd) (s : State) : Host.Outcome State Fault Refusal := runCmd specChGetTrim c s

/-- The fuse values return, under R559 and R560. -/
def restoreFactory (p : Part) (s : State) : State :=
  let s1 := updCh p (fun c =>
    { c with
      selPend := c.sels.map (fun e => (e.1, 0xFFFF)), degraded := [], saveDue := true
      terms := c.terms.map (fun t => { t with wantP := 16, wantN := 16 }) }) s
  applyIdle ((chOf p s1).terms.foldl (fun a t => if freeToTrim p t.port a then moveTerm p t a else a) s1)

/-- CH_TRIM_CTL. -/
def specChTrimCtl : OpSpec where
  opcode := 0x0F06
  onTile := true
  fits := fun n => n == 4
  run := fun c s =>
    let f := fld c.params 0 1
    let s1 := updCh c.part (fun h => { h with sinkEn := if c.part = .tile then bit f 0 else h.sinkEn, termEn := bit f 1 }) s
    ok c 0x0F06 [] (if bit f 2 then restoreFactory c.part s1 else s1)

def execChTrimCtl (c : Cmd) (s : State) : Host.Outcome State Fault Refusal := runCmd specChTrimCtl c s

/-- Chimney's part of a flip (R546, R547, R544, R559, R560); `period` is P in ns. -/
def chimneyFlip (period : Nat) (s : State) : State :=
  let s1 := updCh .tile (fun c => { c with field := c.field.map (fieldStep period), vfNow := c.vf }) s
  stepTerms .tile (applySels (hotCapStep (bandStep s1)))

end Sys2Proof.Machine
end

