-- ==== Sys2Proof/Machine/CellarOps.lean ====
section
/-!
DEFINITION. Cellar's operations (R176 to R189, R197 to R200, R239): the memory and its error correction, requests and the queues
in which they wait for a stack, and the reads and writes of the Head's blocks.
-/
namespace Sys2Proof.Machine

/-! ## Memory -/

/-- The byte at an address; an unlisted address reads 0 (DESIGN CHOICE, log entry 5). -/
def memGet : List Host.Cell → Nat → Byte
  | [], _ => 0
  | (k, v) :: r, a => if k = a then v else memGet r a

/-- Write one byte, keeping addresses rising and listing no 0. DESIGN CHOICE, log entry 5. -/
def memPut : List Host.Cell → Nat → Byte → List Host.Cell
  | [], a, b => if b = 0 then [] else [(a, b)]
  | (k, v) :: r, a, b =>
    if a < k then (if b = 0 then (k, v) :: r else (a, b) :: (k, v) :: r)
    else if a = k then (if b = 0 then r else (a, b) :: r)
    else (k, v) :: memPut r a b

/-- Write bytes at consecutive addresses. -/
def memPutAll : List Host.Cell → Nat → List Byte → List Host.Cell
  | m, _, [] => m
  | m, a, b :: r => memPutAll (memPut m a b) (a + 1) r

/-- `n` bytes from an address on. -/
def memGetN (m : List Host.Cell) (a n : Nat) : List Byte := (List.range n).map (fun i => memGet m (a + i))

/-- Addresses rise from above `lo` on and no byte listed is 0. -/
def Memory.wfFrom (lo : Nat) : List Host.Cell → Bool
  | [] => true
  | (k, v) :: r => decide (lo ≤ k) && v != 0 && Memory.wfFrom (k + 1) r

/-- The canonical form of a memory. DESIGN CHOICE, log entry 5. -/
def Memory.wf (m : List Host.Cell) : Bool := Memory.wfFrom 0 m

/-! ## Address mapping -/

/-- The end of Cellar for commands (R177), and of Cellar itself (R176). -/
abbrev cellarEnd : Nat := 0xA00000000
abbrev cellarTop : Nat := 0xC00000000

/-- Parity of a 22-bit number. -/
def parity22 (v : BitVec 22) : Bool := (List.range 22).foldl (fun a i => a != v.getLsbD i) false

/-- The granule number g = A[35:14] (R179). -/
def granule (a : Nat) : BitVec 22 := BitVec.ofNat 22 (a / 16384)

/-- Bit j of p (R179). -/
def pcBit (cl : Cellar) (a j : Nat) : Bool := (a.testBit (8 + j)) != parity22 (granule a &&& cl.pcXor.getD j 0)

/-- Bit i of b (R179). -/
def bankBit (cl : Cellar) (a i : Nat) : Bool := ((granule a).getLsbD (2 + i)) != parity22 (granule a &&& cl.bkXor.getD i 0)

/-- Where Cellar keeps an address (R179): stack, channel, pseudo-channel, stack ID, bank group, bank, row, column,
byte. -/
structure CellarLoc where
  stack : Nat
  channel : Nat
  pseudo : Nat
  sid : Nat
  group : Nat
  bank : Nat
  row : Nat
  column : Nat
  byte : Nat
  deriving DecidableEq, Repr

/-- The mapping of R179. -/
def cellarLoc (cl : Cellar) (a : Nat) : CellarLoc :=
  let p := fun j => b2n (pcBit cl a j)
  let b := fun i => b2n (bankBit cl a i)
  { stack := p 5, channel := p 1 + 2 * p 2 + 4 * p 3 + 8 * p 4, pseudo := p 0, sid := b 4,
    group := b 2 + 2 * b 3, bank := b 0 + 2 * b 1, row := (granule a).toNat / 128,
    column := (granule a).toNat % 4 * 8 + bits a 7 5, byte := a % 32 }

/-- The stack of an address. -/
def stackOf (a : Nat) (s : State) : Nat := b2n (pcBit s.head.cl a 5)

/-- Change stack `k`. -/
def updStack (k : Nat) (f : Stack → Stack) (s : State) : State := { s with head.cl.stks := upd s.head.cl.stks k f }

/-- Stack `k`. -/
def stackAt (k : Nat) (s : State) : Stack := s.head.cl.stks.getD k {}

/-! ## Error correction -/

/-- The word of an address. -/
def wordOf (a : Nat) : Nat := a / 8 * 8

/-- Bits of a word that read otherwise than written (R186). -/
def flipsAt (w : Nat) (s : State) : List Nat := (getKey s.head.cl.flips w).getD []

/-- A word in single-bit error; in uncorrectable error. -/
def isCe (w : Nat) (s : State) : Bool := (flipsAt w s).length == 1
def isUe (w : Nat) (s : State) : Bool := decide (2 ≤ (flipsAt w s).length)

/-- Set the differing bits of a word. -/
def setFlips (w : Nat) (l : List Nat) (s : State) : State :=
  { s with head.cl.flips := if l.isEmpty then delKey s.head.cl.flips w else putKey s.head.cl.flips w l }

/-- Byte `i` of a word with its differing data bits turned over. -/
def rawByte (b : Byte) (i : Nat) (l : List Nat) : Byte :=
  (List.range 8).foldl (fun v j => if l.contains (8 * i + j) then v ^^^ (1#8 <<< j) else v) b

/-- The 8 bytes of a word as its bits stand. -/
def rawWord (w : Nat) (s : State) : List Byte :=
  (List.range 8).map (fun i => rawByte (memGet s.head.cl.mem (w + i)) i (flipsAt w s))

/-- CL_CE_RATE (R191): once in a minute in which CE_THR corrected errors or more have been counted on a stack. -/
def ceRate (k : Nat) (s : State) : State :=
  let minute := wall s.head.mt / 60000000000
  let t := stackAt k s
  if t.ceMinute = minute ∧ s.head.cl.ceThr ≤ t.ceInMinute ∧ t.cePosted ≠ some minute then
    post .head 0x04 2 0x0002 (BitVec.ofNat 32 k) (BitVec.ofNat 64 t.ceInMinute) (updStack k (fun t => { t with cePosted := some minute }) s)
  else s

/-- A corrected error (R188, R191). -/
def ceHit (w : Nat) (s : State) : State :=
  let k := stackOf w s
  let minute := wall s.head.mt / 60000000000
  let s1 := updStack k (fun t =>
    { t with
      ceCount := t.ceCount + 1, ceAddr := w, ceMinute := minute
      ceInMinute := if t.ceMinute = minute then t.ceInMinute + 1 else 1 }) s
  ceRate k { s1 with
    head.cl.ceSeen := true
    head.cl.writeBack := if s.head.cl.writeBack.contains w then s.head.cl.writeBack else s.head.cl.writeBack ++ [w] }

/-- An uncorrectable error (R189). -/
def ueHit (cls w : Nat) (s : State) : State :=
  let k := stackOf w s
  let s1 := updStack k (fun t => { t with ueCount := t.ueCount + 1, ueAddr := w }) s
  post .head 0x04 3 0x0001 (BitVec.ofNat 32 (k + 256 * cls)) (BitVec.ofNat 64 w) { s1 with head.cl.ueSeen := true }

/-- The words a span touches. -/
def wordsOf (a n : Nat) : List Nat :=
  if n = 0 then [] else (List.range ((a + n - 1) / 8 + 1 - a / 8)).map (fun i => 8 * (a / 8 + i))

/-- The words of a span that are in error. -/
def badWords (a n : Nat) (s : State) : List Nat :=
  (wordsOf a n).filter (fun w => s.head.cl.flips.any (fun f => f.1 == w))

/-- Note the time of a request at every stack it touches (R200); an automatic entry is abandoned (R197). -/
def touch (a n : Nat) (s : State) : State :=
  (wordsOf a n).foldl (fun t w => updStack (stackOf w t) (fun k =>
    { k with
      lastReq := s.now, auto := k.auto && k.state != .srEntering
      state := if k.state = .srEntering ∧ k.auto then .active else k.state }) t) s

/-- Read (R186 to R189): the bytes, with a failing word's bits as read, and the failing words. Beyond its 48 GiB Cellar holds
nothing (R176). DEDUCED, log entry 35. -/
def readNow (cls a n : Nat) (s : State) : List Byte × List Nat × State :=
  let bad := badWords a n s
  let ue := bad.filter (fun w => isUe w s)
  let s1 := bad.foldl (fun t w => if isUe w s then ueHit cls w t else ceHit w t) (touch a n s)
  let data := (List.range n).map (fun i =>
    let w := wordOf (a + i)
    if ue.contains w then (rawWord w s).getD ((a + i) % 8) 0 else memGet s.head.cl.mem (a + i))
  (data, ue, s1)

/-- Whether a span covers all 8 bytes of a word. -/
def coversWord (a n w : Nat) : Bool := decide (a ≤ w ∧ w + 8 ≤ a + n)

/-- The read and merge of a partial write, or the clearing of a whole one, on one word (R187). -/
def mergeWord (cls a n w : Nat) (s : State) : State :=
  if coversWord a n w then setFlips w [] s
  else if isUe w s then
    let raw := rawWord w s
    let s1 := ueHit cls w s
    setFlips w [64, 65] { s1 with head.cl.mem := memPutAll s1.head.cl.mem w raw }
  else if isCe w s then setFlips w [] (ceHit w s)
  else s

/-- Turn one bit of a word's record over. -/
def toggle (l : List Nat) (i : Nat) : List Nat := if l.contains i then l.filter (· ≠ i) else l ++ [i]

/-- A pending injection acts at the next write to its word (R204). -/
def injectWord (w : Nat) (s : State) : State :=
  match getKey s.head.cl.inject w with
  | none => s
  | some n =>
    let l := if n = 1 then toggle (flipsAt w s) 0 else toggle (toggle (flipsAt w s) 0) 1
    { setFlips w l s with head.cl.inject := delKey s.head.cl.inject w }

/-- Write (R186, R187): merge, data, injections; a waiting write-back of a word written is abandoned (R188). What lies beyond
Cellar's 48 GiB is not written (R176). DEDUCED, log entry 35. -/
def writeNow (cls a : Nat) (all : List Byte) (s : State) : State :=
  let bytes := all.take (cellarTop - a)
  let n := bytes.length
  let ws := wordsOf a n
  let s1 := (badWords a n s).foldl (fun t w => mergeWord cls a n w t) (touch a n s)
  let s2 := { s1 with
    head.cl.mem := memPutAll s1.head.cl.mem a bytes
    head.cl.writeBack := s1.head.cl.writeBack.filter (fun w => ¬ ws.contains w) }
  ws.foldl (fun t w => injectWord w t) s2

/-! ## Lease guard -/

/-- Bytes of one pixel of a format (R165). -/
def bytesPer (format : Nat) : Nat :=
  match format with
  | 1 => 4 | 2 => 4 | 3 => 8 | 4 => 8 | 5 => 2 | 6 => 4 | _ => 0

/-- Tiles across and in all of a surface (R167). -/
def tilesAcross (f : Surface) : Nat := ceilDiv f.width 64
def tileCount (f : Surface) : Nat := ceilDiv f.width 64 * ceilDiv f.height 64

/-- Length of a surface's content (R167). -/
def contentLen (f : Surface) : Nat :=
  if f.layout = 0 then f.pitch * f.height else tileCount f * 4096 * bytesPer f.format

/-- Two spans meet. -/
def spansMeet (a n b m : Nat) : Bool := decide (a < b + m ∧ b < a + n)

/-- A span meets a surface's content or headers. -/
def inSurface (a n : Nat) (f : Surface) : Bool :=
  spansMeet a n f.base (contentLen f) || (f.layout == 2 && spansMeet a n f.hdrBase (16 * tileCount f))

/-- R239: a write into a guarded, leased surface posts LEASE_VIOLATION. `writer` is 0 for BAR2, 1 for Dumbwaiter. -/
def leaseCheck (writer a n : Nat) (s : State) : State :=
  s.head.fy.surfaces.foldl (fun t e =>
    match s.head.pl.leases.find? (fun l => l.surface == e.1) with
    | some l =>
      if e.2.guarded ∧ inSurface a n e.2 then
        post .head 0x05 2 0x0001 (BitVec.ofNat 32 (e.1 + 65536 * l.layer + 16777216 * writer)) (BitVec.ofNat 64 a)
          { t with head.pl.leaseViolated := true }
      else t
    | none => t) s

/-! ## Requests and queues (R181 to R183, R193, R194, R197 to R201) -/

/-- A stack serves requests: it is ACTIVE or before the point of no return, and no training or frequency change runs. -/
def isServing (k : Nat) (s : State) : Bool :=
  s.head.cl.op.isNone && ((stackAt k s).state == .active || (stackAt k s).state == .srEntering)

/-- The pieces of a span that lie in one 256-byte granule each, so that each lies in one stack (R179): address and length. -/
def pieces (a n : Nat) : List (Nat × Nat) :=
  if n = 0 then []
  else (List.range ((a + n - 1) / 256 + 1 - a / 256)).map (fun i =>
    let lo := max a (256 * (a / 256 + i))
    (lo, min (a + n) (256 * (a / 256 + i + 1)) - lo))

/-- Every stack that a span touches serves. -/
def isServed (a n : Nat) (s : State) : Bool := (pieces a n).all (fun g => isServing (stackOf g.1 s) s)

/-- Who writes in a class inside the Head (R181). -/
def ownerOf (cls : Nat) : Requester := match cls with | 0 => .push | 1 => .foyer | 2 => .paneCache | 3 => .porch | _ => .scrub

/-- Put a request into a stack's queue (R198): peak depth, and the count and event of a full queue.
DEDUCED, log entry 35; DESIGN CHOICE, log entry 36. -/
def queueReq (k : Nat) (r : CellarReq) (s : State) : State :=
  let t := stackAt k s
  let full := 1024 ≤ t.queue.length
  let s1 := updStack k (fun t =>
    { t with
      state := if t.state = .srEntering ∧ t.auto then .training else t.state, auto := t.auto && t.state != .srEntering
      lastReq := s.now, queue := t.queue ++ [r]
      peak := max t.peak (min 1024 (t.queue.length + 1))
      stalls := if full then t.stalls + 1 else t.stalls
      fullPosted := t.fullPosted || full }) s
  if full ∧ ¬ t.fullPosted then post .head 0x04 2 0x000A (BitVec.ofNat 32 k) 0 s1 else s1

/-- A write is served (R187, R239). -/
def serveWrite (r : CellarReq) (d : List Byte) (s : State) : State :=
  let s1 := writeNow r.cls r.addr d s
  if r.req = .bar2 then leaseCheck 0 r.addr d.length s1
  else if r.req = .dumbwaiter then leaseCheck 1 r.addr d.length s1
  else s1

/-- The part of a request in one granule; bit errors come with the first. -/
def pieceOf (r : CellarReq) (g : Nat × Nat) : CellarReq :=
  { r with
    addr := g.1, write := r.write.map (fun d => (d.drop (g.1 - r.addr)).take g.2), len := g.2
    upsets := if g.1 = r.addr then r.upsets else [] }

/-- A write arrives: served at once, or granule by granule in the queues of the stacks that do not serve, where it keeps its order
with every other request to its words (R183). DESIGN CHOICE, log entry 36. -/
def submitWrite (r : CellarReq) (d : List Byte) (s : State) : State :=
  if isServed r.addr d.length s then serveWrite r d s
  else
    (pieces r.addr d.length).foldl (fun t g =>
      let q := pieceOf { r with write := some d } g
      if isServing (stackOf g.1 t) t then serveWrite q (q.write.getD []) t else queueReq (stackOf g.1 t) q t) s

/-- A block of the Head writes. -/
def clWrite (cls a : Nat) (d : List Byte) (s : State) : State := submitWrite { cls := cls, req := ownerOf cls, addr := a } d s

/-- A block waits with its reads: each stack that does not serve holds one entry for it, which forces an exit from self-refresh
(R198, R199). DESIGN CHOICE, log entry 36. -/
def awaitRead (cls a n : Nat) (s : State) : State :=
  (pieces a n).foldl (fun t g =>
    let k := stackOf g.1 t
    let r : CellarReq := { cls := cls, req := ownerOf cls, addr := g.1, len := g.2, probe := true }
    if isServing k t ∨ (stackAt k t).queue.contains r then t else queueReq k r t) s

/-- The memory once every waiting write has been served. -/
def settled (s : State) : State :=
  (s.head.cl.stks.flatMap (fun t => t.queue)).foldl (fun t r => match r.write with | some d => writeNow r.cls r.addr d t | none => t) s

/-- A read of the Head's blocks (R186 to R189): at once where the stacks serve. Where one does not, what the words hold once the
writes before it have been served, and the read waits in the queue. DESIGN CHOICE, log entry 36. -/
def clRead (cls a n : Nat) (s : State) : List Byte × List Nat × State :=
  if isServed a n s then readNow cls a n s
  else
    let r := readNow cls a n (settled s)
    (r.1, r.2.1, awaitRead cls a n s)

/-- A step of a block that reads or writes spans of Cellar before it ends: it goes on once every stack that they touch serves.
DESIGN CHOICE, log entry 36. -/
def whenServed (cls : Nat) (spans : List (Nat × Nat)) (f : State → State) (s : State) : State :=
  if spans.all (fun g => isServed g.1 g.2 s) then f s else spans.foldl (fun t g => awaitRead cls g.1 g.2 t) s

/-- Cellar serves no request: a training run or a frequency change is in progress (R193, R194). -/
def clStopped (s : State) : Bool := s.head.cl.op.isSome

end Sys2Proof.Machine
end

