-- ==== Sys2Proof/Machine/PaneCache.lean ====
section
/-!
DEFINITION. The pane cache (R229 to R232): where the versions of a pane and their headers lie in Cellar, the changes of a version,
the records of closed frames, and panes counted stale.
-/
namespace Sys2Proof.Machine

/-! ## Places -/

/-- Tile index t of R229. -/
def tIndex (chain pos : Nat) : Nat := chain * 16 + pos - 1

/-- The index i of a version in the pane cache (R229). -/
def cacheIndex (k : PaneKey) (w : Nat) : Nat := ((w * 4 + k.slot) * 512 + tIndex k.chain k.position) * 135 + k.pane

/-- Where the content of a version lies (R229). -/
def contentAddr (k : PaneKey) (w : Nat) : Nat := 0xA00000000 + cacheIndex k w * 5760

/-- Where the header of a version lies (R229). -/
def headerAddr (k : PaneKey) (w : Nat) : Nat := 0xB20000000 + cacheIndex k w * 16

/-- The 16 header bytes of a version (R230); a version that holds nothing is FREE. -/
def verHeader (v : Option Ver) : List Byte :=
  match v with
  | none => zeros 16
  | some v => leBytes 4 v.n ++ leBytes 4 v.crc.toNat ++ leBytes 4 v.power.toNat ++ leBytes 1 v.state ++
      leBytes 1 (b2n v.shown + 2 * b2n v.live + 4 * b2n v.rescale) ++ [0, 0]

/-! ## Versions -/

/-- The version of a pane for a frame. DEDUCED, log entry 79. -/
def verOf (k : PaneKey) (n : Nat) (s : State) : Option Ver := s.head.pl.vers.find? (fun v => v.key == k && v.n == n)

/-- The SHOWN version of a pane. -/
def shownVer (k : PaneKey) (s : State) : Option Ver := s.head.pl.vers.find? (fun v => v.key == k && v.shown)

/-- Write the header of a version into Cellar (R229, R230). -/
def storeHeader (k : PaneKey) (w : Nat) (v : Option Ver) (s : State) : State := clWrite 2 (headerAddr k w) (verHeader v) s

/-- Put a version into its place. -/
def putVer (v : Ver) (s : State) : State :=
  storeHeader v.key v.w (some v)
    { s with head.pl.vers := v :: s.head.pl.vers.filter (fun x => ¬ (x.key = v.key ∧ x.w = v.w)) }

/-- Change or free versions, and write the headers of those that change. -/
def reviseVers (f : Ver → Option Ver) (s : State) : State :=
  (s.head.pl.vers.filter (fun v => f v != some v)).foldl (fun t v => storeHeader v.key v.w (f v) t)
    { s with head.pl.vers := s.head.pl.vers.filterMap f }

/-- Change the versions that meet a condition. -/
def mapVers (p : Ver → Bool) (f : Ver → Ver) (s : State) : State := reviseVers (fun v => some (if p v then f v else v)) s

/-! ## Closed frames -/

/-- The record of a closed frame. -/
def recOf (n : Nat) (s : State) : Option FrameRec := s.head.pl.frames.find? (fun r => r.n == n)

/-- Change it. -/
def updRec (n : Nat) (f : FrameRec → FrameRec) (s : State) : State :=
  { s with head.pl.frames := s.head.pl.frames.map (fun r => if r.n = n then f r else r) }

/-- A dirty pane of a closed frame has been composed. -/
def isComposed (k : PaneKey) (n : Nat) (s : State) : Bool :=
  match verOf k n s with | some v => v.state == 2 | none => false

/-- Panes counted stale add to PL_STALE_TOTAL and set STALE_SEEN; PL_STALE comes at most once a second (R242). -/
def postStale (new n : Nat) (s : State) : State :=
  let s1 := { s with
    head.pl.staleTotal := s.head.pl.staleTotal + BitVec.ofNat 32 new
    head.pl.staleSeen := true }
  let w := wall s.head.mt
  let may : Bool := match s.head.pl.stalePosted with | some t => decide (t + 1000000000 ≤ w) | none => true
  if may then
    post .head 0x05 2 0x0002 (BitVec.ofNat 32 n) (BitVec.ofNat 64 (match recOf n s1 with | some r => r.staleCompose | none => new))
      { s1 with head.pl.stalePosted := some w }
  else s1

/-- Count panes of a closed frame stale (R34, R242), each once. -/
def countStale (keys : List PaneKey) (n : Nat) (s : State) : State :=
  let new := keys.filter (fun k => match recOf n s with | some r => !r.stale.contains k | none => false)
  if new.isEmpty then s
  else postStale new.length n
    (updRec n (fun r => { r with stale := r.stale ++ new, staleCompose := r.staleCompose + new.length }) s)

/-! ## Failed reads -/

/-- The version whose content or header holds a word. -/
def verAt (w : Nat) (s : State) : Option Ver :=
  s.head.pl.vers.find? (fun v => spansMeet (contentAddr v.key v.w) 5760 w 8 || spansMeet (headerAddr v.key v.w) 16 w 8)

/-- A read of the pane cache by Parlour failed on a word (R189): while the push window of its frame has not closed the pane is
composed again, else it is counted stale. DEDUCED, log entry 35. -/
def paneLost (w : Nat) (s : State) : State :=
  match verAt w s with
  | none => s
  | some v =>
    match recOf v.n s with
    | some r =>
      if r.isClosed then countStale [v.key] v.n s else mapVers (fun x => x == v) (fun x => { x with state := 3 }) s
    | none =>
      if s.head.time.cutN ≤ v.n then mapVers (fun x => x == v) (fun x => { x with state := 3 }) s else postStale 1 v.n s

end Sys2Proof.Machine
end

