-- ==== Sys2Proof/Machine/Bundle.lean ====
section
/-!
DEFINITION. Image bundles (R583 to R586, R590, R592): the bytes of a slot, header and sections, verification, and the boot
record's choice of a slot at a start (R587, R597).
-/
namespace Sys2Proof.Machine

/-! ## The bytes of a slot -/

/-- Insert a chunk by its offset. -/
def insertChunk (c : Nat × List Byte) : List (Nat × List Byte) → List (Nat × List Byte)
  | [] => [c]
  | x :: r => if c.1 ≤ x.1 then c :: x :: r else x :: insertChunk c r

/-- Chunks in rising order as one byte string from `at_` on; what no chunk holds reads as erased. -/
def assemble : List (Nat × List Byte) → Nat → List Byte
  | [], _ => []
  | c :: r, at_ => List.replicate (c.1 - at_) 0xFF ++ c.2.drop (at_ - c.1) ++ assemble r (max at_ (c.1 + c.2.length))

/-- The chunks of a slot, those on their way to it included. -/
def slotChunks (k : Nat) (s : State) : List (Nat × List Byte) :=
  (s.head.at_.bytes.filter (fun b => b.1 = k)).map (fun b => b.2) ++
    s.head.at_.nv.ops.filterMap (fun o => match o.kind with | .image j off b => if j = k then some (off, b) else none | _ => none)

/-- The bytes of a slot. -/
def slotBytes (k : Nat) (s : State) : List Byte := assemble ((slotChunks k s).foldr insertChunk []) 0

/-- A slot that nothing has been staged into holds the image it left the factory with, whose bytes the spec does not give.
DESIGN CHOICE, log entry 73. -/
def isFactory (k : Nat) (s : State) : Bool := (slotChunks k s).isEmpty

/-! ## Header, sections, verification -/

/-- SECTIONS, and the section table's entries (R583, R584). -/
def sectionCount (b : List Byte) : Nat := fld b 26 2
def sectionsOf (b : List Byte) : List (List Byte) := (List.range (sectionCount b)).map (fun i => (b.drop (256 + 64 * i)).take 64)

/-- A section's bytes. -/
def sectionBytes (b e : List Byte) : List Byte := (b.drop (fld e 4 4)).take (fld e 8 4)

/-- The signed bytes and the signature block (R585). -/
def signedBytes (b : List Byte) : List Byte := b.take (256 + 64 * sectionCount b)
def signatureBlock (b : List Byte) : List Byte := (b.drop (fld b 32 4)).take (fld b 36 4)

/-- Header and lengths of a bundle (R583, R584). -/
def headerGood (b : List Byte) : Bool :=
  let total := fld b 28 4
  decide (fld b 0 4 = 0x42495844 ∧ fld b 4 2 = 1 ∧ 1 ≤ sectionCount b ∧ sectionCount b ≤ 16 ∧ total ≤ 268435456 ∧
    256 + 64 * sectionCount b ≤ total ∧ total ≤ b.length ∧ fld b 32 4 + fld b 36 4 ≤ total) &&
    (sectionsOf b).all (fun e => decide (fld e 4 4 + fld e 8 4 ≤ total))

/-- The certificates of a signature block, and the signature after them (R585): `n` certificates. -/
def parseCerts : Nat → List Byte → Option (List (List Byte) × List Byte)
  | 0, b => some ([], b)
  | n + 1, b =>
    let k := fld b 0 4
    if b.length < 4 + k then none else (parseCerts n (b.drop (4 + k))).map (fun r => ((b.drop 4).take k :: r.1, r.2))

/-- Chain and signature of a bundle (R585). -/
def bundleSigned (signed block : List Byte) : Bool :=
  let n := fld block 0 2
  decide (1 ≤ n ∧ n ≤ 3) &&
    (match parseCerts n (block.drop 4) with
     | some (certs, sig) => sig.length == 96 && Config.imageSigned (sha384 signed) certs sig
     | none => false)

/-- Verification (R586): the first REASON of R601 that applies. -/
def bundleReason (b : List Byte) (s : State) : Option Nat :=
  if ¬ headerGood b then some 1
  else if fld b 6 2 ≠ 0x3216 ∨ 0x10 < fld b 16 1 ∨ s.head.sys.romVersion.toNat < fld b 12 4 then some 2
  else if ¬ bundleSigned (signedBytes b) (signatureBlock b) then some 3
  else if (sectionsOf b).any (fun e => sha384 (sectionBytes b e) != (e.drop 16).take 48) then some 4
  else if fld b 17 1 < s.head.at_.epochFused then some 5
  else none

/-- The Tile's section-table entries in ascending TYPE, and LOAD_DIGEST over them (R590). -/
def tileEntries (b : List Byte) : List (List Byte) :=
  (sectionsOf b).filter (fun e => fld e 0 2 = 3) ++ (sectionsOf b).filter (fun e => fld e 0 2 = 4)
def loadDigestOf (b : List Byte) : List Byte := sha384 (tileEntries b).flatten

/-- What a bundle says of itself. DESIGN CHOICE, log entry 73. -/
def infoOf (b : List Byte) : ImageInfo :=
  { fwVersion := BitVec.ofNat 32 (fld b 8 4), minRom := fld b 12 4, epoch := fld b 17 1, schema := fld b 18 2
    schemaMin := fld b 20 2, tileSchema := fld b 22 2, tileSchemaMin := fld b 24 2, tileCompat := fld b 40 4
    digest := loadDigestOf b }

/-- What the bundle of a slot says of itself, once verified; of a factory image it is all zero. -/
def slotInfo (k : Nat) (s : State) : ImageInfo := s.head.at_.info.getD k {}

/-- Verification of a slot at a start. A factory image passes all but EPOCH. -/
def slotReason (k : Nat) (s : State) : Option Nat :=
  if isFactory k s then (if (slotInfo k s).epoch < s.head.at_.epochFused then some 5 else none) else bundleReason (slotBytes k s) s

/-- The Tile sections of a slot with their load addresses, the bytes of AT_TILE_BOOT, and the slot's LOAD_DIGEST (R589, R590). -/
def tileSections (k : Nat) (s : State) : List (Nat × List Byte) :=
  if isFactory k s then Config.factorySections
  else (tileEntries (slotBytes k s)).map (fun e => (fld e 12 4, sectionBytes (slotBytes k s) e))
def tileBootBytes (k : Nat) (s : State) : List Byte :=
  if isFactory k s then Config.factoryBoot else signedBytes (slotBytes k s) ++ signatureBlock (slotBytes k s)
def slotDigest (k : Nat) (s : State) : List Byte := if isFactory k s then Config.factoryDigest else (slotInfo k s).digest

/-! ## The boot record -/

/-- The state of a slot (R592): 0 EMPTY, 1 STAGING, 2 VERIFIED, 3 TRIAL, 4 GOOD, 5 BAD. -/
def slotState (k : Nat) (s : State) : Nat := s.head.at_.boot.states.getD k 0

/-- A boot record with a slot in a state. -/
def withSlot (k st : Nat) (b : BootRec) : BootRec := { b with states := upd b.states k (fun _ => st) }

/-- The other slot. -/
def otherSlot (k : Nat) : Nat := 1 - k

/-- Mark a slot BAD and post AT_SLOT_BAD (R587). -/
def slotBad (k reason : Nat) (s : State) : State :=
  post .head 0x10 3 0x0003 (BitVec.ofNat 32 k) (BitVec.ofNat 64 reason) (writeBoot (withSlot k 5 s.head.at_.boot) s)

/-- Start from a slot: the boot record names it, its version runs, and a TRIAL slot begins its health window. -/
def runSlot (k : Nat) (s : State) : State :=
  let v := (slotInfo k s).fwVersion
  let s0 := if s.head.at_.boot.named = k then s else writeBoot { s.head.at_.boot with named := k } s
  let s1 := { s0 with
    head.at_.running := k, head.at_.recovery := false, head.sys.fwVersion := v, head.at_.trialSince := s.now
    head.at_.confirmed := false, head.at_.confirming := false }
  if slotState k s1 = 3 then post .head 0x10 1 0x0004 v 0 s1 else s1

/-- The ROM's recovery (R587). -/
def romRecovery (s : State) : State := { s with head.at_.recovery := true, head.sys.fwVersion := 0 }

/-- A TRIAL image has restarted before it confirmed (R597): its slot is BAD and the other one is named. `why` is DETAIL_B of
AT_FALLBACK. -/
def fallBack (why : Nat) (s : State) : State :=
  let k := s.head.at_.running
  post .head 0x10 3 0x0006 (slotInfo k s).fwVersion (BitVec.ofNat 64 why)
    { writeBoot { withSlot k 5 s.head.at_.boot with named := otherSlot k } s with head.at_.fellBack := true }

/-- The ROM's choice at a start (R587, R597). DEDUCED, log entry 74. -/
def bootSlot (s0 : State) : State :=
  let a := s0.head.at_
  let s := if slotState a.boot.named s0 = 3 ∧ a.running = a.boot.named then fallBack 1 s0
    else { s0 with head.at_.fellBack := false }
  let k := s.head.at_.boot.named
  match slotReason k s with
  | none => runSlot k s
  | some r =>
    let s1 := slotBad k r s
    let j := otherSlot k
    if slotState j s1 = 4 then
      match slotReason j s1 with
      | none => runSlot j s1
      | some q => romRecovery (slotBad j q s1)
    else romRecovery s1

end Sys2Proof.Machine
end

