-- ==== Sys2Proof/Machine/Restart.lean ====
section
/-!
DEFINITION. The restart of a part's firmware (R609, R613): PO_RESTART with SCOPE 0, the watchdogs of R610 and a control
core's data abort (R189). A restart of firmware is one step.
-/
namespace Sys2Proof.Machine

/-- Post PO_START (R613): the cause, the count of starts and the firmware version. -/
def postStart (p : Part) (s : State) : State :=
  match p with
  | .head =>
    post .head 0x01 1 0x0009 (BitVec.ofNat 32 (s.head.sys.cause.toNat + 256 * s.head.sys.starts.toNat))
      (s.head.sys.fwVersion.zeroExtend 64) s
  | .tile =>
    if s.tile.sys.loaded then
      post .tile 0x01 1 0x0009 (BitVec.ofNat 32 (s.tile.sys.cause.toNat + 256 * s.tile.sys.starts.toNat))
        (s.tile.sys.fwVersion.zeroExtend 64) s
    else s

/-- One more start, saturating at 255 (R612). -/
def oneMore (b : BitVec 8) : BitVec 8 := if b = 255#8 then b else b + 1

/-- The first frame whose cutoff is still ahead is the next that the Head closes, composes and pushes (R595); changes of the
frames passed over apply at it. DEDUCED, log entry 50. -/
def resumeFrames (s : State) : State :=
  if s.head.mt.tick.isNone then s
  else
    let m := max s.head.time.cutN (nextFrame s.head.mt (wall s.head.mt))
    { s with
      head.time.specN := max s.head.time.specN m, head.time.cutN := m
      head.pl.pend := s.head.pl.pend.map (fun p => { p with frame := max p.frame m })
      head.time.openN := max s.head.time.openN m, head.time.closeN := max s.head.time.closeN m }

/-- In ROM recovery the Head's ticks do not run (R587). -/
def recoveryTicks (s : State) : State :=
  if s.head.at_.recovery then evalClaim { s with head.mt.tick := none, head.mt.prevTick := none, head.mt.lastN := none, head.mt.pendTicks := [] } else s

/-- The Tiles that are present and run. -/
def runningTiles (s : State) : List (Nat × Nat) :=
  (s.head.en.filter (fun e => present e && e.loaded)).map (fun e => (e.chain, e.position))

/-- Commands in hand at a restart: those that have started run on in the hardware, with their replies discarded.
DEDUCED, log entry 76. -/
def orphans (l : List Outst) : List Outst := (l.filter (fun e => e.started)).map (fun e => { e with discard := true })

/-- What the Head's firmware holds is gone: sessions, outstanding commands, subscriptions, a staging session, and which Tiles it
has loaded or adopted (R591, R609). -/
def dropFirmware (s : State) : State :=
  sourceGone (fun x => match x with | .session _ => true | _ => false) { s with
    head.po.outst := orphans s.head.po.outst, head.po.subs := [], head.po.sessions := s.head.po.sessions.map (fun _ => {})
    head.tw.wdExpired := false, head.tw.fwdWait := [], head.tw.resync := []
    head.at_.staging := none, head.at_.reloads := [], head.at_.toRun := runningTiles s
    head.en := s.head.en.map (fun e => { e with loaded := false, loading := false, genuine := false }) }

/-- The start of the Head's firmware: stores recovered, a slot verified and started, settings read, PO_START (R571, R576, R587,
R613). DEDUCED, log entry 76. -/
def startFirmware (s : State) : State :=
  postStart .head (recoveryTicks (readStored (startSettings .head (bootSlot (recoverStore .head s)))))

/-- Count a start with its cause (R612). -/
def countStart (p : Part) (cause : Nat) (s : State) : State :=
  match p with
  | .head => { s with head.sys.cause := BitVec.ofNat 8 cause, head.sys.starts := oneMore s.head.sys.starts }
  | .tile => { s with tile.sys.cause := BitVec.ofNat 8 cause, tile.sys.starts := oneMore s.tile.sys.starts }

/-- The image stops: the Tile is unloaded and dark. -/
def unload (s : State) : State :=
  darken 0 { s with tile.sys.loaded := false, tile.ld.ready := false, tile.lr.reload := [], tile.sys.fwVersion := 0, tile.at_.loadDigest := []
                    tile.at_.railStep := 0, tile.time.shownOnce := false }

/-- Firmware restart: what firmware holds is gone and the hardware's own state stays (R609). A restart that finds an activation
past its C_N goes on with the next frame. A Tile waits, unloaded and dark, for its Head ("Opcodes" of 03_porch_commands.md).
DEDUCED, log entry 76. -/
def fwRestart (p : Part) (cause : Nat) (s0 : State) : State :=
  let s := emit p (.restart 0) (countStart p cause (nvStop p s0))
  match p with
  | .head =>
    let paused := match s.head.at_.act with | some a => decide (1 ≤ a.phase) | none => false
    let s1 := dropFirmware { s with head.at_.act := none }
    startFirmware (if paused then resumeFrames s1 else s1)
  | .tile =>
    recoverStore .tile (unload { s with tile.po.outst := orphans s.tile.po.outst, tile.at_.booted := false })

end Sys2Proof.Machine
end

