-- ==== Sys2Proof/WellFormed.lean ====
section
/-!
DEFINITION. Well-formed commands: every operand lies in the range that the packet format or the part gives it (R2, R67, R81,
R91, R107, R113, R124, R229, R321, R515). A command outside these ranges cannot be put to the block.
-/
namespace Sys2Proof

/-- A queue, a session, the twin path or a port of arrival (R91, R107, R113, R336). -/
def sourceWf (src : Source) : Bool :=
  match src with
  | .queue q => decide (q < 16)
  | .session n => decide (n < 8)
  | .twin => true
  | .chain _ port => decide (port < 2)

/-- The widths of the header's fields and of the parameter area (R81). -/
def cmdWf (c : Cmd) : Bool :=
  sourceWf c.src && decide (c.tag < 65536) && decide (c.status < 256) && decide (c.pair < 256) && decide (c.chain < 256) &&
    decide (c.position < 256) && decide (c.arrival < 18446744073709551616) && decide (c.params.length ≤ 4080)

/-- The same of a reply. -/
def replyWf (r : Reply) : Bool :=
  decide (r.opcode < 65536) && decide (r.tag < 65536) && decide (r.status < 256) && decide (r.pair < 256) && decide (r.chain < 256) &&
    decide (r.position < 256) && decide (r.params.length ≤ 4080)

/-- An aligned 32-bit register (R124). -/
def accessWf (w : RegAccess) : Bool := decide (w.addr % 4 = 0)

/-- A Tile's place on a chain (R2). -/
def tileWf (chain position : Nat) : Bool := decide (chain < 32) && decide (1 ≤ position) && decide (position ≤ 16)

/-- A pane of a slot image (R229). -/
def paneWf (k : PaneKey) : Bool := tileWf k.chain k.position && decide (k.pane < 135) && decide (k.slot < 4)

/-- A Graed port: 0 to 31 and the twin port 32 of a Head, 0 and 1 of a Tile (R321). -/
def portWf (p : Part) (port : Nat) : Bool :=
  match p with
  | .head => decide (port < 33)
  | .tile => decide (port < 2)

/-- A general compare unit (R67). -/
def unitWf (p : Part) (u : Nat) : Bool :=
  match p with
  | .head => decide (u < 16)
  | .tile => decide (u < 4)

/-- A Dumbwaiter channel (R515). -/
def chanWf (p : Part) (ch : Nat) : Bool :=
  match p with
  | .head => decide (ch < 64)
  | .tile => decide (ch < 8)

/-- The classes a requester may use (R181). -/
def classWf (cls : Nat) (r : Requester) : Bool :=
  match r with
  | .push => decide (cls ≤ 1)
  | .graedReplay | .twinForward | .foyer | .audio => cls == 1
  | .layerRead | .paneCache => cls == 2
  | .core | .porch | .bar2 => cls == 3
  | .dumbwaiter | .scrub => cls == 4

/-- A request inside Cellar's 48 GiB, in a class of its requester (R176, R181). -/
def cellarReqWf (r : CellarReq) : Bool :=
  classWf r.cls r.req && !r.probe &&
    decide (r.addr + (match r.write with | some d => d.length | none => r.len) ≤ 0xC00000000)

/-- Every operand lies in its range. -/
def Instr.wf (i : Instr) : Bool :=
  match i with
  | .registerWrite w _ => accessWf w
  | .barPartialWrite w _ _ => accessWf w
  | .poPad c => cmdWf c
  | .poNop c => cmdWf c
  | .poGetInfo c => cmdWf c
  | .poRegRead c => cmdWf c
  | .poRegWrite c => cmdWf c
  | .poEventRead c => cmdWf c
  | .poEventSubscribe c => cmdWf c
  | .poAbort c => cmdWf c
  | .poRestart c => cmdWf c
  | .poTileConfig c => cmdWf c
  | .poCqTail q _ packets => decide (q < 16) && packets.all (fun b => decide (b.length ≤ 4096))
  | .poRqHead q _ => decide (q < 16)
  | .poQEnable q _ => decide (q < 16)
  | .poQDisable q _ => decide (q < 16)
  | .replyWrite q => decide (q < 16)
  | .msixCoalesceExpiry q => decide (q < 16)
  | .porchResumeTaking src => sourceWf src
  | .tileReplyReceived r => replyWf r.msg.reply
  | .tileCommandTimeout chain position tag => tileWf chain position && decide (tag < 65536)
  | .mgmtSessionOpen _ => true
  | .mgmtSessionClose n _ => decide (n < 8)
  | .mgmtSessionIdleTimeout n => decide (n < 8)
  | .poFramingError n _ => decide (n < 8)
  | .tileEventReceived e => decide (e.msg.block < 256) && decide (e.msg.code < 65536) && decide (e.msg.severity < 8)
  | .eventsSuppressed => true
  | .logPageWrite => true
  | .mtGetTime c => cmdWf c
  | .mtSetTick c => cmdWf c
  | .mtGetTick c => cmdWf c
  | .mtStepTime c => cmdWf c
  | .mtSetTod c => cmdWf c
  | .mtSetPtp c => cmdWf c
  | .mtGetPtp c => cmdWf c
  | .mtSetChainTime c => cmdWf c
  | .mtCntLoRead _ => true
  | .mtRateWrite _ _ => true
  | .mtHoldSet _ => true
  | .mtServoModeSet _ => true
  | .mtTrigArm p u _ => unitWf p u
  | .mtTrigTgtWrite p u _ _ => unitWf p u
  | .triggerFire p u => unitWf p u
  | .spec _ => true
  | .cutoff _ => true
  | .pushOpen _ => true
  | .pushClose _ => true
  | .tick _ _ => true
  | .frameReportSend _ => true
  | .refresh _ _ => true
  | .row _ _ r _ => decide (r < 69)
  | .hearth _ _ r _ => decide (r < 69)
  | .audio g _ => decide (g < 8)
  | .ptpMessageReceived port _ _ => decide (port < 6)
  | .ptpMessageSend port _ _ => decide (port < 6)
  | .ppsInEdge => true
  | .announceTimeout port => decide (port < 6)
  | .ppsLossTimeout => true
  | .timeMessageSend p port => portWf p port
  | .timeMessageReceived p port _ _ => portWf p port
  | .timeSourceInvalid p port => portWf p port
  | .timeSourceReturn => true
  | .holdoverExpired => true
  | .twinTimeAlarm => true
  | .fySetPort c => cmdWf c
  | .fySetSubport c => cmdWf c
  | .fyGetPort c => cmdWf c
  | .fySetVideoStream c => cmdWf c
  | .fySetAudioStream c => cmdWf c
  | .fySetAncStream c => cmdWf c
  | .fyStreamCtl c => cmdWf c
  | .fyGetStreamStats c => cmdWf c
  | .fySurfaceCreate c => cmdWf c
  | .fySurfaceDestroy c => cmdWf c
  | .ethFrameReceived subport _ => decide (subport < 16)
  | .videoPacketReceived stream path _ => decide (stream < 64) && decide (path < 2)
  | .videoFrameCloseTimeout stream _ => decide (stream < 64)
  | .audioPacketReceived stream path _ => decide (stream < 64) && decide (path < 2)
  | .ancPacketReceived stream path _ => decide (stream < 64) && decide (path < 2)
  | .fyStreamLost stream => decide (stream < 64)
  | .fyPathLost kind stream path => decide (kind < 3) && decide (stream < 64) && decide (path < 2)
  | .fyLinkUp subport => decide (subport < 16)
  | .fyLinkDown subport => decide (subport < 16)
  | .clGetInfo c => cmdWf c
  | .clSetFreq c => cmdWf c
  | .clTrain c => cmdWf c
  | .clSelfRefresh c => cmdWf c
  | .clGetErrors c => cmdWf c
  | .clSetScrub c => cmdWf c
  | .clInjectError c => cmdWf c
  | .cellarRequest r => cellarReqWf r
  | .ceWriteback addr => decide (addr % 8 = 0)
  | .patrolScrub _ => true
  | .stackTempRead stack _ => decide (stack < 2)
  | .trainingComplete _ => true
  | .freqChangeComplete _ => true
  | .srAutoEntry stack => decide (stack < 2)
  | .srPointOfNoReturn stack => decide (stack < 2)
  | .srExit stack => decide (stack < 2)
  | .srExitComplete stack => decide (stack < 2)
  | .bar2Access _ => true
  | .plSetCanvas c => cmdWf c
  | .plSetTile c => cmdWf c
  | .plGetTile c => cmdWf c
  | .plCommit c => cmdWf c
  | .plGetLayer c => cmdWf c
  | .plFenceSignal c => cmdWf c
  | .plFenceGet c => cmdWf c
  | .plFenceTimeout _ => true
  | .plLeaseGuard c => cmdWf c
  | .plSetPowerGroup c => cmdWf c
  | .plGetPower c => cmdWf c
  | .plRefresh c => cmdWf c
  | .plPaneRead c => cmdWf c
  | .paneComposeDone k _ _ => paneWf k
  | .leaseRetire _ layer => decide (layer < 32)
  | .plRetire src => sourceWf src.src && (match src.cmd with | some c => cmdWf c | none => true)
  | .plSetCoef c => cmdWf c
  | .plSetTone c => cmdWf c
  | .plSetPixset c => cmdWf c
  | .plPpApply c => cmdWf c
  | .plGetPixset c => cmdWf c
  | .plSetSlotmap c => cmdWf c
  | .plSigSet c => cmdWf c
  | .plSigExpect c => cmdWf c
  | .plSigRead c => cmdWf c
  | .ppSetStatusRing c => cmdWf c
  | .ppGetFrameStatus c => cmdWf c
  | .ppSetChain c => cmdWf c
  | .ppGetChain c => cmdWf c
  | .ppBlackout c => cmdWf c
  | .panePacketSend k _ => paneWf k
  | .paneAckReceived a => paneWf a.msg.key && decide (a.msg.port < 33)
  | .paneTransactionLost k _ => paneWf k
  | .replayReqReceived k _ => paneWf k.msg
  | .frameReportReceived r => tileWf r.msg.chain r.msg.position
  | .fsrWrite _ => true
  | .formatReturnTimer chain => decide (chain < 32)
  | .headBlackoutChange => true
  | .blackoutBlockRepeat => true
  | .blackoutBlockReceived port _ _ => decide (port < 2)
  | .headBlackoutReleaseTimeout _ => true
  | .glGetPort c => cmdWf c
  | .glSetPort c => cmdWf c
  | .glRetrain c => cmdWf c
  | .glTest c => cmdWf c
  | .glTestDone p port _ _ => portWf p port
  | .glClearCounters c => cmdWf c
  | .glPortCtlRetrain p port => portWf p port
  | .glPortEnable p port => portWf p port
  | .glPortDisable p port => portWf p port
  | .trainingFrameReceived p port _ => portWf p port
  | .trainTimeout p port => portWf p port
  | .blockLock p port => portWf p port.port
  | .lockTimeout p port => portWf p port
  | .capsReceived p port _ => portWf p port
  | .capsTimeout p port => portWf p port
  | .retrainReqReceived p port _ => portWf p port
  | .retrainTimeout p port => portWf p port
  | .holdExpiry p port => portWf p port
  | .laneFail p port lane _ => portWf p port && decide (lane < 4)
  | .laneSetReceived p port _ _ => portWf p port
  | .laneRetrainTimer p port lane _ => portWf p port && decide (lane < 4)
  | .linkStateReceived m => tileWf m.msg.chain m.msg.position && decide (m.msg.port < 2)
  | .ackReceived p port _ => portWf p port
  | .nakReceived p port _ => portWf p port
  | .replayTimeout p port => portWf p port.msg
  | .creditReceived p port _ _ _ _ => portWf p port
  | .creditInitReceived p port _ _ _ _ => portWf p port
  | .creditSend p port cls => portWf p port && decide (cls < 8)
  | .alignSend p port => portWf p port
  | .skipSend p port => portWf p port
  | .alignReceived p port physLane _ _ _ _ => portWf p port && decide (physLane < 4)
  | .skipReceived p port => portWf p port
  | .abortReceived p port => portWf p port.msg
  | .packetForward port _ => decide (port < 2)
  | .tickMessageReceived p port _ => portWf p port
  | .twGetStatus c => cmdWf c
  | .twSetMode c => cmdWf c
  | .twHandover c => cmdWf c
  | .twResync c => cmdWf c
  | .dbBeatToggle => true
  | .dbPeerClaimChange _ => true
  | .peerBeatLost => true
  | .twinWatchdogExpiry => true
  | .twSplit => true
  | .helloSend => true
  | .helloReceived _ => true
  | .snapshotRequestReceived => true
  | .snapshotReceived _ => true
  | .fwdCmdReceived _ => true
  | .fwdAckReceived _ => true
  | .fwdAckTimeout _ => true
  | .cutReceived _ _ => true
  | .cutWaitExpiry _ => true
  | .digestReceived _ => true
  | .roleSend => true
  | .roleReceived _ _ role => decide (role.msg < 7)
  | .passedReceived _ => true
  | .claimTakeoverTimeout => true
  | .ldGetStatus c => cmdWf c
  | .ldSetLimits c => cmdWf c
  | .ldRead c => cmdWf c
  | .lrWrite c => cmdWf c
  | .lrRead c => cmdWf c
  | .lrReload c => cmdWf c
  | .lrSetDrift c => cmdWf c
  | .panePacketReceived port _ => decide (port < 2)
  | .larderRefetch _ _ => true
  | .larderScrub _ _ => true
  | .lpGetStatus c => cmdWf c
  | .lpSetCurrent c => cmdWf c
  | .lpSetTrim c => cmdWf c
  | .lpGetTrim c => cmdWf c
  | .lpFade c => cmdWf c
  | .lpSetWaveform c => cmdWf c
  | .lpSetScan c => cmdWf c
  | .lpGetDead c => cmdWf c
  | .lpClearDead c => cmdWf c
  | .lpSetDetect c => cmdWf c
  | .lpCtlEnWrite _ => true
  | .blackoutNChange _ _ => true
  | .chatterClear _ => true
  | .detectResumeTimer => true
  | .htGetStatus c => cmdWf c
  | .htSetRail c => cmdWf c
  | .htSetCoef c => cmdWf c
  | .htSwapBank c => cmdWf c
  | .htClearFault c => cmdWf c
  | .htGetCoef c => cmdWf c
  | .htSetLead c => cmdWf c
  | .htCtlBankWrite _ => true
  | .htRailCtlEnWrite rail _ => decide (rail < 3)
  | .hearthSample _ => true
  | .vrefStep => true
  | .ilimHwEvent rail phase => decide (rail < 4) && decide (phase < 4)
  | .overvoltageFault rail _ => decide (rail < 4)
  | .ssTimeout rail => decide (rail < 4)
  | .retryWaitExpiry rail _ => decide (rail < 4)
  | .htInputLow _ => true
  | .htInputOk _ => true
  | .vcoreRestart => true
  | .hearthDarkRelease => true
  | .dwSetTable c => cmdWf c
  | .dwChannelStart c _ => cmdWf c
  | .dwChannelStop c => cmdWf c
  | .dwChannelAbort c => cmdWf c
  | .dwChannelReload c _ => cmdWf c
  | .dwGetChannel c => cmdWf c
  | .dwChCtlStart p ch _ _ => chanWf p ch
  | .dwChCtlStop p ch => chanWf p ch
  | .dwChCtlAbort p ch => chanWf p ch
  | .dwChCtlReload p ch _ => chanWf p ch
  | .dwChTail p ch _ => chanWf p ch
  | .descriptorFetched p ch _ => chanWf p ch
  | .burstIssue p ch => chanWf p ch
  | .burstResponse p ch _ => chanWf p ch
  | .hostReadTimeout ch _ => decide (ch < 64)
  | .tileBurstTimeout ch _ => decide (ch < 64)
  | .bulkPacketReceived b => decide (b.port < 2)
  | .auSetPort c => cmdWf c
  | .auSetGroup c => cmdWf c
  | .auSetSlots c => cmdWf c
  | .auGetStatus c => cmdWf c
  | .auGetStreamStats c => cmdWf c
  | .auHostTail port _ => decide (port < 8)
  | .tdmFrame port _ => decide (port < 8)
  | .auPllUnlock => true
  | .auPllRelock => true
  | .chGetStatus c => cmdWf c
  | .chSetLimits c => cmdWf c
  | .chSetVfCal c => cmdWf c
  | .chGetField c => cmdWf c
  | .chGetTrim c => cmdWf c
  | .chTrimCtl c => cmdWf c
  | .sensorConversion _ _ => true
  | .thermalTrip _ _ _ => true
  | .tripCoolRestart _ => true
  | .trimSweepEval => true
  | .termTrimMeasure p port lane _ _ => portWf p port && decide (lane < 4)
  | .trimSave _ => true
  | .atGetInfo c => cmdWf c
  | .atGetCert c => cmdWf c
  | .atGetCsr c => cmdWf c
  | .atSetCert c => cmdWf c
  | .atSetTrust c => cmdWf c
  | .atChallenge c => cmdWf c
  | .atEnrol c => cmdWf c
  | .atStageBegin c => cmdWf c
  | .atStageData c => cmdWf c
  | .atStageVerify c => cmdWf c
  | .atStageAbort c => cmdWf c
  | .atActivate c => cmdWf c
  | .atConfirm c => cmdWf c
  | .atRollback c => cmdWf c
  | .atTileReload c => cmdWf c
  | .atTileStageBegin c => cmdWf c
  | .atTileBoot c => cmdWf c
  | .atTileStageAbort c => cmdWf c
  | .tileLoadLockTimeout => true
  | .tileEnrolAndLoad chain position _ => tileWf chain position
  | .nvProgramDone _ _ => true
  | .nvEraseDone _ => true
  | .activateRestart _ => true
  | .activateResume => true
  | .healthConfirm => true
  | .healthWindowExpiry => true
  | .porNAssert => true
  | .porNRelease _ => true
  | .perstAssert => true
  | .perstRelease => true
  | .supplyMonitorTrip _ => true
  | .supplyReturn _ => true
  | .vinPowerOn _ => true
  | .vinPowerOff => true
  | .clockSynthLock port => decide (port < 33)
  | .ledRailEnableSequence step => decide (step < 4)
  | .watchdogExpiry _ => true
  | .blockError p port _ => portWf p port
  | .peerBeatRegained => true
  | .inputLowWriteTimeout => true
  | .progressReply _ src tag => sourceWf src && decide (tag < 65536)
  | .fomMeasurement p port lane _ => portWf p port && decide (lane < 4)

end Sys2Proof
end

