-- ==== Sys2Proof/Machine/Cellar.lean ====
section
/-!
DEFINITION. Cellar's events and commands (R181 to R206): requests, scrub and write-back, temperature bands, training and
frequency points, self-refresh, the BAR2 window and the address masks.
-/
namespace Sys2Proof.Machine

/-! ## Requests -/

/-- Bit errors that have struck words of Cellar (R186). -/
def applyUpsets (l : List (Nat × List Nat)) (s : State) : State :=
  l.foldl (fun t u => setFlips (wordOf u.1) (u.2.foldl toggle (flipsAt (wordOf u.1) t)) t) s

/-- Before PO_RESTART, trims are saved and operations in hand end (R561). -/
def endOperations (p : Part) (s : State) : State :=
  let s1 := saveTrims p s
  nvDrain p (2 * (nvOf p s1).ops.length) s1

/-- The restart of a part's firmware by PO_RESTART with SCOPE 0 (R95, R561, R609). -/
def scope0Restart (p : Part) (s : State) : State := fwRestart p 0x04 (endOperations p s)

/-- A read is served, and its words that failed have their effect on the requester (R189): a core's data abort restarts the
firmware, and a pane of the pane cache is composed again or stale. DEDUCED, log entry 35. -/
def serveRead (r : CellarReq) (s : State) : State :=
  let x := readNow r.cls r.addr r.len s
  let s1 := emit .head (.cellar r.req r.addr x.1 x.2.1) x.2.2
  if x.2.1.isEmpty then s1
  else match r.req with
    | .core => scope0Restart .head s1
    | .paneCache => x.2.1.foldl (fun t w => paneLost w t) s1
    | _ => s1

/-- Serve one request: its write, or its read with the answer. What only waited is now free to go on. -/
def serveReq (r : CellarReq) (s0 : State) : State :=
  let s := applyUpsets r.upsets s0
  match r.write with
  | some d => serveWrite r d s
  | none => if r.probe then touch r.addr r.len s else serveRead r s

/-- Serve a stack's queue in order of arrival, which keeps the order of requests to one word (R183, R199); the waits by class
of R181 are time alone (DESIGN CHOICE, log entry 36). -/
def serveQueue (k : Nat) (s : State) : State :=
  let q := (stackAt k s).queue
  let s1 := updStack k (fun t => { t with queue := [] }) s
  q.foldl (fun u r => serveReq r u) s1

/-- A request arrives (R181, R193, R197, R198): served at once while its stacks serve, else granule by granule, those of a stack
that does not serve in its queue. DESIGN CHOICE, log entry 36. -/
def submitReq (r : CellarReq) (s : State) : State :=
  match r.write with
  | some d => submitWrite { r with upsets := [] } d (applyUpsets r.upsets s)
  | none =>
    if isServed r.addr r.len s then serveReq r s
    else (pieces r.addr r.len).foldl (fun t g =>
      if isServing (stackOf g.1 t) t then serveReq (pieceOf r g) t else queueReq (stackOf g.1 t) (pieceOf r g) t) s

/-- CELLAR_REQUEST (R176, R181, R183, R186 to R189, R193, R197, R198): inside Cellar, in a class of its requester. -/
def execCellarRequest (r : CellarReq) (s : State) : Host.Outcome State Fault Refusal :=
  onPart .head (fun s => if cellarReqWf r then submitReq r s else s) s

/-- BAR2_ACCESS (R202, R203, R234, R239): what lies below 0xA_0000_0000 reaches Cellar; at or above it a read returns 0 and a write
is ignored. -/
def execBar2Access (a : Bar2) (s : State) : Host.Outcome State Fault Refusal :=
  onPart .head (fromHost (fun s =>
    let n := match a.write with | some d => d.length | none => a.len
    let inside := min n (cellarEnd - a.offset)
    let s1 := if inside = 0 ∧ cellarEnd ≤ a.offset then s
      else submitReq { cls := 3, req := .bar2, addr := a.offset, write := a.write.map (fun d => d.take inside), len := inside } s
    if a.offset + n ≤ cellarEnd ∧ a.offset < cellarEnd then s1
    else
      let off := max a.offset cellarEnd
      let s2 := post .head 0x04 2 0x000B 0 (BitVec.ofNat 64 off) s1
      match a.write with
      | some _ => s2
      | none => emit .head (.cellar .bar2 off (zeros (n - inside)) []) s2)) s

/-- CE_WRITEBACK (R188): the corrected word is written back, unless a newer write came first. -/
def execCeWriteback (addr : Nat) (s : State) : Host.Outcome State Fault Refusal :=
  onPart .head (fun s =>
    let w := wordOf addr
    if s.head.cl.writeBack.contains w then
      whenServed 4 [(w, 8)] (fun s =>
        injectWord w (setFlips w [] (touch w 8 { s with head.cl.writeBack := s.head.cl.writeBack.filter (· ≠ w) }))) s
    else s) s

/-- PATROL_SCRUB (R190): the next `words` words are read in class BULK. -/
def execPatrolScrub (words : Nat) (s : State) : Host.Outcome State Fault Refusal :=
  onPart .head (fun s =>
    if ¬ s.head.cl.scrubEn ∨ s.head.cl.scrubHours = 0 then s
    else
      let a := s.head.cl.scrubPtr
      let n := min (8 * words) (cellarTop - a)
      whenServed 4 [(a, n)] (fun s =>
        { (readNow 4 a n s).2.2 with head.cl.scrubPtr := if cellarTop ≤ a + n then 0 else a + n }) s) s

/-! ## Temperature -/

/-- The band a reading moves a stack to (R184). -/
def bandFor (old : Nat) (t : Int) : Nat :=
  if 95 * 16 ≤ t then 2
  else if old = 2 ∧ 92 * 16 < t then 2
  else if 85 * 16 ≤ t then 1
  else if 1 ≤ old ∧ 82 * 16 < t then 1
  else 0

/-- A stack's temperature reading (R184, R185, R206), in 1/16 °C. -/
def stackTempRead (stack : Nat) (reading : Option Int) (s : State) : State :=
    let old := (stackAt stack s).band
    let good : Option Int := match reading with
      | some t => if -640 ≤ t ∧ t ≤ 2400 then some t else none
      | none => none
    let band := match good with | some t => bandFor old t | none => 2
    let s1 := updStack stack (fun k => { k with band := band, temp := good.getD k.temp }) s
    let s2 := if good.isNone then
        post .head 0x04 3 0x0004 (BitVec.ofNat 32 stack) 0
          { s1 with head.cl.op := s1.head.cl.op.map (fun o => { o with sensor := true }) }
      else s1
    if band ≠ old then post .head 0x04 1 0x0003 (BitVec.ofNat 32 (stack + 256 * band)) 0 s2 else s2

/-- STACK_TEMP_READ. In reset only the sensor value is taken, which the cooling after a trip looks at (R551). -/
def execStackTempRead (stack : Nat) (reading : Option Int) (s : State) : Host.Outcome State Fault Refusal :=
  .next
    (if inService .head s then stackTempRead stack reading s
     else match reading with
       | some t =>
         if s.head.sys.phase = .inReset ∧ -640 ≤ t ∧ t ≤ 2400 then updStack stack (fun k => { k with temp := t }) s else s
       | none => s)

/-! ## Training and frequency points -/

/-- A valid training record for a point (R192). DEDUCED, log entry 37. -/
def recordValid (k : Nat) (s : State) : Bool :=
  match s.head.cl.records.getD k none with
  | some r =>
    padTo 16 r.serial == padTo 16 s.head.sys.serial && decide (((stackAt 0 s).temp - r.temp0).natAbs ≤ 320) &&
      decide (((stackAt 1 s).temp - r.temp1).natAbs ≤ 320)
  | none => false

/-- Stop service: ACTIVE stacks enter TRAINING (R201). -/
def stopService (s : State) : State :=
  { s with head.cl.stks := s.head.cl.stks.map (fun t => if t.state = .active then { t with state := .training } else t) }

/-- Begin a frequency change: with a valid record at once, otherwise after a fresh run (R194). -/
def beginChange (cmd : Option Cmd) (point : Nat) (s : State) : State :=
  stopService { s with
    head.cl.op := some
      { cmd := cmd, train := false, point := point, running := !recordValid point s } }

/-- Reply to the command of an operation, if it has one. -/
def opReply (cmd : Option Cmd) (op : Nat) (st : Nat) (reason : Nat) (s : State) : State :=
  match cmd with
  | none => s
  | some c => if st = stOk then ok c op [] s else failed c op reason 0 s

/-- A stack has done what a CL_SELF_REFRESH asks of it. -/
def srDone (enter : Bool) (t : Stack) : Bool := if enter then t.state == .selfRefresh else t.state == .active

/-- Reply to every CL_SELF_REFRESH whose stacks have all arrived (R204). -/
def srReplies (s : State) : State :=
  let all := fun (w : Cmd × Nat × Bool) =>
    (List.range 2).all (fun k => !(bit w.2.1 k) || srDone w.2.2 (stackAt k s))
  let ready := s.head.cl.srWait.filter all
  ready.foldl (fun t w => ok w.1 0x0404 [] t) { s with head.cl.srWait := s.head.cl.srWait.filter (fun w => !all w) }

/-- A stack serves again: its queue, the replies that waited for it, and an entry asked for in the meantime (R199, R201, R204). -/
def backInService (k : Nat) (s : State) : State :=
  if isServing k s then
    let s1 := srReplies (serveQueue k s)
    if (stackAt k s1).state = .active ∧ s1.head.cl.srWait.any (fun w => bit w.2.1 k && w.2.2) then
      updStack k (fun t => { t with state := .srEntering, auto := false }) s1
    else s1
  else s

/-- Service resumes: TRAINING stacks are ACTIVE, and every stack that serves serves its queue (R193, R194, R201). -/
def resumeService (s : State) : State :=
  backInService 1 (backInService 0 { s with
    head.cl.op := none
    head.cl.stks := s.head.cl.stks.map (fun t => if t.state = .training then { t with state := .active } else t) })

/-- The operation ends: a queued change begins, or service resumes (R195, R201). -/
def endOp (s : State) : State :=
  match s.head.cl.queued with
  | some q =>
    let s1 := { s with head.cl.op := none, head.cl.queued := none }
    if s1.head.cl.usable.getLsbD q.2 then beginChange (some q.1) q.2 s1 else resumeService (failed q.1 0x0402 0x0001 0 s1)
  | none => resumeService s

/-- A training record's payload and its reading (R192, R573). DEDUCED, log entry 37. -/
def trainBytes (r : TrainRec) : List Byte := leInt 4 r.temp0 ++ leInt 4 r.temp1 ++ padTo 16 r.serial
def parseTrain (b : List Byte) : TrainRec := { temp0 := sfld b 0 4, temp1 := sfld b 4 4, serial := (b.drop 8).take 16 }

/-- A training of CL_TRAIN ends: its reply, or first the change back to the point that was in use (R204). -/
def finishTrain (o : ClOp) (st reason : Nat) (s : State) : State :=
  match o.back with
  | none => endOp (opReply o.cmd 0x0403 st reason s)
  | some _ => { s with head.cl.op := some { o with running := false, result := some (st, reason) } }

/-- The training of a start (R196, R614): no command stands behind it. -/
def isStartRun (o : ClOp) : Bool := o.train && o.cmd.isNone

/-- A run fails on a pseudo-channel (R196): at a start the next point is tried. DEDUCED, log entry 38. -/
def trainFail (o : ClOp) (pc : Nat) (s : State) : State :=
  let s1 := post .head 0x04 3 0x0006 (BitVec.ofNat 32 (o.point + 256 * pc)) 0
    { s with head.cl.usable := s.head.cl.usable &&& ~~~(1#4 <<< o.point) }
  if isStartRun o then
    { s1 with head.cl.op := some (if o.point < 3 then { o with point := o.point + 1 } else { o with running := false }) }
  else if o.train then finishTrain o stFailed 0x0002 s1
  else endOp (opReply o.cmd 0x0402 stFailed 0x0002 s1)

/-- A run succeeds: its record is stored (R195, R201); a start that trained a lower point runs there (R196). -/
def trainDone (o : ClOp) (s : State) : State :=
  let r : TrainRec := { temp0 := (stackAt 0 s).temp, temp1 := (stackAt 1 s).temp, serial := s.head.sys.serial }
  let s1 := writeSettings .head [(keyTrain, o.point, trainBytes r)] none
    { s with head.cl.records := upd s.head.cl.records o.point (fun _ => some r) }
  let s2 := post .head 0x04 0 0x0005 (BitVec.ofNat 32 o.point) 0 s1
  if isStartRun o then
    endOp (if o.point = 0 then s2 else post .head 0x04 3 0x000C (BitVec.ofNat 32 o.point) 0 { s2 with head.cl.point := o.point })
  else if o.train then finishTrain o (if o.sensor then stFailed else stOk) 0x0003 s2
  else { s2 with head.cl.op := some { o with running := false } }

/-- TRAINING_COMPLETE (R193, R195, R196): `failed` names the pseudo-channel that failed. DEDUCED, log entry 38. -/
def execTrainingComplete (failed : Option Nat) (s : State) : Host.Outcome State Fault Refusal :=
  onPart .head (fun s =>
    match s.head.cl.op with
    | none => s
    | some o =>
      if ¬ o.running then s
      else match failed with
        | some pc => trainFail o pc s
        | none => trainDone o s) s

/-- Cellar runs at another point (R194, R206). -/
def setPoint (point stopNs : Nat) (s : State) : State :=
  post .head 0x04 1 0x0007 (BitVec.ofNat 32 (s.head.cl.point + 256 * point)) (BitVec.ofNat 64 stopNs)
    { s with head.cl.point := point }

/-- FREQ_CHANGE_COMPLETE (R194, R204, R206): of a change, or of a CL_TRAIN at another point, there and back. -/
def execFreqChangeComplete (stopNs : Nat) (s : State) : Host.Outcome State Fault Refusal :=
  onPart .head (fun s =>
    match s.head.cl.op with
    | none => s
    | some o =>
      if o.running ∨ isStartRun o then s
      else if ¬ o.train then
        endOp (opReply o.cmd 0x0402 (if o.sensor then stFailed else stOk) 0x0003 (setPoint o.point stopNs s))
      else match o.result with
        | none => setPoint o.point stopNs { s with head.cl.op := some { o with running := true } }
        | some r => endOp (opReply o.cmd 0x0403 r.1 r.2 (setPoint (o.back.getD o.point) stopNs s))) s

/-- CL_SET_FREQ (R194 to R196, R204). -/
def specClSetFreq : OpSpec where
  opcode := 0x0402
  fits := fun n => n == 4
  params := fun c _ => inRange (fld c.params 0 1) 0 3 0
  state := fun c s =>
    if ticksRun s ∧ ¬ bit (fld c.params 1 1) 0 then errSt stBusy
    else if s.head.cl.queued.isSome then errSt stBusy
    else if ¬ s.head.cl.usable.getLsbD (fld c.params 0 1) then errReason stFailed 0x0001
    else none
  run := fun c s =>
    if s.head.cl.op.isSome then { s with head.cl.queued := some (c, fld c.params 0 1) }
    else beginChange (some c) (fld c.params 0 1) s

def execClSetFreq (c : Cmd) (s : State) : Host.Outcome State Fault Refusal := runCmd specClSetFreq c s

/-- CL_TRAIN (R193, R204): at another point Cellar changes to it, trains and changes back. -/
def specClTrain : OpSpec where
  opcode := 0x0403
  fits := fun n => n == 4
  params := fun c _ => inRange (fld c.params 0 1) 0 3 0
  state := fun c s =>
    if ticksRun s ∧ ¬ bit (fld c.params 2 1) 0 then errSt stBusy
    else if s.head.cl.op.isSome then errSt stBusy
    else if ¬ s.head.cl.usable.getLsbD (fld c.params 0 1) then errReason stFailed 0x0001
    else none
  run := fun c s =>
    stopService { s with
      head.cl.op := some
        { cmd := some c, train := true, point := fld c.params 0 1, running := decide (fld c.params 0 1 = s.head.cl.point)
          back := if fld c.params 0 1 = s.head.cl.point then none else some s.head.cl.point } }

def execClTrain (c : Cmd) (s : State) : Host.Outcome State Fault Refusal := runCmd specClTrain c s

/-! ## Self-refresh -/

/-- CL_SELF_REFRESH (R197 to R201, R204): an exit asked for during the entry follows it, and an entry asked for during the exit
follows that. -/
def specClSelfRefresh : OpSpec where
  opcode := 0x0404
  fits := fun n => n == 4
  params := fun c _ => inRange (fld c.params 1 1) 0 1 1
  state := fun c s =>
    if fld c.params 1 1 = 1 ∧ ticksRun s then errSt stBusy
    else if s.head.cl.op.isSome then errSt stBusy
    else none
  run := fun c s =>
    let mask := fld c.params 0 1 % 4
    let enter := fld c.params 1 1 = 1
    let go := fun (k : Nat) (t : Stack) =>
      if ¬ bit mask k then t
      else if enter then
        (if t.state = .active then { t with state := .srEntering, auto := false, exitCmd := false } else { t with auto := false })
      else match t.state with
        | .selfRefresh => { t with exitCmd := true }
        | .srEntering => { t with exitCmd := true, auto := false }
        | _ => t
    let s1 := updStack 1 (go 1) (updStack 0 (go 0) s)
    srReplies { s1 with head.cl.srWait := s1.head.cl.srWait ++ [(c, mask, decide enter)] }

def execClSelfRefresh (c : Cmd) (s : State) : Host.Outcome State Fault Refusal := runCmd specClSelfRefresh c s

/-- A stack is idle under CL_CTL while ticks do not run (R200). -/
def isIdleStack (k : Nat) (s : State) : Bool :=
  s.head.cl.autoSr && !ticksRun s && decide ((stackAt k s).lastReq + 1000 * s.head.cl.idleUs.toNat ≤ s.now)

/-- SR_AUTO_ENTRY (R200). -/
def execSrAutoEntry (stack : Nat) (s : State) : Host.Outcome State Fault Refusal :=
  onPart .head (fun s =>
    if isIdleStack stack s ∧ (stackAt stack s).state = .active then
      updStack stack (fun t => { t with state := .srEntering, auto := true, exitCmd := false }) s
    else s) s

/-- SR_POINT_OF_NO_RETURN (R197, R201): an automatic entry of a stack that is no longer idle is abandoned instead. -/
def execSrPointOfNoReturn (stack : Nat) (s : State) : Host.Outcome State Fault Refusal :=
  onPart .head (fun s =>
    if (stackAt stack s).state = .srEntering ∧ (stackAt stack s).auto ∧ ¬ isIdleStack stack s then
      updStack stack (fun t => { t with state := if s.head.cl.op.isSome then .training else .active, auto := false }) s
    else if (stackAt stack s).state = .srEntering then
      srReplies (post .head 0x04 0 0x0008 (BitVec.ofNat 32 stack) 0
        (updStack stack (fun t =>
          { t with state := .selfRefresh, enteredAt := s.now, auto := false, fullPosted := false }) s))
    else s) s

/-- SR_EXIT (R199, R201): the residency of 2.0 µs has passed, and a request or an exit command waits. -/
def execSrExit (stack : Nat) (s : State) : Host.Outcome State Fault Refusal :=
  onPart .head (fun s =>
    let t := stackAt stack s
    if t.state = .selfRefresh ∧ t.enteredAt + 2000 ≤ s.now ∧ (t.exitCmd ∨ ¬ t.queue.isEmpty) then
      updStack stack (fun t => { t with state := .srExiting, forced := !t.queue.isEmpty }) s
    else s) s

/-- SR_EXIT_COMPLETE (R199, R201, R206): during a training run or a frequency change the stack joins it, and serves when that
ends (R193, R194). -/
def execSrExitComplete (stack : Nat) (s : State) : Host.Outcome State Fault Refusal :=
  onPart .head (fun s =>
    let t := stackAt stack s
    if t.state = .srExiting then
      let next := if s.head.cl.op.isSome then StackState.training else .active
      let s1 := updStack stack (fun t => { t with state := next, exitCmd := false, lastReq := s.now }) s
      backInService stack (post .head 0x04 0 0x0009 (BitVec.ofNat 32 (stack + 256 * b2n t.forced)) 0 s1)
    else s) s

/-! ## Other commands and registers -/

/-- STATE code of a stack. -/
def stackCode (t : StackState) : Nat :=
  match t with | .active => 0 | .srEntering => 1 | .selfRefresh => 2 | .srExiting => 3 | .training => 4

/-- CL_GET_INFO (R204). -/
def specClGetInfo : OpSpec where
  opcode := 0x0401
  run := fun c s =>
    let a := stackAt 0 s
    let b := stackAt 1 s
    let mask := (List.range 4).foldl (fun m k => m + (if recordValid k s then 2 ^ k else 0)) 0
    ok c 0x0401 (leBytes 1 s.head.cl.point ++ leBytes 1 s.head.cl.usable.toNat ++ leBytes 1 a.band ++ leBytes 1 b.band ++
      leBytes 1 (stackCode a.state) ++ leBytes 1 (stackCode b.state) ++ [0, 0] ++ leInt 2 a.temp ++ leInt 2 b.temp ++
      leBytes 1 mask ++ [0, 0, 0]) s

def execClGetInfo (c : Cmd) (s : State) : Host.Outcome State Fault Refusal := runCmd specClGetInfo c s

/-- CL_GET_ERRORS (R204). -/
def specClGetErrors : OpSpec where
  opcode := 0x0405
  fits := fun n => n == 4
  params := fun c _ => firstErr [inRange (fld c.params 0 1) 0 1 0, inRange (fld c.params 1 1) 0 1 1]
  run := fun c s =>
    let k := fld c.params 0 1
    let t := stackAt k s
    let s1 := if fld c.params 1 1 = 1 then
        updStack k (fun t => { t with ceCount := 0, ueCount := 0, ceAddr := 0, ueAddr := 0, stalls := 0 }) s
      else s
    ok c 0x0405 (leBytes 4 t.ceCount.toNat ++ leBytes 4 t.ueCount.toNat ++ leBytes 8 t.ceAddr ++ leBytes 8 t.ueAddr ++
      leBytes 4 t.stalls.toNat ++ zeros 4) s1

def execClGetErrors (c : Cmd) (s : State) : Host.Outcome State Fault Refusal := runCmd specClGetErrors c s

/-- CL_SET_SCRUB (R190, R191, R204). -/
def specClSetScrub : OpSpec where
  opcode := 0x0406
  fits := fun n => n == 4
  params := fun c _ => inRange (fld c.params 2 2) 1 65535 2
  run := fun c s =>
    ok c 0x0406 []
      (ceRate 1 (ceRate 0 { s with head.cl.scrubHours := fld c.params 0 1, head.cl.ceThr := fld c.params 2 2 }))

def execClSetScrub (c : Cmd) (s : State) : Host.Outcome State Fault Refusal := runCmd specClSetScrub c s

/-- CL_INJECT_ERROR (R204). -/
def specClInjectError : OpSpec where
  opcode := 0x0407
  fits := fun n => n == 12
  params := fun c _ => firstErr
    [need (decide (fld c.params 0 8 % 8 = 0 ∧ fld c.params 0 8 < cellarEnd)) (badParam 0), inRange (fld c.params 8 1) 1 2 8]
  state := fun c s =>
    if (getKey s.head.cl.inject (fld c.params 0 8)).isNone ∧ 16 ≤ s.head.cl.inject.length then errSt stBusy else none
  run := fun c s =>
    ok c 0x0407 [] { s with head.cl.inject := putKey s.head.cl.inject (fld c.params 0 8) (fld c.params 8 1) }

def execClInjectError (c : Cmd) (s : State) : Host.Outcome State Fault Refusal := runCmd specClInjectError c s

/-- CL_CTL and its write. -/
def clCtl (s : State) : Nat :=
  65536 * s.head.cl.idleUs.toNat + 4 * b2n s.head.cl.scrubEn + 2 * b2n s.head.cl.autoSr

def clCtlWrite (v : Word) (s : State) : State :=
  { s with
    head.cl.idleUs := BitVec.ofNat 16 (bits v.toNat 31 16)
    head.cl.scrubEn := v.getLsbD 2, head.cl.autoSr := v.getLsbD 1 }

/-- CL_STATUS and its write-1-to-clear bits. -/
def clStatus (s : State) : Nat :=
  4096 * s.head.cl.usable.toNat + 1024 * s.head.cl.point + 512 * b2n s.head.cl.ueSeen + 256 * b2n s.head.cl.ceSeen +
    64 * (stackAt 1 s).band + 8 * stackCode (stackAt 1 s).state + stackCode (stackAt 0 s).state

def clStatusWrite (v : Word) (s : State) : State :=
  { s with head.cl.ueSeen := s.head.cl.ueSeen && !v.getLsbD 9, head.cl.ceSeen := s.head.cl.ceSeen && !v.getLsbD 8 }

/-! ## The XOR masks (R178 to R180) -/

/-- The address that, under the masks of `new`, lies where address `a` lies under those of `old`. -/
def moveAddr (old new : Cellar) (a : Nat) : Nat :=
  let row := a / 2097152
  let keep := a % 256 + 16384 * (a / 16384 % 4)
  let withBanks := keep + 65536 * (List.range 5).foldl (fun v i =>
      v + 2 ^ i * b2n (bankBit old a i != parity22 (granule (2097152 * row) &&& new.bkXor.getD i 0))) 0 + 2097152 * row
  withBanks + 256 * (List.range 6).foldl (fun v j =>
      v + 2 ^ j * b2n (pcBit old a j != parity22 (granule withBanks &&& new.pcXor.getD j 0))) 0

/-- The masks change: what lies in the stacks stays where it is, and so appears at other addresses; requests accepted
before, each within one granule, keep their locations. DEDUCED, log entry 34. -/
def remapCellar (new : Cellar) (s : State) : State :=
  let f := moveAddr s.head.cl new
  { s with head.cl := { new with
      mem := new.mem.foldl (fun m c => memPut m (f c.1) c.2) []
      flips := new.flips.map (fun x => (f x.1, x.2))
      inject := new.inject.map (fun x => (f x.1, x.2))
      writeBack := new.writeBack.map f
      stks := new.stks.map (fun k => { k with queue := k.queue.map (fun r => { r with addr := f r.addr }) }) } }

/-- CL_PC_XOR_j and CL_BK_XOR_i written (R180). DEDUCED, log entry 34. -/
def pcXorWrite (j : Nat) (v : Word) (s : State) : State :=
  remapCellar { s.head.cl with pcXor := upd s.head.cl.pcXor j (fun _ => BitVec.ofNat 22 v.toNat) } s
def bkXorWrite (i : Nat) (v : Word) (s : State) : State :=
  remapCellar { s.head.cl with bkXor := upd s.head.cl.bkXor i (fun _ => BitVec.ofNat 22 (v.toNat / 128 * 128)) } s

end Sys2Proof.Machine
end

