-- ==== Sys2Proof/Machine/Audio.lean ====
section
/-!
DEFINITION. The audio ports (R517 to R538): TDM frames, groups and their presentation delay, stream rings and host rings,
slot masks, the audio PLL.
-/
namespace Sys2Proof.Machine

/-- Change the audio state. -/
def updAu (f : Audio → Audio) (s : State) : State := { s with head.au := f s.head.au }

/-- Port `p`. -/
def auPort (p : Nat) (s : State) : AuPort := s.head.au.ports.getD p { group := 0 }

/-- Change it. -/
def updAuPort (p : Nat) (f : AuPort → AuPort) (s : State) : State := updAu (fun a => { a with ports := upd a.ports p f }) s

/-- Group `g`. -/
def auGroup (g : Nat) (s : State) : AuGroup := s.head.au.groups.getD g {}

/-- Change it. -/
def updAuGroup (g : Nat) (f : AuGroup → AuGroup) (s : State) : State := updAu (fun a => { a with groups := upd a.groups g f }) s

/-- Sample rate of a rate code. -/
def sampleRate (rate : Nat) : Nat := if rate = 1 then 96000 else 48000

/-- A group runs while any of its ports is enabled (R523). -/
def groupRuns (g : Nat) (s : State) : Bool := s.head.au.ports.any (fun p => p.group == g && p.en)

/-- The TDM frame in progress at wall time `w` (R520): the last n with floor(n × 10⁹ / f_s) at or before it. -/
def tdmFrameAt (rate w : Nat) : Nat := ((w + 1) * sampleRate rate - 1) / 1000000000

/-- When TDM frame `n` begins (R520). -/
def tdmStart (rate n : Nat) : Nat := n * 1000000000 / sampleRate rate

/-! ## Delay (R524 to R526) -/

/-- D_s = round(D × f_s / 10⁹), a D below 0 taken as 0 (R524). -/
def delaySamples (rate : Nat) (d : Int) : Nat := roundDiv (d.toNat * sampleRate rate) 1000000000

/-- D_s that a group's settings and L_W ask for; none while it waits for L_W (R526). -/
def wantedDs (g : AuGroup) : Option Nat :=
  if g.cfg.mode = 0 then some (delaySamples g.rate g.cfg.offset)
  else g.lw.map (fun l => delaySamples g.rate (l + g.cfg.offset))

/-- WAITING (R526). -/
def isWaiting (g : AuGroup) : Bool := g.cfg.mode == 1 && g.lw.isNone

/-- The group's read position during its present frame (R527), while it runs and has a delay. -/
def readPos (g : Nat) (s : State) : Option Int :=
  let q := auGroup g s
  if groupRuns g s ∧ q.hasD ∧ ¬ isWaiting q then some ((tdmFrameAt q.rate (wall s.head.mt) : Int) - q.ds + 2) else none

/-- A measurement of L_W (R525, R526): the first is adopted, a later one when 16 in a row have differed by more than half
a sample period. -/
def measureWall (g : Nat) (l : Int) (s : State) : State :=
  updAuGroup g (fun q =>
    match q.lw with
    | none => { q with lw := some l, differ := 0 }
    | some v =>
      if 1000000000 < 2 * (l - v).natAbs * sampleRate q.rate then
        (if 15 ≤ q.differ then { q with lw := some l, differ := 0 } else { q with differ := q.differ + 1 })
      else { q with differ := 0 }) s

/-! ## Sources -/

/-- The group whose slots map a stream (R529), in force or pending. -/
def groupOfStream (k : Nat) (s : State) : Option Nat :=
  (s.head.au.ports.find? (fun p => p.srcs.any (fun x => x.src == k) ||
    (match p.pend with | some x => x.2.2.any (fun y => y.src == k) | none => false))).map (fun p => p.group)

/-- Configured audio stream. -/
def audioCfg (k : Nat) (s : State) : List Byte := (s.head.fy.audio.getD k { cfg := [] }).cfg

/-- Ring address of sample frame `m` (R528). -/
def ringAddr (cfg : List Byte) (m : Int) : Nat :=
  fld cfg 80 8 + (m % (max 1 (fld cfg 88 4) : Nat)).toNat * 4 * (fld cfg 3 1 + 1)

/-- Sample `ch` of sample frame `m` of a stream, when it is written (R189, R528). A read that Cellar serves too late, while a training
run or a frequency change is in progress, finds it unwritten. DESIGN CHOICE, log entry 36. -/
def streamSample (k ch : Nat) (m : Int) (s : State) : Option Int :=
  let cfg := audioCfg k s
  if fld cfg 88 4 = 0 ∨ clStopped s then none
  else
    let a := ringAddr cfg m
    let tag := clRead 1 a 4 s
    let v := clRead 1 (a + 4 * (ch + 1)) 4 s
    if leNat tag.1 = (m % 4294967296).toNat ∧ tag.2.1.isEmpty ∧ v.2.1.isEmpty then some (signed 24 (leNat v.1 / 256)) else none

/-- Slots of a port that read the host ring. -/
def hostSlots (p : AuPort) : List Nat :=
  (List.range p.slots).filter (fun i => p.mask.getLsbD i && (p.srcs.getD i {}).src == 0xFE)

/-- Record stride of the host ring (R533). -/
def hostStride (p : AuPort) : Nat := ceilDiv ((hostSlots p).length * (if p.pack4 then 4 else 3)) 4 * 4

/-- The host sample of a slot in TDM frame `n` (R189, R533). -/
def hostSample (p : AuPort) (n slot : Nat) (s : State) : Option Int :=
  let i := ((hostSlots p).takeWhile (fun x => x != slot)).length
  let a := p.hostBase + (n % (max 1 p.hostFrames)) * hostStride p
  let rd := if p.pack4 then clRead 1 (a + 4 * i + 1) 3 s else clRead 1 (a + 3 * i) 3 s
  if rd.2.1.isEmpty ∧ ¬ clStopped s then some (signed 24 (leNat rd.1)) else none

/-! ## Counting (R530 to R532, R534, R538) -/

/-- Count `n` samples of an underrun, `fresh` when a run begins, with AU_UNDERRUN at most once a second. -/
def countUnder (k : Nat) (fresh : Bool) (s : State) : State :=
  let st := s.head.au.stats.getD k {}
  let w := wall s.head.mt
  let may : Bool := match st.underPosted with | some t => decide (t + 1000000000 ≤ w) | none => true
  let s1 := updAu (fun a => { a with stats := upd a.stats k (fun x =>
    { x with
      underSamples := x.underSamples + 1
      underRuns := if fresh then x.underRuns + 1 else x.underRuns
      underPosted := if may then some w else x.underPosted
      underCount := if may then 0 else x.underCount + 1 }) }) s
  if may then
    post .head 0x0E 2 0x0001 (BitVec.ofNat 32 (if k < 64 then k else 0x80 + (k - 64))) (BitVec.ofNat 64 (st.underCount + 1)) s1
  else s1

/-- Count one overrun sample, with AU_OVERRUN at most once a second. -/
def countOver (k : Nat) (s : State) : State :=
  let st := s.head.au.stats.getD k {}
  let w := wall s.head.mt
  let may : Bool := match st.overPosted with | some t => decide (t + 1000000000 ≤ w) | none => true
  let s1 := updAu (fun a => { a with stats := upd a.stats k (fun x =>
    { x with
      overSamples := x.overSamples + 1
      overPosted := if may then some w else x.overPosted
      overCount := if may then 0 else x.overCount + 1 }) }) s
  if may then
    post .head 0x0E 2 0x0002 (BitVec.ofNat 32 (if k < 64 then k else 0x80 + (k - 64))) (BitVec.ofNat 64 (st.overCount + 1)) s1
  else s1

/-! ## TDM frames (R520, R522, R527 to R534) -/

/-- The port sends (R522): enabled, and not held for the audio PLL. -/
def isSending (p : AuPort) : Bool := p.en && !p.held

/-- Streams mapped into enabled slots of a port. -/
def mappedStreams (p : AuPort) : List Nat :=
  ((List.range p.slots).filterMap (fun i =>
    let x := p.srcs.getD i {}
    if p.mask.getLsbD i ∧ x.src ≤ 63 then some x.src else none)).eraseDups

/-- The effects of reading a whole sample frame on Cellar's error state (R188, R189). -/
def touchFrame (m : Int) (s : State) (k : Nat) : State :=
  let cfg := audioCfg k s
  if fld cfg 88 4 = 0 then s else (clRead 1 (ringAddr cfg m) (4 * (fld cfg 3 1 + 1)) s).2.2

/-- Read sample frame `m` for a port (R189, R527, R530): what each slot will send; `none` repeats its last sample. A stream
underruns when a sample of any of its slots is unwritten. DEDUCED, log entry 70. -/
def readAhead (pn : Nat) (m : Int) (s : State) : State :=
  let p := auPort pn s
  let mute := (auGroup p.group s).cfg.mute
  let lacks := fun (k : Nat) => (List.range p.slots).any (fun i =>
    let x := p.srcs.getD i {}
    p.mask.getLsbD i && x.src == k && (streamSample k x.ch m s).isNone)
  let missing := (mappedStreams p).filter lacks
  let one := fun (i : Nat) =>
    let x := p.srcs.getD i {}
    if ¬ p.mask.getLsbD i ∨ 63 < x.src then (some (0 : Int), 0)
    else if missing.contains x.src then
      let r := p.runs.getD i 0 + 1
      ((if mute < r then some 0 else none), r)
    else (streamSample x.src x.ch m s, 0)
  let res := (List.range 32).map one
  let fresh := fun (k : Nat) => (List.range p.slots).all (fun i => (p.srcs.getD i {}).src != k || p.runs.getD i 0 == 0)
  let s1 := updAuPort pn (fun q =>
    { q with ahead := res.map Prod.fst, runs := res.map Prod.snd, underrun := q.underrun || !missing.isEmpty })
    ((mappedStreams p).foldl (touchFrame m) s)
  missing.foldl (fun t k => countUnder k (fresh k) t) s1

/-- The host slots of frame `n` (R189, R530, R534): their samples, or repeats of those that cannot be read and while the frame is not
before the tail. -/
def hostFrame (pn n : Nat) (s : State) : List (Nat × Option Int) × State :=
  let p := auPort pn s
  let slots := hostSlots p
  if slots.isEmpty then ([], s)
  else
    let lead := sdiff p.tail (BitVec.ofNat 32 n)
    let mute := (auGroup p.group s).cfg.mute
    if lead ≤ 0 then
      let r := p.hostRun + 1
      let s1 := countUnder (64 + pn) (p.hostRun == 0) (updAuPort pn (fun q => { q with underrun := true, hostRun := r }) s)
      (slots.map (fun i => (i, if mute < r then some 0 else none)), s1)
    else
      let vals := slots.map (fun i => (i, hostSample p n i s))
      let bad := vals.any (fun x => x.2.isNone)
      let r := if bad then p.hostRun + 1 else 0
      let s1 := updAuPort pn (fun q => { q with underrun := q.underrun || bad, hostRun := r }) s
      let s2 := if bad then countUnder (64 + pn) (p.hostRun == 0) s1 else s1
      let s3 := if (p.hostFrames : Int) < lead then countOver (64 + pn) (updAuPort pn (fun q => { q with hostOverrun := true }) s2) else s2
      (vals.map (fun x => (x.1, match x.2 with | some v => some v | none => if mute < r then some 0 else none)),
        (clRead 1 (p.hostBase + (n % (max 1 p.hostFrames)) * hostStride p) (hostStride p) s3).2.2)

/-- TDM frame `n` of a port: what leaves, and the read of the next sample frame. DEDUCED, log entry 70. -/
def tdmFrame (pn n : Nat) (s : State) : State :=
  let p := auPort pn s
  let g := auGroup p.group s
  let send := fun (l : List Int) (t : State) =>
    emit .head (.tdm pn (l.take p.slots)) (updAuPort pn (fun q => { q with last := l, sentN := some n }) t)
  if isWaiting g ∨ ¬ g.hasD then send (List.replicate 32 0) s
  else
    let h := hostFrame pn n s
    if 0 < p.repeats then send p.last (updAuPort pn (fun q => { q with repeats := q.repeats - 1 }) h.2)
    else
      let m : Int := (n : Int) - g.ds
      let s1 := if (auPort pn h.2).ahead.isEmpty then readAhead pn m h.2 else h.2
      let now := (auPort pn s1).ahead
      let vals := (List.range 32).map (fun i =>
        let v := match getKey h.1 i with | some x => x | none => now.getD i (some 0)
        if i < p.slots then v.getD (p.last.getD i 0) else 0)
      send vals (readAhead pn (m + 1) s1)

/-- DIV of a port in units of 2⁻²⁴ (R521), which AU_DIV shows. -/
def auDiv (p : AuPort) (s : State) : Nat :=
  let b := sampleRate (auGroup p.group s).rate * p.slots * 32
  let n := 400000000 / b
  16777216 * n + roundDiv (16777216 * (400000000 - n * b)) b

/-! ## The outputs (R517 to R519, R521, R522)

The levels of AUn_BCLK, AUn_FS and AUn_SD `off` nanoseconds of wall time after the TDM frame in progress began. All three are low
while the port does not send. -/

/-- The bit of the frame that is being sent, and whether BCLK has risen in it: each bit begins with the falling edge. -/
def auBit (p : AuPort) (off : Nat) (s : State) : Nat × Bool :=
  let half := off * 8 * 16777216 / (10 * auDiv p s)
  (half / 2 % (32 * p.slots), half % 2 == 1)

/-- AUn_BCLK. -/
def bclkLevel (pn off : Nat) (s : State) : Bool := isSending (auPort pn s) && (auBit (auPort pn s) off s).2

/-- AUn_SD: each sample in bits [31:8] of its slot, bit 31 of slot 0 first. -/
def sdLevel (pn off : Nat) (s : State) : Bool :=
  let p := auPort pn s
  let i := (auBit p off s).1
  isSending p && (256 * unsigned 24 (p.last.getD (i / 32) 0)).testBit (31 - i % 32)

/-- AUn_FS. -/
def fsLevel (pn off : Nat) (s : State) : Bool :=
  let p := auPort pn s
  let i := (auBit p off s).1
  let n := 32 * p.slots
  isSending p && (if p.fsMode = 0 then decide (i + 1 = n) else if p.fsMode = 1 then decide (i = 0) else decide (n / 2 ≤ (i + 1) % n))

/-! ## Boundaries (R522, R526, R535, R536) -/

/-- D_s of a group takes a value (R526): its first D only begins; after that, repeats when it rises, a fresh read when it
falls. DEDUCED, log entry 70. -/
def changeDelay (g new : Nat) (s : State) : State :=
  let old := (auGroup g s).ds
  let had := (auGroup g s).hasD
  if had ∧ old = new then s
  else
    let s1 := updAu (fun a => { a with ports := a.ports.map (fun p =>
      if p.group = g then
        (if ¬ had then { p with ahead := [], repeats := 0 }
         else if old < new then { p with repeats := p.repeats + (new - old) }
         else { p with ahead := [], repeats := p.repeats - (old - new) })
      else p) }) (updAuGroup g (fun q => { q with ds := new, hasD := true }) s)
    if had then post .head 0x0E 1 0x0003 (BitVec.ofNat 32 g) (BitVec.ofNat 64 (old + 4294967296 * new)) s1 else s1

/-- A pending mask takes effect (R535). DEDUCED, log entry 70. -/
def switchMask (pn z : Nat) (mask : BitVec 32) (srcs : List SlotSrc) (s : State) : State :=
  post .head 0x0E 0 0x0004 (BitVec.ofNat 32 pn) (BitVec.ofNat 64 (z % 4294967296))
    (updAuPort pn (fun q => { q with mask := mask, srcs := srcs, pend := none, ahead := [], runs := List.replicate 32 0 }) s)

/-- The D_s that a running group's settings ask for takes effect; a group that waits for L_W has none (R526). -/
def applyDelay (g : Nat) (s : State) : State :=
  match wantedDs (auGroup g s) with
  | some d => changeDelay g d s
  | none => updAuGroup g (fun q => { q with hasD := false }) s

/-- An audio frame boundary of a group. DEDUCED, log entry 70. -/
def audioBoundary (g k : Nat) (s : State) : State :=
  let s1 := updAuGroup g (fun q =>
    match q.pend with
    | some c => { q with cfg := c, pend := none, fired := some k }
    | none => { q with fired := some k }) s
  let q := auGroup g s1
  let s2 := applyDelay g s1
  let pll := s.head.au.pllLock && decide (s.head.au.lockSince + 5000000 ≤ s.now)
  (List.range 8).foldl (fun t pn =>
    let p := auPort pn t
    if p.group ≠ g then t
    else
      let t1 := if pll then updAuPort pn (fun x => { x with held := false }) t else t
      match p.pend with
      | some (z, m, l) => if z ≤ k * q.la then switchMask pn z m l t1 else t1
      | none => t1) s2

/-- The audio frame in progress of a group: it began at the boundary of the same number (R66). -/
def audioFrameNow (g : Nat) (s : State) : Nat := tdmFrameAt (auGroup g s).rate (wall s.head.mt) / (max 1 (auGroup g s).la)

/-- A running group has not taken the boundary of its audio frame in progress. -/
def audioDue (g : Nat) (s : State) : Bool := groupRuns g s && decide ((auGroup g s).fired ≠ some (audioFrameNow g s))

/-- The boundary of the audio frame in progress, if a running group has not taken it yet. -/
def dueAudio (g : Nat) (s : State) : State := if audioDue g s then audioBoundary g (audioFrameNow g s) s else s

/-- AUDIO (R66, R522, R526, R535): boundary `k` of a running group has come. -/
def execAudio (g k : Nat) (s : State) : Host.Outcome State Fault Refusal :=
  onPart .head (fun s => if g < 8 ∧ k = audioFrameNow g s then dueAudio g s else s) s

/-- The frame in progress, when the port sends and has not sent it. -/
def tdmDue (port n : Nat) (s : State) : State :=
  let p := auPort port s
  let isNew : Bool := match p.sentN with | some k => decide (k < n) | none => true
  if isSending p ∧ isNew ∧ n = tdmFrameAt (auGroup p.group s).rate (wall s.head.mt) then tdmFrame port n s else s

/-- TDM_FRAME (R520, R527, R530, R534): the frame in progress, once, after the boundary that it begins at. -/
def execTdmFrame (port n : Nat) (s : State) : Host.Outcome State Fault Refusal :=
  onPart .head (fun s => if port < 8 then tdmDue port n (dueAudio (auPort port s).group s) else s) s

/-- AU_PLL_UNLOCK (R522). -/
def execAuPllUnlock (s : State) : Host.Outcome State Fault Refusal :=
  onPart .head (fun s =>
    if s.head.au.pllLock then
      post .head 0x0E 3 0x0005 0 0
        (updAu (fun a => { a with pllLock := false, ports := a.ports.map (fun p => { p with held := true }) }) s)
    else s) s

/-- AU_PLL_RELOCK (R522): locked again; the ports resume 5 ms later at a boundary. -/
def execAuPllRelock (s : State) : Host.Outcome State Fault Refusal :=
  onPart .head (fun s => if s.head.au.pllLock then s else updAu (fun a => { a with pllLock := true, lockSince := s.now }) s) s

/-- AU_HOST_TAIL (R534). -/
def execAuHostTail (port : Nat) (tail : Word) (s : State) : Host.Outcome State Fault Refusal :=
  onPart .head (updAuPort port (fun p => { p with tail := tail })) s

/-! ## Commands (R537) -/

/-- Most slots at a rate (R518). -/
def slotLimit (rate : Nat) : Nat := if rate = 1 then 16 else 32

/-- AU_SET_PORT only clears EN: every other field is as it stands. -/
def onlyClears (p : List Byte) (q : AuPort) : Bool :=
  !bit (fld p 5 1) 0 && fld p 1 1 == q.group && fld p 2 1 == q.slots && fld p 3 1 == q.fsMode && (fld p 4 1 == 1) == q.pack4 &&
    fld p 8 8 == q.hostBase && fld p 16 4 == q.hostFrames

/-- AU_SET_PORT (R518, R519, R533). -/
def specAuSetPort : OpSpec where
  opcode := 0x0E01
  fits := fun n => n == 20
  params := fun c s =>
    let p := c.params
    firstErr [inRange (fld p 0 1) 0 7 0, inRange (fld p 1 1) 0 7 1, inRange (fld p 2 1) 1 (slotLimit (auGroup (fld p 1 1) s).rate) 2,
      inRange (fld p 3 1) 0 2 3, inRange (fld p 4 1) 0 1 4, need (decide (fld p 8 8 % 4096 = 0)) (badParam 8),
      inRange (fld p 16 4) 16 65536 16, need (decide (fld p 3 1 ≠ 2 ∨ fld p 2 1 % 2 = 0)) (badParam 2),
      need (decide (fld p 8 8 + 128 * fld p 16 4 ≤ 0xA00000000)) (badParam 8)]
  state := fun c s =>
    let q := auPort (fld c.params 0 1) s
    if q.en ∧ ¬ onlyClears c.params q then errSt stBusy else none
  run := fun c s =>
    let p := c.params
    ok c 0x0E01 [] (updAuPort (fld p 0 1) (fun q =>
      { q with
        group := fld p 1 1, slots := fld p 2 1, fsMode := fld p 3 1, pack4 := fld p 4 1 == 1, en := bit (fld p 5 1) 0
        hostBase := fld p 8 8, hostFrames := fld p 16 4
        ahead := [], sentN := if bit (fld p 5 1) 0 then none else q.sentN }) s)

def execAuSetPort (c : Cmd) (s : State) : Host.Outcome State Fault Refusal := runCmd specAuSetPort c s

/-- AU_SET_GROUP (R523, R524, R526): RATE and L_A only while the group does not run; the rest at the next boundary, or at
once while there is none. -/
def specAuSetGroup : OpSpec where
  opcode := 0x0E02
  fits := fun n => n == 12
  params := fun c _ =>
    let p := c.params
    firstErr [inRange (fld p 0 1) 0 7 0, inRange (fld p 1 1) 0 1 1, inRange (fld p 2 1) 0 1 2, inRange (fld p 3 1) 0 63 3,
      inRange (fld p 4 2) 8 4096 4, need (decide (-10000000 ≤ sfld p 8 4 ∧ sfld p 8 4 ≤ 1000000000)) (badParam 8)]
  state := fun c s =>
    let q := auGroup (fld c.params 0 1) s
    if groupRuns (fld c.params 0 1) s ∧ (fld c.params 1 1 ≠ q.rate ∨ fld c.params 4 2 ≠ q.la) then errSt stBusy else none
  run := fun c s =>
    let p := c.params
    let new : AuGroupCfg := { mode := fld p 2 1, video := fld p 3 1, mute := fld p 6 2, offset := sfld p 8 4 }
    let on := groupRuns (fld p 0 1) s
    let s1 := updAuGroup (fld p 0 1) (fun q =>
      if on then { q with pend := some new } else { q with rate := fld p 1 1, la := fld p 4 2, cfg := new, pend := none, hasD := false }) s
    ok c 0x0E02 [] s1

def execAuSetGroup (c : Cmd) (s : State) : Host.Outcome State Fault Refusal := runCmd specAuSetGroup c s

/-- The 32 entries of AU_SET_SLOTS. -/
def parseSlots (p : List Byte) : List SlotSrc := (List.range 32).map (fun i => { src := fld p (8 + 2 * i) 1, ch := fld p (9 + 2 * i) 1 })

/-- Range of one entry, then R529: the stream's group and rate. -/
def slotErr (port : Nat) (i : Nat) (x : SlotSrc) (s : State) : Option Err :=
  let g := (auPort port s).group
  let cfg := audioCfg x.src s
  let elsewhere := (List.range 8).any (fun k => k != port && (auPort k s).group != g &&
    ((auPort k s).srcs.any (fun y => y.src == x.src) ||
      (match (auPort k s).pend with | some w => w.2.2.any (fun y => y.src == x.src) | none => false)))
  firstErr
    [need (decide (x.src ≤ 63 ∨ x.src = 0xFE ∨ x.src = 0xFF)) (badParam (8 + 2 * i)), inRange x.ch 0 63 (9 + 2 * i),
     (if x.src ≤ 63 ∧ (elsewhere ∨ fld cfg 2 1 ≠ (auGroup g s).rate) then badParam (8 + 2 * i) else none),
     (if x.src ≤ 63 ∧ 0 < fld cfg 3 1 ∧ fld cfg 3 1 ≤ x.ch then badParam (9 + 2 * i) else none)]

/-- Z of R535: the first boundary after wall time `w`. -/
def switchFrame (g : AuGroup) (w : Nat) : Nat := (tdmFrameAt g.rate w / (max 1 g.la) + 1) * g.la

/-- AU_SET_SLOTS (R529, R535, R536). -/
def specAuSetSlots : OpSpec where
  opcode := 0x0E03
  frameable := true
  fits := fun n => n == 72
  params := fun c s =>
    firstErr (inRange (fld c.params 0 1) 0 7 0 ::
      (List.range 32).map (fun i => slotErr (fld c.params 0 1) i ((parseSlots c.params).getD i {}) s))
  run := fun c s =>
    let p := c.params
    let pn := fld p 0 1
    let g := auGroup (auPort pn s).group s
    let go := fun (t : Nat) (s : State) =>
      let z := switchFrame g t
      (z, updAuPort pn (fun q => { q with pend := some (z, BitVec.ofNat 32 (fld p 4 4), parseSlots p) }) s)
    match (if flFrame c.flags then frameOf c s else .noTicks) with
    | .onFrame n late =>
      let r := go ((tickOf s.head.mt n).getD c.arrival).toNat s
      okFrame c 0x0E03 (leBytes 4 r.1) n late r.2
    | _ =>
      let r := go c.arrival s
      ok c 0x0E03 (leBytes 4 r.1) r.2

def execAuSetSlots (c : Cmd) (s : State) : Host.Outcome State Fault Refusal := runCmd specAuSetSlots c s

/-- AU_PORT_CTL. -/
def auPortCtl (p : AuPort) : Nat := 65536 * p.slots + 8192 * p.group + 1024 * p.fsMode + 512 * b2n p.pack4 + b2n p.en

/-- AU_PORT_STATUS. -/
def auPortStatus (p : AuPort) (s : State) : Nat :=
  64 * b2n p.pend.isSome + 32 * b2n p.hostOverrun + 16 * b2n p.underrun + 8 * b2n (isWaiting (auGroup p.group s)) +
    4 * b2n s.head.au.pllLock + 2 * b2n (isSending p)

/-- AU_GROUP_CTL, AU_GROUP_WALL. -/
def auGroupCtl (g : AuGroup) : Nat := 524288 * g.la + 256 * g.cfg.video + 4 * g.cfg.mode + 2 * g.rate
def auGroupWall (g : AuGroup) : Nat := unsigned 32 (g.lw.getD 0)

/-- AU_GET_STATUS. -/
def specAuGetStatus : OpSpec where
  opcode := 0x0E04
  fits := fun n => n == 4
  params := fun c _ => inRange (fld c.params 0 1) 0 7 0
  run := fun c s =>
    let p := auPort (fld c.params 0 1) s
    let g := auGroup p.group s
    ok c 0x0E04 (leBytes 4 (auPortStatus p s) ++ leBytes 4 (auDiv p s) ++ leBytes 4 p.mask.toNat ++
      leBytes 4 (tdmFrameAt g.rate (wall s.head.mt)) ++ leBytes 4 g.ds ++ leBytes 4 (auGroupWall g)) s

def execAuGetStatus (c : Cmd) (s : State) : Host.Outcome State Fault Refusal := runCmd specAuGetStatus c s

/-- Which source STREAM names. -/
def statIndex (n : Nat) : Nat := if n < 64 then n else 64 + (n - 0x80)

/-- AU_GET_STREAM_STATS. -/
def specAuGetStreamStats : OpSpec where
  opcode := 0x0E05
  fits := fun n => n == 4
  params := fun c _ => need (decide (fld c.params 0 1 ≤ 63 ∨ (0x80 ≤ fld c.params 0 1 ∧ fld c.params 0 1 ≤ 0x87))) (badParam 0)
  run := fun c s =>
    let k := statIndex (fld c.params 0 1)
    let x := s.head.au.stats.getD k {}
    let s1 := if bit (fld c.params 1 1) 0 then
        updAu (fun a => { a with stats := upd a.stats k (fun y =>
          { y with underSamples := 0, underRuns := 0, overSamples := 0, discardedOld := 0 }) }) s
      else s
    ok c 0x0E05 (leBytes 4 x.underSamples.toNat ++ leBytes 4 x.underRuns.toNat ++ leBytes 4 x.overSamples.toNat ++
      leBytes 4 x.discardedOld.toNat) s1

def execAuGetStreamStats (c : Cmd) (s : State) : Host.Outcome State Fault Refusal := runCmd specAuGetStreamStats c s

/-! ## Registers -/

/-- AU_PORT_CTL written (R646: FS_MODE 3 is no code). -/
def auPortCtlWrite (p : Nat) (v : Word) (s : State) : State :=
  let n := v.toNat
  let sameRate : Bool := (auGroup (auPort p s).group s).rate == (auGroup (bits n 15 13) s).rate
  updAuPort p (fun q =>
    { q with
      slots := bits n 21 16, group := bits n 15 13, fsMode := if bits n 11 10 = 3 then q.fsMode else bits n 11 10
      pack4 := bit n 9, en := bit n 0, ahead := [], sentN := if sameRate then q.sentN else none }) s

/-- AU_PORT_STATUS written: write 1 to clear. -/
def auPortStatusWrite (p : Nat) (v : Word) (s : State) : State :=
  updAuPort p (fun q => { q with hostOverrun := q.hostOverrun && !v.getLsbD 5, underrun := q.underrun && !v.getLsbD 4 }) s

/-- The host ring's registers written; ones in the address bits [11:0], which "must be 0", are dropped. DESIGN CHOICE, log entry 97. -/
def auBaseLoWrite (p : Nat) (v : Word) (s : State) : State :=
  updAuPort p (fun q => { q with hostBase := q.hostBase / 4294967296 * 4294967296 + v.toNat / 4096 * 4096 }) s
def auBaseHiWrite (p : Nat) (v : Word) (s : State) : State :=
  updAuPort p (fun q => { q with hostBase := v.toNat % 16 * 4294967296 + q.hostBase % 4294967296 }) s
def auFramesWrite (p : Nat) (v : Word) (s : State) : State := updAuPort p (fun q => { q with hostFrames := v.toNat % 131072 }) s
def auTailWrite (p : Nat) (v : Word) (s : State) : State := updAuPort p (fun q => { q with tail := v }) s

/-- A group's settings written as registers take effect at once (R13): a running group's delay, and with another RATE or L_A the
count of its frames and boundaries. -/
def regroup (g : Nat) (old : AuGroup) (s : State) : State :=
  let q := auGroup g s
  let s1 := if q.rate = old.rate ∧ q.la = old.la then s
    else updAuGroup g (fun q => { q with fired := none })
      (updAu (fun a => { a with ports := a.ports.map (fun p =>
        if p.group = g ∧ q.rate ≠ old.rate then { p with sentN := none, ahead := [] } else p) }) s)
  if groupRuns g s then applyDelay g s1 else updAuGroup g (fun q => { q with ds := (wantedDs q).getD q.ds, hasD := false }) s1

/-- AU_GROUP_CTL and AU_GROUP_OFFSET written. -/
def auGroupCtlWrite (g : Nat) (v : Word) (s : State) : State :=
  let n := v.toNat
  regroup g (auGroup g s) (updAuGroup g (fun q =>
    { q with la := bits n 31 19, rate := bits n 1 1, cfg := { q.cfg with video := bits n 15 8, mode := bits n 2 2 } }) s)
def auOffsetWrite (g : Nat) (v : Word) (s : State) : State :=
  regroup g (auGroup g s) (updAuGroup g (fun q => { q with cfg := { q.cfg with offset := v.toInt } }) s)

end Sys2Proof.Machine
end

