-- ==== Sys2Proof/Machine/Line.lean ====
section
/-!
DEFINITION. The blocks of a Graed lane as the line carries them (R325 to R328): the scrambler and the descrambler, the parity of a
payload, and the block types.
-/
namespace Sys2Proof.Machine

/-- One bit more on the line: the last 58 bits, the newest in bit 0 (R326). -/
def pushBit (st : BitVec 58) (b : Bool) : BitVec 58 := BitVec.ofNat 58 (2 * st.toNat + b.toNat)

/-- S(t − 39) xor S(t − 58) of the polynomial x⁵⁸ + x³⁹ + 1 (R326). -/
def taps (st : BitVec 58) : Bool := st.getLsbD 38 ^^ st.getLsbD 57

/-- S(t) = D(t) xor S(t − 39) xor S(t − 58), bit by bit (R326): the line bits, and the last 58 of them. -/
def scrambleBits (st : BitVec 58) : List Bool → List Bool × BitVec 58
  | [] => ([], st)
  | d :: rest =>
    let b := d ^^ taps st
    let r := scrambleBits (pushBit st b) rest
    (b :: r.1, r.2)

/-- D(t) = S(t) xor S(t − 39) xor S(t − 58), bit by bit (R326). -/
def descrambleBits (st : BitVec 58) : List Bool → List Bool × BitVec 58
  | [] => ([], st)
  | b :: rest =>
    let r := descrambleBits (pushBit st b) rest
    ((b ^^ taps st) :: r.1, r.2)

/-- The bits of a payload, bit 0 first. -/
def payloadBits (x : BitVec 64) : List Bool := (List.range 64).map (fun i => x.getLsbD i)

/-- A payload of bits, the first in bit 0. -/
def bitsPayload : List Bool → Nat
  | [] => 0
  | b :: rest => b.toNat + 2 * bitsPayload rest

/-- A payload onto the line (R326). -/
def scramble (st : BitVec 58) (x : BitVec 64) : BitVec 64 × BitVec 58 :=
  let r := scrambleBits st (payloadBits x)
  (BitVec.ofNat 64 (bitsPayload r.1), r.2)

/-- A payload off the line (R326). -/
def descramble (st : BitVec 58) (x : BitVec 64) : BitVec 64 × BitVec 58 :=
  let r := descrambleBits st (payloadBits x)
  (BitVec.ofNat 64 (bitsPayload r.1), r.2)

/-- The 8 parity bits of 56 data bits (R327): bit j is the exclusive-OR of data bits j, j + 8, … j + 48. -/
def parityOf (d : BitVec 56) : BitVec 8 :=
  d.extractLsb' 0 8 ^^^ d.extractLsb' 8 8 ^^^ d.extractLsb' 16 8 ^^^ d.extractLsb' 24 8 ^^^ d.extractLsb' 32 8 ^^^
    d.extractLsb' 40 8 ^^^ d.extractLsb' 48 8

/-- A payload of data bits with their parity (R327). -/
def withParity (d : BitVec 56) : BitVec 64 := parityOf d ++ d

/-- The parity of a payload agrees (R327). -/
def parityOk (x : BitVec 64) : Bool := x.extractLsb' 56 8 == parityOf (x.extractLsb' 0 56)

/-- The block types of R328. -/
def isBtype (t : Nat) : Bool :=
  [0x00, 0x1E, 0x2D, 0x33, 0x4B, 0x55, 0x66, 0x69, 0x78, 0x79, 0x7A, 0x7B, 0x87, 0x88, 0x89, 0x8A, 0x8B, 0x8C, 0x99, 0xAA, 0xB4, 0xD2].contains t

/-- The control blocks that may stand between two words of a packet, or end it (R331, R349). -/
def mayStand (t : Nat) : Bool :=
  [0x1E, 0x2D, 0x4B, 0x55, 0x66, 0x78, 0x79, 0x7A, 0x7B, 0x87, 0x88, 0x89, 0x8A, 0x8B, 0x8C, 0x99].contains t

end Sys2Proof.Machine
end

