-- ==== Sys2Proof/Machine/LoadOps.lean ====
section
/-!
DEFINITION. What the Head sends to Tiles in TILE space (R512), and its part of a Tile's load or adoption (R588 to R591).
-/
namespace Sys2Proof.Machine

/-! ## Packets of TILE space (R512) -/

/-- A BULK packet of the Head. -/
def bulkPacket (chain pos tag ch op addr bytes : Nat) (data : List Byte) (s : State) : GPkt :=
  let all := pos = 0xFF
  let w0 := 9 + 16 * op + 128 * b2n s.head.sys.roleB + 2048 * b2n all + 2 ^ 24 * ch + (if all then 0 else 2 ^ 32 * (pos - 1)) +
    2 ^ 36 * chain + 2 ^ 41 * s.head.sys.pair + 2 ^ 44 * tag
  { cls := 4, typ := 9, len := 2 + ceilDiv data.length 7, headB := s.head.sys.roleB, bcast := decide all, pair := s.head.sys.pair
    chain := chain, position := pos, payload := leBytes 7 w0 ++ leBytes 7 (addr % 4294967296 + 2 ^ 32 * bytes) ++ data }

/-- Send a burst's packet on the ports by which this Head reaches the Tiles, and over the twin port for those that only the
partner reaches (R88). -/
def sendBulk (tiles : List TileEnt) (k : GPkt) (s : State) : State :=
  let ports := ((tiles.filter (fun e => e.here)).map (fun e => e.port)).eraseDups
  let s1 := ports.foldl (fun a q => hand .head q k a) s
  if tiles.any (fun e => !e.here) then hand .head 32 { k with cls := 5, typ := 0xA } s1 else s1

/-! ## Loading and adopting (R589 to R591) -/

/-- An AT_TILE_RELOAD loses a Tile from its list: it replies once the list is empty, or at the first failure. -/
def reloadStep (chain pos : Nat) (reason : Option Nat) (s : State) : State :=
  let l := s.head.at_.reloads.map (fun e => (e.1, e.2.erase (chain, pos), e.2.contains (chain, pos)))
  let ends := fun (e : Cmd × List (Nat × Nat) × Bool) => e.2.2 && (reason.isSome || e.2.1.isEmpty)
  (l.filter ends).foldl (fun a e => match reason with
      | some r => failed e.1 0x100F r 0 a
      | none => ok e.1 0x100F [] a)
    { s with head.at_.reloads := (l.filter (fun e => !ends e)).map (fun e => (e.1, e.2.1)) }

/-- Cut a section into bursts of at most 1 536 bytes; `n` bounds how many. -/
def cutBursts : Nat → Nat → List Byte → List (Nat × List Byte)
  | 0, _, _ => []
  | _, _, [] => []
  | n + 1, a, l => (a, l.take 1536) :: cutBursts n (a + 1536) (l.drop 1536)

/-- Write both sections to Tiles, at one position of their chain or by broadcast (R589). DEDUCED, log entry 75. -/
def sendSections (tiles : List TileEnt) (chain pos : Nat) (s : State) : State :=
  let bursts := (tileSections s.head.at_.running s).flatMap (fun x => cutBursts (x.2.length / 1536 + 1) x.1 x.2)
  bursts.foldl (fun a b => sendBulk tiles (bulkPacket chain pos 0 0 0 b.1 b.2.length b.2 a) a) s

/-- AT_TILE_BOOT to Tiles into which the image has been written. -/
def bootTiles (tiles : List TileEnt) (s : State) : State :=
  tiles.foldl (fun a e => sendToTile e 0x1011 0 0 0 (tileBootBytes a.head.at_.running a)
    (updTileEnt e.chain e.position (fun e => { e with granted := false }) a)) s

/-- The Tiles of a chain that have granted their locks are written and started: by broadcast once every present Tile of the chain that
is to be loaded has, where every one is, and one by one otherwise (R589). DEDUCED, log entry 75. -/
def imageStep (chain : Nat) (s : State) : State :=
  let l := s.head.en.filter (fun e => present e && e.chain == chain && !e.reversed)
  let g := l.filter (fun e => e.granted)
  if l.all (fun e => e.loading) then
    if g.length < l.length then s else bootTiles g (sendSections g chain 0xFF s)
  else g.foldl (fun a e => bootTiles [e] (sendSections [e] chain e.position a)) s

/-- A Tile runs under this image: its configuration follows (R65, R76, R96, R596). -/
def tileRuns (chain pos : Nat) (s : State) : State :=
  let s1 := updTileEnt chain pos (fun e => { e with loaded := true, loading := false, granted := false })
    { s with head.at_.toRun := s.head.at_.toRun.erase (chain, pos) }
  match tileEnt chain pos s1 with
  | some e => imageStep chain (reloadStep chain pos none (configLoaded e s1))
  | none => s1

/-- Begin to load a Tile: AT_TILE_STAGE_BEGIN. DEDUCED, log entry 75. -/
def beginLoad (e : TileEnt) (s : State) : State :=
  sendToTile e 0x1010 0 0 0 [] (updTileEnt e.chain e.position (fun e => { e with loading := true, loaded := false, granted := false }) s)

/-- The load of a Tile ends without success. DEDUCED, log entry 75. -/
def endLoad (chain pos reason : Nat) (s : State) : State :=
  imageStep chain (reloadStep chain pos (some reason) (updTileEnt chain pos (fun e => { e with loading := false, granted := false }) s))

/-- The REASON of an error reply. -/
def replyReason (r : Reply) : Nat := if r.params.length = 8 then fld r.params 0 2 else 0x8000

/-- A Tile's reply to a command of its load; none of the Head's outstanding commands. DEDUCED, log entry 75. -/
def loadReply (r : Reply) (s : State) : State :=
  match tileEnt r.chain r.position s with
  | none => s
  | some e =>
    if ¬ e.loading then s
    else if r.status ≠ stOk then (if r.status = stProgress then s else endLoad r.chain r.position (replyReason r) s)
    else if r.opcode = 0x1010 then
      imageStep r.chain (updTileEnt r.chain r.position (fun e => { e with granted := true }) s)
    else tileRuns r.chain r.position s

end Sys2Proof.Machine
end

