-- ==== Sys2Proof/Machine/Graed.lean ====
section
/-!
DEFINITION. The Graed link (R321 to R371): bring-up and retraining, equalisation, lanes, credits, acknowledgement and
replay, forwarding at a Tile, LINK_STATE and enumeration (R16, R17, R618, R619), and the commands of R370.
-/
namespace Sys2Proof.Machine

/-- Port state code. -/
def glCode (v : GlState) : Nat :=
  match v with
  | .disabled => 0 | .detect => 1 | .train => 2 | .lock => 3 | .caps => 4 | .active => 5 | .retrain => 6 | .hold => 7

/-- Ports of a part exist below this number (R370). -/
def portCount (p : Part) (s : State) : Nat := (portsOf p s).length

/-- Count of lanes in a set. -/
def lanesIn (m : BitVec 4) : Nat := ((List.range 4).filter (fun i => m.getLsbD i)).length

/-- The lanes of a set, lowest first. -/
def laneList (m : BitVec 4) : List Nat := (List.range 4).filter (fun i => m.getLsbD i)

/-- Clear a port's lanes for a fresh bring-up at 10.3125 GBd with preset 1 (R355). -/
def freshLanes (g : GlPort) : List GlLane :=
  g.lanes.map (fun l => { l with
    lock := false, seen := false, detFrames := 0, readyFrames := 0, readyHere := false, readyPeer := false, eq := {},
    cPre := 0, cPost := 4, outSince := none, reqPre := 0, reqPost := 0, reqPreset := 1 })

/-- Enter DETECT: training frames at rate code 2. -/
def toDetect (now : Nat) (g : GlPort) : GlPort :=
  { g with
    state := .detect, since := now, sub := 0, rate := 2, laneActive := 0, lanes := freshLanes g,
    holdCause := .none, lastCaps := none, capsSame := 0, ackSame := 0, rateUse := g.rateMax }

/-- Enter HOLD for a cause. -/
def toHold (now : Nat) (cause : HoldCause) (g : GlPort) : GlPort :=
  { toDetect now g with state := .hold, holdCause := cause }

/-- Lose everything a link held (R355, R357). -/
def loseLink (g : GlPort) : GlPort :=
  { g with replayBuf := [], txq := [], seqNext := 0, seqExp := 0, attempts := 0, nakAt := none, bulkPassed := 0, laneReplay := false }

/-- Port number as an event detail. -/
def portDet (k : Nat) : BitVec 32 := BitVec.ofNat 32 k

/-- Panes in flight on a Head port whose link is lost count as lost transactions (R300, R357). -/
def loseTrans (p : Part) (port : Nat) (s : State) : State :=
  match p with
  | .head => { s with head.pp.trans := s.head.pp.trans.map (fun t => if t.port = port then { t with lost := true } else t) }
  | .tile => s

/-- A Head port carries a link: ACTIVE, or RETRAIN, which keeps its traffic (R355, R357). -/
def carries (k : Nat) (s : State) : Bool :=
  (portAt .head k s).state == .active || (portAt .head k s).state == .retrain

/-- The Tiles of a chain. -/
def matesOf (chain : Nat) (s : State) : List TileEnt := s.head.en.filter (fun x => x.chain == chain)

/-- The highest position of a chain. -/
def topOf (chain : Nat) (s : State) : Nat := ((matesOf chain s).map (fun x => x.position)).foldl max 0

/-- The Head and port at the high end of a chain: the return port of a loop, or Head B's port of a ring (R15, R18, R19). -/
def highEnd (chain : Nat) (s : State) : Option (Bool × Nat) := (matesOf chain s).findSome? (fun x => x.ret)

/-- The port of this Head at which a loop returns (R18). -/
def returnPort (chain : Nat) (s : State) : Option Nat :=
  match highEnd chain s with
  | some (b, d) => if b = s.head.sys.roleB ∧ (matesOf chain s).all (fun x => x.lowB == b) then some d else none
  | none => none

/-- The path from the low end of a chain to a Tile is whole, and the path from the high end (R313, R336, R367). -/
def lowPath (e : TileEnt) (s : State) : Bool :=
  (matesOf e.chain s).all (fun x => decide (e.position ≤ x.position) || x.farActive)

def highPath (e : TileEnt) (s : State) : Bool :=
  (matesOf e.chain s).all (fun x => decide (x.position < e.position) || x.position == topOf e.chain s || x.farActive)

/-- The chain's end that a Head holds carries a link: its own ports this Head sees, the partner's by the end Tiles' LINK_STATE. -/
def lowUp (e : TileEnt) (b : Bool) (s : State) : Bool :=
  if b = s.head.sys.roleB then carries e.chain s else (matesOf e.chain s).all (fun x => x.position != 1 || x.nearActive)

def highUp (e : TileEnt) (b : Bool) (d : Nat) (s : State) : Bool :=
  if b = s.head.sys.roleB then carries d s
  else (matesOf e.chain s).all (fun x => x.position != topOf e.chain s || x.farActive)

/-- The port by which a Head reaches a Tile, and whether by the low end of its chain: by the low end first, else by the high end
(R313, R336). DEDUCED, log entry 32. -/
def reachBy (b : Bool) (e : TileEnt) (s : State) : Option (Nat × Bool) :=
  if e.lowB = b ∧ lowUp e b s ∧ lowPath e s then some (e.chain, true)
  else match highEnd e.chain s with
    | some (h, d) => if h = b ∧ highUp e b d s ∧ highPath e s then some (d, false) else none
    | none => none

/-- Where this Head reaches a Tile. -/
def reachOf (e : TileEnt) (s : State) : Option Nat := (reachBy s.head.sys.roleB e s).map Prod.fst

/-- The partner reaches a Tile: over the twin link, by the chain's end that the partner holds. -/
def reachThere (e : TileEnt) (s : State) : Bool :=
  carries 32 s && s.head.tw.everActive && (reachBy (!s.head.sys.roleB) e s).isSome

/-- The Tile's port toward an end of its chain (R15, R17). -/
def portToward (low : Bool) (e : TileEnt) : Nat := if low = e.reversed then 1 else 0

/-- ROUTE_A or ROUTE_B of a Tile (R96): the port by which it reaches that Head, 0xFF where it does not. -/
def routeTo (b : Bool) (e : TileEnt) (s : State) : Nat :=
  if b ≠ s.head.sys.roleB ∧ ¬ carries 32 s then 0xFF
  else match reachBy b e s with
    | some (_, low) => portToward low e
    | none => 0xFF

/-- A Tile's entry as the links now stand. -/
def reachEnt (s : State) (e : TileEnt) : TileEnt :=
  { e with
    here := (reachOf e s).isSome, port := (reachOf e s).getD e.port, there := reachThere e s
    routeA := routeTo false e s, routeB := routeTo true e s }

/-- Find again where every Tile is reached. The transactions with a Tile that its port no longer reaches are lost (R300), commands
to a Tile that is gone end (R87), its load too, and a Tile whose route has changed is told so (R96). DEDUCED, log entry 32. -/
def reachTiles (s : State) : State :=
  let gone := fun (t : Trans) => s.head.en.any (fun e => e.chain == t.chain && e.position == t.position && reachOf e s != some t.port)
  let s1 := { s with
    head.en := s.head.en.map (reachEnt s)
    head.pp.trans := s.head.pp.trans.map (fun t => if gone t then { t with lost := true } else t) }
  let lost := s.head.en.filter (fun e => present e && !present (reachEnt s e))
  let moved := (s.head.en.filter (fun e => e.loaded && present (reachEnt s e) &&
    (routeTo false e s != e.routeA || routeTo true e s != e.routeB))).map (reachEnt s)
  let leave := fun (a : State) (e : TileEnt) =>
    let a1 := tileGone e.chain e.position a
    if e.loading then endLoad e.chain e.position 0x8000 a1 else a1
  moved.foldl (fun a e => sendTileConfig e none true false a) (lost.foldl leave s1)

/-- The link of a Head port is lost or gained: its Tiles, and the partner's when it is the twin port. -/
def loseReach (p : Part) (port : Nat) (s : State) : State :=
  match p with
  | .head =>
    if port < 32 then reachTiles s
    else if carries 32 s then reachTiles s
    else twinDown (reachTiles s)
  | .tile => s

/-- The GL_RETRAIN waits and tests of a part. -/
def glWaitOf (p : Part) (s : State) : GlWait := match p with | .head => s.head.glw | .tile => s.tile.glw

/-- Change them. -/
def setGlWait (p : Part) (w : GlWait) (s : State) : State :=
  match p with
  | .head => { s with head.glw := w }
  | .tile => { s with tile.glw := w }

/-- End the GL_RETRAIN commands that wait on a port (R370). DEDUCED, log entry 31. -/
def endRetrainCmds (p : Part) (port : Nat) (good : Bool) (s : State) : State :=
  let w := glWaitOf p s
  let mine := w.retrains.filter (fun e => e.1 == port)
  mine.foldl (fun a e => if good then ok e.2.2 0x0803 [] a else failed e.2.2 0x0803 0x0001 0 a)
    (setGlWait p { w with retrains := w.retrains.filter (fun e => e.1 != port) } s)

/-- GL_RETRAIN commands that have waited 100 ms fail (R370). DEDUCED, log entry 31. -/
def expireRetrains (p : Part) (s : State) : State :=
  let w := glWaitOf p s
  let old := w.retrains.filter (fun e => e.2.1 + 100000000 ≤ s.now)
  old.foldl (fun a e => failed e.2.2 0x0803 0x0001 0 a)
    (setGlWait p { w with retrains := w.retrains.filter (fun e => ¬ e.2.1 + 100000000 ≤ s.now) } s)

/-- LINK_STATE of a Tile to both Heads of its pair (R336, R367). -/
def sendLinkState (port : Nat) (s : State) : State :=
  let g := portAt .tile port s
  let body := leBytes 7 (port + 2 * glCode g.state + 16 * g.laneActive.toNat + 256 * g.rate)
  let one := fun (b : Bool) (a : State) => hand .tile (routePort b a) (tilePkt 8 1 2 b body a) a
  one true (one false s)

/-- A link of the Head runs on one lane. -/
def oneLane (k : Nat) (s : State) : Bool := carries k s && lanesIn (portAt .head k s).laneActive == 1

/-- The chain is degraded (R310): a link of it runs on one lane. Of the partner's ports the end Tiles tell. -/
def degraded (chain : Nat) (s : State) : Bool :=
  let mine := fun (b : Bool) => b == s.head.sys.roleB
  ((matesOf chain s).any (fun e => mine e.lowB) && oneLane chain s) ||
    (match highEnd chain s with | some (b, d) => mine b && oneLane d s | none => false) ||
    (matesOf chain s).any (fun e => e.lost0 || e.lost1)

/-- Take note of every chain's degradation (R307, R311): since when it has been free of it, and the open frame's mask. -/
def noteLanes (s : State) : State :=
  let mask := (List.range 32).foldl (fun (m : BitVec 32) c => if degraded c s then m ||| (1#32 <<< c) else m) 0
  { s with
    head.pp.ports := s.head.pp.ports.mapIdx (fun c q =>
      if degraded c s then { q with goodSince := none, mayReturn := false }
      else { q with goodSince := some (q.goodSince.getD s.now) })
    head.pl.frames := s.head.pl.frames.map (fun r =>
      if r.isOpen ∧ ¬ r.isClosed then { r with oneLane := r.oneLane ||| mask } else r) }

/-- Tell the Heads of a lane change at a Tile; a Head learns of its own directly (R367). -/
def laneChanged (p : Part) (port : Nat) (s : State) : State := if p = .tile then sendLinkState port s else noteLanes s

/-- GL_LINK_DOWN (R357): the link leaves ACTIVE or RETRAIN for DETECT, or for HOLD on the fourth drop within 10 s
(R356). `why` is DETAIL_B of R371. -/
def linkDown (p : Part) (port why : Nat) (s : State) : State :=
  let g := portAt p port s
  let recent := g.drops.filter (fun t => s.now ≤ t + 10000000000)
  let flap := 3 ≤ recent.length
  let g1 := loseLink g
  let g2 := if flap then toHold s.now .flap g1 else toDetect s.now g1
  let s1 := updPort p port (fun _ => { g2 with linkDropped := true, drops := s.now :: recent }) s
  let s2 := loseReach p port (loseTrans p port s1)
  let s3 := laneChanged p port (post p 0x08 3 0x0002 (portDet port) (BitVec.ofNat 64 why) s2)
  let s4 := if flap then post p 0x08 3 0x0009 (portDet port) 0 s3 else s3
  if g.state = .retrain ∨ flap then endRetrainCmds p port false s4 else s4

/-- What a TRAIN takes of the settings that wait for it (R370). -/
def takeTrain (g : GlPort) : GlPort :=
  { g with laneUse := g.laneEn &&& BitVec.ofNat 4 (2 ^ g.lanes.length - 1), presetUse := g.txPreset, fixedUse := g.eqFixed }

/-- Enter RETRAIN (R355): RETRAIN_REQ leaves, buffers and SEQ stay, a partial packet is discarded. Its TRAIN takes the
waiting settings, keeps the rate and searches without the preset sweep. DEDUCED, log entry 31. -/
def toRetrain (p : Part) (port why : Nat) (s : State) : State :=
  let s1 := updPort p port (fun g =>
    { takeTrain g with
      state := .retrain, since := s.now, sub := 0, retrained := true, retrains := g.retrains + 1, attempts := 0,
      capsSame := 0, ackSame := 0, nakAt := none, laneReplay := false,
      lanes := g.lanes.map (fun l => { l with
        readyFrames := 0, readyHere := false, readyPeer := false, lock := false
        eq := { stepping := true, bestFom := l.fom } }) }) s
  post p 0x08 2 0x0005 (portDet port) (BitVec.ofNat 64 why) (emit p (.block port 0xD2 [why]) s1)

/-- Receive-buffer pools (R339): words, messages for class 0; the last entry is the shared pool. -/
def poolSizes (p : Part) (port : Nat) : List Nat :=
  if p = .head ∧ port = 32 then [16, 640, 0, 0, 1024, 8192, 0, 6528] else [16, 640, 1664, 832, 256, 0, 0, 704]

/-- Enter ACTIVE: CREDIT_INIT for every pool, FREED restarting at 0 (R342); a port that comes from CAPS has SEQ 0
(R348), one from RETRAIN replays every unacknowledged packet. The transmitter has no credit until the far end's
CREDIT_INIT. DEDUCED, log entry 29. -/
def toActive (p : Part) (port : Nat) (s : State) : State :=
  let g := portAt p port s
  let fresh := g.state = .caps
  let base := if fresh then loseLink g else g
  let s1 := updPort p port (fun _ =>
    { base with
      state := .active, since := s.now, freedTx := List.replicate 8 0, freedRx := List.replicate 8 0,
      cred := List.replicate 8 0, credSize := List.replicate 8 0, credShared := 0, fails := 0 }) s
  let s2 := emit p (.block port 0x69 ((poolSizes p port).map Int.ofNat)) s1
  let s3 := g.replayBuf.foldl (fun a k => if fresh then a else emit p (.packet port k) a) s2
  let s4 := laneChanged p port (loseReach p port s3)
  let s5 := if fresh then
      post p 0x08 1 0x0001 (BitVec.ofNat 32 (port + 256 * g.rate + 65536 * g.laneActive.toNat)) 0 s4
    else s4
  endRetrainCmds p port true s5

/-! ## Enumeration -/

/-- A Tile takes an address of a chain (R16, R17, R24): a chain ends at position 16. A Tile whose Port 1 faces the lower positions is
reported. DEDUCED, log entry 32. -/
def enumerate (e : TileEnt) (s : State) : State :=
  if e.position < 1 ∨ 16 < e.position then s
  else match tileEnt e.chain e.position s with
  | some _ =>
    updTileEnt e.chain e.position (fun x => { x with
      serial := if e.serial = [] then x.serial else e.serial, ret := if e.ret = none then x.ret else e.ret }) s
  | none =>
    let s1 := { s with head.en := s.head.en ++ [e] }
    if e.reversed then
      post .head 0x08 3 0x000A (BitVec.ofNat 32 (e.chain + 256 * e.position + 65536)) 0 s1
    else s1

/-- The position under which a serial number is enrolled on a chain (R619). -/
def enrolledAt (chain : Nat) (serial : List Byte) (s : State) : Option Nat :=
  (s.head.at_.enrolled.find? (fun e => e.1.1 == chain && e.2 == serial)).map (fun e => e.1.2)

/-- The Heads are a pair (R20, R21). -/
def isPaired (s : State) : Bool := s.head.tw.everActive

/-- The Tiles known of a chain whose low end is Head A's: it is a ring when Head B meets it too (R19, R21). -/
def knownOfA (chain : Nat) (s : State) : Bool := (matesOf chain s).any (fun e => !e.lowB && !e.prov)

/-- A ring closes (R16, R619): the Tiles that Head B named by their enrolment take their hop counts, those beyond position `k` in
order. -/
def closeRing (chain k : Nat) (s : State) : State :=
  let rank := fun (e : TileEnt) => ((matesOf chain s).filter (fun x => x.prov && decide (x.position ≤ e.position))).length
  let en := s.head.en.map (fun e => if e.chain = chain ∧ e.prov then { e with position := k + rank e, prov := false } else e)
  { s with head.en := en.filter (fun e => decide (e.position ≤ 16)) }

/-- Head A meets the low end of a chain of which it knew Tiles by its partner alone: they are the far side of a ring (R19, R21). -/
def ringFromB (port : Nat) (s : State) : State :=
  { s with head.en := s.head.en.map (fun e =>
      if e.chain = port ∧ e.lowB then { e with lowB := false, prov := true, ret := some (true, port) } else e) }

/-- A chain port of the Head has met a Tile (R16 to R19, R21, R619). A return port carries no chain of its own. Head B of a pair
meets the high end of a ring where the Tile is enrolled on the chain or Head A holds it; until the ring closes, such a Tile has its
enrolled position or none. Any other Tile is position 1 of a line or loop of this Head, reversed when it shows its Port 1.
DEDUCED, log entry 32. -/
def meetTile (port : Nat) (c : Caps) (s : State) : State :=
  let b := s.head.sys.roleB
  let home : TileEnt := { chain := port, position := 1, port := port, serial := c.serial, lowB := b, reversed := c.port == 1 }
  if s.head.en.any (fun e => e.ret == some (b, port)) then s
  else if b ∧ isPaired s ∧ ((c.port = 1 ∧ (enrolledAt port c.serial s).isSome) ∨ knownOfA port s) then
    match (matesOf port s).find? (fun e => e.serial == c.serial && c.serial != []) with
    | some e => updTileEnt port e.position (fun x => { x with ret := some (b, port) }) s
    | none =>
      match enrolledAt port c.serial s with
      | some q =>
        enumerate { chain := port, position := q, port := port, serial := c.serial, ret := some (b, port), prov := true
                    reversed := c.port == 0 } s
      | none => s
  else
    let s1 := if b then s else ringFromB port s
    if (matesOf port s1).any (fun e => e.prov && e.serial == c.serial && c.serial != []) then closeRing port 0 s1
    else enumerate home s1

/-- Two walks of this Head meet (R18): chain `d` is no chain of its own but the far side of loop `c`, and its port the return
port. -/
def joinLoop (c d : Nat) (s : State) : State :=
  let k := topOf c s
  let m := topOf d s
  let move := fun (e : TileEnt) =>
    if e.chain = d then
      { e with
        chain := c, position := k + 1 + (m - e.position), reversed := !e.reversed
        ret := if e.position = 1 then some (s.head.sys.roleB, d) else none
        farActive := if e.position = 1 then true else (matesOf d s).any (fun x => x.position + 1 == e.position && x.farActive) }
    else e
  { s with head.en := (s.head.en.map move).filter (fun e => decide (e.position ≤ 16)) }

/-- The home chain of a loop between two ports: that whose first Tile shows its Port 0, else the lower one (R15, R18).
DEDUCED, log entry 32. -/
def homeOf (c d : Nat) (s : State) : Nat :=
  let straight := fun (k : Nat) => (matesOf k s).any (fun e => e.position == 1 && !e.reversed)
  if straight c = straight d then min c d else if straight c then c else d

/-- What the port of Tile `e` toward the high (`up`) or low end meets (R16 to R19, R24, R618, R619). DEDUCED, log entry 32. -/
def learnNext (e : TileEnt) (up : Bool) (b : Beyond) (s : State) : State :=
  match b with
  | .head h d =>
    if up ∧ ¬ (h = e.lowB ∧ d = e.chain) then
      let s1 := updTileEnt e.chain e.position (fun x => { x with ret := some (h, d) }) s
      if h = s.head.sys.roleB ∧ d ≠ e.chain then { s1 with head.en := s1.head.en.filter (fun x => x.chain ≠ d) } else s1
    else if ¬ up ∧ e.prov ∧ h = e.lowB ∧ d = e.chain then closeRing e.chain 0 s
    else s
  | .tile serial facing =>
    match s.head.en.find? (fun x => x.serial == serial && serial != []) with
    | some x =>
      if x.chain ≠ e.chain then
        if x.lowB = e.lowB ∧ up ∧ e.ret = none then
          let c := homeOf e.chain x.chain s
          joinLoop c (if c = e.chain then x.chain else e.chain) s
        else s
      else if x.prov ∧ ¬ e.prov then closeRing e.chain e.position s
      else if e.prov ∧ ¬ x.prov then closeRing e.chain x.position s
      else s
    | none =>
      if up then
        enumerate { chain := e.chain, position := e.position + 1, port := e.port, serial := serial, lowB := e.lowB
                    reversed := facing == 1, prov := e.prov } s
      else if e.prov then
        match enrolledAt e.chain serial s with
        | some q =>
          enumerate { chain := e.chain, position := q, port := e.port, serial := serial, lowB := e.lowB, reversed := facing == 0
                      prov := true, farActive := true } s
        | none => s
      else s

/-- The HELLO, the roles and the claim when the twin port becomes ACTIVE (R21, R376, R377): an isolated Head asks to join. -/
def twinUp (s : State) : State :=
  let s1 := evalClaim (updTw (fun t => { t with everActive := true, lastHello := none }) s)
  if s1.head.tw.role = .isolated then requestSnapshot false s1 else s1

/-- Valid pairings of R363. -/
def pairingValid (p : Part) (port : Nat) (c : Caps) (s : State) : Bool :=
  match p with
  | .head =>
    if port = 32 then !c.isTile && c.port == 32 && c.headB != s.head.sys.roleB && c.version == 2
    else c.isTile
  | .tile => c.isTile || c.port ≤ 31

/-- Identical CAPS but for ACKED. -/
def sameCaps (a b : Caps) : Bool := { a with acked := false } == { b with acked := false }

/-- CAPS of a port (R363): VERSION, PART, HEAD_B, PAIR, PORT, RATE, LANES and ACKED. -/
def sendCaps (p : Part) (port : Nat) (s : State) : State :=
  let g := portAt p port s
  let who := match p with
    | .head => [0, b2n s.head.sys.roleB, s.head.sys.pair]
    | .tile => [1, 0, s.tile.sys.pair]
  emit p (.block port 0xAA (([2] ++ who ++ [port, g.rate, lanesIn g.laneActive - 1, b2n (8 ≤ g.capsSame)]).map Int.ofNat)) s

/-- CAPS_RECEIVED (R355, R363). DEDUCED, log entry 29. -/
def capsReceived (p : Part) (port : Nat) (c : Caps) (s : State) : State :=
  let g := portAt p port s
  if ¬ (g.state = .caps ∨ (g.state = .retrain ∧ g.sub = 2)) then s
  else
    let same := match g.lastCaps with | some l => sameCaps l c | none => false
    let n := if same then g.capsSame + 1 else 1
    let prevAck := match g.lastCaps with | some l => l == c | none => false
    let a := if c.acked then (if prevAck then g.ackSame + 1 else 1) else 0
    let g1 := { g with lastCaps := some c, capsSame := n, ackSame := a }
    let s0 := updPort p port (fun _ => g1) s
    let s1 := if n = 8 then sendCaps p port s0 else s0
    if ¬ pairingValid p port c s then
      if g.state = .retrain then linkDown p port 1 s1
      else
        let s2 := updPort p port (fun g => { toHold s.now .mismatch g with peer := some c }) s1
        endRetrainCmds p port false (post p 0x08 3 0x0007 (portDet port)
          (BitVec.ofNat 64 (c.version + 16 * b2n c.isTile + 32 * b2n c.headB + 64 * c.pair + 512 * c.port +
            32768 * c.rate + 131072 * c.lanes + 524288 * b2n c.acked)) s2)
    else if a < 8 then s1
    else if g.state = .retrain ∧ !(match g.peer with | some q => sameCaps q c | none => false) then linkDown p port 1 s1
    else
      let wasCaps := g.state = .caps
      let s2 := toActive p port (updPort p port (fun g => { g with peer := some c }) s1)
      let s3 := updTimePort' p port (c.version = 1) s2
      if ¬ wasCaps then s3
      else match p with
        | .head => if port = 32 then twinUp s3 else meetTile port c s3
        | .tile => s3
where
  /-- The peer's VERSION 1 makes PATH count as 1 (R59). -/
  updTimePort' (p : Part) (port : Nat) (v1 : Bool) (s : State) : State :=
    setMt p { mtOf p s with ports := upd (mtOf p s).ports port (fun t => { t with v1 := v1 }) } s

/-! ## Training -/

/-- Presets of R361: c(−1), c(+1). -/
def presetTaps (n : Nat) : Nat × Nat :=
  match n with
  | 0 => (0, 0) | 1 => (0, 4) | 2 => (0, 8) | 3 => (0, 12) | 4 => (2, 0) | 5 => (2, 4) | 6 => (2, 8) | _ => (4, 6)

/-- One tap after a request: 0 hold, 1 increment, 2 decrement, 3 preset; steps outside the range are not applied. -/
def tapStep (v hi req : Nat) : Nat :=
  if req = 1 then (if v < hi then v + 1 else v) else if req = 2 then v - 1 else v

/-- Apply the far end's REQ to this transmitter (R358, R361). -/
def applyReq (l : GlLane) (f : TrainFrame) : GlLane :=
  if f.reqPre = 3 ∨ f.reqPost = 3 then
    let t := presetTaps f.preset
    { l with
      cPre := if f.reqPre = 3 then t.1 else tapStep l.cPre 6 f.reqPre
      cPost := if f.reqPost = 3 then t.2 else tapStep l.cPost 16 f.reqPost }
  else { l with cPre := tapStep l.cPre 6 f.reqPre, cPost := tapStep l.cPost 16 f.reqPost }

/-- REQ of a step: direction 0 and 1 are +1 and −1 on c(−1), 2 and 3 on c(+1). -/
def dirReq (d : Nat) (back : Bool) : Nat × Nat :=
  let inc := if back then 2 else 1
  let dec := if back then 1 else 2
  match d with
  | 0 => (inc, 0) | 1 => (dec, 0) | 2 => (0, inc) | _ => (0, dec)

/-- One frame of the search of R362: presets 0 to 7 held 16 frames each, the best requested, then single steps kept
when FOM rises by 2 or more, up to 32 rounds, stopping when a round keeps none. -/
def searchStep (fixed : Bool) (txPreset : Nat) (fom : Nat) (l : GlLane) : GlLane :=
  let e := l.eq
  if fixed then { l with reqPre := 3, reqPost := 3, reqPreset := txPreset, eq := { e with finished := true } }
  else if e.finished then { l with reqPre := 0, reqPost := 0 }
  else if ¬ e.stepping then
    let ask := { l with reqPre := 3, reqPost := 3, reqPreset := e.preset }
    if e.held + 1 < 16 then { ask with eq := { e with held := e.held + 1 } }
    else
      let e1 := if e.bestFom < fom ∨ e.preset = 0 then { e with bestFom := fom, bestPreset := e.preset } else e
      if e.preset < 7 then { ask with eq := { e1 with preset := e.preset + 1, held := 0 } }
      else { ask with reqPreset := e1.bestPreset, eq := { e1 with stepping := true, dir := 0, held := 0 } }
  else if e.held = 0 then
    let r := dirReq e.dir false
    { l with reqPre := r.1, reqPost := r.2, eq := { e with held := 1 } }
  else
    let keep := e.bestFom + 2 ≤ fom
    let r := if keep then (0, 0) else dirReq e.dir true
    let e1 := { e with held := 0, kept := e.kept || keep, bestFom := if keep then fom else e.bestFom }
    let e2 :=
      if e.dir < 3 then { e1 with dir := e.dir + 1 }
      else if ¬ e1.kept ∨ 31 ≤ e.rounds then { e1 with finished := true }
      else { e1 with dir := 0, kept := false, rounds := e.rounds + 1 }
    { l with reqPre := r.1, reqPost := r.2, eq := e2 }

/-- Fall back one rate, or hold at code 2 (R360). -/
def trainFailed (p : Part) (port : Nat) (s : State) : State :=
  let g := portAt p port s
  if g.rate < 2 then
    let r := g.rate + 1
    post p 0x08 2 0x0006 (BitVec.ofNat 32 (port + 256 * r)) 0
      (updPort p port (fun g => { toDetect s.now g with fellBack := some r, fails := 0 }) s)
  else
    endRetrainCmds p port false (post p 0x08 3 0x000B (portDet port) 0
      (updPort p port (fun g => { toHold s.now .training g with fails := 0 }) s))

/-- The rate a link trains at: the slower of both limits, and no faster than a rate fallen back to (R360). -/
def trainRate (g : GlPort) (peerMax : Nat) : Nat := max (max g.rateUse peerMax) (g.fellBack.getD 0)

/-- CHECK of a training frame: the exclusive-OR of bytes 0 to 6 (R358). -/
def frameCheck (f : TrainFrame) : Nat :=
  let r := fun i => f.reserved.getD i 0
  f.lane ^^^ (f.rateMax + 4 * (f.lanes - 1) + 16 * f.fails) ^^^ (f.reqPre + 4 * f.reqPost + 16 * f.preset + 128 * r 0) ^^^ f.fom ^^^
    (b2n f.detected + 2 * b2n f.ready + 4 * b2n f.acked + 8 * r 1) ^^^ r 2 ^^^ r 3

/-- TRAINING_FRAME_RECEIVED on the lane numbered in the frame (R355, R358 to R362). -/
def trainingFrame (p : Part) (port : Nat) (f : TrainFrame) (s : State) : State :=
  let g := portAt p port s
  let k := f.lane
  if f.check ≠ frameCheck f ∨ g.lanes.length ≤ k ∨ ¬ (g.state = .detect ∨ g.state = .train ∨ (g.state = .retrain ∧ g.sub = 0)) then s
  else
    let l0 := g.lanes.getD k {}
    let l1 := applyReq { l0 with phys := f.phys, inverted := f.inverted, seen := true, fom := f.fomHere } f
    let l2 := if g.state = .detect then l1 else searchStep g.fixedUse g.presetUse f.fomHere l1
    let here := decide (g.fomMin ≤ f.fomHere) && l2.eq.finished
    let l3 := { l2 with
      detFrames := if f.detected then l0.detFrames + 1 else 0
      readyHere := here
      readyPeer := f.ready
      readyFrames := if here ∧ f.ready then l0.readyFrames + 1 else 0 }
    let g1 := { g with lanes := upd g.lanes k (fun _ => l3) }
    let s1 := updPort p port (fun _ => g1) s
    let want := laneList g.laneUse
    let done := !want.isEmpty && want.all (fun i => 8 ≤ (g1.lanes.getD i {}).readyFrames)
    match g.state with
    | .detect =>
      if 8 ≤ l3.detFrames then
        updPort p port (fun g => { takeTrain g with state := .train, since := s.now, rate := trainRate g f.rateMax }) s1
      else s1
    | .train =>
      if 3 ≤ f.fails ∧ g.fails < 3 then trainFailed p port s1
      else if done then updPort p port (fun g => { g with state := .lock, since := s.now, laneActive := g.laneUse }) s1
      else s1
    | .retrain =>
      if done then
        updPort p port (fun g => { g with
          sub := 1, laneActive := g.laneUse
          lanes := g.lanes.mapIdx (fun i l => if want.contains i then { l with outSince := none } else l) }) s1
      else s1
    | _ => s1

/-- TRAIN_TIMEOUT (R355, R360): 4 ms in TRAIN. -/
def trainTimeout (p : Part) (port : Nat) (s : State) : State :=
  let g := portAt p port s
  if g.state ≠ .train ∨ s.now < g.since + 4000000 then s
  else
    let ready := (laneList g.laneUse).filter (fun i => (g.lanes.getD i {}).readyHere && (g.lanes.getD i {}).readyPeer)
    if ¬ ready.isEmpty then
      updPort p port (fun g =>
        { g with
          state := .lock, since := s.now
          laneActive := BitVec.ofNat 4 (ready.foldl (fun a i => a + 2 ^ i) 0)
          lanes := g.lanes.mapIdx (fun i l => if ready.contains i then l else { l with outSince := some s.now }) }) s
    else if g.fails + 1 < 3 then updPort p port (fun g => { toDetect s.now g with fails := g.fails + 1 }) s
    else trainFailed p port s

/-! ## Lanes -/

/-- Three LANE_SET blocks with COPY 0 to 2 (R365). -/
def sendLaneSet (p : Part) (port : Nat) (m : BitVec 4) (s : State) : State :=
  emit p (.block port 0xB4 [m.toNat, 2]) (emit p (.block port 0xB4 [m.toNat, 1]) (emit p (.block port 0xB4 [m.toNat, 0]) s))

/-- A lane fails (R364): 0 it has lost block lock, which its receiver tells; 1 it has had 64 block errors within 1 ms; 2 its FOM has
stayed below FOM_MIN − 16 for 1 ms. -/
def laneFails (now cause : Nat) (l : GlLane) : Bool :=
  match cause with
  | 0 => true
  | 1 => decide (64 ≤ (l.errTimes.filter (fun t => decide (now ≤ t + 1000000))).length)
  | 2 => (match l.fomLowSince with | some t => decide (t + 1000000 ≤ now) | none => false)
  | _ => false

/-- LANE_FAIL (R364 to R367). DEDUCED, log entry 28. -/
def laneFail (p : Part) (port lane cause : Nat) (s : State) : State :=
  let g := portAt p port s
  if g.state ≠ .active ∨ ¬ g.laneActive.getLsbD lane ∨ ¬ laneFails s.now cause (g.lanes.getD lane {}) then s
  else
    let m := g.laneActive &&& ~~~(1#4 <<< lane)
    if m = 0 then toRetrain p port 1 s
    else
      let s1 := updPort p port (fun g =>
        { g with
          laneActive := m, laneDropped := true, laneReplay := true
          lanes := upd g.lanes lane (fun l => { l with lock := false, outSince := some s.now }) }) s
      let s2 := post p 0x08 2 0x0003 (BitVec.ofNat 32 (port + 256 * lane)) (BitVec.ofNat 64 cause) s1
      laneChanged p port (sendLaneSet p port m (nakNow p port s2))

/-- LANE_SET_RECEIVED (R365, R368): the far end's set, answered and taken. DEDUCED, log entry 28. -/
def laneSetReceived (p : Part) (port : Nat) (m : BitVec 4) (s : State) : State :=
  let g := portAt p port s
  if g.state ≠ .active ∨ m = g.laneActive ∨ m = 0 then s
  else
    let added := laneList (m &&& ~~~g.laneActive)
    let gone := laneList (g.laneActive &&& ~~~m)
    let s1 := updPort p port (fun g =>
      { g with
        laneActive := m, laneDropped := g.laneDropped || !gone.isEmpty, laneReplay := true
        lanes := g.lanes.mapIdx (fun i l =>
          if added.contains i then { l with outSince := none, lock := true }
          else if gone.contains i then { l with outSince := some s.now, lock := false } else l) }) s
    let s2 := added.foldl (fun a i => post p 0x08 1 0x0004 (BitVec.ofNat 32 (port + 256 * i)) 0 a) s1
    laneChanged p port (sendLaneSet p port m s2)

/-- PORT of this end's CAPS and whether it is the end that adds a lane (R368). -/
def addsLane (p : Part) (port : Nat) (s : State) : Bool :=
  match (portAt p port s).peer with
  | some c => if port = c.port then (match p with | .head => !s.head.sys.roleB | .tile => port == 0) else port < c.port
  | none => false

/-- LANE_RETRAIN_TIMER (R368): a dropped lane trained alone, added back by one end when clean for 100 ms. -/
def laneRetrain (p : Part) (port lane : Nat) (clean : Bool) (s : State) : State :=
  let g := portAt p port s
  match (g.lanes.getD lane {}).outSince with
  | some t0 =>
    if g.state ≠ .active ∨ s.now < t0 + 1000000000 ∨ g.laneActive.getLsbD lane then s
    else if clean ∧ addsLane p port s then
      let m := g.laneActive ||| (1#4 <<< lane)
      let s1 := updPort p port (fun g =>
        { g with laneActive := m, laneReplay := true, lanes := upd g.lanes lane (fun l => { l with outSince := none, lock := true }) }) s
      let s2 := post p 0x08 1 0x0004 (BitVec.ofNat 32 (port + 256 * lane)) 0 s1
      laneChanged p port (sendLaneSet p port m s2)
    else updPort p port (fun g => { g with lanes := upd g.lanes lane (fun l => { l with outSince := some s.now }) }) s
  | none => s

/-! ## Acknowledgement, replay and credits -/

/-- Free every packet up to ACK_SEQ (R350, R353). -/
def ackUpTo (p : Part) (port : Nat) (q : BitVec 12) (s : State) : State :=
  let g := portAt p port s
  let rest := g.replayBuf.filter (fun k => decide (0 < seqDiff k.seq q))
  if rest.length = g.replayBuf.length then s
  else drainPort p port (g.txq.length + 1)
    (updPort p port (fun g => { g with
      replayBuf := rest, attempts := 0, oldestSince := s.now, laneReplay := g.laneReplay && !rest.isEmpty }) s)

/-- Replay every unacknowledged packet, after an ABORT when one is in progress, or RETRAIN after 8 attempts (R352, R353). The first
replay after a lane change counts no attempt (R353, R366). DEDUCED, log entry 28. -/
def replayAll (p : Part) (port : Nat) (inProgress : Bool) (s : State) : State :=
  let g := portAt p port s
  if g.replayBuf.isEmpty then s
  else if 8 ≤ g.attempts ∧ ¬ g.laneReplay then toRetrain p port 0 s
  else
    let s1 := updPort p port (fun g =>
      if g.laneReplay then { g with laneReplay := false, oldestSince := s.now }
      else { g with attempts := g.attempts + 1, replays := g.replays + 1, oldestSince := s.now }) s
    g.replayBuf.foldl (fun a k => emit p (.packet port k) a) (if inProgress then emit p (.block port 0x4B []) s1 else s1)

/-- CREDIT_RECEIVED for one class (R340, R341). -/
def creditClass (g : GlPort) (cls : Nat) (freed : BitVec 16) : GlPort :=
  let add := (freed - g.freedRx.getD cls 0).toNat
  let have_ := g.cred.getD cls 0
  let size := g.credSize.getD cls 0
  let back := min add (size - have_)
  { g with
    freedRx := upd g.freedRx cls (fun _ => freed)
    cred := upd g.cred cls (fun v => v + back)
    credShared := g.credShared + (add - back) }

/-! ## Forwarding -/

/-- A packet names this Tile (R335). -/
def forThisTile (k : GPkt) (s : State) : Bool :=
  k.pair == s.tile.sys.pair && k.chain == s.tile.sys.chain && k.position == s.tile.sys.position

/-- PACKET_FORWARD (R334, R335, R338, R349): a packet that arrived on a Tile port and is not, or not only, for this
Tile. -/
def packetForward (port : Nat) (k : GPkt) (s : State) : State :=
  let a := linkAccept .tile port k s
  if ¬ a.1 then a.2
  else
    let s1 := freeRx .tile port k.cls k.len a.2
    if packetBad k then updPort .tile port (fun g => { g with discards := g.discards + 1 }) s1
    else if forThisTile k s ∧ ¬ k.bcast then s1
    else hand .tile (1 - port) k s1

/-! ## The events of the link -/

def execGlPortEnable (p : Part) (port : Nat) (s : State) : Host.Outcome State Fault Refusal :=
  onPart p (fun s =>
    if (portAt p port s).state = .disabled ∧ port < portCount p s then
      updPort p port (fun g => { toDetect s.now g with en := true, fellBack := none, fails := 0 }) s
    else s) s

/-- EN cleared (R355, R357). -/
def portDisable (p : Part) (port : Nat) (s : State) : State :=
  let g := portAt p port s
  let up := g.state = .active ∨ g.state = .retrain
  let s1 := updPort p port (fun g => { toDetect s.now (loseLink g) with en := false, state := .disabled }) s
  let s2 := laneChanged p port (loseReach p port (loseTrans p port s1))
  endRetrainCmds p port false (if up then post p 0x08 3 0x0002 (portDet port) 3 s2 else s2)

def execGlPortDisable (p : Part) (port : Nat) (s : State) : Host.Outcome State Fault Refusal :=
  onPart p (fun s => if port < portCount p s ∧ (portAt p port s).state ≠ .disabled then portDisable p port s else s) s

def execTrainingFrameReceived (p : Part) (port : Nat) (f : TrainFrame) (s : State) : Host.Outcome State Fault Refusal :=
  onPart p (trainingFrame p port f) s

def execTrainTimeout (p : Part) (port : Nat) (s : State) : Host.Outcome State Fault Refusal := onPart p (fun s => trainTimeout p port (expireRetrains p s)) s

/-- BLOCK_LOCK (R326, R355): block lock and deskew on every active lane, whose descramblers are in step with the bits received;
CAPS are sent. -/
def execBlockLock (p : Part) (port : Locked) (s : State) : Host.Outcome State Fault Refusal :=
  onPart p (fun s =>
    let g := portAt p port.port s
    let lk := fun (g : GlPort) => g.lanes.mapIdx (fun i l =>
      if g.laneActive.getLsbD i then { l with lock := true, descr := (descramble l.descr (port.last.getD i 0)).2 } else l)
    if g.state = .lock then
      sendCaps p port.port (updPort p port.port (fun g => { g with state := .caps, since := s.now, lanes := lk g }) s)
    else if g.state = .retrain ∧ g.sub = 1 then
      sendCaps p port.port (updPort p port.port (fun g => { g with sub := 2, lanes := lk g }) s)
    else s) s

def execLockTimeout (p : Part) (port : Nat) (s : State) : Host.Outcome State Fault Refusal :=
  onPart p (fun s =>
    if (portAt p port s).state = .lock ∧ (portAt p port s).since + 1000000 ≤ s.now then updPort p port (toDetect s.now) s
    else s) s

def execCapsReceived (p : Part) (port : Nat) (caps : Caps) (s : State) : Host.Outcome State Fault Refusal :=
  onPart p (capsReceived p port caps) s

def execCapsTimeout (p : Part) (port : Nat) (s : State) : Host.Outcome State Fault Refusal :=
  onPart p (fun s =>
    if (portAt p port s).state = .caps ∧ (portAt p port s).since + 1000000 ≤ s.now then updPort p port (toDetect s.now) s
    else s) s

/-- RETRAIN_REQ_RECEIVED (R355). -/
def execRetrainReqReceived (p : Part) (port : Nat) (cause : Nat) (s : State) : Host.Outcome State Fault Refusal :=
  onPart p (fun s => if (portAt p port s).state = .active ∧ cause < 4 then toRetrain p port 2 s else s) s

/-- RETRAIN_TIMEOUT (R355, R357): 2 ms in RETRAIN. DEDUCED, log entry 31. -/
def execRetrainTimeout (p : Part) (port : Nat) (s : State) : Host.Outcome State Fault Refusal :=
  onPart p (fun s =>
    if (portAt p port s).state = .retrain ∧ (portAt p port s).since + 2000000 ≤ s.now then
      linkDown p port 0 s
    else s) s

/-- HOLD_EXPIRY (R355, R356, R360): 100 ms, 1 s or 10 s by the cause. -/
def execHoldExpiry (p : Part) (port : Nat) (s : State) : Host.Outcome State Fault Refusal :=
  onPart p (fun s =>
    let g := portAt p port s
    let t := match g.holdCause with | .mismatch => 100000000 | .training => 1000000000 | _ => 10000000000
    if g.state = .hold ∧ g.since + t ≤ s.now then
      updPort p port (fun g =>
        if g.holdCause = .training then { toDetect s.now g with fellBack := none, fails := 0 } else toDetect s.now g) s
    else s) s

def execLaneFail (p : Part) (port lane cause : Nat) (s : State) : Host.Outcome State Fault Refusal :=
  onPart p (laneFail p port lane cause) s

def execLaneSetReceived (p : Part) (port : Nat) (mask : BitVec 4) (copy : Nat) (s : State) : Host.Outcome State Fault Refusal :=
  onPart p (fun s => if copy < 3 then laneSetReceived p port mask s else s) s

def execLaneRetrainTimer (p : Part) (port lane : Nat) (clean : Bool) (s : State) : Host.Outcome State Fault Refusal :=
  onPart p (laneRetrain p port lane clean) s

def execAckReceived (p : Part) (port : Nat) (seq : BitVec 12) (s : State) : Host.Outcome State Fault Refusal :=
  onPart p (fun s => if (portAt p port s).state = .active then ackUpTo p port seq s else s) s

/-- NAK_RECEIVED (R352): `inProgress` says that a packet is leaving at this moment. -/
def execNakReceived (p : Part) (port : Nat) (seq : Amid (BitVec 12)) (s : State) : Host.Outcome State Fault Refusal :=
  onPart p (fun s => if (portAt p port s).state = .active then replayAll p port seq.inPacket (ackUpTo p port seq.msg s) else s) s

/-- REPLAY_TIMEOUT (R352, R353): the oldest unacknowledged packet has drawn no ACK for REPLAY_TO. -/
def execReplayTimeout (p : Part) (port : Amid Nat) (s : State) : Host.Outcome State Fault Refusal :=
  onPart p (fun s =>
    let g := portAt p port.msg s
    if g.state = .active ∧ ¬ g.replayBuf.isEmpty ∧ g.oldestSince + 1000 * g.replayToUs ≤ s.now then
      replayAll p port.msg port.inPacket s
    else s) s

def execCreditReceived (p : Part) (port : Nat) (clsA : Nat) (freedA : BitVec 16) (clsB : Nat) (freedB : BitVec 16)
    (s : State) : Host.Outcome State Fault Refusal :=
  onPart p (fun s =>
    if (portAt p port s).state = .active then
      drainPort p port ((portAt p port s).txq.length + 1)
        (updPort p port (fun g => creditClass (creditClass g clsA freedA) clsB freedB) s)
    else s) s

/-- CREDIT_INIT_RECEIVED (R342): the counts take the sizes given; POOL 7 is the shared pool. -/
def execCreditInitReceived (p : Part) (port : Nat) (poolA sizeA poolB sizeB : Nat) (s : State) :
    Host.Outcome State Fault Refusal :=
  onPart p (fun s =>
    let one := fun (pool size : Nat) (g : GlPort) =>
      let c := padTo' g.cred
      let z := padTo' g.credSize
      if pool = 7 then { g with cred := c, credSize := z, credShared := size }
      else { g with
        cred := upd c pool (fun _ => size), credSize := upd z pool (fun _ => size)
        freedRx := upd (if g.freedRx.isEmpty then List.replicate 8 0 else g.freedRx) pool (fun _ => 0) }
    if (portAt p port s).state = .active then
      drainPort p port ((portAt p port s).txq.length + 1)
        (updPort p port (fun g => one poolB sizeB (one poolA sizeA g)) s)
    else s) s
where
  /-- Counts for the classes 0 to 7. -/
  padTo' (l : List Nat) : List Nat := if l.isEmpty then List.replicate 8 0 else l

/-- CREDIT_SEND (R341). -/
def execCreditSend (p : Part) (port cls : Nat) (s : State) : Host.Outcome State Fault Refusal :=
  onPart p (fun s =>
    let g := portAt p port s
    if g.state = .active then emit p (.block port 0x66 [cls, (g.freedTx.getD cls 0).toNat]) s else s) s

/-- Whether a port sends blocks of the scrambled stream. -/
def sendsBlocks (g : GlPort) : Bool := g.state == .lock || g.state == .caps || g.state == .active

/-- A control block of type `btype` with its content on one lane as the line carries it (R325 to R328): scrambled after whatever the
lane has sent before. DESIGN CHOICE, log entry 94. -/
def sendLine (p : Part) (port lane btype content : Nat) (s : State) : State :=
  let d := draw s
  let x := scramble (Config.lineBits d.1) (withParity (BitVec.ofNat 56 (btype + 256 * content)))
  emit p (.line port lane 2 x.1)
    (updPort p port (fun g => { g with lanes := upd g.lanes lane (fun l => { l with scr := x.2 }) }) d.2)

/-- The content of an ALIGN block on a lane (R328). -/
def alignContent (g : GlPort) (lane : Nat) : Nat :=
  lane + 4 * (lanesIn g.laneActive - 1) + 16 * g.rate + 256 * g.alignCount.toNat

/-- ALIGN_SEND (R326, R328, R330): one block on every active lane. -/
def execAlignSend (p : Part) (port : Nat) (s : State) : Host.Outcome State Fault Refusal :=
  onPart p (fun s =>
    let g := portAt p port s
    if sendsBlocks g then
      (laneList g.laneActive).foldl
        (fun a k => sendLine p port k 0x1E (alignContent g k)
          (emit p (.block port 0x1E [Int.ofNat k, (lanesIn g.laneActive : Int) - 1, g.rate, g.alignCount.toNat]) a))
        (updPort p port (fun g => { g with alignCount := g.alignCount + 1 }) s)
    else s) s

/-- SKIP_SEND (R326, R330): one block on every active lane. -/
def execSkipSend (p : Part) (port : Nat) (s : State) : Host.Outcome State Fault Refusal :=
  onPart p (fun s =>
    let g := portAt p port s
    if sendsBlocks g then
      (laneList g.laneActive).foldl (fun a k => sendLine p port k 0x2D 0 (emit p (.block port 0x2D [Int.ofNat k]) a)) s
    else s) s

/-- ALIGN_RECEIVED (R328, R330, R359): lane identity. -/
def execAlignReceived (p : Part) (port physLane : Nat) (lane lanes rate count : Nat) (s : State) :
    Host.Outcome State Fault Refusal :=
  onPart p (fun s =>
    let g := portAt p port s
    if sendsBlocks g ∧ lane < g.lanes.length ∧ lanes < 4 ∧ rate = g.rate ∧ count < 256 then
      updPort p port (fun g => { g with lanes := upd g.lanes lane (fun l => { l with phys := physLane, lock := true }) }) s
    else s) s

/-- SKIP_RECEIVED (R330): deleted or repeated by the receiver's elastic buffer; it carries nothing. -/
def execSkipReceived (p : Part) (port : Nat) (s : State) : Host.Outcome State Fault Refusal :=
  onPart p (fun s => if port < portCount p s then s else s) s

/-- A packet that a Tile was forwarding has failed: ABORT leaves downstream in place of its rest (R338), and it consumes no SEQ there
(R349). -/
def abortDown (p : Part) (port : Nat) (forwarding : Bool) (s : State) : State :=
  if p = .tile ∧ forwarding ∧ (portAt .tile (1 - port) s).state = .active then emit .tile (.block (1 - port) 0x4B []) s else s

/-- ABORT_RECEIVED (R338, R349): the packet in progress is discarded and the expected SEQ stays; a Tile that was forwarding it
aborts it downstream. -/
def execAbortReceived (p : Part) (port : Amid Nat) (s : State) : Host.Outcome State Fault Refusal :=
  onPart p (fun s =>
    if (portAt p port.msg s).state = .active then
      abortDown p port.msg port.inPacket (updPort p port.msg (fun g => { g with abortsRx := g.abortsRx + 1 }) s)
    else s) s

def execPacketForward (port : Nat) (k : GPkt) (s : State) : Host.Outcome State Fault Refusal :=
  onPart .tile (fun s => if port < 2 then packetForward port k s else s) s

/-- The payload of a received block, descrambled from the bits that came before it (R326). -/
def blockPayload (k : BlockErr) : BitVec 64 := (descramble (descramble 0 k.before).2 k.bits).1

/-- A received block fails its check (R325, R327, R328, R331, R651): a bad sync header or parity, an unknown BTYPE, a data block
outside a packet, or a control block that may not stand in one. -/
def blockFails (k : BlockErr) : Bool :=
  let x := blockPayload k
  let t := (x.extractLsb' 0 8).toNat
  if k.header = 1 then !parityOk x || !k.inPacket
  else if k.header = 2 then !parityOk x || !isBtype t || (k.inPacket && !mayStand t)
  else true

/-- BLOCK_ERROR (R325 to R328, R331, R338, R344, R351, R651): a block is descrambled and checked. -/
def execBlockError (p : Part) (port : Nat) (k : BlockErr) (s : State) : Host.Outcome State Fault Refusal :=
  onPart p (fun s =>
    let s0 := updPort p port (fun g =>
      { g with lanes := upd g.lanes k.lane (fun l => { l with descr := (descramble (descramble l.descr k.before).2 k.bits).2 }) }) s
    if ¬ blockFails k then s0
    else
      let s1 := updPort p port (fun g =>
        { g with
          blockErrors := g.blockErrors + 1
          lanes := upd g.lanes k.lane (fun l =>
            { l with errTimes := (s.now :: l.errTimes.filter (fun t => decide (s.now ≤ t + 1000000))).take 64 }) }) s0
      if k.inPacket ∧ ¬ k.timeMsg ∧ (portAt p port s).state = .active then abortDown p port k.forwarding (nakNow p port s1) else s1) s

/-- FOM_MEASUREMENT (R362, R371): GL_FOM_LOW at most once a minute per lane. -/
def execFomMeasurement (p : Part) (port lane fom : Nat) (s : State) : Host.Outcome State Fault Refusal :=
  onPart p (fun s =>
    let g := portAt p port s
    let l := g.lanes.getD lane {}
    let free : Bool := match l.fomLowAt with | some t => decide (t + 60000000000 ≤ s.now) | none => true
    let low := g.state = .active ∧ g.laneActive.getLsbD lane ∧ fom < g.fomMin + 16 ∧ free
    let s1 := updPort p port (fun g =>
      { g with lanes := upd g.lanes lane (fun l =>
          { l with
            fom := fom, fomLowAt := if low then some s.now else l.fomLowAt
            fomLowSince := if fom + 16 < g.fomMin then some (l.fomLowSince.getD s.now) else none }) }) s
    if low then post p 0x08 2 0x0008 (BitVec.ofNat 32 (port + 256 * lane + 65536 * fom)) 0 s1 else s1) s

/-- A port of a Tile leads to the higher positions. -/
def leadsUp (e : TileEnt) (port : Nat) : Bool := (port == 1) != e.reversed

/-- A Tile that the partner enumerated (R87): of the partner's own line or loop, or of a ring, by this Head's port of the chain. -/
def partnerTile (m : LinkState) (s : State) : TileEnt :=
  let b := s.head.sys.roleB
  let ring := b || carries m.chain s
  { chain := m.chain, position := m.position, serial := m.serial, port := m.chain, here := false, there := true
    lowB := !b && !ring, prov := !b && ring, ret := if !b && ring then some (true, m.chain) else none }

/-- LINK_STATE_RECEIVED (R16, R17, R337, R367, R618, R619): the chain's lane state, where its Tiles are reached, and one hop more
of the enumeration. A Head of a pair learns from it of the Tiles that its partner has enumerated. DEDUCED, log entry 32. -/
def linkStateReceived (m : LinkState) (s : State) : State :=
  let s0 := if (tileEnt m.chain m.position s).isNone ∧ isPaired s then { s with head.en := s.head.en ++ [partnerTile m s] } else s
  match tileEnt m.chain m.position s0 with
  | none => s0
  | some e =>
    let up := leadsUp e m.port
    let active := decide (m.state = 5)
    let thin := decide (m.state = 5 ∧ lanesIn (BitVec.ofNat 4 m.laneMask) < 2)
    let s1 := { s0 with head.en := s0.head.en.map (fun x =>
      if x.chain = m.chain ∧ x.position = m.position then
        { x with
          serial := if m.serial = [] then x.serial else m.serial
          lost0 := if m.port = 0 then thin else x.lost0
          lost1 := if m.port = 1 then thin else x.lost1
          nearActive := if up then x.nearActive else active
          farActive := if up then active else x.farActive }
      else if x.chain = m.chain ∧ x.position + 1 = m.position ∧ ¬ up then { x with farActive := active }
      else x) }
    let s2 := match m.next, tileEnt m.chain m.position s1 with
      | some b, some e => if active then learnNext e up b s1 else s1
      | _, _ => s1
    noteLanes (reachTiles s2)

def execLinkStateReceived (m : Linked LinkState) (s : State) : Host.Outcome State Fault Refusal :=
  onPart .head (overLink .head m.via (linkStateReceived m.msg)) s

/-! ## Commands and registers -/

/-- PORT of a command is one of the part's ports. -/
def portErr (c : Cmd) (s : State) : Option Err := need (fld c.params 0 1 < portCount c.part s) (badParam 0)

/-- GL_PORT_CTL as read. -/
def glCtl (g : GlPort) : Nat :=
  16777216 * g.fomMin + 65536 * g.replayToUs + 4096 * g.laneEn.toNat + 1024 * g.rateMax + 16 * g.txPreset +
    8 * b2n g.eqFixed + b2n g.en

/-- GL_PORT_STATUS as read. -/
def glStatus (g : GlPort) : Nat :=
  let c := g.peer.getD { version := 0, isTile := false }
  67108864 * c.port + 33554432 * b2n c.isTile + 16777216 * b2n c.headB + 2097152 * c.pair + 131072 * c.version +
    65536 * b2n (g.holdCause == .flap) + 32768 * b2n (g.holdCause == .mismatch) + 16384 * b2n g.linkDropped +
    8192 * b2n g.laneDropped + 4096 * b2n g.retrained + 256 * g.laneActive.toNat + 64 * g.rate +
    32 * b2n (g.holdCause == .training) + glCode g.state

/-- GL_LANE_FOM and GL_LANE_MAP as read. -/
def glFom (g : GlPort) : Nat := (g.lanes.mapIdx (fun i l => l.fom % 256 * 2 ^ (8 * i))).foldl (· + ·) 0
def glMap (g : GlPort) : Nat :=
  (g.lanes.mapIdx (fun i l => (8 * b2n l.lock + 4 * b2n l.inverted + l.phys % 4) * 2 ^ (4 * i))).foldl (· + ·) 0

/-- GL_SEQ as read. -/
def glSeq (g : GlPort) : Nat := 65536 * g.seqNext.toNat + g.seqExp.toNat

/-- GL_GET_PORT. -/
def specGlGetPort : OpSpec where
  opcode := 0x0801
  onTile := true
  fits := fun n => n == 4
  params := portErr
  run := fun c s =>
    let g := portAt c.part (fld c.params 0 1) s
    ok c 0x0801 (leBytes 4 (glCtl g) ++ leBytes 4 (glStatus g) ++ leBytes 4 (glFom g) ++ leBytes 4 (glMap g) ++
      leBytes 4 g.blockErrors.toNat ++ leBytes 4 g.replays.toNat ++ leBytes 4 g.retrains.toNat ++
      leBytes 4 g.abortsRx.toNat ++ leBytes 4 g.discards.toNat ++ leBytes 4 (glSeq g)) s

def execGlGetPort (c : Cmd) (s : State) : Host.Outcome State Fault Refusal := runCmd specGlGetPort c s

/-- Set EN of a port (R355). -/
def setPortEn (p : Part) (port : Nat) (en : Bool) (s : State) : State :=
  let g := portAt p port s
  if en ∧ g.state = .disabled then
    updPort p port (fun g => { toDetect s.now g with en := true, fellBack := none, fails := 0 }) s
  else if ¬ en ∧ g.state ≠ .disabled then portDisable p port s
  else s

/-- GL_SET_PORT. -/
def specGlSetPort : OpSpec where
  opcode := 0x0802
  onTile := true
  fits := fun n => n == 8
  params := fun c s =>
    let p := c.params
    firstErr [portErr c s, inRange (fld p 2 1) 0 2 2,
      need (fld p 3 1 < 2 ^ (portAt c.part (fld p 0 1) s).lanes.length) (badParam 3), inRange (fld p 4 1) 0 7 4,
      inRange (fld p 5 1) 32 200 5, inRange (fld p 6 1) 5 200 6]
  run := fun c s =>
    let p := c.params
    let k := fld p 0 1
    let s1 := updPort c.part k (fun g =>
      { g with
        eqFixed := bit (fld p 1 1) 1, rateMax := fld p 2 1, laneEn := BitVec.ofNat 4 (fld p 3 1), txPreset := fld p 4 1,
        fomMin := fld p 5 1, replayToUs := fld p 6 1 }) s
    ok c 0x0802 [] (setPortEn c.part k (bit (fld p 1 1) 0) s1)

def execGlSetPort (c : Cmd) (s : State) : Host.Outcome State Fault Refusal := runCmd specGlSetPort c s

/-- A GL_RETRAIN waits for its outcome (R370). DEDUCED, log entry 31. -/
def waitRetrain (p : Part) (port : Nat) (c : Cmd) (s : State) : State :=
  setGlWait p { glWaitOf p s with retrains := (glWaitOf p s).retrains ++ [(port, s.now, c)] } s

/-- SCOPE 1 sends the port to DETECT: from ACTIVE or RETRAIN as a dropped link, from any other state at once
(R355, R356, R360). -/
def fullBringUp (p : Part) (port : Nat) (s : State) : State :=
  let g := portAt p port s
  if g.state = .active ∨ g.state = .retrain then
    updPort p port (fun g => { g with fellBack := none, fails := 0 }) (linkDown p port 2 s)
  else updPort p port (fun g => { toDetect s.now (loseLink g) with fellBack := none, fails := 0 }) s

/-- GL_RETRAIN. -/
def specGlRetrain : OpSpec where
  opcode := 0x0803
  onTile := true
  fits := fun n => n == 4
  params := fun c s => firstErr [portErr c s, inRange (fld c.params 1 1) 0 1 1]
  state := fun c s =>
    let g := portAt c.part (fld c.params 0 1) s
    if fld c.params 1 1 = 0 then (if g.state = .active ∨ g.state = .retrain then none else errSt stBusy)
    else (if g.state = .disabled then errSt stBusy else none)
  run := fun c s =>
    let k := fld c.params 0 1
    if fld c.params 1 1 = 0 then
      waitRetrain c.part k c (if (portAt c.part k s).state = .active then toRetrain c.part k 3 s else s)
    else
      let s1 := fullBringUp c.part k s
      if (portAt c.part k s1).state = .hold then failed c 0x0803 0x0001 0 s1 else waitRetrain c.part k c s1

def execGlRetrain (c : Cmd) (s : State) : Host.Outcome State Fault Refusal := runCmd specGlRetrain c s

/-- GL_PORT_CTL_RETRAIN (R370): RETRAIN written 1. -/
def execGlPortCtlRetrain (p : Part) (port : Nat) (s : State) : Host.Outcome State Fault Refusal :=
  onPart p (fun s => if (portAt p port s).state = .active then toRetrain p port 3 s else s) s

/-- End the tests of a lane: each GL_TEST that waits is answered, and the last answer is the command that stops them.
The counts are free values. DESIGN CHOICE, log entry 85. -/
def stopTests (c : Cmd) (port lane : Nat) (s : State) : State :=
  let w := glWaitOf c.part s
  let mine := w.tests.filter (fun e => e.1 == port && e.2.lane == lane)
  let rest := w.tests.filter (fun e => !(e.1 == port && e.2.lane == lane))
  let say := fun (a : State) (x : Cmd) =>
    let d := draw a
    ok x 0x0804 (leBytes 8 (Config.testBits d.1) ++ leBytes 8 (Config.testErrors d.1)) d.2
  ((mine.map (fun e => e.2.cmd)) ++ [c]).foldl say (setGlWait c.part { w with tests := rest } s)

/-- GL_TEST: MODE 0 stops the tests of a lane, 1 and 2 start one that runs for its duration. -/
def specGlTest : OpSpec where
  opcode := 0x0804
  onTile := true
  fits := fun n => n == 8
  params := fun c s =>
    firstErr [portErr c s,
      need (fld c.params 1 1 < (portAt c.part (fld c.params 0 1) s).lanes.length) (badParam 1),
      inRange (fld c.params 2 1) 0 2 2,
      inRange (fld c.params 4 4) 1 60000 4]
  state := fun c s => if (portAt c.part (fld c.params 0 1) s).state = .active then errSt stBusy else none
  run := fun c s =>
    let k := fld c.params 0 1
    if fld c.params 2 1 = 0 then stopTests c k (fld c.params 1 1) s
    else
      let t : GlTest :=
        { cmd := c, lane := fld c.params 1 1, mode := fld c.params 2 1, ends := s.now + 1000000 * fld c.params 4 4 }
      setGlWait c.part { glWaitOf c.part s with tests := (glWaitOf c.part s).tests ++ [(k, t)] } s

def execGlTest (c : Cmd) (s : State) : Host.Outcome State Fault Refusal := runCmd specGlTest c s

/-- GL_TEST_DONE (R370): the duration of the first test on a port has passed; bits and errors are what was measured. -/
def execGlTestDone (p : Part) (port : Nat) (bits errors : Nat) (s : State) : Host.Outcome State Fault Refusal :=
  onPart p (fun s =>
    let w := glWaitOf p s
    match w.tests.find? (fun e => e.1 == port && e.2.ends ≤ s.now) with
    | some e =>
      ok e.2.cmd 0x0804 (leBytes 8 bits ++ leBytes 8 errors) (setGlWait p { w with tests := w.tests.erase e } s)
    | none => s) s

/-- Clear a port's counters. -/
def clearCounters (g : GlPort) : GlPort :=
  { g with blockErrors := 0, replays := 0, retrains := 0, abortsRx := 0, discards := 0 }

/-- GL_CLEAR_COUNTERS. -/
def specGlClearCounters : OpSpec where
  opcode := 0x0805
  onTile := true
  fits := fun n => n == 4
  params := fun c s => if fld c.params 0 1 = 0xFF then none else portErr c s
  run := fun c s =>
    let k := fld c.params 0 1
    let s1 := if k = 0xFF then (match c.part with
        | .head => { s with head.gl := s.head.gl.map clearCounters }
        | .tile => { s with tile.gl := s.tile.gl.map clearCounters })
      else updPort c.part k clearCounters s
    ok c 0x0805 [] s1

def execGlClearCounters (c : Cmd) (s : State) : Host.Outcome State Fault Refusal := runCmd specGlClearCounters c s

/-- A write to GL_PORT_CTL (R355, R360, R646). -/
def glCtlWrite (p : Part) (port : Nat) (v : Word) (s : State) : State :=
  let n := v.toNat
  let s1 := updPort p port (fun g =>
    { g with
      fomMin := bits n 31 24, replayToUs := bits n 23 16, laneEn := BitVec.ofNat 4 (bits n 15 12),
      rateMax := if bits n 11 10 = 3 then g.rateMax else bits n 11 10, txPreset := bits n 7 4 % 16,
      eqFixed := bit n 3, presetUse := bits n 7 4 % 16, fixedUse := bit n 3 }) s
  let s2 := setPortEn p port (bit n 0) s1
  if bit n 1 ∧ (portAt p port s2).state = .active then toRetrain p port 3 s2 else s2

end Sys2Proof.Machine
end

