-- ==== Sys2Proof/Machine/Pixels.lean ====
section
/-!
DEFINITION. Parlour's pixel path (R254 to R276): surfaces as they are read (R165 to R170), chroma, range, scaling, tone,
gamut, knee, blending and the pane encodings. Nothing here changes the state.
-/
namespace Sys2Proof.Machine

/-! ## Reading a surface -/

/-- A byte of Cellar as a layer read sees it, with whether its word has failed (R189). -/
def layerByte (cl : Cellar) (a : Nat) : Byte × Bool :=
  let l := (getKey cl.flips (wordOf a)).getD []
  if 2 ≤ l.length then (rawByte (memGet cl.mem a) (a % 8) l, true) else (memGet cl.mem a, false)

/-- A little-endian number of `n` bytes and whether any of its words has failed. -/
def layerNum (cl : Cellar) (a n : Nat) : Nat × Bool :=
  let l := (List.range n).map (fun i => layerByte cl (a + i))
  (leNat (l.map Prod.fst), l.any Prod.snd)

/-- Component widths of a format (R165). -/
def compWidths (format : Nat) : List Nat :=
  match format with | 1 => [8, 8, 8, 8] | 2 => [10, 10, 10, 2] | 3 => [16, 16, 16, 16] | 4 => [16, 16, 16, 16] | _ => []

/-- The components in a pixel's value, least significant first. -/
def splitComps : List Nat → Nat → List Nat
  | [], _ => []
  | w :: r, v => v % 2 ^ w :: splitComps r (v / 2 ^ w)

/-- The tile of a pixel (R167). -/
def tileIndex (f : Surface) (x y : Nat) : Nat := y / 64 * tilesAcross f + x / 64

/-- Address of a pixel held uncompressed (R167). -/
def pixelAddr (f : Surface) (x y : Nat) : Nat :=
  let bpp := bytesPer f.format
  if f.layout = 0 then f.base + y * f.pitch + x * bpp
  else f.base + tileIndex f x y * 4096 * bpp + (y % 64 * 64 + x % 64) * bpp

/-- One component group of a MODE 2 block (R169): where it starts, BASE, w. -/
structure Group where
  addr : Nat
  base : Nat
  width : Nat
  deriving DecidableEq, Repr

/-- The component groups of a packed tile in order (R169), with whether a header word read has failed. -/
def groupsFrom (cl : Cellar) : Nat → Nat → List (Group × Bool)
  | 0, _ => []
  | n + 1, a =>
    let h := layerNum cl a 4
    let w := bits h.1 20 16
    ({ addr := a, base := h.1 % 65536, width := w }, h.2) :: groupsFrom cl n (a + 4 + 8 * w)

/-- Residual `i` of a group. -/
def residual (cl : Cellar) (g : Group) (i : Nat) : Nat × Bool :=
  let lo := i * g.width
  let n := (lo + g.width + 7) / 8 - lo / 8
  let v := layerNum cl (g.addr + 4 + lo / 8) n
  (v.1 / 2 ^ (lo % 8) % 2 ^ g.width, v.2)

/-- The header of a tile (R168): MODE, LEN32, the pixel value, and whether a word failed. -/
def tileHeader (cl : Cellar) (f : Surface) (t : Nat) : Nat × Nat × Nat × Bool :=
  let a := f.hdrBase + 16 * t
  let x := layerNum cl a 8
  let y := layerNum cl (a + 8) 8
  (x.1 % 256, x.1 / 65536 % 65536, y.1, x.2 || y.2)

/-- R170: a tile whose header or packed data is at fault. -/
def tileFaulty (cl : Cellar) (f : Surface) (t : Nat) : Bool :=
  let h := tileHeader cl f t
  let slot := f.base + t * 4096 * bytesPer f.format
  if 2 < h.1 then true
  else if h.1 ≠ 2 then false
  else if 4096 * bytesPer f.format < 32 * h.2.1 then true
  else
    let ws := compWidths f.format
    let gs := groupsFrom cl 256 slot
    ((List.range 256).zip gs).any (fun x =>
      let w := ws.getD (x.1 % 4) 0
      let g := x.2.1
      decide (w < g.width) || decide (slot + 32 * h.2.1 < g.addr + 4 + 8 * g.width) ||
        (List.range 64).any (fun i => decide (2 ^ w ≤ g.base + (residual cl g i).1)))

/-- The components of one pixel of an RGB format and whether it has failed (R165 to R170). -/
def rgbComps (cl : Cellar) (f : Surface) (x y : Nat) : List Nat × Bool :=
  let bpp := bytesPer f.format
  let plain := layerNum cl (pixelAddr f x y) bpp
  let ws := compWidths f.format
  if f.layout ≠ 2 then (splitComps ws plain.1, plain.2)
  else
    let t := tileIndex f x y
    let h := tileHeader cl f t
    if h.2.2.2 then ([0, 0, 0, 0], true)
    else if tileFaulty cl f t then ([0, 0, 0, 0], false)
    else if h.1 = 0 then (splitComps ws plain.1, plain.2)
    else if h.1 = 1 then (splitComps ws (h.2.2.1 % 2 ^ (8 * bpp)), false)
    else
      let slot := f.base + t * 4096 * bpp
      let b := x % 64 / 8 + 8 * (y % 64 / 8)
      let i := x % 8 + 8 * (y % 8)
      let gs := groupsFrom cl (4 * b + 4) slot
      let mine := gs.drop (4 * b)
      let vals := mine.map (fun g => (residual cl g.1 i, g.1.base))
      (vals.map (fun v => v.2 + v.1.1), gs.any Prod.snd || vals.any (fun v => v.1.2))

/-- Y0, Cb, Y1, Cr of the unit that holds a pixel of a YUV422 format, and whether it has failed. -/
def yuvUnit (cl : Cellar) (f : Surface) (x y : Nat) : List Nat × Bool :=
  let w := if f.format = 5 then 1 else 2
  let v := layerNum cl (pixelAddr f (x / 2 * 2) y) (4 * w)
  (splitComps (List.replicate 4 (8 * w)) v.1, v.2)

/-! ## Steps 1 to 3 -/

/-- Rounding of an exact quotient (R254): halves upward. -/
def roundQ (a b : Int) : Int := (2 * a + b) / (2 * b)

/-- A binary16 value as numerator and denominator, after R166. -/
def halfValue (v : Nat) : Nat × Nat :=
  let e := v / 1024 % 32
  let m := v % 1024
  if v.testBit 15 then (0, 1)
  else if e = 31 then (if m = 0 then (65504, 1) else (0, 1))
  else if e = 0 then (m, 16777216)
  else ((1024 + m) * 2 ^ e, 33554432)

/-- Step 1 for a colour code (R257). -/
def unpack (format range v : Nat) : Nat :=
  match format with
  | 2 => if range = 1 then v * 64 + v / 16 else v * 64
  | 3 => v
  | 6 => v
  | _ => if range = 1 then v * 257 else v * 256

/-- Step 1 for A (R257). -/
def unpackA (format v : Nat) : Nat := match format with | 1 => v * 257 | 2 => v * 21845 | 3 => v | _ => 65535

/-- The matrix coefficients of R260: K_RV, K_GU, K_GV, K_BU. -/
def yccCoefs (colorimetry : Nat) : Int × Int × Int × Int :=
  match colorimetry with
  | 0 => (22970, 5638, 11700, 29032)
  | 1 => (25802, 3069, 7670, 30402)
  | _ => (24160, 2696, 9361, 30825)

/-- Clamp to U16. -/
def clampU16 (v : Int) : Int := clampI 0 65535 v
/-- Clamp to U4.20. -/
def clampLin (v : Int) : Int := clampI 0 0xFFFFFF v

/-- Step 3 without the matrix (R259). -/
def normRgb (range : Nat) (v : Int) : Int :=
  clampU16 (if range = 1 then v else roundQ (65535 * (v - 4096)) 56064)

/-- Step 3 for YCbCr (R259, R260): R', G', B'. -/
def yccToRgb (colorimetry range : Nat) (y cb cr : Int) : List Int :=
  let k := yccCoefs colorimetry
  let dy : Int := if range = 1 then 65535 else 56064
  let dc : Int := if range = 1 then 65535 else 57344
  let y0 := if range = 1 then y else y - 4096
  let u := cb - 32768
  let v := cr - 32768
  let out := fun (t : Int) => clampU16 (roundQ (65535 * (y0 * dc * 16384 + t * dy)) (dy * dc * 16384))
  [out (k.1 * v), out (-(k.2.1 * u) - k.2.2.1 * v), out (k.2.2.2 * u)]

/-- How a layer's surface is to be read: the surface, whether RGBA components hold Cr, Y and Cb (R153). -/
structure Picture where
  surf : Surface
  ycc : Bool
  colorimetry : Nat
  range : Nat
  deriving DecidableEq, Repr

/-- Chroma of an odd pixel (R258, R189): the mean of its neighbours' chroma, or the one that there is. -/
def oddChroma (pic : Picture) (a : Nat × Bool) (b : Option (Nat × Bool)) : Int :=
  let u := fun (v : Nat) => (unpack pic.surf.format pic.range v : Int)
  match b with
  | none => u a.1
  | some b => if b.2 then u a.1 else if a.2 then u b.1 else roundQ (u a.1 + u b.1) 2

/-- R', G', B', A of a sample after step 3; linear colour for RGBA16F (R255 to R260, R189). -/
def sample (cl : Cellar) (pic : Picture) (x y : Nat) : List Int :=
  let f := pic.surf
  if f.format = 5 ∨ f.format = 6 then
    let u := yuvUnit cl f x y
    if u.2 then [0, 0, 0, 0]
    else
      let n := if x % 2 = 1 ∧ x + 1 < f.width then some (yuvUnit cl f (x + 1) y) else none
      let chroma := fun (i : Nat) =>
        if x % 2 = 0 then (unpack f.format pic.range (u.1.getD i 0) : Int)
        else oddChroma pic (u.1.getD i 0, false) (n.map (fun m => (m.1.getD i 0, m.2)))
      yccToRgb pic.colorimetry pic.range (unpack f.format pic.range (u.1.getD (if x % 2 = 0 then 0 else 2) 0) : Int)
        (chroma 1) (chroma 3) ++ [65535]
  else
    let c := rgbComps cl f x y
    if c.2 then [0, 0, 0, 0]
    else if f.format = 4 then
      let lin := fun (i : Nat) =>
        let h := halfValue (c.1.getD i 0)
        clampLin (roundQ (1048576 * (h.1 : Int)) (h.2 : Int))
      let a := halfValue (c.1.getD 3 0)
      [lin 0, lin 1, lin 2, clampU16 (roundQ (65535 * (min a.1 a.2 : Nat)) (a.2 : Int))]
    else
      let u := fun (i : Nat) => (unpack f.format pic.range (c.1.getD i 0) : Int)
      let a : Int := unpackA f.format (c.1.getD 3 0)
      if pic.ycc then yccToRgb pic.colorimetry pic.range (u 1) (u 2) (u 0) ++ [a]
      else [normRgb pic.range (u 0), normRgb pic.range (u 1), normRgb pic.range (u 2), a]

/-! ## Step 4 -/

/-- The decimation factor of one direction (R262, R240). -/
def decim (src dst : Nat) : Nat := max 1 (ceilDiv src (2 * dst))

/-- Position of R263 in one direction: i and p. `a64` is the canvas coordinate in 1/64 pixel. -/
def scalePos (src64 srcLen : Nat) (dst : Int) (dstLen : Nat) (a64 : Int) : Int × Nat :=
  let n := decim srcLen dstLen
  let den : Int := 128 * dstLen * n
  let num := 2 * (((src64 % 64 : Nat) : Int) * dstLen + (a64 - 64 * dst + 32) * srcLen) - 64 * (dstLen : Int) * n
  let i := num / den
  let p := roundQ (64 * (num - i * den)) den
  if p = 64 then (i + 1, 0) else (i, p.toNat)

/-- The taps of a layer's set at a phase (R265, R266). -/
def phaseOf (horizontal : Bool) (sets : CoefSets) (set p : Nat) : List Int :=
  match (if horizontal then sets.h else sets.v).getD set none with
  | some l => (l.drop ((if horizontal then 8 else 6) * p)).take (if horizontal then 8 else 6)
  | none => resetPhase horizontal set p

/-- Hold an index within a length. -/
def clampIdx (len : Nat) (i : Int) : Nat := if i < 0 then 0 else min (len - 1) i.toNat

/-- Decimated sample (j, l) of a layer's source rectangle (R262). -/
def decSample (cl : Cellar) (pic : Picture) (l : Layer) (nx ny j k : Nat) : List Int :=
  let x0 := l.srcX / 64
  let y0 := l.srcY / 64
  if nx = 1 ∧ ny = 1 then sample cl pic (x0 + j) (y0 + k)
  else
    let pts := (List.range ny).flatMap (fun b => (List.range nx).map (fun a =>
      sample cl pic (x0 + min (l.srcW - 1) (j * nx + a)) (y0 + min (l.srcH - 1) (k * ny + b))))
    (List.range 4).map (fun c => roundQ (sumI (pts.map (fun s => s.getD c 0))) ((nx * ny : Nat) : Int))

/-- Step 4 (R261 to R264): the filtered R', G', B', A at a canvas point in 1/64 pixel. -/
def scaled (cl : Cellar) (pic : Picture) (l : Layer) (sets : CoefSets) (u64 v64 : Int) : List Int :=
  let nx := decim l.srcW l.dstW
  let ny := decim l.srcH l.dstH
  let px := scalePos l.srcX l.srcW l.dstX l.dstW u64
  let py := scalePos l.srcY l.srcH l.dstY l.dstH v64
  let ch := phaseOf true sets l.coefH px.2
  let cv := phaseOf false sets l.coefV py.2
  let lin := pic.surf.format = 4
  let cols := (List.range 8).map (fun (k : Nat) =>
    let j := clampIdx (ceilDiv l.srcW nx) (px.1 - 3 + k)
    (List.range 6).map (fun (m : Nat) => decSample cl pic l nx ny j (clampIdx (ceilDiv l.srcH ny) (py.1 - 2 + m))))
  (List.range 4).map (fun c =>
    let wide : Bool := lin && decide (c < 3)
    let column := fun (k : Nat) =>
      let v := sumI ((List.range 6).map (fun m => cv.getD m 0 * ((cols.getD k []).getD m []).getD c 0))
      if wide then clampI (-33554432 * 1024) (33554431 * 1024) v else clampI (-131072 * 1024) (131071 * 1024) v
    let s := sumI ((List.range 8).map (fun k => ch.getD k 0 * column k))
    let out := (s + 524288) / 1048576
    if wide then clampLin out else clampU16 out)

/-! ## Steps 5 to 9 -/

/-- Entry k of a tone table (R267, R268). -/
def toneAt (p : PixSet) (tcs k : Nat) : Int :=
  match p.tones.getD tcs none with
  | some t => (t.getD k 0 : Nat)
  | none => (resetTone tcs k : Nat)

/-- Step 5 (R267). -/
def toneOut (p : PixSet) (tcs : Nat) (v : Int) : Int :=
  let i := v.toNat / 64
  let f := v - 64 * i
  let t := toneAt p tcs i
  let next := if i = 1023 then 2 * t - toneAt p tcs 1022 else toneAt p tcs (i + 1)
  clampLin (t + ((next - t) * f + 32) / 64)

/-- Step 6 (R269). -/
def gamut (m : List Int) (c : List Int) : List Int :=
  (List.range 3).map (fun r => clampLin (roundQ
    (sumI ((List.range 3).map (fun j => m.getD (3 * r + j) 0 * c.getD j 0))) 16384))

/-- Step 7 (R271). -/
def kneeOut (k : Nat) (x : Int) : Int :=
  if x ≤ k then x
  else
    let one : Int := 1048576
    let d := (x - k) + (one - k)
    roundQ (k * d + (one - k) * (x - k)) d

/-- Step 8 (R273): one component. -/
def blendOut (mode : Nat) (l b a : Int) : Int :=
  match mode with
  | 0 => clampLin (roundQ (l * a + b * (65535 - a)) 65535)
  | 1 => clampLin (roundQ (65535 * b + l * a) 65535)
  | 2 => clampLin (roundQ (b * (65535 - a) * 1048576 + b * l * a) (1048576 * 65535))
  | _ => l

/-- Step 9 (R274). -/
def wl16Out (x : Int) : Nat := (clampI 0 65535 (roundQ (x * 65535) 1048576)).toNat

/-- A WL16 component as U4.20 (R273). -/
def fromWl16 (v : Nat) : Int := roundQ ((v : Int) * 1048576) 65535

/-! ## Layers on a canvas point -/

/-- The layer is in the picture: visible and not hidden by LOSS_ACTION 1 (R159). -/
def layerVisible (l : Layer) : Bool := l.visible && l.loss != 1

/-- A canvas pixel lies inside the layer's destination rectangle (R212, R261). -/
def insideDst (l : Layer) (u v : Int) : Bool :=
  decide (l.dstX ≤ u ∧ u < l.dstX + l.dstW ∧ l.dstY ≤ v ∧ v < l.dstY + l.dstH)

/-- The layer contributes to a slot image at a canvas pixel (R212, R272). -/
def contributes (l : Layer) (slot : Nat) (u v : Int) : Bool :=
  layerVisible l && l.surface != 0xFFFF && bit l.slotMask slot && insideDst l u v

/-- How a layer's surface reads: a stream buffer of sampling YCbCr-4:4:4 holds Cr, Y, Cb (R153, R154). -/
def pictureOf (fy : Foyer) (l : Layer) : Option Picture :=
  (getKey fy.surfaces l.surface).map (fun f =>
    { surf := f, colorimetry := l.colorimetry, range := l.range,
      ycc := decide (3584 ≤ l.surface) && decide (fld (fy.video.getD ((l.surface - 3584) / 8) { cfg := [] }).cfg 1 1 = 1) })

/-- Steps 4 to 7 of a layer at a canvas point: linear R, G, B and A. -/
def layerLight (cl : Cellar) (pic : Picture) (sc : Scene) (n : Nat) (l : Layer) (u64 v64 : Int) : List Int :=
  let s := scaled cl pic l (sc.coefs.getD n {}) u64 v64
  let p := sc.pix.getD l.pixSet {}
  let lin := if pic.surf.format = 4 then s.take 3 else (s.take 3).map (toneOut p l.tcs)
  let g := gamut (if l.colorimetry ≤ 1 then p.m709 else p.m2020) lin
  g.map (kneeOut p.knee) ++ [s.getD 3 0]

/-- Apply one layer to the accumulator (R273); LOSS_ACTION 2 shows it as opaque black (R159). -/
def applyLayer (cl : Cellar) (fy : Foyer) (sc : Scene) (slot : Nat) (u v offX offY : Int) (acc : List Int) (n : Nat) : List Int :=
  let l := sc.layers.getD n {}
  if ¬ contributes l slot u v then acc
  else if l.loss = 2 then [0, 0, 0]
  else match pictureOf fy l with
    | none => acc
    | some pic =>
      let s := layerLight cl pic sc n l (64 * u + offX) (64 * v + offY)
      let a := roundQ (s.getD 3 0 * l.opacity) 65535
      (List.range 3).map (fun c => blendOut l.blend (s.getD c 0) (acc.getD c 0) a)

/-- The canvas pixel of Tile pixel (x, y), without offsets (R208). -/
def canvasPixel (e : TileMap) (x y : Nat) : Int × Int :=
  match e.rot with
  | 0 => ((e.x : Int) + x, (e.y : Int) + y)
  | 1 => ((e.x : Int) + 269 - y, (e.y : Int) + x)
  | 2 => ((e.x : Int) + 479 - x, (e.y : Int) + 269 - y)
  | _ => ((e.x : Int) + y, (e.y : Int) + 479 - x)

/-- The WL16 R, G, B of Tile pixel (x, y) of a slot image (R255, R273, R274). -/
def composePixel (cl : Cellar) (fy : Foyer) (sc : Scene) (e : TileMap) (slot x y : Nat) : List Nat :=
  let p := canvasPixel e x y
  let bg := [fromWl16 sc.bgR, fromWl16 sc.bgG, fromWl16 sc.bgB]
  ((List.range 32).foldl (applyLayer cl fy sc slot p.1 p.2 e.offX e.offY) bg).map wl16Out

/-- Tile pixels of a pane in raster order (R3). -/
def panePixels (pane : Nat) : List (Nat × Nat) :=
  (List.range 30).flatMap (fun j => (List.range 32).map (fun i => (32 * (pane % 15) + i, 30 * (pane / 15) + j)))

/-- The 960 WL16 pixels of a pane. -/
def composePane (cl : Cellar) (fy : Foyer) (sc : Scene) (e : TileMap) (slot pane : Nat) : List (List Nat) :=
  (panePixels pane).map (fun p => composePixel cl fy sc e slot p.1 p.2)

/-- Content bytes of a pane (R274). -/
def paneBytes (px : List (List Nat)) : List Byte := px.flatMap (fun c => c.flatMap (leBytes 2))

/-- The pixels in content bytes. -/
def panePixelsOf (b : List Byte) : List (List Nat) :=
  (List.range 960).map (fun j => (List.range 3).map (fun c => fld b (6 * j + 2 * c) 2))

/-- The samples of the power pass (R244): offset (4, 5) of each of the twelve 8 × 10 cells. -/
def powerPoints (pane : Nat) : List (Nat × Nat) :=
  (List.range 3).flatMap (fun j => (List.range 4).map (fun i => (32 * (pane % 15) + 8 * i + 4, 30 * (pane / 15) + 10 * j + 5)))

/-- Predicted dynamic power in µW (R244) of WL16 pixels, each standing for `times` pixels. -/
def powerOf (g : PowerGroup) (times : Nat) (px : List (List Nat)) : Nat :=
  let sum := fun (c : Nat) => times * (px.map (fun p => p.getD c 0)).foldl (· + ·) 0
  (g.wR * sum 0 + g.wG * sum 1 + g.wB * sum 2) / 65535

/-! ## What a composition reads -/

/-- Source coordinates that a layer's filter reads at a canvas pixel (R262 to R264). -/
def readsAt (l : Layer) (u64 v64 : Int) : List (Nat × Nat) :=
  let nx := decim l.srcW l.dstW
  let ny := decim l.srcH l.dstH
  let px := scalePos l.srcX l.srcW l.dstX l.dstW u64
  let py := scalePos l.srcY l.srcH l.dstY l.dstH v64
  let xs := (List.range 8).flatMap (fun (k : Nat) => (List.range nx).map (fun a =>
    l.srcX / 64 + min (l.srcW - 1) (clampIdx (ceilDiv l.srcW nx) (px.1 - 3 + k) * nx + a)))
  let ys := (List.range 6).flatMap (fun (k : Nat) => (List.range ny).map (fun b =>
    l.srcY / 64 + min (l.srcH - 1) (clampIdx (ceilDiv l.srcH ny) (py.1 - 2 + k) * ny + b)))
  xs.flatMap (fun x => ys.map (fun y => (x, y)))

/-- Spans of Cellar that hold a sample: the pixel's bytes, of a YUV422 format those of its unit and, for an odd pixel, of the next
(R258), or a compressed tile's header and slot. -/
def sampleSpans (cl : Cellar) (f : Surface) (x y : Nat) : List (Nat × Nat) :=
  if f.format = 5 ∨ f.format = 6 then
    let n := if f.format = 5 then 4 else 8
    (pixelAddr f (x / 2 * 2) y, n) :: (if x % 2 = 1 ∧ x + 1 < f.width then [(pixelAddr f (x + 1) y, n)] else [])
  else if f.layout ≠ 2 then [(pixelAddr f x y, bytesPer f.format)]
  else
    let t := tileIndex f x y
    let h := tileHeader cl f t
    (f.hdrBase + 16 * t, 16) ::
      (if h.1 = 0 then [(pixelAddr f x y, bytesPer f.format)]
       else if h.1 = 2 then [(f.base + t * 4096 * bytesPer f.format, 32 * h.2.1)] else [])

/-- The spans of Cellar that the composition of a pane's points reads (R181). -/
def paneSpans (cl : Cellar) (fy : Foyer) (sc : Scene) (e : TileMap) (slot : Nat) (pts : List (Nat × Nat)) : List (Nat × Nat) :=
  (List.range 32).flatMap (fun n =>
    let l := sc.layers.getD n {}
    match pictureOf fy l with
    | none => []
    | some pic => pts.flatMap (fun p =>
      let q := canvasPixel e p.1 p.2
      if contributes l slot q.1 q.2 ∧ l.loss ≠ 2 then
        (readsAt l (64 * q.1 + e.offX) (64 * q.2 + e.offY)).flatMap (fun r => sampleSpans cl pic.surf r.1 r.2)
      else []))

/-- The failed or corrected words among spans (R188, R189); nothing where Cellar holds no error. -/
def spanErrors (cl : Cellar) (spans : List (Nat × Nat)) : List Nat :=
  (cl.flips.map Prod.fst).filter (fun w => spans.any (fun a => spansMeet a.1 a.2 w 8))

/-- Surface and tile of every faulty compressed tile that a pane reads (R170). -/
def paneFaultyTiles (cl : Cellar) (fy : Foyer) (sc : Scene) (e : TileMap) (slot : Nat) (pts : List (Nat × Nat)) : List (Nat × Nat) :=
  (List.range 32).flatMap (fun n =>
    let l := sc.layers.getD n {}
    match pictureOf fy l with
    | none => []
    | some pic =>
      if pic.surf.layout ≠ 2 then []
      else
        let tiles := (pts.flatMap (fun p =>
          let q := canvasPixel e p.1 p.2
          if contributes l slot q.1 q.2 ∧ l.loss ≠ 2 then
            (readsAt l (64 * q.1 + e.offX) (64 * q.2 + e.offY)).map (fun r => tileIndex pic.surf r.1 r.2)
          else [])).eraseDups
        (tiles.filter (tileFaulty cl pic.surf)).map (fun t => (l.surface, t)))

/-! ## Encodings for the link -/

/-- The governor's scale on a pixel (R247). -/
def scalePixel (m : Nat) (p : List Nat) : List Nat := p.map (fun v => v * m / 65536)

/-- A stream of fields of `w` bits as one number, first field lowest (R276). -/
def packBits (w : Nat) : List Nat → Nat
  | [] => 0
  | v :: r => v + 2 ^ w * packBits w r

/-- Payload of a pane packet (R276): 823 words of 7 bytes for WL16, 618 for WL12L. -/
def panePayload (wl12 : Bool) (px : List (List Nat)) : List Byte :=
  if wl12 then leBytes (7 * 618) (packBits 12 (px.flatMap (fun p => p.map wl12Encode)))
  else padTo (7 * 823) (paneBytes px)

/-- The pixels a payload carries (R275, R276). -/
def payloadPixels (wl12 : Bool) (b : List Byte) : List (List Nat) :=
  if wl12 then
    let v := leNat b
    (List.range 960).map (fun j => (List.range 3).map (fun c => wl12Decode (v / 2 ^ (36 * j + 12 * c) % 4096)))
  else panePixelsOf b

end Sys2Proof.Machine
end

