-- ==== Sys2Proof/Machine/Landing.lean ====
section
/-!
DEFINITION. Landing and Larder (R394 to R431): panes taken in and corrected, the flip and the frame report, delivery with drift
and the power limit, parity and repair, the Larder records and their golden copy.
-/
namespace Sys2Proof.Machine

/-! ## The golden copy (R416, R428) -/

/-- KEY of golden Larder records and of golden trims in GOLDEN (R566, R573). DEDUCED, log entry 53. -/
abbrev keyLarder : Nat := 0x0A01
abbrev keyTrims : Nat := 0x0B01

/-- The record of the GOLDEN store that covers element `i`, of `size` bytes. -/
def goldenCover (key size i : Nat) (s : State) : Option StoreRec :=
  newestOf s.tile.at_.nv.store (fun r => r.region == 1 && r.key == key && decide (r.index ≤ i ∧ i < r.index + r.payload.length / size))

/-- A golden Larder record. DEDUCED, log entry 53. -/
def goldenLarder (i : Nat) (s : State) : Option Nat :=
  (goldenCover keyLarder 16 i s).map (fun r => recMask i (fld r.payload (16 * (i - r.index)) 16))

/-- A golden copy exists. -/
def hasGolden (s : State) : Bool :=
  s.tile.at_.nv.store.any (fun r => r.region == 1 && r.key == keyLarder && validRec s.tile.at_.nv.store r)

/-- The records that the golden copy covers. -/
def goldenIndexes (s : State) : List Nat :=
  (s.tile.at_.nv.store.filter (fun r => r.region == 1 && r.key == keyLarder)).flatMap
    (fun r => (List.range (r.payload.length / 16)).map (fun k => r.index + k))

/-- Fill the working copy (R416): from the golden copy, with identity records where it holds none; LR_NO_GOLDEN without one. -/
def fillLarder (s : State) : State :=
  if hasGolden s then
    let recs := (goldenIndexes s).foldl (fun l i => match goldenLarder i s with | some v => setRec l i v | none => l) []
    updLr (fun l => { l with recs := recs, flips := [], bad := [], noGolden := false }) s
  else post .tile 0x0A 3 0x0008 0 0 (updLr (fun l => { l with recs := [], flips := [], bad := [], noGolden := true }) s)

/-! ## Correction on arrival (R409 to R412) -/

/-- A lamp's code (R411, R412). -/
def correctLamp (r : Nat) (px : List Nat) (i : Nat) : Nat :=
  let sum := ((List.range 3).map (fun j =>
    recField r (36 * i + 12 * j + 11) (36 * i + 12 * j) * ((px.getD j 0 : Nat) : Int))).foldl (· + ·) 0
  (clampI 0 0xFFFFF (roundI sum 64)).toNat

/-- A lamp that its record or lamp drive flags (R412). -/
def lampDead (r x y i : Nat) (s : State) : Bool :=
  r.testBit (108 + i) || s.tile.lp.flags.any (fun f => f.x == x && f.y == y && f.c == i)

/-- The Landing word of a pixel (R395, R409). -/
def correctPixel (x y : Nat) (px : List Nat) (s : State) : Nat :=
  let r := larderRec (y * 480 + x) s
  let a := fun (i : Nat) => if lampDead r x y i s then 0 else correctLamp r px i
  a 0 + 2 ^ 20 * a 1 + 2 ^ 40 * a 2

/-- The pixels of a pane in word order, with the Larder record of each. -/
def paneXY (pane : Nat) : List (Nat × Nat) :=
  (List.range 960).map (fun w => (pane % 15 * 32 + w % 32, pane / 15 * 30 + w / 32))

/-- The words of a pane's payload (R409). -/
def correctPane (pane : Nat) (wl12 : Bool) (body : List Byte) (s : State) : List Nat :=
  ((payloadPixels wl12 body).zip (paneXY pane)).map (fun e => correctPixel e.2.1 e.2.2 e.1 s)

/-- Commit 960 words into a half (R401). -/
def commitPane (slot pane half : Nat) (words : List Nat) (s : State) : State :=
  updLd (fun l =>
    { l with
      codes := if words.all (· == 0) then delKey l.codes (slot, pane, half) else putKey l.codes (slot, pane, half) words
      flips := l.flips.filter (fun b => ¬ (b.1.1 = slot ∧ b.1.2.1 = pane ∧ b.1.2.2.1 = half))
      resum := l.resum.filter (fun r => ¬ (r.slot = slot ∧ r.pane = pane ∧ r.half = half)) }) s

/-! ## A pane packet (R398 to R402) -/

/-- A PANE packet's fields (R295). -/
structure PaneFields where
  wl12 : Bool
  slot : Nat
  originB : Bool
  pub : Bool
  replay : Bool
  pane : Nat
  fn : BitVec 32
  claim : BitVec 16
  body : List Byte
  pcrc : BitVec 32
  len : Nat
  deriving DecidableEq, Repr

/-- Read them. -/
def parsePane (k : GPkt) : PaneFields :=
  let w0 := fld k.payload 0 7
  let w1 := fld k.payload 7 7
  let n := k.payload.length
  let t := fld k.payload (n - 7) 7
  { wl12 := bit w0 4, slot := bits w0 6 5, originB := bit w0 7, pub := bit w0 8, replay := bit w0 9, pane := bits w0 31 24
    fn := BitVec.ofNat 32 (bits w1 31 0), claim := BitVec.ofNat 16 (bits w1 47 32), body := (k.payload.drop 14).take (n - 21)
    pcrc := BitVec.ofNat 32 (bits t 31 0), len := bits t 41 32 }

/-- PCRC matches, and LEN matches FORMAT (R295, R296). -/
def paneGood (f : PaneFields) : Bool :=
  let n := if f.wl12 then 618 else 823
  f.len == n && f.body.length == 7 * n && crc32 f.body == f.pcrc

/-- The acknowledgement (R299, R333, R336). -/
def paneAck (port : Nat) (f : PaneFields) (st : Nat) (s : State) : State :=
  let w0 := tileWord0 2 (16777216 * f.pane + 256 * st + 32 * f.slot) f.originB s
  hand .tile port (tilePkt 2 2 2 f.originB (leBytes 7 w0 ++ leBytes 7 f.fn.toNat) s) s

/-- The copy held for (slot, pane). -/
def heldCopy (f : PaneFields) (l : Landing) : Option Held :=
  l.held.find? (fun h => h.slot == f.slot && h.pane == f.pane)

/-- Count a divergence (R387). -/
def noteDivergence (s : State) : State :=
  updLd (fun l => { l with divergence := l.divergence + 1, divFrame := l.divFrame + 1, diverged := true }) s

/-- Store a copy for frame V + 1 into the receive half (R399 row 6). -/
def storeCopy (f : PaneFields) (s : State) : State :=
  let h : Held := { slot := f.slot, pane := f.pane, fn := f.fn, pcrc := f.pcrc, pub := f.pub, claim := f.claim }
  let s1 := updLd (fun l =>
    { l with held := l.held.filter (fun x => ¬ (x.slot = f.slot ∧ x.pane = f.pane)) ++ [h] }) s
  commitPane f.slot f.pane (1 - shownHalf s.tile.ld f.slot f.pane) (correctPane f.pane f.wl12 f.body s) s1

/-- R387: the native rule for a copy of frame V + 1; answers the status. -/
def nativeRule (f : PaneFields) (s : State) : Nat × State :=
  match heldCopy f s.tile.ld with
  | none => (0, storeCopy f s)
  | some h =>
    if h.pcrc = f.pcrc then (1, s)
    else if f.pub ∧ ¬ h.pub then (0, noteDivergence (storeCopy f s))
    else (4, noteDivergence s)

/-- R390: the claim rule. -/
def claimRule (f : PaneFields) (s : State) : Nat × State :=
  let ct := s.tile.ld.claim
  if ct < f.claim then (0, storeCopy f (updLd (fun l => { l with claim := f.claim }) s))
  else if f.claim < ct then (1, updLd (fun l => { l with dropFrame := l.dropFrame + 1 }) s)
  else match heldCopy f s.tile.ld with
    | some h => if h.claim < ct then (0, storeCopy f s) else (1, s)
    | none => (0, storeCopy f s)

/-- A repair request for the pane is outstanding (R425). -/
def repairOut (f : PaneFields) (l : Landing) : Bool :=
  l.repairs.any (fun r => r.slot == f.slot && r.pane == f.pane && r.outstanding)

/-- Note that a copy of frame V + 1 arrived for (slot, pane) (R306). -/
def noteSeen (f : PaneFields) (s : State) : State :=
  if s.tile.ld.seen.contains (f.slot, f.pane) then s else updLd (fun l => { l with seen := l.seen ++ [(f.slot, f.pane)] }) s

/-- Note Larder records that failed parity (R428). -/
def noteBadRecords (l : List Nat) (s : State) : State :=
  l.foldl (fun a i => updLr (fun r =>
    { r with parityErrors := r.parityErrors + 1, bad := if r.bad.contains i then r.bad else r.bad ++ [i] }) a) s

/-- Bits of Larder words that have flipped since they were written. -/
def flipLarder (l : List (Nat × Nat × Nat)) (s : State) : State :=
  l.foldl (fun a e => if e.1 < 129600 ∧ e.2.1 < 2 then updLr (fun r => { r with flips := flipBits (e.1, e.2.1) e.2.2 r.flips }) a else a) s

/-- The records with flipped bits of which a read finds a parity failure. -/
def failingRecords (reads : Nat → Nat → Bool) (s : State) : List Nat :=
  ((s.tile.lr.flips.filter (fun f => reads f.1.1 f.1.2 && (larderWord f.1.1 f.1.2 s).2)).map (fun f => f.1.1)).eraseDups

/-- The rows of R399; answers the status. DEDUCED, log entry 56. -/
def judgePane (k : PanePkt) (f : PaneFields) (s0 : State) : Nat × State :=
  let recs := (paneXY f.pane).map (fun e => e.2 * 480 + e.1)
  let s0 := flipLarder k.flips s0
  let hit := failingRecords (fun i _ => recs.contains i) s0
  let s := noteBadRecords hit s0
  let v := tileView s
  let next := BitVec.ofInt 32 (v + 1)
  let par := if noFrames s then none else tilePar (v + 1).toNat s
  let slotOk : Bool := match par with
    | some t => decide (f.slot < t.slots ∧ f.pane ≤ 134)
    | none => false
  let s1 := if slotOk ∧ f.fn = next then noteSeen f s else s
  if ¬ s.tile.ld.ready ∨ ¬ hit.isEmpty ∨ recs.any (fun i => s.tile.lr.bad.contains i) ∨ k.noStaging then (5, s1)
  else if ¬ paneGood f then (2, s1)
  else if ¬ slotOk then (5, s1)
  else if f.replay ∧ f.fn = BitVec.ofInt 32 v then
    if repairOut f s.tile.ld then
      (0, updLd (fun l => { l with repairs := l.repairs.map (fun r =>
          if r.slot = f.slot ∧ r.pane = f.pane then { r with outstanding := false } else r) })
        (commitPane f.slot f.pane (shownHalf s.tile.ld f.slot f.pane) (correctPane f.pane f.wl12 f.body s) s1))
    else (1, s1)
  else if f.fn = next then (if s.tile.po.claimMode then claimRule f s1 else nativeRule f s1)
  else if sdiff f.fn next < 0 then (3, s1)
  else (5, s1)

/-- PANE_PACKET_RECEIVED (R350, R398 to R402): a packet of another Tile is forwarded. -/
def panePacketReceived (port : Nat) (k : PanePkt) (s : State) : State :=
  if ¬ forThisTile k.pkt s ∨ k.pkt.typ ≠ 1 then packetForward port k.pkt s
  else
    let a := linkAccept .tile port k.pkt s
    if ¬ a.1 then a.2
    else
      let s1 := freeRx .tile port k.pkt.cls k.pkt.len a.2
      if packetBad k.pkt then updPort .tile port (fun g => { g with discards := g.discards + 1 }) s1
      else
        let f := parsePane k.pkt
        let j := judgePane k f s1
        paneAck port f j.1 j.2

def execPanePacketReceived (port : Nat) (k : PanePkt) (s : State) : Host.Outcome State Fault Refusal :=
  onPart .tile (panePacketReceived port k) s

/-! ## TICK messages (R346, R347, R406) -/

/-- The fields of a TICK message as it is relayed. -/
def tickBlock (m : TickMsg) : List Int :=
  [(m.fn.toNat : Int), (m.slots : Int), (b2n m.wl12 : Nat), (b2n m.blackout : Nat), (b2n m.headB : Nat), (m.tFlip.toNat : Int)] ++
    m.sent.map (fun (n : Nat) => (n : Int))

/-- The 64-bit frame a TICK message names, nearest to V. -/
def tickFrame (m : TickMsg) (s : State) : Int := namedFrame (tileView s) m.fn

/-- LD_TICK_MISMATCH (R406). -/
def tickMismatch (fn tFlip own : BitVec 32) (s : State) : State :=
  postOnce 0x3 2 0x0003 fn (BitVec.ofNat 64 (tFlip.toNat + 2 ^ 32 * own.toNat)) (updLd (fun l => { l with tickMismatch := true }) s)

/-- The short time of a frame's tick by the Tile's own time. -/
def ownFlip (n : Nat) (s : State) : Option (BitVec 32) := (tickOf s.tile.mt n).map (fun t => BitVec.ofInt 32 t)

/-- TICK_MESSAGE_RECEIVED: a Head discards it (R347), but takes note of one of the other ORIGIN (R391); a Tile relays it and checks its T_FLIP (R406).
DEDUCED, log entry 46; DEDUCED, log entry 58. -/
def tickMessageReceived (p : Part) (port : Nat) (m : TickMsg) (s : State) : State :=
  match p with
  | .head =>
    let s1 := timeTaken .head port s
    if m.headB = s.head.sys.roleB then s1 else { s1 with head.tw.lastOtherTick := some (wall s.head.mt) }
  | .tile =>
    let s1 := timeSend .tile (1 - port) 0x87 (tickBlock m) (timeTaken .tile port s)
    let n := tickFrame m s
    if noFrames s ∨ n ≤ tileView s then s1
    else
      let s2 := updLd (fun l => { l with ticks := l.ticks ++ [m], tickCame := true }) s1
      match ownFlip n.toNat s with
      | some own => if own = m.tFlip then s2 else tickMismatch m.fn m.tFlip own s2
      | none => s2

def execTickMessageReceived (p : Part) (port : Nat) (m : TickMsg) (s : State) : Host.Outcome State Fault Refusal :=
  onPart p (tickMessageReceived p port m) s

/-! ## The flip (R403 to R407, R420 to R423) -/

/-- The codes and SHOW bits of slot images newly below S read 0 (R397); copies held for the switch frame stay.
DEDUCED, log entry 57. -/
def clearNewSlots (old new : Nat) (l : Landing) : Landing :=
  if new ≤ old then l
  else
    let keep := fun (e : (Nat × Nat × Nat) × List Nat) =>
      e.1.1 < old || l.held.any (fun h => h.slot == e.1.1 && h.pane == e.1.2.1 && e.1.2.2 == 1)
    { l with
      codes := (l.codes.map (fun e =>
        if e.1.1 < old then e
        else if l.held.any (fun h => h.slot == e.1.1 && h.pane == e.1.2.1) ∧ e.1.2.2 = 1 - shownHalf l e.1.1 e.1.2.1 then
          ((e.1.1, e.1.2.1, 1), e.2)
        else ((e.1.1, e.1.2.1, 0), []))).filter keep
      flips := l.flips.filter (fun f => f.1.1 < old)
      show_ := l.show_.filter (fun e => e.1 < old) }

/-- Toggle the SHOW bit of every (slot, pane) that holds a copy for frame FN (R403). -/
def toggleShow (fn : BitVec 32) (l : Landing) : Landing :=
  (l.held.filter (fun h => h.fn == fn)).foldl (fun l h =>
    { l with show_ := if l.show_.contains (h.slot, h.pane) then l.show_.erase (h.slot, h.pane) else l.show_ ++ [(h.slot, h.pane)] }) l

/-- The counts of the frame's report (R306, R407). DEDUCED, log entry 58. -/
def buildReport (n : Nat) (s : State) : TileReport :=
  let l := s.tile.ld
  let mine := l.ticks.filter (fun m => m.fn == BitVec.ofNat 32 n)
  let sent := (mine.map (fun m => m.sent.getD (s.tile.sys.position - 1) 0)).foldl max 0
  let acc := l.held.length
  let rej := (l.seen.filter (fun k => !(l.held.any (fun h => h.slot == k.1 && h.pane == k.2)))).length
  { n := n
    noTick := mine.isEmpty
    mismatch := (mine.isEmpty && l.tickCame) || mine.any (fun m => some m.tFlip != ownFlip n s)
    notLocked := s.tile.mt.servo != .locked
    limited := l.limFrame
    accepted := acc
    rejected := rej
    missing := sent - acc - rej
    divergence := l.divFrame
    claimDrops := l.dropFrame
    tFlip := match mine with | m :: _ => m.tFlip | [] => 0
    q := l.q }

/-- The budget in force for the next q: the HOT cap lowers it (R422, R544). -/
def budgetNow (s : State) : Nat :=
  if s.tile.ch.hotCap then min s.tile.ld.limNow.budget s.tile.ch.hotBudgetNow else s.tile.ld.limNow.budget

/-- Smallest q from `q` upward with E × M_q / 65 536 within the budget (R422). -/
def findQ (num den budget : Nat) : Nat → Nat → Nat
  | 0, q => q
  | k + 1, q => if num * govScale q ≤ budget * 65536 * den then q else findQ num den budget k (q + 1)

/-- LD_RAIL_LIMIT (R423, R431). DEDUCED, log entry 61. -/
def railLimit (c : Nat) (s : State) : State :=
  let l := s.tile.ld
  postOnce 0x5 1 0x0005 (BitVec.ofNat 32 (c + 256 * l.q)) (BitVec.ofNat 64 (l.energyReg + 2 ^ 32 * l.predMax.getD c 0))
    (updLd (fun l => { l with limited := true }) s)

/-- The budget step at the flip to frame `n` (R422): E of the frame just ended from its K and the sums of PRED.
DEDUCED, log entry 60; DEDUCED, log entry 61. -/
def budgetStep (n : Nat) (s0 : State) : State :=
  let cyc := match (if s0.tile.mt.lastN.isSome then tilePar (n - 1) s0 else none) with
    | some t => cyclesOf t
    | none => 1
  let l := s0.tile.ld
  let v := fun (c : Nat) => ((s0.tile.ht.rails.getD c { vSet := 0, coef := [] }).v).toNat
  let num := v 0 * l.pred.getD 0 0 + v 1 * l.pred.getD 1 0 + v 2 * l.pred.getD 2 0
  let den := 69 * cyc * 1000000
  let dr := draw s0
  let s := dr.2
  let q := if ¬ l.limitEn then 0 else findQ num den (budgetNow s) (255 - (l.q - 1)) (l.q - 1)
  let s1 := updLd (fun l =>
    { l with
      energyReg := (freeDiv dr.1 num den).toNat, q := q, pred := [0, 0, 0] }) s
  let s2 := if l.q = 0 ∧ 0 < q then railLimit 0 s1 else s1
  updLd (fun l => { l with predMax := [0, 0, 0] }) s2

/-- Every k at the flip (R420), from which DRIFT_EN is in force as LR_SET_DRIFT set it. The anchor records are read (R415, R428). -/
def driftStep (s0 : State) : State :=
  let s := noteBadRecords (failingRecords (fun i w => w == 1 && i % 480 % 16 == 0 && i / 480 % 15 == 0) s0) s0
  updLr (fun l => { l with driftNow := l.driftEn })
    (updLd (fun l =>
      { l with ks := s.tile.ch.field.mapIdx (fun g f =>
          match f.value with
          | some t => (List.range 3).map (fun c => driftFactor l.lim g c t s)
          | none => []) }) s)

/-- Landing's part of the flip to frame `n`. DEDUCED, log entry 57. -/
def landFlip (n : Nat) (s : State) : State :=
  let rep := buildReport n s
  let own := (ownFlip n s).getD 0
  let fn := BitVec.ofNat 32 n
  let s1 := if rep.noTick then postOnce 0x4 2 0x0004 fn 0 (updLd (fun l => { l with noTick := true }) s) else s
  let s2 := if rep.noTick ∧ rep.mismatch then tickMismatch fn rep.tFlip own s1 else s1
  let old := match (if s.tile.mt.lastN.isSome then tilePar (n - 1) s else none) with | some t => t.slots | none => 4
  let new := match tilePar n s with | some t => t.slots | none => 0
  let s3 := updLd (fun l =>
    let l1 := toggleShow fn (clearNewSlots old new l)
    { l1 with
      held := [], seen := [], repairs := [], divFrame := 0, dropFrame := 0, limFrame := false, tickCame := false
      ticks := l1.ticks.filter (fun m => decide (0 < sdiff m.fn fn))
      shownFn := fn, limNow := l1.lim }) s2
  let s4 := driftStep (budgetStep n s3)
  updLd (fun l => { l with report := some { rep with q := l.q } }) s4

/-- The words of a frame report (R407). -/
def reportBytes (r : TileReport) (headB : Bool) (s : State) : List Byte :=
  leBytes 7 (tileWord0 5 0 headB s) ++
    leBytes 7 (r.n % 2 ^ 32 + 2 ^ 32 * b2n r.noTick + 2 ^ 33 * b2n r.mismatch + 2 ^ 34 * b2n r.notLocked + 2 ^ 35 * b2n r.limited) ++
    leBytes 7 (r.accepted + 2 ^ 16 * r.rejected + 2 ^ 32 * r.missing) ++
    leBytes 7 (r.divergence % 65536 + 2 ^ 16 * (r.claimDrops % 65536) + 2 ^ 32 * (s.tile.ld.parityFrame % 65536)) ++
    leBytes 7 (r.tFlip.toNat + 2 ^ 32 * r.q)

/-- FRAME_REPORT_SEND (R306, R407): within 200 µs after T_N, to each Head that reaches the Tile. -/
def execFrameReportSend (n : Nat) (s : State) : Host.Outcome State Fault Refusal :=
  onPart .tile (fun s =>
    match s.tile.ld.report with
    | some r =>
      if r.n = n then
        updLd (fun l => { l with report := none, parityFrame := 0 })
          ((headsReaching s).foldl (fun a b => tileSend 5 1 5 b (reportBytes r b a) a) s)
      else s
    | none => s) s

/-! ## Reads, parity and repair (R424 to R427, R438) -/

/-- Ask for the repair of a pane of the frame in view (R425, R426). DEDUCED, log entry 59. -/
def repairPane (slot pane word cause : Nat) (s : State) : State :=
  let l := s.tile.ld
  let r := (l.repairs.find? (fun r => r.slot == slot && r.pane == pane)).getD { slot := slot, pane := pane }
  let put := fun (r : Repair) (s : State) => updLd (fun l =>
    { l with repairs := l.repairs.filter (fun x => ¬ (x.slot = slot ∧ x.pane = pane)) ++ [r] }) s
  let v := BitVec.ofInt 32 (tileView s)
  if ¬ l.repairEn ∨ r.outstanding then s
  else if r.sent < 2 then
    let body := fun (b : Bool) (s : State) =>
      leBytes 7 (tileWord0 7 (16777216 * pane + 32 * slot) b s) ++ leBytes 7 (v.toNat + 2 ^ 32 * cause + 2 ^ 34 * word)
    put { r with sent := r.sent + 1, outstanding := true }
      (updLd (fun l => { l with repairReqs := l.repairReqs + 1 })
        ((headsReaching s).foldl (fun a b => tileSend 7 1 2 b (body b a) a) s))
  else if r.persisted then s
  else
    put { r with persisted := true }
      (post .tile 0x0A 3 0x0002 (BitVec.ofNat 32 (pane + 256 * slot + 65536 * word)) (v.zeroExtend 64) s)

/-- A parity failure found by a read (R425, R427). DEDUCED, log entry 59. -/
def parityFailure (slot pane word cause : Nat) (s : State) : State :=
  let s1 := updLd (fun l =>
    { l with parityErrors := l.parityErrors + 1, parityFrame := l.parityFrame + 1, paritySeen := true }) s
  let s2 := postOnce 0x1 2 0x0001 (BitVec.ofNat 32 (pane + 256 * slot + 65536 * word))
    ((BitVec.ofInt 32 (tileView s)).zeroExtend 64) s1
  repairPane slot pane word cause s2

/-- Recompute a row sum, failing words taken as 0 (R427). DEDUCED, log entry 59. -/
def recomputeSum (slot pane row side c : Nat) (s : State) : State :=
  updLd (fun l =>
    let half := shownHalf l slot pane
    let word := fun (i : Nat) => row * 32 + 16 * side + i
    let v := ((List.range 16).map (fun i =>
      let w := landRead l slot pane half (word i)
      if w.2 then 0 else codeIn w.1 c)).foldl (· + ·) 0
    let r : RowSum := { slot := slot, pane := pane, half := half, row := row, side := side, c := c, value := v }
    { l with resum := l.resum.filter (fun x =>
        ¬ (x.slot = slot ∧ x.pane = pane ∧ x.half = half ∧ x.row = row ∧ x.side = side ∧ x.c = c)) ++ [r] }) s

/-- The words of a scan slot, as (pane, word). -/
def slotWords (r : Nat) : List (Nat × Nat) :=
  (slotRows r).flatMap (fun e => (List.range 480).map (fun x => (paneOf x e.2, pixelWord x e.2)))

/-- Read scan slot `r` of slot image `slot` (R424, R425, R427): words and row sums that fail are noted. -/
def readSlot (slot r : Nat) (obs : RowObs) (s : State) : State :=
  let ws := slotWords r
  let half := fun (p : Nat) => shownHalf s.tile.ld slot p
  let mine := obs.flips.filter (fun e => ws.contains (e.1, e.2.1))
  let more := fun (f : List ((Nat × Nat × Nat × Nat) × Nat)) => mine.foldl (fun a e => flipBits (slot, e.1, half e.1, e.2.1) e.2.2 a) f
  let s1 := updLd (fun l => { l with flips := more l.flips }) s
  let failing := ws.filter (fun e => (landRead s1.tile.ld slot e.1 (half e.1) e.2).2)
  let s2 := failing.foldl (fun a e => parityFailure slot e.1 e.2 0 a) s1
  let sums := obs.sums.filter (fun e => (slotRows r).any (fun y => y.2 / 30 == e.1 / 15 && y.2 % 30 == e.2.1))
  sums.foldl (fun a e =>
    parityFailure slot e.1 (32 * e.2.1 + 16 * e.2.2.1) 1 (recomputeSum slot e.1 e.2.1 e.2.2.1 e.2.2.2 a)) s2

/-- The delivered codes of a scan slot by sink (R418, R425): codes of 0 are not listed. -/
def deliverSlot (slot r : Nat) (s : State) : List (Nat × Nat) :=
  let l := s.tile.ld
  (slotRows r).flatMap (fun e => (List.range 480).flatMap (fun x =>
    let y := e.2
    let p := paneOf x y
    let v := landRead l slot p (shownHalf l slot p) (pixelWord x y)
    let w := if v.2 then 0 else v.1
    ((List.range 3).map (fun c =>
      (sinkOf x y c, delivered (codeIn w c) (driftK (fieldGroupOf x y) c s) (l.factor.getD c 65536)))).filter (fun d => d.2 ≠ 0)))

/-- PRED, F and the delivered load of scan slot `r` (R421, R423). The load is held as PRED × F. -/
def predictSlot (slot r : Nat) (s : State) : State :=
  let pr := (List.range 3).map (fun c => predOf slot c r s)
  let fs := (List.range 3).map (fun c => factorOf c (pr.getD c 0) s)
  let m := if s.tile.ld.limitEn then govScale s.tile.ld.q else 65536
  let s1 := updLd (fun l =>
    { l with
      factor := fs
      load := (pr.zip fs).map (fun e => e.1 * e.2)
      pred := (l.pred.zip pr).map (fun e => e.1 + e.2)
      predMax := (l.predMax.zip pr).map (fun e => max e.1 e.2)
      limFrame := l.limFrame || fs.any (fun f => f < 65536) }) s
  match (List.range 3).find? (fun c => fs.getD c 65536 < m) with
  | some c => railLimit c s1
  | none => s1

/-! ## Refetch and scrub (R428, R429) -/

/-- LARDER_REFETCH. -/
def execLarderRefetch (index : Nat) (readable : Bool) (s : State) : Host.Outcome State Fault Refusal :=
  onPart .tile (fun s =>
    if ¬ s.tile.lr.bad.contains index then s
    else
      match (if readable then goldenLarder index s else none) with
      | some v =>
        post .tile 0x0A 1 0x0006 (BitVec.ofNat 32 index) 0
          (updLr (fun l => { writeRec index v l with refetches := l.refetches + 1, refetched := true }) s)
      | none =>
        post .tile 0x0A 3 0x0007 (BitVec.ofNat 32 index) 0
          (updLr (fun l => { writeRec index identityRec l with goldenBad := true }) s)) s

/-- LARDER_SCRUB: the next words are read; a word failing parity marks its record. -/
def execLarderScrub (words : Nat) (flips : List (Nat × Nat × Nat)) (s : State) : Host.Outcome State Fault Refusal :=
  onPart .tile (fun s =>
    let at0 := s.tile.lr.scrubAt
    let reached := fun (i w : Nat) => decide ((2 * i + w + 259200 - at0) % 259200 < words)
    let s1 := flipLarder flips s
    updLr (fun l => { l with scrubAt := (at0 + words) % 259200 }) (noteBadRecords (failingRecords reached s1) s1)) s

/-! ## Commands (R430) -/

def ldStatus (s : State) : Nat :=
  let l := s.tile.ld
  256 * (match tileNow s with | some t => t.slots - 1 | none => 0) + 32 * b2n l.paritySeen + 16 * b2n l.limited +
    8 * b2n l.diverged + 4 * b2n l.tickMismatch + 2 * b2n l.noTick + b2n l.ready

def specLdGetStatus : OpSpec where
  opcode := 0x0A01
  onHead := false
  onTile := true
  run := fun c s =>
    let l := s.tile.ld
    ok c 0x0A01 (leBytes 4 (ldStatus s) ++ leBytes 4 l.shownFn.toNat ++ leBytes 1 l.q ++ zeros 3 ++ leBytes 4 l.energyReg ++
      leBytes 4 l.parityErrors.toNat ++ leBytes 4 l.repairReqs.toNat ++ leBytes 4 l.divergence.toNat) s

def execLdGetStatus (c : Cmd) (s : State) : Host.Outcome State Fault Refusal := runCmd specLdGetStatus c s

/-- Take values written for the next flip at once where no flip can come (R649). -/
def limitsNow (s : State) : State :=
  if noFrames s then updLr (fun l => { l with driftNow := l.driftEn }) (updLd (fun l => { l with limNow := l.lim }) s) else s

def specLdSetLimits : OpSpec where
  opcode := 0x0A02
  onHead := false
  onTile := true
  fits := fun n => n == 8
  params := fun c _ => firstErr [inRange (fld c.params 0 2) 2000 28000 0, inRange (fld c.params 2 2) 200 4000 2,
    inRange (fld c.params 4 2) 200 4000 4, inRange (fld c.params 6 2) 200 4000 6]
  run := fun c s =>
    let p := c.params
    ok c 0x0A02 [] (limitsNow (updLd (fun l =>
      { l with lim := { l.lim with budget := fld p 0 2, peaks := [fld p 2 2, fld p 4 2, fld p 6 2] } }) s))

def execLdSetLimits (c : Cmd) (s : State) : Host.Outcome State Fault Refusal := runCmd specLdSetLimits c s

def specLdRead : OpSpec where
  opcode := 0x0A03
  onHead := false
  onTile := true
  fits := fun n => n == 8
  params := fun c _ =>
    let p := c.params
    firstErr [inRange (fld p 0 1) 0 3 0, inRange (fld p 1 1) 0 134 1, inRange (fld p 2 1) 0 1 2, inRange (fld p 4 2) 0 959 4,
      inRange (fld p 6 2) 1 500 6, need (fld p 4 2 + fld p 6 2 ≤ 960) (badParam 6)]
  run := fun c s =>
    let p := c.params
    let l := s.tile.ld
    let v := shownHalf l (fld p 0 1) (fld p 1 1)
    let half := if fld p 2 1 = 0 then v else 1 - v
    ok c 0x0A03 ((List.range (fld p 6 2)).flatMap (fun i =>
      let w := landRead l (fld p 0 1) (fld p 1 1) half (fld p 4 2 + i)
      leBytes 8 (bits w.1 59 0 + 2 ^ 63 * b2n w.2))) s

def execLdRead (c : Cmd) (s : State) : Host.Outcome State Fault Refusal := runCmd specLdRead c s

/-- The range checks of LR_WRITE and LR_READ. -/
def recordSpanErr (p : List Byte) : Option Err :=
  firstErr [inRange (fld p 0 4) 0 129599 0, inRange (fld p 4 2) 1 254 4, inRange (fld p 6 1) 0 1 6,
    need (fld p 0 4 + fld p 4 2 ≤ 129600) (badParam 4)]

/-- LR_WRITE (R417, R430): the working copy, and with TARGET 1 the golden copy too. -/
def specLrWrite : OpSpec where
  opcode := 0x0A04
  onHead := false
  onTile := true
  fits := fun n => decide (8 ≤ n)
  params := fun c _ => firstErr [recordSpanErr c.params, need (c.params.length = 8 + 16 * fld c.params 4 2) badParamAny]
  run := fun c s =>
    let p := c.params
    let first := fld p 0 4
    let s1 := (List.range (fld p 4 2)).foldl (fun a i => updLr (writeRec (first + i) (fld p (8 + 16 * i) 16)) a) s
    if fld p 6 1 = 0 then ok c 0x0A04 [] s1
    else storeWrite .tile 1 [[{ key := keyLarder, index := first, payload := p.drop 8 }]] (some (c, 0x0A04, [])) 1 s1

def execLrWrite (c : Cmd) (s : State) : Host.Outcome State Fault Refusal := runCmd specLrWrite c s

def specLrRead : OpSpec where
  opcode := 0x0A05
  onHead := false
  onTile := true
  fits := fun n => n == 8
  params := fun c _ => recordSpanErr c.params
  run := fun c s =>
    let p := c.params
    let idx := (List.range (fld p 4 2)).map (fun i => fld p 0 4 + i)
    if fld p 6 1 = 0 then ok c 0x0A05 (idx.flatMap (fun i => leBytes 16 (larderRec i s))) s
    else
      let gone := (idx.filter (fun i => (goldenLarder i s).isNone)).length
      if gone = 0 then ok c 0x0A05 (idx.flatMap (fun i => leBytes 16 ((goldenLarder i s).getD 0))) s
      else failed c 0x0A05 2 gone s

def execLrRead (c : Cmd) (s : State) : Host.Outcome State Fault Refusal := runCmd specLrRead c s

/-- LR_RELOAD begins (R430): READY is clear while the copy runs. -/
def specLrReload : OpSpec where
  opcode := 0x0A06
  onHead := false
  onTile := true
  run := fun c s => updLr (fun l => { l with reload := l.reload ++ [c] }) (updLd (fun l => { l with ready := false }) s)

/-- This LR_RELOAD is in progress. -/
def isReloading (c : Cmd) (s : State) : Bool := s.tile.lr.reload.any (fun d => d.src == c.src && d.tag == c.tag)

/-- Its copy ends (R416, R430): the working copy holds the golden one, and READY returns with the last reload. Golden records that
cannot be read fail it, with their number. -/
def endReload (c : Cmd) (s : State) : State :=
  let gone := ((goldenIndexes s).eraseDups.filter (fun i => (goldenLarder i s).isNone)).length
  let s1 := updLr (fun l => { l with reload := l.reload.filter (fun d => ¬ (d.src = c.src ∧ d.tag = c.tag)) }) (fillLarder s)
  let s2 := updLd (fun l => { l with ready := s1.tile.lr.reload.isEmpty }) s1
  if gone = 0 then ok c 0x0A06 [] s2 else failed c 0x0A06 2 gone s2

/-- LR_RELOAD: given again while it runs, it ends. DESIGN CHOICE, log entry 96. -/
def execLrReload (c : Cmd) (s : State) : Host.Outcome State Fault Refusal :=
  if inService .tile s ∧ c.part = .tile ∧ isReloading c s then .next (endReload c s) else runCmd specLrReload c s

def specLrSetDrift : OpSpec where
  opcode := 0x0A07
  onHead := false
  onTile := true
  fits := fun n => n == 12
  run := fun c s =>
    let p := c.params
    ok c 0x0A07 [] (limitsNow (updLr (fun l => { l with driftEn := bit (fld p 0 1) 0 })
      (updLd (fun l => { l with lim := { l.lim with tRef := sfld p 2 2, base := [sfld p 4 2, sfld p 6 2, sfld p 8 2] } }) s)))

def execLrSetDrift (c : Cmd) (s : State) : Host.Outcome State Fault Refusal := runCmd specLrSetDrift c s

/-! ## Register contents -/

def lrStatus (s : State) : Nat :=
  let l := s.tile.lr
  8 * b2n l.goldenBad + 4 * b2n l.refetched + 2 * b2n (!l.reload.isEmpty) + b2n (l.noGolden && !hasGolden s)

/-- LD_SHOW_k_i. -/
def ldShow (k i : Nat) (s : State) : Nat :=
  ((List.range 32).map (fun b =>
    if 32 * i + b ≤ 134 ∧ s.tile.ld.show_.contains (k, 32 * i + b) then 2 ^ b else 0)).foldl (· + ·) 0

end Sys2Proof.Machine
end

