-- ==== Sys2Proof/Machine/Parlour.lean ====
section
/-!
DEFINITION. Parlour's state from frame to frame (R207 to R253): scenes and the changes that commands make to them, frames
of application (R214 to R218), fences, dirty panes and speculation, versions, leases, and the commands of R250.
-/
namespace Sys2Proof.Machine

/-! ## Scenes and changes -/

/-- The tile map entry of a Tile index. -/
def tileMap (sc : Scene) (t : Nat) : TileMap := (getKey sc.tiles t).getD {}

/-- Enabled Tiles in ascending order of index. -/
def enabledTiles (sc : Scene) : List (Nat × TileMap) :=
  (List.range 512).filterMap (fun t =>
    match getKey sc.tiles t with
    | some e => if e.enable then some (t, e) else none
    | none => none)

/-- Apply one entry to its layer (R215). A VISIBLE that CHANGE selects ends LOSS_ACTION 1. DEDUCED, log entry 82. -/
def applyEntry (l : Layer) (e : Entry) : Layer :=
  let b := fun i => bit e.change i
  let v := e.vals
  { l with
    surface := if b 0 then v.surface else l.surface
    srcX := if b 1 then v.srcX else l.srcX
    srcY := if b 1 then v.srcY else l.srcY
    srcW := if b 1 then v.srcW else l.srcW
    srcH := if b 1 then v.srcH else l.srcH
    dstX := if b 2 then v.dstX else l.dstX
    dstY := if b 2 then v.dstY else l.dstY
    dstW := if b 2 then v.dstW else l.dstW
    dstH := if b 2 then v.dstH else l.dstH
    opacity := if b 3 then v.opacity else l.opacity
    blend := if b 3 then v.blend else l.blend
    colorimetry := if b 4 then v.colorimetry else l.colorimetry
    tcs := if b 4 then v.tcs else l.tcs
    range := if b 4 then v.range else l.range
    coefH := if b 5 then v.coefH else l.coefH
    coefV := if b 5 then v.coefV else l.coefV
    pixSet := if b 5 then v.pixSet else l.pixSet
    visible := if b 6 then v.visible else l.visible
    loss := if b 6 ∧ l.loss = 1 then 0 else l.loss }

/-- The scene after one change. -/
def applyChange (sc : Scene) (ch : Change) : Scene :=
  match ch with
  | .canvas w h r g b => { sc with width := w, height := h, bgR := r, bgG := g, bgB := b }
  | .tile t e => { sc with tiles := putKey sc.tiles t e }
  | .commit _ es => { sc with layers := es.foldl (fun ls e => upd ls e.layer (fun l => applyEntry l e)) sc.layers }
  | .foyer n _ _ f tc col tcs rng =>
    { sc with layers := upd sc.layers n (fun l =>
        { l with surface := f, loss := 0, timecode := tc, colorimetry := col, tcs := tcs, range := rng }) }
  | .loss n a => { sc with layers := upd sc.layers n (fun l => { l with loss := a }) }
  | .group g p => { sc with groups := upd sc.groups g (fun _ => p) }
  | .refresh _ _ => sc
  | .apply _ _ pix coefs =>
    { sc with
      pix := pix.foldl (fun ps x => upd ps x.1 (fun _ => x.2)) sc.pix
      coefs := coefs.foldl (fun cs x => upd cs x.1 (fun _ => x.2)) sc.coefs }
  | .slotmap ms =>
    { sc with layers := (List.range 32).foldl (fun ls n => upd ls n (fun l => { l with slotMask := ms.getD n 0 })) sc.layers }
  | .sigSet w v =>
    { sc with
      sigs := upd sc.sigs w (fun _ => v)
      expects := if v.en then sc.expects else sc.expects.filter (fun e => e.win ≠ w) }
  | .sigExpect w clear l =>
    let keep := if clear then sc.expects.filter (fun e => e.win ≠ w) else sc.expects
    { sc with expects := l.foldl (fun a x => a.filter (fun e => ¬ (e.key = x.key ∧ e.win = x.win)) ++ [x]) keep }

/-! ## Footprints (R223, R650) -/

/-- The canvas bounding box of a pane (R650): left, top, and one past right and bottom. -/
def paneBox (e : TileMap) (pane : Nat) : Int × Int × Int × Int :=
  let x0 := 32 * (pane % 15)
  let y0 := 30 * (pane / 15)
  let a := canvasPixel e x0 y0
  let b := canvasPixel e (x0 + 31) (y0 + 29)
  (min a.1 b.1, min a.2 b.2, max a.1 b.1 + 1, max a.2 b.2 + 1)

/-- The box, widened by `m` pixels on each side, meets a rectangle. -/
def boxMeets (m : Int) (b : Int × Int × Int × Int) (x y : Int) (w h : Nat) : Bool :=
  decide (b.1 - m < x + w ∧ x < b.2.2.1 + m ∧ b.2.1 - m < y + h ∧ y < b.2.2.2 + m)

/-- The pane of slot image `k` lies under the layer, where it is visible (R223, R272). -/
def underLayer (l : Layer) (e : TileMap) (pane k : Nat) : Bool :=
  layerVisible l && bit l.slotMask k && boxMeets 1 (paneBox e pane) l.dstX l.dstY l.dstW l.dstH

/-- A tone table spelled out. -/
def toneList (p : PixSet) (tcs : Nat) : List Nat := (p.tones.getD tcs none).getD ((List.range 1024).map (resetTone tcs))

/-- Two pixel-processing sets hold the same data. -/
def samePix (a b : PixSet) : Bool :=
  a.knee == b.knee && a.m709 == b.m709 && a.m2020 == b.m2020 &&
    (a.tones == b.tones || (List.range 3).all (fun t => toneList a t == toneList b t))

/-- A set of scaler coefficients holds the same taps in both. -/
def sameTaps (horizontal : Bool) (a b : CoefSets) (set : Nat) : Bool :=
  a == b || (List.range 64).all (fun p => phaseOf horizontal a set p == phaseOf horizontal b set p)

/-- The footprint of a change between two scenes: whether it makes a pane of Tile `t` dirty (R223, R279, R280). -/
def inFootprint (a b : Scene) (ch : Change) (t : Nat) (e : TileMap) (pane k : Nat) : Bool :=
  let either := fun n => underLayer (a.layers.getD n {}) e pane k || underLayer (b.layers.getD n {}) e pane k
  match ch with
  | .canvas .. => decide (a.bgR ≠ b.bgR ∨ a.bgG ≠ b.bgG ∨ a.bgB ≠ b.bgB)
  | .tile t' _ => t == t' && tileMap a t != tileMap b t
  | .commit _ es => es.any (fun x => x.change % 128 != 0 && either x.layer)
  | .foyer n .. => either n
  | .loss n _ => either n
  | .group .. => false
  | .refresh chain pos => (chain == 0xFF || chain == t / 16) && (pos == 0xFF || pos == t % 16 + 1)
  | .apply .. => (List.range 32).any (fun n =>
      let l := b.layers.getD n {}
      let ca := a.coefs.getD n {}
      let cb := b.coefs.getD n {}
      underLayer l e pane k &&
        !(samePix (a.pix.getD l.pixSet {}) (b.pix.getD l.pixSet {}) && sameTaps true ca cb l.coefH && sameTaps false ca cb l.coefV))
  | .slotmap _ => (List.range 32).any (fun n =>
      let l := b.layers.getD n {}
      layerVisible l && bit ((a.layers.getD n {}).slotMask) k != bit l.slotMask k &&
        boxMeets 1 (paneBox e pane) l.dstX l.dstY l.dstW l.dstH)
  | .sigSet .. => false
  | .sigExpect .. => false

/-- All panes of enabled Tiles, slot images below `slots`, that satisfy a condition. -/
def panesWhere (sc : Scene) (slots : Nat) (f : Nat → TileMap → Nat → Nat → Bool) : List PaneKey :=
  (enabledTiles sc).flatMap (fun x => (List.range slots).flatMap (fun k => (List.range 135).filterMap (fun p =>
    if f x.1 x.2 p k then some { chain := x.1 / 16, position := x.1 % 16 + 1, pane := p, slot := k } else none)))

/-- Panes that one change makes dirty. -/
def footprint (a b : Scene) (slots : Nat) (ch : Change) : List PaneKey := panesWhere b slots (inFootprint a b ch)

/-- Add panes not yet listed. -/
def addKeys (l m : List PaneKey) : List PaneKey := l ++ m.filter (fun k => ¬ l.contains k)

/-! ## The scene of a frame (R215 to R217) -/

/-- Order of R217 between two changes of one frame. -/
def pendBefore (a b : Pend) : Bool :=
  if a.frame ≠ b.frame then a.frame < b.frame
  else if a.eff ≠ b.eff then a.eff < b.eff
  else if a.rank ≠ b.rank then a.rank < b.rank
  else if a.sub ≠ b.sub then a.sub < b.sub
  else a.seq < b.seq

/-- Put a change into its place. -/
def insertPend (p : Pend) : List Pend → List Pend
  | [] => [p]
  | q :: r => if pendBefore p q then p :: q :: r else q :: insertPend p r

/-- The scene of frame `n` that changes make of a scene. -/
def sceneOf (base : Scene) (l : List Pend) (n : Nat) : Scene :=
  (l.filter (fun p => p.frame ≤ n)).foldl (fun sc p => applyChange sc p.change) base

/-- The scene of frame `n` as the changes accepted so far give it. -/
def sceneFor (n : Nat) (s : State) : Scene := sceneOf s.head.pl.base s.head.pl.pend n

/-- Slot count of frame `n` (R23); 4 while no ticks run, when nothing is shown. -/
def slotsOf (n : Nat) (s : State) : Nat := match parFor s.head.mt n with | some t => t.slots | none => 4

/-- The first frame not yet closed. -/
def nextToClose (s : State) : Nat := s.head.time.cutN

/-- The frame of application of a change, and whether it is LATE (R31, R92, R216); none without ticks. A change that starts only
when its frame has closed applies at the next to close. DEDUCED, log entry 91. -/
def entryFrame (name : Option (BitVec 32)) (eff : Nat) (s : State) : Option (Nat × Bool) :=
  match chooseFrame s.head.mt name eff with
  | .onFrame n late => some (max n (nextToClose s), late || (name.isSome && decide (n < nextToClose s)))
  | _ => none

/-- The scene a targeted command is judged on (R213, R214). -/
def targetScene (c : Cmd) (s : State) : Scene :=
  match entryFrame (namedOf c) c.arrival s with
  | some (n, _) => sceneFor n s
  | none => s.head.pl.base

/-- Rank and number of a source in R217; Foyer's commits come last (DEDUCED, log entry 21). -/
def rankOf (src : Option Source) : Nat × Nat :=
  match src with
  | some (.queue q) => (0, q)
  | some (.session n) => (1, n)
  | some _ => (2, 0)
  | none => (3, 0)

/-- The scenes of every frame that a command's change reaches, from its own on, with the changes accepted so far (R209, R287). -/
def scenesFrom (ch : Change) (c : Cmd) (s : State) : List Scene :=
  match entryFrame (namedOf c) c.arrival s with
  | none => [applyChange s.head.pl.base ch]
  | some (n, _) =>
    let r := rankOf (some c.src)
    let l := insertPend { frame := n, eff := c.arrival, rank := r.1, sub := r.2, seq := s.head.pl.seq, change := ch } s.head.pl.pend
    (n :: (l.map (fun p => p.frame)).filter (n < ·)).map (sceneOf s.head.pl.base l)

/-- Scene and dirty panes after a list of changes (R223). -/
def walkChanges (slots : Nat) (l : List Pend) (sc : Scene) (acc : List PaneKey) : Scene × List PaneKey :=
  l.foldl (fun x p =>
    let b := applyChange x.1 p.change
    (b, addKeys x.2 (footprint x.1 b slots p.change))) (sc, acc)

/-- Panes dirty in frame `n`, not yet closed (R223): its changes and what earlier frames left. -/
def dirtyFor (n : Nat) (s : State) : List PaneKey :=
  let slots := slotsOf n s
  let r := walkChanges slots (s.head.pl.pend.filter (fun p => p.frame = n))
    (if n = 0 then s.head.pl.base else sceneFor (n - 1) s) []
  let keep := s.head.pl.carry.filter (fun k => k.slot < slots ∧ (tileMap r.1 (tIndex k.chain k.position)).enable)
  addKeys (r.2.filter (fun k => (tileMap r.1 (tIndex k.chain k.position)).enable)) keep

/-! ## Live layers (R227) -/

/-- The stream bound to a layer. -/
def streamOf (layer : Nat) (s : State) : Option Nat :=
  (List.range 64).find? (fun n => (s.head.fy.vst.getD n {}).bound == some layer)

/-- A layer is live (R33, R158). -/
def isLive (layer : Nat) (s : State) : Bool := (streamOf layer s).isSome

/-- Panes under a visible live layer. -/
def liveTouched (sc : Scene) (s : State) (k : PaneKey) : Bool :=
  let e := tileMap sc (tIndex k.chain k.position)
  (List.range 32).any (fun n => isLive n s && underLayer (sc.layers.getD n {}) e k.pane k.slot)

/-! ## Versions (R229 to R232) -/

/-- A frame's flip has come at the Head. -/
def flipCome (n : Nat) (s : State) : Bool := match s.head.mt.lastN with | some l => decide (n ≤ l) | none => false

/-- The version into which a composition for frame `n` writes (R232): the lowest that may take it. -/
def versionFor (k : PaneKey) (n : Nat) (s : State) : Option Nat :=
  match verOf k n s with
  | some v => some v.w
  | none => (List.range 3).find? (fun w =>
      match s.head.pl.vers.find? (fun v => v.key == k && v.w == w) with
      | none => true
      | some v => !v.shown && !(v.state == 2 && !flipCome v.n s))

/-! ## Closed frames -/

/-! ## Leases (R235 to R237) -/

/-- R236: a superseded lease may end. -/
def leaseDue (l : Lease) (s : State) : Bool :=
  match l.until_ with
  | none => false
  | some m =>
    if l.waits then false
    else if ¬ ticksRun s then true
    else if m ≤ l.from_ then true
    else if nextToClose s ≤ m - 1 then false
    else match recOf (m - 1) s with
      | none => true
      | some r =>
        let lay := r.scene.layers.getD l.layer {}
        r.dirty.all (fun k =>
          !(lay.surface == l.surface && underLayer lay (tileMap r.scene (tIndex k.chain k.position)) k.pane k.slot) ||
            isComposed k r.n s || r.stale.contains k || r.heldKeys.contains k)

/-- End every lease that meets a condition and is due. -/
def endLeases (p : Lease → Bool) (s : State) : State :=
  (s.head.pl.leases.filter (fun l => p l && leaseDue l s)).foldl (fun t l => endLease l t) s

/-- A lease of a layer is in force at frame `m`. -/
def inForceAt (layer m : Nat) (l : Lease) : Bool :=
  l.layer == layer && !l.waits && decide (l.from_ ≤ m) && (match l.until_ with | none => true | some u => decide (m < u))

/-- The frame at which what a commit names for a layer at frame `m` is superseded by a commit accepted for a later frame. -/
def supersededAt (layer m : Nat) (s : State) : Option Nat :=
  match s.head.pl.leases.find? (inForceAt layer m) with
  | some l => l.until_
  | none =>
    let later := (s.head.pl.leases.filter (fun l => l.layer == layer && !l.waits && decide (m < l.from_))).map (fun l => l.from_)
    if later.isEmpty then none else some (later.foldl min (later.headD 0))

/-- A commit with frame of application `m` names a surface for a layer (R235, R236). A lease in force on the same surface goes on; one
on the same surface that follows without a break begins earlier. `beaten`: another commit for the layer at frame `m` comes later
in the order of R217. DEDUCED, log entry 100. -/
def setLease (layer surface m : Nat) (src : Option Source) (id : BitVec 32) (beaten : Bool) (s : State) : State :=
  let fresh := fun (u : Option Nat) => if surface = 0xFFFF then []
    else [({ layer := layer, surface := surface, src := src, id := id, from_ := m, until_ := u } : Lease)]
  if s.head.pl.leases.any (fun l => inForceAt layer m l && l.surface == surface) then s
  else if beaten then { s with head.pl.leases := s.head.pl.leases ++ fresh (some m) }
  else
    let u := supersededAt layer m s
    let follows := fun (l : Lease) => l.layer == layer && !l.waits && l.surface == surface && some l.from_ == u
    let cut := s.head.pl.leases.map (fun l =>
      if inForceAt layer m l then { l with until_ := some m } else if follows l then { l with from_ := m } else l)
    { s with head.pl.leases := cut ++ (if s.head.pl.leases.any follows then [] else fresh u) }

/-- A change names a surface for a layer. -/
def namesSource (layer : Nat) (ch : Change) : Bool :=
  match ch with
  | .commit _ es => es.any (fun e => bit e.change 0 && e.layer == layer)
  | .foyer n .. => n == layer
  | _ => false

/-- The leases a change sets, at frame `m`; `after` are the changes of that frame that come later in the order of R217. -/
def changeLeases (ch : Change) (m : Nat) (src : Option Source) (after : List Pend) (s : State) : State :=
  let beaten := fun n => after.any (fun q => namesSource n q.change)
  match ch with
  | .commit id es =>
    es.foldl (fun t e => if bit e.change 0 then setLease e.layer e.vals.surface m src id (beaten e.layer) t else t) s
  | .foyer n _ _ f _ _ _ _ => setLease n f m none 0 (beaten n) s
  | _ => s

/-- The leases of a commit that waits on its fences, from its acceptance on (R235). -/
def holdLeases (w : Waiting) (s : State) : State :=
  let named := w.entries.filter (fun e => bit e.change 0 && e.vals.surface != 0xFFFF)
  let held := named.map (fun e =>
    ({ layer := e.layer, surface := e.vals.surface, src := some w.cmd.src, id := w.id, waits := true } : Lease))
  { s with head.pl.leases := s.head.pl.leases ++ held }

/-- They give way to those of its frame. -/
def dropHeld (w : Waiting) (s : State) : State :=
  { s with head.pl.leases := s.head.pl.leases.filter (fun l => ¬ (l.waits ∧ l.id = w.id)) }

/-! ## Taking a change -/

/-- The order key that FWD_CMD carries: rank, number of the source and the end of the place in the order of submission (R217).
DEDUCED, log entry 41. -/
def orderKey (rank sub seq : Nat) : Nat := 16384 * rank + 256 * sub + seq % 256

/-- R224, R225: versions of the open frame inside a footprint become INVALID. -/
def invalidate (n : Nat) (keys : List PaneKey) (s : State) : State :=
  let hit := fun (v : Ver) => v.n == n && keys.contains v.key && (v.state == 1 || v.state == 2 || v.state == 4) && !v.shown
  let k := (s.head.pl.vers.filter hit).length
  mapVers hit (fun v => { v with state := 3 })
    { s with head.pl.discarded := s.head.pl.discarded + BitVec.ofNat 32 k }

/-- PL_PP_APPLIED (R289). -/
def postApplied (ch : Change) (n : Nat) (s : State) : State :=
  match ch with
  | .apply pm lm _ _ => post .head 0x06 0 0x0003 (BitVec.ofNat 32 pm) (BitVec.ofNat 64 (lm + 4294967296 * (n % 4294967296))) s
  | _ => s

/-- Enter a change with its frame of application (R217, R224, R235). A commit that starts late keeps its effective time and takes the
next frame still to close (R31, chooseFrame). DEDUCED, log entry 91. -/
def install (p : Pend) (src : Option Source) (s : State) : State :=
  let s1 := changeLeases p.change p.frame src (s.head.pl.pend.filter (fun q => q.frame == p.frame && pendBefore p q))
    { s with head.pl.pend := insertPend p s.head.pl.pend }
  if s1.head.pl.openFrame = some p.frame then
    let before := (s.head.pl.pend.filter (fun q => pendBefore q p)).foldl (fun sc q => applyChange sc q.change) s.head.pl.base
    invalidate p.frame (footprint before (applyChange before p.change) (slotsOf p.frame s) p.change) s1
  else s1

/-- The next place in the order of submission (R217). -/
def nextSeq (s : State) : State := { s with head.pl.seq := s.head.pl.seq + 1 }

/-- Take a change at once (R649): no ticks run. Its panes are dirty in the first frame after an INIT. -/
def applyNow (ch : Change) (src : Option Source) (s : State) : State :=
  let a := s.head.pl.base
  let b := applyChange a ch
  let s1 := { s with
    head.pl.base := b
    head.pl.carry := addKeys s.head.pl.carry (footprint a b 4 ch) }
  endLeases (fun _ => true) (postApplied ch 0 (changeLeases ch 0 src [] s1))

/-- Take a change of a command with effective timestamp `eff` and place `seq` in the order of submission (R216, R217, R649), and reply
(R218, R381). -/
def submit (c : Cmd) (op : Nat) (ch : Change) (eff seq : Nat) (params : List Byte) (id : BitVec 32) (s : State) : State :=
  let r := rankOf (some c.src)
  let key := orderKey r.1 r.2 seq
  match entryFrame (namedOf c) eff s with
  | some (n, late) =>
    let s1 := install { frame := n, eff := eff, rank := r.1, sub := r.2, seq := seq, change := ch } (some c.src) s
    finishFwd c op (replyTo c op (if late then stLate else stOk) params (some (BitVec.ofNat 32 n))) n id key s1 (some eff)
  | none => finishFwd c op (replyTo c op stOk params) 0 id key (applyNow ch (some c.src) s) (some eff)

/-- The parameter area of a reply under R218. -/
def idParams (id : BitVec 32) : List Byte := leBytes 4 id.toNat ++ zeros 4

/-- Take a change whose reply carries a COMMIT_ID (R218). -/
def submitId (c : Cmd) (op : Nat) (ch : BitVec 32 → Change) (s : State) : State :=
  let id := s.head.pl.commitId + 1
  submit c op (ch id) c.arrival s.head.pl.seq (idParams id) id (nextSeq { s with head.pl.commitId := id })

/-- Take a change whose reply has LENGTH 0. -/
def submitPlain (c : Cmd) (op : Nat) (ch : Change) (s : State) : State :=
  submit c op ch c.arrival s.head.pl.seq [] (BitVec.ofNat 32 c.tag) (nextSeq s)

/-! ## Commits (R214 to R221, R251) -/

/-- The entry at offset `o` of a PL_COMMIT. -/
def parseEntry (p : List Byte) (o : Nat) : Entry :=
  let f := fun i n => fld p (o + i) n
  let chg := f 2 2 % 256
  { layer := f 0 1, change := chg
    vals := {
      visible := bit (f 4 1) 0, blend := f 5 1, opacity := f 6 2, surface := f 8 2, colorimetry := f 10 1, tcs := f 11 1
      range := f 12 1, coefH := f 13 1 % 4, coefV := f 13 1 / 4 % 4, pixSet := f 14 1, srcX := f 16 4, srcY := f 20 4
      srcW := f 24 2, srcH := f 26 2, dstX := sfld p (o + 28) 4, dstY := sfld p (o + 32) 4, dstW := f 36 4, dstH := f 40 4 }
    fence := if bit chg 7 ∧ f 44 2 ≠ 0xFFFF then some (f 44 2, BitVec.ofNat 32 (f 48 4)) else none }

/-- The entries of a PL_COMMIT with their offsets. -/
def parseEntries (p : List Byte) : List (Nat × Entry) :=
  (List.range (fld p 0 1)).map (fun i => (8 + 64 * i, parseEntry p (8 + 64 * i)))

/-- R158: SURFACE on a live layer. -/
def liveErr (p : List Byte) (s : State) : Option Err :=
  firstErr ((parseEntries p).map (fun x =>
    if bit x.2.change 0 ∧ isLive x.2.layer s then some { status := stNotInRole, field := x.1 + 8 } else none))

/-- Range checks of one entry (R251) in order of offset. -/
def entryRange (p : List Byte) (o : Nat) (seen : List Nat) : Option Err :=
  let f := fun i n => fld p (o + i) n
  let chg := f 2 2
  let sel := fun b (e : Option Err) => if bit chg b then e else none
  firstErr
    [need (decide (f 0 1 ≤ 31) && !(seen.contains (f 0 1))) (badParam o),
     sel 3 (inRange (f 5 1) 0 3 (o + 5)),
     sel 0 (need (decide (f 8 2 ≤ 4095 ∨ f 8 2 = 0xFFFF)) (badParam (o + 8))),
     sel 4 (inRange (f 10 1) 0 3 (o + 10)), sel 4 (inRange (f 11 1) 0 2 (o + 11)), sel 4 (inRange (f 12 1) 0 1 (o + 12)),
     sel 5 (inRange (f 14 1) 0 15 (o + 14)),
     sel 1 (inRange (f 24 2) 1 16384 (o + 24)), sel 1 (inRange (f 26 2) 1 16384 (o + 26)),
     sel 2 (inRange (f 36 4) 1 65536 (o + 36)), sel 2 (inRange (f 40 4) 1 65536 (o + 40)),
     sel 7 (need (decide (f 44 2 ≤ 255 ∨ f 44 2 = 0xFFFF)) (badParam (o + 44)))]

/-- Consistency of one entry (R213, R214) on the values in force after it. -/
def entryConsistent (sc : Scene) (o : Nat) (e : Entry) (s : State) : Option Err :=
  let l := applyEntry (sc.layers.getD e.layer {}) e
  let surf := getKey s.head.fy.surfaces l.surface
  firstErr
    [(if bit e.change 0 ∧ l.surface ≠ 0xFFFF ∧ surf.isNone then badParam (o + 8) else none),
     (match surf with
      | some f => firstErr
          [need (decide (l.srcX / 64 + l.srcW ≤ f.width)) (badParam (o + 16)),
           need (decide (l.srcY / 64 + l.srcH ≤ f.height)) (badParam (o + 20))]
      | none => none),
     need (decide (l.srcW ≤ 8 * l.dstW ∧ l.dstW ≤ 16 * l.srcW)) (badParam (o + 36)),
     need (decide (l.srcH ≤ 8 * l.dstH ∧ l.dstH ≤ 16 * l.srcH)) (badParam (o + 40))]

/-- All parameter checks of PL_COMMIT (R214, R251). -/
def commitErr (c : Cmd) (s : State) : Option Err :=
  let p := c.params
  let es := parseEntries p
  let layers := es.map (fun x => fld p x.1 1)
  firstErr
    ([inRange (fld p 0 1) 1 32 0, need (decide (p.length = 8 + 64 * fld p 0 1)) badParamAny] ++
     ((List.range es.length).map (fun i => entryRange p (8 + 64 * i) (layers.take i))) ++
     (es.map (fun x => entryConsistent (targetScene c s) x.1 x.2 s)))

/-- A fence has been reached (R219). -/
def fenceReached (s : State) (f : Nat × BitVec 32) : Bool := decide (0 ≤ sdiff (s.head.pl.fences.getD f.1 0) f.2)

/-- Every fence of a commit has been reached. -/
def fencesReached (es : List Entry) (s : State) : Bool := es.all (fun e => match e.fence with | some f => fenceReached s f | none => true)

/-- When a fence that is reached came to be so: the time of the first signal since which it has held, 0 when it has held since
reset (R216, R220). -/
def reachTime (s : State) (f : Nat × BitVec 32) : Nat :=
  let l := s.head.pl.signals.filter (fun x => x.1 == f.1)
  let run := l.takeWhile (fun x => decide (0 ≤ sdiff x.2.1 f.2))
  if run.length = l.length ∧ 0 ≤ sdiff 0 f.2 then 0
  else match run.getLast? with | some x => x.2.2 | none => 0

/-- The effective timestamp of a commit whose fences are reached (R216). -/
def effOf (w : Waiting) (s : State) : Nat :=
  (w.entries.filterMap (fun e => e.fence)).foldl (fun t f => max t (reachTime s f)) w.cmd.arrival

/-- The frame of a commit's limit (R221), once ticks run. -/
def limitFrame (w : Waiting) (s : State) : Int := if w.rel then w.limit + s.head.mt.firstN - 1 else w.limit

/-- The cutoff of that frame has come by a time (R221); the limit stands still while no ticks run. -/
def limitPassed (w : Waiting) (t : Nat) (s : State) : Bool :=
  ticksRun s && (match cutoffOf s.head.mt (limitFrame w s).toNat with | some c => decide (c ≤ (t : Int)) | none => false)

/-- A commit whose fences are not all reached by its limit ends with FAILED, REASON 0x0002, and PL_FENCE_TIMEOUT names the first
fence at fault (R221, R252, R253). -/
def expireCommit (w : Waiting) (s : State) : State :=
  let f := (w.entries.filterMap (fun e => e.fence)).find? (fun f => !fenceReached s f || limitPassed w (reachTime s f) s)
  post .head 0x05 2 0x0003 (BitVec.ofNat 32 ((f.map Prod.fst).getD 0)) (w.id.zeroExtend 64)
    (failed w.cmd 0x0504 0x0002 0 (endHeld w s))

/-- The queue or session of a commit has ended since it was taken (R106). -/
def isOrphan (w : Waiting) (s : State) : Bool := s.head.po.outst.any (fun e => isEntry w.cmd 0x0504 e && e.discard)

/-- Its leases leave no RETIRE record (R237). -/
def markGone (w : Waiting) (s : State) : State :=
  { s with head.pl.leases := s.head.pl.leases.map (fun l => if l.id = w.id ∧ l.src = some w.cmd.src then { l with gone := true } else l) }

/-- Fix a commit whose fences have all been reached (R216, R218, R221). -/
def fixCommit (w : Waiting) (s : State) : State :=
  let eff := effOf w s
  if limitPassed w eff s then expireCommit w s
  else
    let s1 := submit w.cmd 0x0504 (.commit w.id w.entries) eff w.seq (idParams w.id) w.id (dropHeld w s)
    if isOrphan w s then markGone w s1 else s1

/-- PL_COMMIT (R214 to R221): fixed at once, or held on its fences. -/
def specPlCommit : OpSpec where
  opcode := 0x0504
  frameable := true
  fits := fun n => decide (72 ≤ n) && (n - 8) % 64 == 0
  role := fun c s => firstErr [publisherOnly c s, liveErr c.params s]
  params := commitErr
  run := fun c s =>
    let run := ticksRun s
    let w : Waiting :=
      { cmd := c, id := s.head.pl.commitId + 1, seq := s.head.pl.seq, entries := (parseEntries c.params).map Prod.snd, rel := !run
        limit := if run then frameInView s.head.mt c.arrival + 1024 else 1024 }
    let s1 := nextSeq { s with head.pl.commitId := w.id }
    if fencesReached w.entries s then fixCommit w s1
    else holdLeases w { s1 with head.pl.waiting := s1.head.pl.waiting ++ [w] }

def execPlCommit (c : Cmd) (s : State) : Host.Outcome State Fault Refusal := runCmd specPlCommit c s

/-- Fix every waiting commit whose fences have all been reached (R216, R219, R220). -/
def releaseWaiting (s : State) : State :=
  let ready := s.head.pl.waiting.filter (fun w => fencesReached w.entries s)
  let s1 := { s with head.pl.waiting := s.head.pl.waiting.filter (fun w => !fencesReached w.entries s) }
  ready.foldl (fun u w => fixCommit w u) s1

/-- Set a fence at a time (R220). -/
def signalFence (f : Nat) (v : BitVec 32) (t : Nat) (s : State) : State :=
  releaseWaiting { s with head.pl.fences := upd s.head.pl.fences f (fun _ => v), head.pl.signals := (f, v, t) :: s.head.pl.signals }

/-- PL_FENCE_SIGNAL (R220). -/
def specPlFenceSignal : OpSpec where
  opcode := 0x0506
  fits := fun n => n == 8
  run := fun c s => ok c 0x0506 [] (signalFence (fld c.params 0 1) (BitVec.ofNat 32 (fld c.params 4 4)) c.arrival s)

def execPlFenceSignal (c : Cmd) (s : State) : Host.Outcome State Fault Refusal := runCmd specPlFenceSignal c s

/-- A commit waits on a fence (R219). -/
def waitsOn (f : Nat) (s : State) (w : Waiting) : Bool :=
  w.entries.any (fun e => match e.fence with | some x => x.1 == f && !fenceReached s x | none => false)

/-- PL_FENCE_GET (R250). -/
def specPlFenceGet : OpSpec where
  opcode := 0x0507
  fits := fun n => n == 4
  run := fun c s =>
    let f := fld c.params 0 1
    ok c 0x0507 (leBytes 4 (s.head.pl.fences.getD f 0).toNat ++ leBytes 2 (s.head.pl.waiting.filter (waitsOn f s)).length ++ [0, 0]) s

def execPlFenceGet (c : Cmd) (s : State) : Host.Outcome State Fault Refusal := runCmd specPlFenceGet c s

/-- PL_FENCE_TIMEOUT (R221, R252, R253). -/
def execPlFenceTimeout (commitId : Word) (s : State) : Host.Outcome State Fault Refusal :=
  onPart .head (fun s =>
    match s.head.pl.waiting.find? (fun w => w.id == commitId) with
    | none => s
    | some w =>
      if limitPassed w (wall s.head.mt) s then expireCommit w { s with head.pl.waiting := s.head.pl.waiting.erase w } else s) s

/-! ## Settings that apply at a frame -/

/-- The rectangle of an entry on the canvas (R208). -/
def tileSize (e : TileMap) : Nat × Nat := if e.rot = 1 ∨ e.rot = 3 then (270, 480) else (480, 270)

/-- What PL_SET_CANVAS changes. -/
def canvasChange (p : List Byte) : Change := .canvas (fld p 0 4) (fld p 4 4) (fld p 8 2) (fld p 10 2) (fld p 12 2)

/-- PL_SET_CANVAS (R207, R209). -/
def specPlSetCanvas : OpSpec where
  opcode := 0x0501
  frameable := true
  fits := fun n => n == 16
  role := publisherOnly
  params := fun c s =>
    let p := c.params
    let l := scenesFrom (canvasChange p) c s
    firstErr
      [inRange (fld p 0 4) 480 65536 0, inRange (fld p 4 4) 270 16384 4,
       need (l.all (fun sc => (enabledTiles sc).all (fun e => e.2.x + (tileSize e.2).1 ≤ sc.width))) (badParam 0),
       need (l.all (fun sc => (enabledTiles sc).all (fun e => e.2.y + (tileSize e.2).2 ≤ sc.height))) (badParam 4)]
  run := fun c s => submitPlain c 0x0501 (canvasChange c.params) s

def execPlSetCanvas (c : Cmd) (s : State) : Host.Outcome State Fault Refusal := runCmd specPlSetCanvas c s

/-- The entry in the 12 bytes of PL_SET_TILE. -/
def parseTile (p : List Byte) : TileMap :=
  { rot := fld p 2 1, enable := bit (fld p 3 1) 0, x := fld p 4 2, y := fld p 6 2, offX := sfld p 8 1, offY := sfld p 9 1
    group := fld p 10 1 }

/-- A Tile address in bytes 0 and 1 (R250). -/
def tileAddrErr (p : List Byte) : Option Err := firstErr [inRange (fld p 0 1) 0 31 0, inRange (fld p 1 1) 1 16 1]

/-- What PL_SET_TILE changes. -/
def tileChange (p : List Byte) : Change := .tile (tIndex (fld p 0 1) (fld p 1 1)) (parseTile p)

/-- PL_SET_TILE (R208 to R210). -/
def specPlSetTile : OpSpec where
  opcode := 0x0502
  frameable := true
  fits := fun n => n == 12
  role := publisherOnly
  params := fun c s =>
    let p := c.params
    let e := parseTile p
    let l := (scenesFrom (tileChange p) c s).map (fun sc => (sc, tileMap sc (tIndex (fld p 0 1) (fld p 1 1))))
    firstErr
      [tileAddrErr p, inRange e.rot 0 3 2,
       need (decide (-32 ≤ e.offX ∧ e.offX ≤ 31)) (badParam 8), need (decide (-32 ≤ e.offY ∧ e.offY ≤ 31)) (badParam 9),
       need (decide (e.group ≤ 63 ∨ e.group = 0xFF)) (badParam 10),
       need (l.all (fun x => !x.2.enable || decide (x.2.x + (tileSize x.2).1 ≤ x.1.width))) (badParam 4),
       need (l.all (fun x => !x.2.enable || decide (x.2.y + (tileSize x.2).2 ≤ x.1.height))) (badParam 6)]
  run := fun c s => submitPlain c 0x0502 (tileChange c.params) s

def execPlSetTile (c : Cmd) (s : State) : Host.Outcome State Fault Refusal := runCmd specPlSetTile c s

/-- What PL_SET_POWER_GROUP changes. -/
def groupChange (p : List Byte) : Change :=
  .group (fld p 0 1)
    { budget := fld p 2 2, staticMw := fld p 4 2, recRate := fld p 6 2, wR := fld p 8 2, wG := fld p 10 2, wB := fld p 12 2 }

/-- PL_SET_POWER_GROUP (R243). -/
def specPlSetPowerGroup : OpSpec where
  opcode := 0x0509
  frameable := true
  fits := fun n => n == 16
  role := publisherOnly
  params := fun c _ => firstErr [inRange (fld c.params 0 1) 0 63 0, inRange (fld c.params 6 2) 50 4800 6]
  run := fun c s => submitPlain c 0x0509 (groupChange c.params) s

def execPlSetPowerGroup (c : Cmd) (s : State) : Host.Outcome State Fault Refusal := runCmd specPlSetPowerGroup c s

/-- What PL_REFRESH changes. -/
def refreshChange (p : List Byte) : Change := .refresh (fld p 0 1) (fld p 1 1)

/-- PL_REFRESH (R223, R233). -/
def specPlRefresh : OpSpec where
  opcode := 0x050B
  frameable := true
  fits := fun n => n == 4
  role := publisherOnly
  params := fun c _ => firstErr
    [need (decide (fld c.params 0 1 ≤ 31 ∨ fld c.params 0 1 = 0xFF)) (badParam 0),
     need (decide ((1 ≤ fld c.params 1 1 ∧ fld c.params 1 1 ≤ 16) ∨ fld c.params 1 1 = 0xFF)) (badParam 1)]
  run := fun c s => submitPlain c 0x050B (refreshChange c.params) s

def execPlRefresh (c : Cmd) (s : State) : Host.Outcome State Fault Refusal := runCmd specPlRefresh c s

/-- What PL_PP_APPLY changes: the staging data of the sets it names. -/
def applySets (p : List Byte) (s : State) : Change :=
  let pm := fld p 0 2
  let lm := fld p 4 4
  .apply pm lm (((List.range 16).filter (fun i => bit pm i)).map (fun i => (i, s.head.pl.stagePix.getD i {})))
    (((List.range 32).filter (fun i => bit lm i)).map (fun i => (i, s.head.pl.stageCoef.getD i {})))

/-- PL_PP_APPLY (R278, R279): copies the staging data at acceptance. -/
def specPlPpApply : OpSpec where
  opcode := 0x0604
  frameable := true
  fits := fun n => n == 8
  role := publisherOnly
  params := fun c _ => need (decide (fld c.params 0 2 ≠ 0 ∨ fld c.params 4 4 ≠ 0)) badParamAny
  run := fun c s => submitId c 0x0604 (fun _ => applySets c.params s) s

def execPlPpApply (c : Cmd) (s : State) : Host.Outcome State Fault Refusal := runCmd specPlPpApply c s

/-- What PL_SET_SLOTMAP changes. -/
def slotChange (p : List Byte) : Change := .slotmap ((List.range 32).map (fun i => fld p i 1 % 16))

/-- PL_SET_SLOTMAP (R272, R280). -/
def specPlSetSlotmap : OpSpec where
  opcode := 0x0606
  frameable := true
  fits := fun n => n == 32
  role := publisherOnly
  run := fun c s => submitId c 0x0606 (fun _ => slotChange c.params) s

def execPlSetSlotmap (c : Cmd) (s : State) : Host.Outcome State Fault Refusal := runCmd specPlSetSlotmap c s

/-- What PL_SIG_SET changes. -/
def sigChange (p : List Byte) : Change :=
  .sigSet (fld p 0 1)
    { en := bit (fld p 1 1) 0, expect := bit (fld p 1 1) 1, twin := bit (fld p 1 1) 2, policy := fld p 2 1
      slotMask := fld p 3 1 % 16, x := fld p 4 4, y := fld p 8 4, w := fld p 12 4, h := fld p 16 4 }

/-- PL_SIG_SET (R281). -/
def specPlSigSet : OpSpec where
  opcode := 0x0607
  frameable := true
  fits := fun n => n == 20
  role := publisherOnly
  params := fun c _ =>
    let p := c.params
    firstErr [inRange (fld p 0 1) 0 15 0, inRange (fld p 2 1) 0 2 2, inRange (fld p 12 4) 1 65536 12, inRange (fld p 16 4) 1 16384 16]
  run := fun c s => submitId c 0x0607 (fun _ => sigChange c.params) s

def execPlSigSet (c : Cmd) (s : State) : Host.Outcome State Fault Refusal := runCmd specPlSigSet c s

/-- The entries of PL_SIG_EXPECT. -/
def parseExpects (p : List Byte) : List SigExpect :=
  (List.range (fld p 2 2)).map (fun i =>
    let o := 8 + 8 * i
    { win := fld p 0 1
      key := { chain := fld p o 1, position := fld p (o + 1) 1, pane := fld p (o + 2) 1, slot := fld p (o + 3) 1 }
      crc := BitVec.ofNat 32 (fld p (o + 4) 4) })

/-- What PL_SIG_EXPECT changes. -/
def expectChange (p : List Byte) : Change := .sigExpect (fld p 0 1) (bit (fld p 1 1) 0) (parseExpects p)

/-- Range of one entry of PL_SIG_EXPECT. -/
def expectErr (p : List Byte) (o : Nat) : Option Err :=
  firstErr [inRange (fld p o 1) 0 31 o, inRange (fld p (o + 1) 1) 1 16 (o + 1), inRange (fld p (o + 2) 1) 0 134 (o + 2),
    inRange (fld p (o + 3) 1) 0 3 (o + 3)]

/-- PL_SIG_EXPECT (R287). -/
def specPlSigExpect : OpSpec where
  opcode := 0x0608
  frameable := true
  fits := fun n => decide (8 ≤ n) && n % 8 == 0
  role := publisherOnly
  params := fun c s =>
    let p := c.params
    firstErr
      ([inRange (fld p 0 1) 0 15 0, inRange (fld p 2 2) 0 500 2, need (decide (p.length = 8 + 8 * fld p 2 2)) badParamAny] ++
       (List.range (fld p 2 2)).map (fun i => expectErr p (8 + 8 * i)) ++
       [need ((scenesFrom (expectChange p) c s).all (fun sc => decide (sc.expects.length ≤ 4096))) (badParam 2)])
  run := fun c s => submitId c 0x0608 (fun _ => expectChange c.params) s

def execPlSigExpect (c : Cmd) (s : State) : Host.Outcome State Fault Refusal := runCmd specPlSigExpect c s

/-- What a frame-targeted command of R380 changes, by its opcode; a forwarded commit carries no fences (R380). -/
def changeOf (op : Nat) (id : BitVec 32) (c : Cmd) (s : State) : Option Change :=
  match op with
  | 0x0501 => some (canvasChange c.params)
  | 0x0502 => some (tileChange c.params)
  | 0x0504 => some (.commit id ((parseEntries c.params).map Prod.snd))
  | 0x0509 => some (groupChange c.params)
  | 0x050B => some (refreshChange c.params)
  | 0x0604 => some (applySets c.params s)
  | 0x0606 => some (slotChange c.params)
  | 0x0607 => some (sigChange c.params)
  | 0x0608 => some (expectChange c.params)
  | _ => none

/-! ## Staging (R265, R277) -/

/-- Signed 16-bit values from an offset on. -/
def signed16s (p : List Byte) (o n : Nat) : List Int := (List.range n).map (fun i => sfld p (o + 2 * i) 2)

/-- R265: every coefficient in range and the taps of each phase summing to 1 024. -/
def coefsGood (taps : Nat) (l : List Int) : Bool :=
  l.all (fun v => decide (-2048 ≤ v ∧ v ≤ 2047)) && (List.range 64).all (fun p => sumI ((l.drop (taps * p)).take taps) == 1024)

/-- The first coefficient at fault, by offset. -/
def coefErr (p : List Byte) : Option Err :=
  let taps := if fld p 1 1 = 0 then 8 else 6
  let l := signed16s p 4 (64 * taps)
  firstErr
    ((List.range (64 * taps)).map (fun i => need (decide (-2048 ≤ l.getD i 0 ∧ l.getD i 0 ≤ 2047)) (badParam (4 + 2 * i))) ++
     (List.range 64).map (fun k => need (sumI ((l.drop (taps * k)).take taps) == 1024) (badParam (4 + 2 * taps * k))))

/-- PL_SET_COEF (R265, R277). -/
def specPlSetCoef : OpSpec where
  opcode := 0x0601
  fits := fun n => n == 1028 || n == 772
  role := publisherOnly
  params := fun c _ =>
    let p := c.params
    firstErr [inRange (fld p 0 1) 0 31 0, inRange (fld p 1 1) 0 1 1, inRange (fld p 2 1) 0 3 2,
      need (decide (p.length = if fld p 1 1 = 0 then 1028 else 772)) badParamAny, coefErr p]
  run := fun c s =>
    let p := c.params
    let l := signed16s p 4 (if fld p 1 1 = 0 then 512 else 384)
    let put := fun (k : CoefSets) =>
      if fld p 1 1 = 0 then { k with h := upd k.h (fld p 2 1) (fun _ => some l) }
      else { k with v := upd k.v (fld p 2 1) (fun _ => some l) }
    okFwd c 0x0601 [] { s with head.pl.stageCoef := upd s.head.pl.stageCoef (fld p 0 1) put }

def execPlSetCoef (c : Cmd) (s : State) : Host.Outcome State Fault Refusal := runCmd specPlSetCoef c s

/-- PL_SET_TONE (R267, R277). -/
def specPlSetTone : OpSpec where
  opcode := 0x0602
  fits := fun n => n == 2052
  role := publisherOnly
  params := fun c _ =>
    let p := c.params
    firstErr [inRange (fld p 0 1) 0 15 0, inRange (fld p 1 1) 0 2 1, inRange (fld p 2 1) 0 1 2]
  run := fun c s =>
    let p := c.params
    let new := (List.range 512).map (fun i => fld p (4 + 4 * i) 3)
    let put := fun (k : PixSet) =>
      let old := toneList k (fld p 1 1)
      let t := if fld p 2 1 = 0 then new ++ old.drop 512 else old.take 512 ++ new
      { k with tones := upd k.tones (fld p 1 1) (fun _ => some t) }
    okFwd c 0x0602 [] { s with head.pl.stagePix := upd s.head.pl.stagePix (fld p 0 1) put }

def execPlSetTone (c : Cmd) (s : State) : Host.Outcome State Fault Refusal := runCmd specPlSetTone c s

/-- PL_SET_PIXSET (R269 to R271, R277). -/
def specPlSetPixset : OpSpec where
  opcode := 0x0603
  fits := fun n => n == 48
  role := publisherOnly
  params := fun c _ => firstErr [inRange (fld c.params 0 1) 0 15 0, inRange (fld c.params 4 4) 0x80000 0x100000 4]
  run := fun c s =>
    let p := c.params
    okFwd c 0x0603 [] { s with
      head.pl.stagePix := upd s.head.pl.stagePix (fld p 0 1) (fun k =>
        { k with knee := fld p 4 4, m709 := signed16s p 8 9, m2020 := signed16s p 26 9 }) }

def execPlSetPixset (c : Cmd) (s : State) : Host.Outcome State Fault Refusal := runCmd specPlSetPixset c s

/-! ## Reading back -/

/-- CRC over the 4 096 bytes of a tone table as loaded (R288). -/
def toneCrc (p : PixSet) (tcs : Nat) : Nat := (crc32 ((toneList p tcs).flatMap (leBytes 4))).toNat

/-- PL_GET_PIXSET (R288). -/
def specPlGetPixset : OpSpec where
  opcode := 0x0605
  fits := fun n => n == 4
  params := fun c _ => firstErr [inRange (fld c.params 0 1) 0 15 0, inRange (fld c.params 1 1) 0 1 1]
  run := fun c s =>
    let k := (if fld c.params 1 1 = 0 then s.head.pl.shown.pix else s.head.pl.stagePix).getD (fld c.params 0 1) {}
    ok c 0x0605 (leBytes 4 k.knee ++ k.m709.flatMap (leInt 2) ++ k.m2020.flatMap (leInt 2) ++ zeros 4 ++
      leBytes 4 (toneCrc k 0) ++ leBytes 4 (toneCrc k 1) ++ leBytes 4 (toneCrc k 2)) s

def execPlGetPixset (c : Cmd) (s : State) : Host.Outcome State Fault Refusal := runCmd specPlGetPixset c s

/-- PL_GET_TILE (R250). -/
def specPlGetTile : OpSpec where
  opcode := 0x0503
  fits := fun n => n == 4
  params := fun c _ => tileAddrErr c.params
  run := fun c s =>
    let e := tileMap s.head.pl.shown (tIndex (fld c.params 0 1) (fld c.params 1 1))
    ok c 0x0503 (leBytes 1 (fld c.params 0 1) ++ leBytes 1 (fld c.params 1 1) ++ leBytes 1 e.rot ++ leBytes 1 (b2n e.enable) ++
      leBytes 2 e.x ++ leBytes 2 e.y ++ leInt 1 e.offX ++ leInt 1 e.offY ++ leBytes 1 e.group ++ [0]) s

def execPlGetTile (c : Cmd) (s : State) : Host.Outcome State Fault Refusal := runCmd specPlGetTile c s

/-- The 64-byte entry of a layer as in force (R250, R251), with CHANGE 0x00FF. -/
def layerBytes (n : Nat) (l : Layer) : List Byte :=
  leBytes 1 n ++ [0] ++ leBytes 2 0xFF ++ leBytes 1 (b2n (layerVisible l)) ++ leBytes 1 l.blend ++ leBytes 2 l.opacity ++
    leBytes 2 l.surface ++ leBytes 1 l.colorimetry ++ leBytes 1 l.tcs ++ leBytes 1 l.range ++
    leBytes 1 (l.coefH + 4 * l.coefV) ++ leBytes 1 l.pixSet ++ [0] ++ leBytes 4 l.srcX ++ leBytes 4 l.srcY ++
    leBytes 2 l.srcW ++ leBytes 2 l.srcH ++ leInt 4 l.dstX ++ leInt 4 l.dstY ++ leBytes 4 l.dstW ++ leBytes 4 l.dstH ++
    leBytes 2 0xFFFF ++ zeros 2 ++ zeros 4 ++ zeros 12

/-- PL_GET_LAYER (R250). -/
def specPlGetLayer : OpSpec where
  opcode := 0x0505
  fits := fun n => n == 4
  params := fun c _ => firstErr [inRange (fld c.params 0 1) 0 31 0, inRange (fld c.params 1 1) 0 1 1]
  run := fun c s =>
    let n := fld c.params 0 1
    let sc := if fld c.params 1 1 = 0 then s.head.pl.shown
      else if ticksRun s then sceneFor (nextFrame s.head.mt (wall s.head.mt)) s else s.head.pl.base
    ok c 0x0505 (layerBytes n (sc.layers.getD n {}) ++ leBytes 1 (b2n (isLive n s)) ++
      leBytes 1 ((streamOf n s).getD 0xFF) ++ [0, 0]) s

def execPlGetLayer (c : Cmd) (s : State) : Host.Outcome State Fault Refusal := runCmd specPlGetLayer c s

/-- PL_LEASE_GUARD (R239). -/
def specPlLeaseGuard : OpSpec where
  opcode := 0x0508
  fits := fun n => n == 4
  params := fun c s => firstErr
    [need ((getKey s.head.fy.surfaces (fld c.params 0 2)).isSome) (badParam 0), inRange (fld c.params 2 1) 0 1 2]
  run := fun c s =>
    ok c 0x0508 [] { s with
      head.fy.surfaces := s.head.fy.surfaces.map (fun x =>
        if x.1 = fld c.params 0 2 then (x.1, { x.2 with guarded := fld c.params 2 1 == 1 }) else x) }

def execPlLeaseGuard (c : Cmd) (s : State) : Host.Outcome State Fault Refusal := runCmd specPlLeaseGuard c s

/-- PL_GET_POWER (R250). -/
def specPlGetPower : OpSpec where
  opcode := 0x050A
  fits := fun n => n == 4
  params := fun c _ => inRange (fld c.params 0 1) 0 63 0
  run := fun c s =>
    let g := s.head.pl.govs.getD (fld c.params 0 1) {}
    ok c 0x050A (leBytes 1 g.q ++ zeros 3 ++ leBytes 4 g.dMw ++ leBytes 4 g.predMw ++ leBytes 4 g.fn.toNat) s

def execPlGetPower (c : Cmd) (s : State) : Host.Outcome State Fault Refusal := runCmd specPlGetPower c s

/-- PL_PANE_READ (R229, R230, R234, R250). -/
def specPlPaneRead : OpSpec where
  opcode := 0x050C
  fits := fun n => n == 8
  params := fun c _ =>
    let p := c.params
    firstErr [tileAddrErr p, inRange (fld p 2 1) 0 134 2, inRange (fld p 3 1) 0 3 3, inRange (fld p 4 1) 0 2 4, inRange (fld p 5 1) 0 1 5]
  run := fun c s =>
    let p := c.params
    let k : PaneKey := { chain := fld p 0 1, position := fld p 1 1, pane := fld p 2 1, slot := fld p 3 1 }
    let h := clRead 3 (headerAddr k (fld p 4 1)) 16 s
    let r := clRead 3 (contentAddr k (fld p 4 1) + 2880 * fld p 5 1) 2880 h.2.2
    ok c 0x050C (h.1 ++ r.1) r.2.2

def execPlPaneRead (c : Cmd) (s : State) : Host.Outcome State Fault Refusal := runCmd specPlPaneRead c s

/-! ## Signatures (R281 to R285, R288) -/

/-- A window guards a pane (R281). -/
def guards (sc : Scene) (w : Nat) (k : PaneKey) : Bool :=
  let v := sc.sigs.getD w {}
  let e := tileMap sc (tIndex k.chain k.position)
  v.en && bit v.slotMask k.slot && e.enable && boxMeets 0 (paneBox e k.pane) v.x v.y v.w v.h

/-- PL_SIG_READ (R288). -/
def specPlSigRead : OpSpec where
  opcode := 0x0609
  fits := fun n => n == 4
  params := fun c _ => inRange (fld c.params 0 1) 0 15 0
  run := fun c s =>
    let w := fld c.params 0 1
    let sc := s.head.pl.shown
    let slots := match s.head.mt.lastN with | some n => slotsOf n s | none => 4
    let all := (enabledTiles sc).flatMap (fun x => (List.range 135).flatMap (fun p => (List.range slots).filterMap (fun k =>
      let key : PaneKey := { chain := x.1 / 16, position := x.1 % 16 + 1, pane := p, slot := k }
      if guards sc w key then some key else none)))
    let out := (all.drop (fld c.params 2 2)).take 500
    ok c 0x0609 (leBytes 4 ((s.head.mt.lastN.getD 0)) ++ leBytes 2 all.length ++ leBytes 2 out.length ++
      out.flatMap (fun k => leBytes 1 k.chain ++ leBytes 1 k.position ++ leBytes 1 k.pane ++ leBytes 1 k.slot ++
        leBytes 4 (match shownVer k s with | some v => v.crc.toNat | none => 0))) s

def execPlSigRead (c : Cmd) (s : State) : Host.Outcome State Fault Refusal := runCmd specPlSigRead c s

/-- DETAIL_A of the signature events (R289). -/
def sigDetail (w : Nat) (k : PaneKey) : BitVec 32 :=
  BitVec.ofNat 32 (w + 16 * k.slot + 256 * k.pane + 65536 * k.chain + 16777216 * k.position)

/-- One window's mismatch (R284): count, status bit, event. -/
def sigMismatch (w : Nat) (k : PaneKey) (n : Nat) (crc : BitVec 32) (s : State) : State :=
  post .head 0x06 3 0x0001 (sigDetail w k) (BitVec.ofNat 64 (n % 4294967296 + 4294967296 * crc.toNat))
    { s with
      head.pl.sigMismatches := s.head.pl.sigMismatches + 1
      head.pl.sigStatus := s.head.pl.sigStatus ||| (1#32 <<< w) }

/-- Windows whose expected CRC differs from a signature (R284). -/
def sigBad (sc : Scene) (k : PaneKey) (crc : BitVec 32) : List Nat :=
  (List.range 16).filter (fun w => guards sc w k && (sc.sigs.getD w {}).expect &&
    sc.expects.any (fun e => e.win == w && e.key == k && e.crc != crc))

/-- The content of a pane all in the background colour (R285). -/
def backgroundPane (sc : Scene) : List Byte := (List.replicate 960 [sc.bgR, sc.bgG, sc.bgB]).flatMap (fun c => c.flatMap (leBytes 2))

/-- A version becomes COMPOSED for a closed frame (R231): the check of R283 to R285 and the twin signature of R286. -/
def makeComposed (v : Ver) (sc : Scene) (s : State) : State :=
  let bad := sigBad sc v.key v.crc
  let pol := (bad.map (fun w => (sc.sigs.getD w {}).policy)).foldl max 0
  let s1 := bad.foldl (fun t w => sigMismatch w v.key v.n v.crc t) s
  let twin := (List.range 16).any (fun w => guards sc w v.key && (sc.sigs.getD w {}).twin)
  let s2 := if twin then updRec v.n (fun r => { r with sigs := putKey r.sigs v.key v.crc }) s1 else s1
  if bad.isEmpty ∨ pol = 0 then putVer { v with state := 2 } s2
  else if pol = 1 then
    let s3 := putVer { v with state := 0 } { s2 with head.pl.sigHeld := s2.head.pl.sigHeld + 1 }
    updRec v.n (fun r => { r with heldKeys := addKeys r.heldKeys [v.key], held := r.held + 1 }) s3
  else
    let bg := backgroundPane sc
    putVer { v with state := 2, crc := crc32 bg } (clWrite 2 (contentAddr v.key v.w) bg s2)

/-! ## Composition (R222, R226, R227, R231, R244, R245) -/

/-- The pane's Tile belongs to a power group. -/
def groupOf (sc : Scene) (k : PaneKey) : Option PowerGroup :=
  let g := (tileMap sc (tIndex k.chain k.position)).group
  if g ≤ 63 then some (sc.groups.getD g {}) else none

/-- A composition's reads of layer surfaces (R170, R181, R188, R189, R200): the spans it touches, corrected and failed words, and
faulty tiles, each counted. -/
def composeReads (sc : Scene) (k : PaneKey) (pts : List (Nat × Nat)) (spans : List (Nat × Nat)) (s : State) : State :=
  let e := tileMap sc (tIndex k.chain k.position)
  let s1 := spans.foldl (fun t g => touch g.1 g.2 t) s
  let s2 := (spanErrors s.head.cl spans).foldl (fun t w => if isUe w s then ueHit 2 w t else ceHit w t) s1
  (paneFaultyTiles s.head.cl s.head.fy sc e k.slot pts).foldl (fun t x =>
    post .head 0x03 2 0x0008 (BitVec.ofNat 32 x.1) (BitVec.ofNat 64 x.2)
      { t with head.pl.decodeErrors := t.head.pl.decodeErrors + 1 }) s2

/-- The last frame that read each surface under the pane (R237). -/
def noteReads (sc : Scene) (k : PaneKey) (n : Nat) (s : State) : State :=
  let e := tileMap sc (tIndex k.chain k.position)
  { s with head.pl.leases := s.head.pl.leases.map (fun l =>
      let lay := sc.layers.getD l.layer {}
      if lay.surface = l.surface ∧ layerVisible lay ∧ bit lay.slotMask k.slot ∧
          boxMeets 0 (paneBox e k.pane) lay.dstX lay.dstY lay.dstW lay.dstH then
        { l with lastFn := max l.lastFn n } else l) }

/-- The spans of layer surfaces that a composition of points of a pane reads. -/
def readsOf (sc : Scene) (k : PaneKey) (pts : List (Nat × Nat)) (s : State) : List (Nat × Nat) :=
  paneSpans s.head.cl s.head.fy sc (tileMap sc (tIndex k.chain k.position)) k.slot pts

/-- A composition of a pane for frame `n` from a scene: content, CRC, prediction and marks (R230, R231). It ends once every stack
that it reads serves (R198). -/
def compose (sc : Scene) (k : PaneKey) (n w : Nat) (closed live : Bool) (s : State) : State :=
  whenServed 2 (readsOf sc k (panePixels k.pane) s) (fun s =>
    let e := tileMap sc (tIndex k.chain k.position)
    let px := composePane s.head.cl s.head.fy sc e k.slot k.pane
    let b := paneBytes px
    let power := match groupOf sc k with | some g => powerOf g 1 px | none => 0
    let s1 := noteReads sc k n (composeReads sc k (panePixels k.pane) (readsOf sc k (panePixels k.pane) s) s)
    let v : Ver := { key := k, w := w, n := n, crc := crc32 b, power := BitVec.ofNat 32 power, state := 1, live := live }
    let s2 := clWrite 2 (contentAddr k w) b s1
    if closed then makeComposed v sc s2 else putVer v s2) s

/-- A power pass on a pane (R244, R245). -/
def powerPass (sc : Scene) (k : PaneKey) (n w : Nat) (live : Bool) (s : State) : State :=
  match groupOf sc k with
  | none => s
  | some g =>
    whenServed 2 (readsOf sc k (powerPoints k.pane) s) (fun s =>
      let e := tileMap sc (tIndex k.chain k.position)
      let pts := powerPoints k.pane
      let px := pts.map (fun p => composePixel s.head.cl s.head.fy sc e k.slot p.1 p.2)
      putVer { key := k, w := w, n := n, power := BitVec.ofNat 32 (powerOf g 80 px), state := 4, live := live }
        (composeReads sc k pts (readsOf sc k pts s) s)) s

/-! ## The order of compositions (R242, R245, R293) -/

/-- Order of R293 within a chain and group: slot image, pane, position. -/
def paneBefore (a b : PaneKey) : Bool :=
  if a.slot ≠ b.slot then a.slot < b.slot
  else if a.pane ≠ b.pane then a.pane < b.pane
  else a.position < b.position

/-- Put a pane into its place in a list of that order. -/
def insertKey (k : PaneKey) : List PaneKey → List PaneKey
  | [] => [k]
  | x :: r => if paneBefore k x then k :: x :: r else x :: insertKey k r

/-- Panes in the order of R293: each chain's by slot image, pane and position, and the chains in turn, one pane of each, in ascending
chain number. -/
def inTurn (l : List PaneKey) : List PaneKey :=
  let chains := (List.range 32).map (fun c => (l.filter (fun k => k.chain == c)).foldr insertKey [])
  (List.range ((chains.map List.length).foldl max 0)).flatMap (fun i => chains.filterMap (fun x => x[i]?))

/-- A dirty pane of a closed frame still wants its content. -/
def wantsContent (r : FrameRec) (k : PaneKey) (s : State) : Bool :=
  !r.isClosed && !isComposed k r.n s && !r.stale.contains k && !r.heldKeys.contains k

/-- The pane whose power pass comes next: no version of its frame carries a prediction (R245). -/
def nextPass (r : FrameRec) (s : State) : Option PaneKey :=
  if r.isOpen then none
  else r.passes.find? (fun k => wantsContent r k s && !(verOf k r.n s).any (fun v => v.state == 4))

/-- The pane whose composition comes next (R242). -/
def nextContent (r : FrameRec) (s : State) : Option PaneKey := r.todo.find? (fun k => wantsContent r k s)

/-- A power pass of a closed frame is to be done: it comes before every composition (R245). -/
def passesLeft (s : State) : Bool := s.head.pl.frames.any (fun r => (nextPass r s).isSome)

/-- A composition or power pass of a closed frame in the version that takes it (R232). -/
def composeClosed (r : FrameRec) (k : PaneKey) (pass : Bool) (s : State) : State :=
  match versionFor k r.n s with
  | none => countStale [k] r.n s
  | some w => if pass then powerPass r.scene k r.n w (r.live.contains k) s else compose r.scene k r.n w true (r.live.contains k) s

/-- PANE_COMPOSE_DONE (R222, R224, R226, R227, R231, R232, R242, R245, R255 to R274, R283): the composition or the power pass of a
pane for frame `n` that comes next ends. -/
def composeDone (k : PaneKey) (n : Nat) (pass : Bool) (s : State) : State :=
  if s.head.pl.openFrame = some n then
    let sc := sceneFor n s
    let fresh : Bool := match verOf k n s with | some v => v.state == 3 | none => true
    if ¬ pass ∧ ¬ passesLeft s ∧ s.head.pl.specEn ∧ fresh ∧ (dirtyFor n s).contains k ∧ ¬ liveTouched sc s k then
      match versionFor k n s with
      | some w => compose sc k n w false false s
      | none => s
    else s
  else match recOf n s with
    | none => s
    | some r =>
      if pass then (if nextPass r s = some k then composeClosed r k true s else s)
      else if ¬ passesLeft s ∧ nextContent r s = some k then composeClosed r k false s
      else s

def execPaneComposeDone (k : PaneKey) (n : Nat) (powerPass : Bool) (s : State) : Host.Outcome State Fault Refusal :=
  onPart .head (composeDone k n powerPass) s

/-! ## The end of leases -/

/-- LEASE_RETIRE (R236, R237, R154). -/
def execLeaseRetire (surface layer : Nat) (s : State) : Host.Outcome State Fault Refusal :=
  onPart .head (endLeases (fun l => l.surface == surface && l.layer == layer)) s

/-- The contents of PL_RETIRE (R250). DESIGN CHOICE, log entry 22. -/
def retireReply (r : Retire) : Reply :=
  { opcode := 0x050D, tag := 0xFFFF, status := 0, flags := Config.notifyFlags
    params := leBytes 2 r.surface ++ leBytes 1 r.layer ++ [0] ++ leBytes 4 r.id.toNat ++ leBytes 4 r.lastFn.toNat ++ leBytes 8 r.time }

/-- PL_RETIRE as a command: software never sends it, and it is refused with DENIED (R98, R250). -/
def specPlRetire : OpSpec where
  opcode := 0x050D
  frameable := true
  role := fun _ _ => errSt stDenied
  run := fun _ s => s

/-- PL_RETIRE (R237): the oldest record for a queue or session leaves when there is room, or is discarded when the
queue or session is gone. -/
def sendRetire (src : Source) (s : State) : State :=
  match s.head.pl.retires.find? (fun r => r.src == src) with
  | none => s
  | some r =>
    let s1 := { s with head.pl.retires := s.head.pl.retires.erase r }
    if ¬ takesRetire src s then s1
    else match src with
      | .queue q => if rqFits (queueAt q s) (slotsFor 20) then ringWrite q (retireReply r) s1 else s
      | src => deliver .head src (retireReply r) s1

def execPlRetire (src : RetireTo) (s : State) : Host.Outcome State Fault Refusal :=
  match src.cmd with
  | none => onPart .head (sendRetire src.src) s
  | some c => runCmd specPlRetire c s

/-! ## Closing a frame (R29, R222, R231, R240, R245) -/

/-- Pixels of a pane inside a layer's destination rectangle. -/
def overlapArea (b : Int × Int × Int × Int) (l : Layer) : Nat :=
  let w := min b.2.2.1 (l.dstX + l.dstW) - max b.1 l.dstX
  let h := min b.2.2.2 (l.dstY + l.dstH) - max b.2.1 l.dstY
  w.toNat * h.toNat

/-- The load of a frame (R240), the samples of its power passes included. -/
def frameLoad (sc : Scene) (dirty passes : List PaneKey) : Nat :=
  (dirty.map (fun k =>
    let e := tileMap sc (tIndex k.chain k.position)
    ((List.range 32).map (fun n =>
      let l := sc.layers.getD n {}
      if layerVisible l ∧ l.surface ≠ 0xFFFF ∧ bit l.slotMask k.slot then
        overlapArea (paneBox e k.pane) l * (decim l.srcW l.dstW * decim l.srcH l.dstH) else 0)).foldl (· + ·) 0)).foldl (· + ·) 0
    + 12 * passes.length

/-- Close frame `n` (R29): its commit set is fixed, its speculative versions become COMPOSED, the composition of the rest
begins. -/
def closeFrame (n : Nat) (s : State) : State :=
  let sc := sceneFor n s
  let slots := slotsOf n s
  let dirty := dirtyFor n s
  let live := dirty.filter (liveTouched sc s)
  let passes := dirty.filter (fun k => (groupOf sc k).isSome && (match verOf k n s with | some v => v.state != 1 | none => true))
  let load := frameLoad sc dirty passes
  let order := inTurn (passes.filter live.contains) ++ inTurn (passes.filter (fun k => !live.contains k))
  let applied := s.head.pl.pend.filter (fun p => p.frame = n)
  let spec := s.head.pl.vers.filter (fun v => v.n == n && v.state == 1)
  let video := applied.filterMap (fun p => match p.change with | .foyer _ k rtp _ _ _ _ _ => some (k, rtp) | _ => none)
  let r : FrameRec :=
    { n := n, scene := sc, slots := slots, dirty := dirty, live := live, passes := order, todo := inTurn dirty, load := load, video := video }
  let s1 := { s with
    head.pl.base := sc
    head.pl.pend := s.head.pl.pend.filter (fun p => n < p.frame)
    head.pl.carry := []
    head.pl.frames := s.head.pl.frames ++ [r]
    head.pl.openFrame := if s.head.pl.openFrame = some n then none else s.head.pl.openFrame
    head.pl.loadLast := load / 1024
    head.time.cutN := n + 1 }
  let s2 := applied.foldl (fun t p => postApplied p.change n t) s1
  spec.foldl (fun t v => makeComposed v sc t) s2

/-- Open frame `n` to speculation (R222). -/
def openSpec (n : Nat) (s : State) : State := { s with head.pl.openFrame := some n, head.time.specN := n + 1 }

/-! ## The governor (R244 to R248) -/

/-- Sum of the pane predictions of a group in µW, before the division by S (R244). -/
def groupPower (g : Nat) (r : FrameRec) (s : State) : Nat :=
  ((enabledTiles r.scene).filter (fun x => x.2.group == g)).foldl (fun acc x =>
    (List.range r.slots).foldl (fun a2 k => (List.range 135).foldl (fun a3 p =>
      let key : PaneKey := { chain := x.1 / 16, position := x.1 % 16 + 1, pane := p, slot := k }
      let mine : Option Ver := if r.dirty.contains key then (match verOf key r.n s with
        | some v => if v.state = 2 ∨ v.state = 4 then some v else none
        | none => none) else none
      let v := match mine with | some v => some v | none => shownVer key s
      a3 + (match v with | some v => v.power.toNat | none => 0)) a2) acc) 0

/-- P_g(N) × 65 536 × S × 10⁶ at a step (R244). -/
def predAt (p : PowerGroup) (tiles slots sum q : Nat) : Nat :=
  tiles * p.staticMw * 1000 * 65536 * slots + sum * govScale q

/-- BUDGET_W in the same unit. -/
def budgetAt (p : PowerGroup) (slots : Nat) : Nat := p.budget * 1000000 * 65536 * slots

/-- The smallest step from `q` on that keeps the budget, else 255. -/
def stepUp (p : PowerGroup) (tiles slots sum : Nat) : Nat → Nat → Nat
  | 0, _ => 255
  | k + 1, q => if predAt p tiles slots sum q ≤ budgetAt p slots then q else stepUp p tiles slots sum k (q + 1)

/-- Add REC × P / 100 dB to the accumulator, at most 0.25 dB; in units of 10⁻¹¹ dB as a reduced fraction. -/
def addRecovery (g : Gov) (recRate pNum pDen : Nat) : Nat × Nat :=
  let n := g.accNum * pDen + recRate * pNum * g.accDen
  let d := g.accDen * pDen
  if 25000000000 * d ≤ n then (25000000000, 1) else (n / Nat.gcd n d, d / Nat.gcd n d)

/-- R246 for one group. -/
def govStep (en : Bool) (p : PowerGroup) (g : Gov) (tiles slots sum pNum pDen : Nat) : Gov :=
  let above := fun q => decide (budgetAt p slots < predAt p tiles slots sum q)
  let g1 : Gov :=
    if p.budget = 0 ∨ ¬ en then { g with q := 0 }
    else if above g.q then { g with q := stepUp p tiles slots sum (256 - g.q) g.q, accNum := 0, accDen := 1 }
    else
      let a := addRecovery g p.recRate pNum pDen
      if 0 < g.q ∧ a = (25000000000, 1) ∧ ¬ above (g.q - 1) then { g with q := g.q - 1, accNum := 0, accDen := 1 }
      else { g with accNum := a.1, accDen := a.2 }
  { g1 with above := decide (p.budget ≠ 0) && above 0 }

/-- The governor point of frame `n` (R246 to R248): steps, events, RESCALE marks. -/
def governorPoint (n : Nat) (s : State) : State :=
  match recOf n s with
  | none => s
  | some r =>
    let t := parFor s.head.mt n
    let pNum := match t with | some t => t.pNum | none => 0
    let pDen := match t with | some t => t.pDen | none => 1
    let s1 := (List.range 64).foldl (fun a g =>
      let p := r.scene.groups.getD g {}
      let old := a.head.pl.govs.getD g {}
      let tiles := ((enabledTiles r.scene).filter (fun x => x.2.group == g)).length
      let sum := groupPower g r s
      let new0 := govStep s.head.pl.govEn p old tiles r.slots sum pNum pDen
      let static := decide (new0.q = 255) && decide (budgetAt p r.slots < predAt p tiles r.slots sum 255)
      let new : Gov := { new0 with
        static := static, fn := BitVec.ofNat 32 n
        dMw := sum / (1000 * r.slots), predMw := predAt p tiles r.slots sum new0.q / (65536 * r.slots * 1000) }
      let a1 := { a with head.pl.govs := upd a.head.pl.govs g (fun _ => new) }
      let a2 := if static ∧ ¬ old.static then
          post .head 0x05 3 0x0005 (BitVec.ofNat 32 g) (BitVec.ofNat 64 (tiles * p.staticMw)) a1 else a1
      let a3 := if old.q = 0 ∧ 0 < new.q then
          post .head 0x05 1 0x0004 (BitVec.ofNat 32 (g + 256 * new.q))
            (BitVec.ofNat 64 (predAt p tiles r.slots sum 0 / (65536 * r.slots * 1000))) a2 else a2
      if new.q ≠ old.q then
        mapVers (fun v => v.shown && (tileMap r.scene (tIndex v.key.chain v.key.position)).group == g && !r.dirty.contains v.key)
          (fun v => { v with rescale := true }) a3
      else a3) s
    updRec n (fun r => { r with qs := s1.head.pl.govs.map (fun g => g.q) }) s1

/-- R245 at T_{n−1}: dirty panes without a prediction are stale. -/
def powerLate (n : Nat) (s : State) : State :=
  match recOf n s with
  | none => s
  | some r =>
    let late := r.dirty.filter (fun k => (groupOf r.scene k).isSome && !r.heldKeys.contains k && (verOf k n s).all (fun v => v.state != 2 && v.state != 4))
    if late.isEmpty then s
    else post .head 0x05 2 0x0006 (BitVec.ofNat 32 n) (BitVec.ofNat 64 late.length) (countStale late n s)

/-! ## Registers (PL window) -/

/-- PL_CTL. -/
def plCtl (s : State) : Nat := 2 * b2n s.head.pl.specEn + b2n s.head.pl.govEn

def plCtlWrite (v : Word) (s : State) : State :=
  { s with head.pl.specEn := v.getLsbD 1, head.pl.govEn := v.getLsbD 0 }

/-- PL_STATUS and its write-1-to-clear bits. -/
def plStatus (s : State) : Nat :=
  8 * b2n s.head.pl.leaseViolated + 4 * b2n s.head.pl.staleSeen + 2 * b2n (s.head.pl.govs.any (fun g => decide (0 < g.q))) +
    b2n (!s.head.pl.waiting.isEmpty)

def plStatusWrite (v : Word) (s : State) : State :=
  { s with
    head.pl.leaseViolated := s.head.pl.leaseViolated && !v.getLsbD 3
    head.pl.staleSeen := s.head.pl.staleSeen && !v.getLsbD 2 }

/-- The rated load per output pixel (R241). -/
def ratedPerPixel (t : TickPar) : Nat :=
  min 32 (88 * (t.pNum - 1000 * t.fUs * t.pDen) / (66355200 * t.slots * t.pDen))

/-- PL_LOAD_RATED in units of 1 024 weighted samples. -/
def loadRated (s : State) : Nat :=
  match s.head.mt.tick with | some t => ratedPerPixel t * 66355200 * t.slots / 1024 | none => 0

/-- PL_LAYER_CTL_n. -/
def plLayerCtl (n : Nat) (s : State) : Nat :=
  let l := s.head.pl.shown.layers.getD n {}
  let g := match getKey s.head.fy.surfaces l.surface with | some f => f.guarded | none => false
  2147483648 * b2n (layerVisible l) + 1073741824 * b2n (isLive n s) + 536870912 * b2n g +
    65536 * ((streamOf n s).getD 0xFF) + l.surface

/-- PL_GOV_g. -/
def plGov (g : Nat) (s : State) : Nat := 256 * b2n (s.head.pl.govs.getD g {}).above + (s.head.pl.govs.getD g {}).q

end Sys2Proof.Machine
end

