-- ==== Sys2Proof/Machine/PanePush.lean ====
section
/-!
DEFINITION. Pane push (R290 to R320): push lists, pane packets and their transactions, replays, the end of a push window,
frame status records, chain formats and the blackout broadcast.
-/
namespace Sys2Proof.Machine

/-- Change Pane push. -/
def updPp (f : Push → Push) (s : State) : State := { s with head.pp := f s.head.pp }

/-- Change the chain state of Pane push. -/
def updChain (c : Nat) (f : PushPort → PushPort) (s : State) : State :=
  { s with head.pp.ports := upd s.head.pp.ports c f }

/-- Chain state. -/
def chainAt (c : Nat) (s : State) : PushPort := s.head.pp.ports.getD c {}

/-- A chain of this Head (R15, R19, R21): every chain for a Head without a partner; on a pair one whose low or high end this Head
holds, whatever its ports do now, and for Head A one that neither Head has met. DEDUCED, log entry 32. -/
def isOwnChain (c : Nat) (s : State) : Bool :=
  let b := s.head.sys.roleB
  !s.head.tw.everActive || ((matesOf c s).isEmpty && !b) ||
    (matesOf c s).any (fun e => e.lowB == b || (match e.ret with | some (h, _) => h == b | none => false))

/-- The frame whose push window is open. -/
def openRec (s : State) : Option FrameRec := s.head.pl.frames.find? (fun r => r.isOpen && !r.isClosed)

/-! ## Push lists (R290 to R293) -/

/-- The pane's Tile is enabled on a chain of this Head, and its slot image is below S. -/
def isListable (r : FrameRec) (k : PaneKey) (s : State) : Bool :=
  decide (k.slot < r.slots) && (tileMap r.scene (tIndex k.chain k.position)).enable && isOwnChain k.chain s

/-- The group of a pane in the list: 0 RESEND, 1 RESCALE, 2 DIRTY (R290, R291, R293). -/
def listGroup (r : FrameRec) (k : PaneKey) : Option Nat :=
  if r.dirty.contains k then some 2
  else if r.resend.contains k then some 0
  else if r.rescale.contains k then some 1
  else none

/-- The push list of a frame, versions withheld under HOLD left out (R292). -/
def pushList (r : FrameRec) (s : State) : List PaneKey :=
  ((r.resend.filter (fun k => listGroup r k == some 0)) ++ (r.rescale.filter (fun k => listGroup r k == some 1)) ++ r.dirty).filter
    (fun k => isListable r k s && !r.heldKeys.contains k)

/-- Order of R293. -/
def listsBefore (r : FrameRec) (a b : PaneKey) : Bool :=
  let ga := (listGroup r a).getD 3
  let gb := (listGroup r b).getD 3
  if ga ≠ gb then ga < gb else paneBefore a b

/-- The version an entry sends: that composed for the frame when DIRTY, else the SHOWN one (R291, R297). -/
def pushVersion (r : FrameRec) (k : PaneKey) (s : State) : Option Ver :=
  if r.dirty.contains k then (match verOf k r.n s with | some v => if v.state = 2 then some v else none | none => none)
  else shownVer k s

/-- An entry waits, ready to leave (R292). -/
def isReady (r : FrameRec) (k : PaneKey) (s : State) : Bool :=
  !r.sent.contains k && !r.stale.contains k && !r.failed.contains k && (pushVersion r k s).isSome

/-! ## The pane packet (R295, R296) -/

/-- Open transactions of a port. -/
def openTrans (port : Nat) (s : State) : Nat := (s.head.pp.trans.filter (fun t => t.port == port)).length

/-- R298: the port and the Head have room for a transaction. -/
def transRoom (port : Nat) (s : State) : Bool := decide (openTrans port s < 512) && decide (s.head.pp.trans.length < 16384)

/-- Words of a pane packet. -/
def paneWords (wl12 : Bool) : Nat := if wl12 then 621 else 826

/-- A pane packet (R295): all its words, SEQ 0. -/
def panePacket (r : FrameRec) (k : PaneKey) (wl12 replay : Bool) (body : List Byte) (s : State) : GPkt :=
  let n := if wl12 then 618 else 823
  let w0 := 1 + 16 * b2n wl12 + 32 * k.slot + 128 * b2n s.head.sys.roleB + 256 * b2n r.publisher + 512 * b2n replay +
    16777216 * k.pane + 2 ^ 32 * (k.position - 1) + 2 ^ 36 * k.chain + 2 ^ 41 * s.head.sys.pair
  let w1 := r.n % 4294967296 + 2 ^ 32 * r.claim.toNat
  { cls := if replay then 3 else 2, typ := 1, len := paneWords wl12, headB := s.head.sys.roleB, pair := s.head.sys.pair
    chain := k.chain, position := k.position
    payload := leBytes 7 w0 ++ leBytes 7 w1 ++ body ++ leBytes 7 ((crc32 body).toNat + 2 ^ 32 * n) }

/-- The governor's scale for a pane in a frame (R247). -/
def paneScale (r : FrameRec) (k : PaneKey) : Nat :=
  let g := (tileMap r.scene (tIndex k.chain k.position)).group
  if g ≤ 63 then govScale (r.qs.getD g 0) else 65536

/-- A version's payload for a frame, from the bytes read (R247, R276). -/
def payloadFrom (r : FrameRec) (k : PaneKey) (wl12 : Bool) (b : List Byte) : List Byte :=
  panePayload wl12 ((panePixelsOf b).map (scalePixel (paneScale r k)))

/-- Take a pane's entry into the next list that can hold it (R291): the open window's when it belongs to a later frame. -/
def resendNext (k : PaneKey) (n : Nat) (s : State) : State :=
  match openRec s with
  | some r => if n < r.n then updRec r.n (fun r => { r with resend := addKeys r.resend [k] }) s
              else updPp (fun p => { p with again := addKeys p.again [k] }) s
  | none => updPp (fun p => { p with again := addKeys p.again [k] }) s

/-- A pane counted in STALE_PUSH (R302, R307). -/
def stalePush (k : PaneKey) (n : Nat) (s : State) : State :=
  let s1 := updRec n (fun r => { r with stalePush := r.stalePush + 1, failed := addKeys r.failed [k] }) s
  resendNext k n (updChain k.chain (fun c => { c with stale := c.stale + 1 })
    (updPp (fun p => { p with staleTotal := p.staleTotal + 1, pushStale := true }) s1))

/-- A pane counted in STALE_REPLAY. -/
def staleReplay (k : PaneKey) (n : Nat) (s : State) : State :=
  updChain k.chain (fun c => { c with stale := c.stale + 1 })
    (updPp (fun p => { p with staleTotal := p.staleTotal + 1 })
      (updRec n (fun r => { r with staleReplay := r.staleReplay + 1 }) s))

/-- Fill of an output buffer in bytes (R301). -/
def fillOf (c : PushPort) : Nat := 5760 * c.buf.length

/-- The class of a port's reads (R301): below LOW_WM, and from there until the fill has reached LOW_WM + 16 KiB, RT_URGENT. -/
def readClass (c : PushPort) : Nat :=
  if fillOf c < 1024 * c.lowWm ∨ (c.urgent ∧ fillOf c < 1024 * (c.lowWm + 16)) then 0 else 1

/-- A pane read into a port's buffer; the port's reads are urgent no more once the fill reaches LOW_WM + 16 KiB (R301). -/
def fillBuf (x : PaneKey × Nat × List Byte) (c : PushPort) : PushPort :=
  { c with buf := c.buf ++ [x], urgent := c.urgent && decide (fillOf c + 5760 < 1024 * (c.lowWm + 16)) }

/-- The buffer of a port has room for one more pane (R301). -/
def bufRoom (c : PushPort) : Bool := decide (fillOf c + 5760 ≤ 131072)

/-- A pane of a frame that a port's buffer holds. -/
def bufOf (d : Nat) (k : PaneKey) (n : Nat) (s : State) : Option (List Byte) :=
  ((chainAt d s).buf.find? (fun x => x.1 == k && x.2.1 == n)).map (fun x => x.2.2)

/-- Read a version for a port, and go on with its bytes, or find it lost (R301, R302). The read is answered once every stack that it
touches serves (R198). -/
def withPane (r : FrameRec) (k : PaneKey) (v : Ver) (d : Nat) (f : List Byte → State → State) (s : State) : State :=
  let cls := readClass (chainAt d s)
  let a := contentAddr k v.w
  whenServed cls [(a, 5760)] (fun s =>
    let rd := readNow cls a 5760 s
    let s1 := updChain d (fun c => { c with urgent := decide (cls = 0) }) rd.2.2
    if rd.2.1.isEmpty then f rd.1 s1
    else stalePush k r.n (updRec r.n (fun r => { r with want := r.want.erase k, serve := r.serve.erase k }) s1)) s

/-- Send the packet of the bytes read, opening its transaction (R298). `d` is the Head port. -/
def sendBytes (r : FrameRec) (k : PaneKey) (replay : Bool) (d : Nat) (b : List Byte) (s : State) : State :=
  let wl12 := r.wl12.getLsbD k.chain
  let s2 := hand .head d (panePacket r k wl12 replay (payloadFrom r k wl12 b) s) s
  let s3 := updPp (fun p => { p with
    trans := p.trans ++ [{ port := d, chain := k.chain, position := k.position, pane := k.pane, slot := k.slot
                           fn := BitVec.ofNat 32 r.n, sentAt := s.now }]
    replayTotal := if replay then p.replayTotal + 1 else p.replayTotal }) s2
  let s4 := updChain k.chain (fun c => { c with replays := if replay then c.replays + 1 else c.replays }) s3
  if replay then
    updRec r.n (fun r => { r with replayed := r.replayed + 1, want := r.want.erase k, serve := r.serve.erase k }) s4
  else
    let out : Int := match tickOf s.head.mt (r.n - 1) with | some t => (wall s.head.mt : Int) - t | none => 0
    updRec r.n (fun r => { r with sent := r.sent ++ [k], lastOut := out.toNat })
      (updChain d (fun c => { c with buf := c.buf.filter (fun x => ¬ (x.1 = k ∧ x.2.1 = r.n)) }) s4)

/-- The Head port that reaches a pane's Tile (R313). -/
def panePath (k : PaneKey) (r : FrameRec) (s : State) : Option Nat :=
  match tileEnt k.chain k.position s with
  | none => none
  | some e => if e.here ∧ (portAt .head e.port s).state = .active ∧ isListable r k s then some e.port else none

/-- A port can take a pane's packet (R298). -/
def portTakes (r : FrameRec) (k : PaneKey) (replay : Bool) (d : Nat) (s : State) : Bool :=
  let probe : GPkt := { cls := if replay then 3 else 2, typ := 1, len := paneWords (r.wl12.getLsbD k.chain) }
  transRoom d s && canStart (portAt .head d s) probe

/-- No earlier entry of the chain that is ready, and that `skip` does not leave out, waits for the same port (R293). -/
def isFirstReady (r : FrameRec) (k : PaneKey) (d : Nat) (skip : PaneKey → Bool) (s : State) : Bool :=
  (pushList r s).all (fun x =>
    !(x.chain == k.chain && listsBefore r x k && isReady r x s && !skip x && panePath x r s == some d))

/-- A first sending in the open push window (R290 to R294), from the output buffer where that holds the pane; while the port takes
no packet, the pane is read ahead into its buffer (R301). -/
def firstSend (k : PaneKey) (s : State) : State :=
  match openRec s with
  | none => s
  | some r =>
    if ¬ (pushList r s).contains k ∨ ¬ isReady r k s then s
    else match panePath k r s, pushVersion r k s with
      | some d, some v =>
        let held := fun x => (bufOf d x r.n s).isSome
        if portTakes r k false d s then
          if ¬ isFirstReady r k d (fun _ => false) s then s
          else match bufOf d k r.n s with
            | some b => sendBytes r k false d b s
            | none => withPane r k v d (sendBytes r k false d) s
        else if held k ∨ ¬ bufRoom (chainAt d s) ∨ ¬ isFirstReady r k d held s then s
        else withPane r k v d (fun b => updChain d (fillBuf (k, r.n, b))) s
      | _, _ => s

/-- A replay that is due: of the open window's frame (R303), or of the shown frame at a Tile's request (R304). -/
def replaySend (k : PaneKey) (s : State) : State :=
  match s.head.pl.frames.find? (fun r => (r.want.contains k && !r.isClosed) || r.serve.contains k) with
  | none => s
  | some r =>
    let ver := if r.want.contains k ∧ ¬ r.isClosed then pushVersion r k s else shownVer k s
    match panePath k r s, ver with
    | some d, some v => if portTakes r k true d s then withPane r k v d (sendBytes r k true d) s else s
    | _, _ => s

/-- PANE_PACKET_SEND (R290 to R298, R301 to R304, R313). DEDUCED, log entry 30. -/
def execPanePacketSend (k : PaneKey) (replay : Bool) (s : State) : Host.Outcome State Fault Refusal :=
  onPart .head (fun s => if replay then replaySend k s else firstSend k s) s

/-! ## Acknowledgements, losses and replays (R299, R300, R303, R304) -/

/-- The pane of a transaction. -/
def transKey (t : Trans) : PaneKey := { chain := t.chain, position := t.position, pane := t.pane, slot := t.slot }

/-- The record of the frame that a 32-bit number names. -/
def recByFn (fn : BitVec 32) (s : State) : Option FrameRec :=
  s.head.pl.frames.reverse.find? (fun r => BitVec.ofNat 32 r.n == fn)

/-- PP_REPLAY_EXHAUSTED at most once a second, and the pane's next frame as RESEND (R303). -/
def exhaust (k : PaneKey) (n : Nat) (s : State) : State :=
  let s1 := staleReplay k n s
  let s2 := updPp (fun p => { p with exhausted := true }) s1
  let w := wall s.head.mt
  let may : Bool := match s.head.pp.exhaustedPosted with | some t => decide (t + 1000000000 ≤ w) | none => true
  let s3 := if may then
      post .head 0x07 2 0x0002 (BitVec.ofNat 32 (k.chain + 256 * k.position + 65536 * k.pane + 16777216 * k.slot)) (BitVec.ofNat 64 (n % 4294967296))
        (updPp (fun p => { p with exhaustedPosted := some w }) s2)
    else s2
  resendNext k n s3

/-- A pane of a frame needs a replay (R303): at most 2 for each pane and frame, none after T_N − F. -/
def needReplay (k : PaneKey) (r : FrameRec) (s : State) : State :=
  let done := (getKey r.replays k).getD 0
  if r.isOpen ∧ ¬ r.isClosed ∧ done < 2 then
    updRec r.n (fun r => { r with want := addKeys r.want [k], replays := putKey r.replays k (done + 1) }) s
  else exhaust k r.n s

/-- DIVERGENT acknowledgements (R387): counted, with TW_DIVERGENCE at most once a second for each Tile. -/
def divergent (k : PaneKey) (fn : BitVec 32) (s : State) : State :=
  let s1 := updTw (fun t => { t with tileDivergent := t.tileDivergent + 1 }) s
  let w := wall s.head.mt
  let may : Bool := match getKey s.head.tw.divPosted (k.chain, k.position) with | some t => decide (t + 1000000000 ≤ w) | none => true
  if may then
    post .head 0x09 2 0x000B (BitVec.ofNat 32 (k.chain + 256 * k.position)) (fn.zeroExtend 64)
      (updTw (fun t => { t with divPosted := putKey t.divPosted (k.chain, k.position) w }) s1)
  else s1

/-- The effect of an acknowledgement (R291, R299). -/
def ackTaken (a : PaneAck) (s : State) : State :=
  let isMine := fun (t : Trans) => transKey t == a.key && t.fn == a.fn
  if a.originB ≠ s.head.sys.roleB then s
  else match s.head.pp.trans.find? isMine with
    | none => s
    | some t =>
      let s1 := updPp (fun p => { p with trans := p.trans.erase t }) s
      match recByFn a.fn s1 with
      | none => if a.status = 4 then divergent a.key a.fn s1 else s1
      | some r =>
        let s2 := updRec r.n (fun r => { r with acks := putKey r.acks a.key a.status }) s1
        if a.status = 2 ∨ a.status = 5 then needReplay a.key r s2
        else if a.status = 3 then resendNext a.key r.n s2
        else if a.status = 4 then resendNext a.key r.n (divergent a.key a.fn s2)
        else s2

/-- PANE_ACK_RECEIVED (R299, R303, R387, R408). -/
def execPaneAckReceived (a : Linked PaneAck) (s : State) : Host.Outcome State Fault Refusal :=
  onPart .head (overLink .head a.via (ackTaken a.msg)) s

/-- PANE_TRANSACTION_LOST (R300, R303, R313): 50 µs without an acknowledgement, or a Tile that its port reaches no longer. -/
def execPaneTransactionLost (k : PaneKey) (unreachable : Bool) (s : State) : Host.Outcome State Fault Refusal :=
  onPart .head (fun s =>
    match s.head.pp.trans.find? (fun t => transKey t == k && (if unreachable then t.lost else decide (t.sentAt + 50000 ≤ s.now))) with
    | none => s
    | some t =>
      let s1 := updPp (fun p => { p with trans := p.trans.erase t }) s
      match recByFn t.fn s1 with
      | some r => needReplay k r s1
      | none => s1) s

/-- A Tile's request to replay a pane of the frame it shows (R304): served from the SHOWN version until the next flip, at most twice
for each pane and frame. -/
def replayReqTaken (k : PaneKey) (fn : Word) (s : State) : State :=
  match recByFn fn s with
  | none => staleReplay k fn.toNat s
  | some r =>
    let n := (getKey r.served k).getD 0
    if s.head.mt.lastN = some r.n ∧ n < 2 ∧ (shownVer k s).isSome then
      updRec r.n (fun r => { r with served := putKey r.served k (n + 1), serve := addKeys r.serve [k] }) s
    else staleReplay k r.n s

/-- REPLAY_REQ_RECEIVED (R304). -/
def execReplayReqReceived (k : Linked PaneKey) (fn : Word) (s : State) : Host.Outcome State Fault Refusal :=
  onPart .head (overLink .head k.via (replayReqTaken k.msg fn)) s

/-! ## Frame reports and frame status records (R306 to R309) -/

/-- Enabled Tiles of this Head's chains in a frame. -/
def expected (r : FrameRec) (s : State) : List (Nat × Nat) :=
  ((enabledTiles r.scene).map (fun x => (x.1 / 16, x.1 % 16 + 1))).filter (fun x => isOwnChain x.1 s)

/-- Panes sent to a Tile that it has not accepted, as this Head's acknowledgements say (R408). -/
def unaccepted (r : FrameRec) (chain pos : Nat) (s : State) : List PaneKey :=
  r.sent.filter (fun k => k.chain == chain && k.position == pos &&
    !(getKey r.acks k == some 0 || getKey r.acks k == some 1) &&
    !(s.head.pp.trans.any (fun t => transKey t == k && t.fn == BitVec.ofNat 32 r.n)) && !r.want.contains k)

/-- A Tile's frame report (R306, R308, R408). -/
def reportTaken (m : FrameReport) (s : State) : State :=
  match recByFn m.fn s with
  | none => s
  | some r =>
    let bad := if m.rejected + m.missing = 0 then [] else unaccepted r m.chain m.position s
    let s1 := bad.foldl (fun t k => resendNext k r.n t) s
    if r.written ∨ r.reports.contains (m.chain, m.position) then s1
    else updRec r.n (fun r =>
      { r with
        reports := r.reports ++ [(m.chain, m.position)]
        tileStale := r.tileStale + m.rejected + m.missing
        accepted := r.accepted + m.accepted }) s1

/-- FRAME_REPORT_RECEIVED (R306, R308, R408). -/
def execFrameReportReceived (r : Linked FrameReport) (s : State) : Host.Outcome State Fault Refusal :=
  onPart .head (overLink .head r.via (reportTaken r.msg)) s

/-- Tiles whose report has not arrived. -/
def noReports (r : FrameRec) (s : State) : List (Nat × Nat) := (expected r s).filter (fun x => ¬ r.reports.contains x)

/-- The 64 bytes of a frame status record (R307). -/
def fsrBytes (r : FrameRec) (s : State) : List Byte :=
  let late := (noReports r s).length
  let flags := b2n r.blackout + 2 * b2n r.publisher + 4 * b2n (decide (late ≠ 0)) + 8 * b2n (decide (r.wl12 ≠ 0 ∨ r.oneLane ≠ 0))
  leBytes 4 r.n ++ leBytes 1 flags ++ leBytes 1 r.slots ++ [0, 0] ++ leBytes 4 (pushList r s).length ++ leBytes 4 r.sent.length ++
    leBytes 4 r.staleCompose ++ leBytes 4 r.stalePush ++ leBytes 4 r.staleReplay ++ leBytes 4 r.held ++ leBytes 4 r.replayed ++
    leBytes 4 r.tileStale ++ leBytes 4 r.accepted ++ leBytes 4 r.lastOut ++ leBytes 4 r.wl12.toNat ++ leBytes 4 r.oneLane.toNat ++
    leBytes 2 late ++ zeros 6

/-- Where record FN lies. -/
def fsrAddr (fn : BitVec 32) (s : State) : Nat := s.head.pp.fsrBase + 64 * (fn.toNat % 2 ^ s.head.pp.fsrSize)

/-- PP_NO_REPORT at most once a second for each Tile (R320). -/
def postNoReport (x : Nat × Nat) (fn : BitVec 32) (s : State) : State :=
  let w := wall s.head.mt
  let may : Bool := match getKey s.head.pp.noReport x with | some t => decide (t + 1000000000 ≤ w) | none => true
  if may then
    post .head 0x07 2 0x0003 (BitVec.ofNat 32 (x.1 + 256 * x.2)) (fn.zeroExtend 64)
      (updPp (fun p => { p with noReport := putKey p.noReport x w }) s)
  else s

/-- Write the record of a frame (R307 to R309). -/
def fsrWrite (r : FrameRec) (s : State) : State :=
  let fn := BitVec.ofNat 32 r.n
  let a := fsrAddr fn s
  let s1 := if s.head.pp.fsrEn then
      updPp (fun p => { p with fsrCount := p.fsrCount + 1, fsrs := (fn, a) :: p.fsrs.filter (fun x => x.2 ≠ a) })
        (clWrite 3 a (fsrBytes r s) s)
    else s
  updRec r.n (fun r => { r with written := true }) ((noReports r s).foldl (fun t x => postNoReport x fn t) s1)

/-- FSR_WRITE (R308): once, when every Tile has reported, or at T_N + REC_DELAY. DESIGN CHOICE, log entry 8. -/
def execFsrWrite (n : Nat) (s : State) : Host.Outcome State Fault Refusal :=
  onPart .head (fun s =>
    match recOf n s with
    | none => s
    | some r =>
      let late : Bool := match tickOf s.head.mt n with
        | some t => decide (t + 1000 * s.head.pp.recDelayUs ≤ (wall s.head.mt : Int))
        | none => true
      if r.written ∨ ¬ r.flipped ∨ ¬ ((noReports r s).isEmpty ∨ late) then s
      else whenServed 3 (if s.head.pp.fsrEn then [(fsrAddr (BitVec.ofNat 32 n) s, 64)] else []) (fsrWrite r) s) s

/-! ## Formats (R310 to R313) -/

/-- Rated words per second on one lane (R314), by rate code. -/
def oneLaneRate (rate : Nat) : Nat := if rate = 0 then 367187500 else if rate = 1 then 183593750 else 146875000

/-- R310: the chain's worst case exceeds one lane. -/
def exceedsLane (c : Nat) (r : FrameRec) (s : State) : Bool :=
  match parFor s.head.mt r.n with
  | none => false
  | some t =>
    let n := ((enabledTiles r.scene).filter (fun x => x.1 / 16 == c)).length
    let r1 := oneLaneRate (portAt .head c s).rate
    decide (r1 * (t.pNum - 1000 * t.fUs * t.pDen) / (1000000000 * t.pDen) < n * 135 * r.slots * 826)

/-- The format that the conditions ask for: a return to WL16 under POLICY 0 waits for 1 s without degradation (R310, R311). -/
def wantedFormat (c : Nat) (r : FrameRec) (s : State) : Bool :=
  let q := chainAt c s
  if q.policy = 1 then true
  else if q.policy = 2 then false
  else if degraded c s ∧ exceedsLane c r s then true
  else q.wl12 && !q.mayReturn

/-- Put a chain's format in force for a frame, with PP_FORMAT_CHANGE (R311, R320). -/
def setFormat (c : Nat) (wl12 : Bool) (n : Nat) (s : State) : State :=
  if (chainAt c s).wl12 = wl12 then s
  else
    post .head 0x07 1 0x0001 (BitVec.ofNat 32 (c + 256 * b2n wl12)) (BitVec.ofNat 64 (n % 4294967296))
      (updChain c (fun q => { q with wl12 := wl12, fmtNext := none }) s)

/-- The chain is a ring while the partner is joined and its Tiles are reached from both ends (R312). -/
def isRing (c : Nat) (s : State) : Bool := (portAt .head 32 s).state == .active && s.head.en.any (fun e => e.chain == c && e.there)

/-- The two Heads of a pair settle the format of a ring between them (R312). -/
def sharesFormat (c : Nat) (s : State) : Bool :=
  isRing c s && !s.head.tw.claimMode && (isFollower s || s.head.tw.role == .publisher)

/-- The publisher decides a ring's format for frame `n` at its cutoff, and forwards a change to the mirror before CUT (R312).
DEDUCED, log entry 92. -/
def decideFormat (r : FrameRec) (c : Nat) (s : State) : State :=
  let f := wantedFormat c r s
  let now := match (chainAt c s).fmtNext with | some (_, f) => f | none => (chainAt c s).wl12
  if s.head.tw.role = .publisher ∧ sharesFormat c s ∧ f ≠ now then
    twinSend 0x02 (leBytes 4 r.n ++ zeros 14 ++ leBytes 2 0x0100 ++ leBytes 1 c ++ leBytes 1 (b2n f))
      (updTw (fun t => { t with
        fwdCount := t.fwdCount + 1
        fwdForFrame := putKey t.fwdForFrame r.n ((getKey t.fwdForFrame r.n).getD 0 + 1) })
        (updChain c (fun q => { q with fmtNext := some (r.n, f) }) s))
  else s

def decideFormats (n : Nat) (s : State) : State :=
  match recOf n s with
  | some r => (List.range 32).foldl (fun t c => decideFormat r c t) s
  | none => s

/-- R311, R312 at the opening of frame `n`: a ring takes the format decided for it, for any other chain the Head decides. -/
def formatAtOpen (r : FrameRec) (c : Nat) (s : State) : State :=
  if sharesFormat c s then
    match (chainAt c s).fmtNext with
    | some (m, f) => if m ≤ r.n then updChain c (fun q => { q with fmtNext := none }) (setFormat c f r.n s) else s
    | none => s
  else setFormat c (wantedFormat c r s) r.n (updChain c (fun q => { q with fmtNext := none }) s)

/-- FORMAT_RETURN_TIMER (R311). -/
def execFormatReturnTimer (chain : Nat) (s : State) : Host.Outcome State Fault Refusal :=
  onPart .head (fun s =>
    match (chainAt chain s).goodSince with
    | some t => if t + 1000000000 ≤ s.now then updChain chain (fun q => { q with mayReturn := true }) s else s
    | none => s) s

/-! ## Blackout (R316 to R318) -/

/-- The blackout state of R316. -/
def blackoutState (p : Push) : Bool := p.pinBlackout || p.chatter || p.swBlackout

/-- DETAIL_B of PP_BLACKOUT. -/
def blackoutDetail (p : Push) : Nat := b2n p.pinBlackout + 2 * b2n p.swBlackout + 4 * b2n p.chatter

/-- Take note of an active blackout in the open window's record (R307). -/
def noteBlackout (s : State) : State :=
  if blackoutState s.head.pp then
    { s with head.pl.frames := s.head.pl.frames.map (fun r => if r.isOpen ∧ ¬ r.isClosed then { r with blackout := true } else r) }
  else s

/-- BLACKOUT blocks with the state of this moment on every active chain port. -/
def sendBlackout (s : State) : State :=
  (List.range 32).foldl (fun t k =>
    timeSend .head k 0x99 [b2n (blackoutState t.head.pp), b2n t.head.sys.roleB] t)
    (updPp (fun p => { p with blackoutSent := s.now }) s)

/-- HEAD_BLACKOUT_CHANGE (R316, R320). -/
def execHeadBlackoutChange (s : State) : Host.Outcome State Fault Refusal :=
  onPart .head (fun s =>
    let b := blackoutState s.head.pp
    if b = s.head.pp.blackout then s
    else
      post .head 0x07 1 0x0004 (BitVec.ofNat 32 (b2n b)) (BitVec.ofNat 64 (blackoutDetail s.head.pp))
        (sendBlackout (updPp (fun p => { p with blackout := b }) s))) s

/-- BLACKOUT_BLOCK_REPEAT (R316): every 100 µs. -/
def execBlackoutBlockRepeat (s : State) : Host.Outcome State Fault Refusal :=
  onPart .head (fun s => if s.head.pp.blackoutSent + 100000 ≤ s.now then sendBlackout s else s) s

/-! ## The push window -/

/-- Every pane of every enabled Tile of a scene, below S. -/
def allPanes (sc : Scene) (slots : Nat) : List PaneKey := panesWhere sc slots (fun _ _ _ _ => true)

/-- Claim mode at the opening of a frame (R391): new claim numbers, and a STANDBY Head that goes ACTIVE.
DEDUCED, log entry 46. -/
def claimAtOpen (s : State) : State :=
  let s1 := match s.head.tw.claimPend with
    | some (a, b) => updTw (fun t => { t with claim := a, claimUp := b, claimPend := none }) s
    | none => s
  if s1.head.tw.claimMode ∧ s1.head.tw.goActive then
    updTw (fun t => { t with role := .active, goActive := false, fullFrame := some s.head.time.openN }) s1
  else s1

/-- The opening of a push window at T_{N−1} (R29, R290, R291, R311, R374, R379): the lists are made from here on. -/
def openPush (n : Nat) (s : State) : State :=
  let s0 := claimAtOpen s
  let slots := slotsOf n s0
  let s1 := updRec n (fun r =>
    let marked := (s0.head.pl.vers.filter (fun v => v.shown && v.rescale)).map (fun v => v.key)
    let enabled := fun (k : PaneKey) => k.slot < slots && (tileMap r.scene (tIndex k.chain k.position)).enable
    let full := if s0.head.tw.claimMode ∧ s0.head.tw.fullFrame = some n then allPanes r.scene slots else []
    let join := s0.head.tw.role == .joining && !s0.head.tw.keeps
    { r with
      isOpen := true
      resend := if join then [] else addKeys (s0.head.pp.again.filter enabled) full
      rescale := if join then [] else marked.filter enabled
      dirty := if join then [] else r.dirty
      todo := if join then [] else r.todo
      publisher := if s0.head.tw.claimMode then false else isPublisher s0
      claim := if s0.head.tw.claimMode ∧ s0.head.tw.role = .active then s0.head.tw.claimUp else s0.head.tw.claim
      blackout := blackoutState s0.head.pp }) s0
  let s2 := { updPp (fun p => { p with again := [] }) s1 with head.time.openN := n + 1 }
  let s3 := match recOf n s2 with
    | some r => (List.range 32).foldl (fun t c => formatAtOpen r c t) s2
    | none => s2
  let mask := fun (f : Nat → Bool) => (List.range 32).foldl (fun (m : BitVec 32) c => if f c then m ||| (1#32 <<< c) else m) 0
  updRec n (fun r => { r with wl12 := mask (fun c => (chainAt c s3).wl12), oneLane := mask (fun c => degraded c s3) }) s3

/-- The fields of the TICK message (R305, R346). -/
def tickFields (n : Nat) (c : Nat) (s : State) : List Int :=
  let r := recOf n s
  let sent := (List.range 16).map (fun q =>
    (((r.map (fun r => (r.sent.filter (fun k => k.chain == c && k.position == q + 1)).length)).getD 0 : Nat) : Int))
  let flip : Int := match tickOf s.head.mt n with | some t => t % 4294967296 | none => 0
  [((n % 4294967296 : Nat) : Int), (slotsOf n s : Int) - 1, (b2n (chainAt c s).wl12 : Nat), (b2n (blackoutState s.head.pp) : Nat),
    (b2n s.head.sys.roleB : Nat), flip] ++ sent

/-- The chain that a port of this Head serves (R15, R18, R19): that whose high end it is, else its own. -/
def chainOfPort (k : Nat) (s : State) : Nat :=
  ((List.range 32).find? (fun c => highEnd c s == some (s.head.sys.roleB, k))).getD k

/-- TICK blocks on every active chain port (R305); a loop's return port carries those of its chain. -/
def sendTicks (n : Nat) (s : State) : State :=
  (List.range 32).foldl (fun t k =>
    timeSend .head k 0x87 (tickFields n (chainOfPort k t) t) t) s

/-- Panes that a frame leaves uncomposed are dirty in the next (R223), which has closed already or closes later: they count in its
load, are composed and have their power passes (R240, R242, R245). -/
def carryOver (n : Nat) (left : List PaneKey) (s : State) : State :=
  match recOf (n + 1) s with
  | none => { s with head.pl.carry := addKeys s.head.pl.carry left }
  | some r =>
    let new := left.filter (fun k =>
      k.slot < r.slots && (tileMap r.scene (tIndex k.chain k.position)).enable && !r.dirty.contains k)
    let live := new.filter (liveTouched r.scene s)
    let passes := new.filter (fun k => (groupOf r.scene k).isSome)
    let load := r.load + frameLoad r.scene new passes
    let s1 := updRec (n + 1) (fun r =>
      { r with
        dirty := r.dirty ++ new, live := r.live ++ live, load := load, todo := r.todo ++ inTurn new
        passes := r.passes ++ inTurn (passes.filter live.contains) ++ inTurn (passes.filter (fun k => !live.contains k)) }) s
    if s.head.time.cutN = n + 2 then { s1 with head.pl.loadLast := load / 1024 } else s1

/-- What a push window leaves behind when it closes: RESCALE marks and output buffers. DEDUCED, log entry 79. -/
def clearWindow (s : State) : State :=
  mapVers (fun v => v.rescale) (fun v => { v with rescale := false })
    (updPp (fun p => { p with ports := p.ports.map (fun q => { q with buf := [] }) }) s)

/-- The end of a push window at T_N − F (R34, R242, R294, R303, R305): what has not begun to leave is stale. -/
def closePush (n : Nat) (s : State) : State :=
  match recOf n s with
  | none => sendTicks n { s with head.time.closeN := n + 1 }
  | some r0 =>
    let wait := (pushList r0 s).filter (fun k => !r0.sent.contains k && !r0.failed.contains k)
    let uncomposed := r0.dirty.filter (fun k => !isComposed k n s && !r0.heldKeys.contains k)
    let ready := wait.filter (fun k => !(r0.dirty.contains k && !isComposed k n s) && !r0.stale.contains k)
    let s1 := countStale uncomposed n s
    let s2 := ready.foldl (fun t k => stalePush k n t) s1
    let s3 := r0.want.foldl (fun t k => exhaust k n t) s2
    let left := r0.dirty.filter (fun k => !isComposed k n s3)
    let s4 := clearWindow (updRec n (fun r => { r with isClosed := true, want := [] }) s3)
    sendTicks n { carryOver n left s4 with head.time.closeN := n + 1 }

/-! ## Commands (R319) -/

/-- PP_SET_STATUS_RING (R307, R308). -/
def specPpSetStatusRing : OpSpec where
  opcode := 0x0701
  fits := fun n => n == 16
  params := fun c _ =>
    let p := c.params
    firstErr [need (decide (fld p 0 8 % 4096 = 0 ∧ fld p 0 8 < 0xA00000000)) (badParam 0), inRange (fld p 8 1) 6 16 8,
      inRange (fld p 12 2) 100 2000 12, need (decide (fld p 0 8 + 64 * 2 ^ fld p 8 1 ≤ 0xA00000000)) (badParam 0)]
  run := fun c s =>
    let p := c.params
    ok c 0x0701 [] (updPp (fun q =>
      { q with fsrBase := fld p 0 8, fsrSize := fld p 8 1, recDelayUs := fld p 12 2, fsrCount := 0, fsrs := [] }) s)

def execPpSetStatusRing (c : Cmd) (s : State) : Host.Outcome State Fault Refusal := runCmd specPpSetStatusRing c s

/-- PP_GET_FRAME_STATUS (R308, R309). -/
def specPpGetFrameStatus : OpSpec where
  opcode := 0x0702
  fits := fun n => n == 4
  run := fun c s =>
    let fn := BitVec.ofNat 32 (fld c.params 0 4)
    let a := fsrAddr fn s
    if s.head.pp.fsrs.contains (fn, a) then
      let rd := clRead 3 a 64 s
      ok c 0x0702 rd.1 rd.2.2
    else failed c 0x0702 0x0001 0 s

def execPpGetFrameStatus (c : Cmd) (s : State) : Host.Outcome State Fault Refusal := runCmd specPpGetFrameStatus c s

/-- PP_SET_CHAIN (R301, R310, R311, R380). -/
def specPpSetChain : OpSpec where
  opcode := 0x0703
  fits := fun n => n == 4
  role := publisherOnly
  params := fun c _ =>
    let p := c.params
    firstErr [inRange (fld p 0 1) 0 31 0, inRange (fld p 1 1) 8 96 1, inRange (fld p 2 1) 0 2 2]
  run := fun c s =>
    let p := c.params
    okFwd c 0x0703 [] (updChain (fld p 0 1) (fun q => { q with lowWm := fld p 1 1, policy := fld p 2 1 }) s)

def execPpSetChain (c : Cmd) (s : State) : Host.Outcome State Fault Refusal := runCmd specPpSetChain c s

/-- PP_PORT_c as read. -/
def ppPort (c : Nat) (s : State) : Nat :=
  let q := chainAt c s
  16777216 * (fillOf q / 1024) + 16384 * (min 512 (openTrans c s)) + 8192 * b2n q.urgent + 4096 * b2n (degraded c s) +
    2048 * b2n q.wl12 + 256 * q.policy + q.lowWm

/-- PP_GET_CHAIN. -/
def specPpGetChain : OpSpec where
  opcode := 0x0704
  fits := fun n => n == 4
  params := fun c _ => inRange (fld c.params 0 1) 0 31 0
  run := fun c s =>
    let k := fld c.params 0 1
    ok c 0x0704 (leBytes 4 (ppPort k s) ++ leBytes 4 (chainAt k s).stale.toNat ++ leBytes 4 (chainAt k s).replays.toNat) s

def execPpGetChain (c : Cmd) (s : State) : Host.Outcome State Fault Refusal := runCmd specPpGetChain c s

/-- PP_BLACKOUT (R316). -/
def specPpBlackout : OpSpec where
  opcode := 0x0705
  fits := fun n => n == 4
  params := fun c _ => inRange (fld c.params 0 1) 0 1 0
  run := fun c s =>
    ok c 0x0705 [] (noteBlackout (updPp (fun p => { p with swBlackout := decide (fld c.params 0 1 = 1) }) s))

def execPpBlackout (c : Cmd) (s : State) : Host.Outcome State Fault Refusal := runCmd specPpBlackout c s

/-! ## Registers (PP window) -/

/-- PP_CTL. -/
def ppCtl (s : State) : Nat := 65536 * s.head.pp.recDelayUs + b2n s.head.pp.fsrEn

def ppCtlWrite (v : Word) (s : State) : State :=
  updPp (fun p => { p with recDelayUs := bits v.toNat 31 16, fsrEn := v.getLsbD 0 }) s

/-- PP_STATUS and its write-1-to-clear bits. -/
def ppStatus (s : State) : Nat :=
  8 * b2n s.head.pp.exhausted + 4 * b2n s.head.pp.pushStale + 2 * b2n s.head.pp.swBlackout + b2n (blackoutState s.head.pp)

def ppStatusWrite (v : Word) (s : State) : State :=
  updPp (fun p => { p with exhausted := p.exhausted && !v.getLsbD 3, pushStale := p.pushStale && !v.getLsbD 2 }) s

/-- PP_FSR_BASE_LO, PP_FSR_BASE_HI and PP_FSR_SIZE written; ones in the address bits [11:0], which "must be 0", are dropped.
DESIGN CHOICE, log entry 97. -/
def ppBaseLoWrite (v : Word) (s : State) : State :=
  updPp (fun p => { p with fsrBase := p.fsrBase / 4294967296 * 4294967296 + v.toNat / 4096 * 4096 }) s
def ppBaseHiWrite (v : Word) (s : State) : State :=
  updPp (fun p => { p with fsrBase := v.toNat % 16 * 4294967296 + p.fsrBase % 4294967296 }) s
def ppSizeWrite (v : Word) (s : State) : State := updPp (fun p => { p with fsrSize := v.toNat % 32 }) s

/-- PP_PORT_c written: POLICY 3 is reserved and leaves the field (R646). -/
def ppPortWrite (c : Nat) (v : Word) (s : State) : State :=
  updChain c (fun q => { q with
    policy := if bits v.toNat 9 8 = 3 then q.policy else bits v.toNat 9 8, lowWm := bits v.toNat 7 0 }) s

end Sys2Proof.Machine
end

