-- ==== Sys2Proof/Machine/LampDrive.lean ====
section
/-!
DEFINITION. Lamp drive (R432 to R465): refresh cycles, row slots and greyscale, the fade, open and short lamps, the dark states,
BLACKOUT_N of both parts, and the commands.
-/
namespace Sys2Proof.Machine

/-! ## Detection (R453 to R457) -/

/-- An LED rail outside regulation (R489): not in RUN, or with a following-error counter above 0. -/
def railsOut (s : State) : Bool := (s.tile.ht.rails.take 3).any (fun r => r.state != .run || r.fe != 0)

/-- Follow the conditions that suspend detection (R456); DETECT_RESUME_TIMER ends the 10 ms after them. DEDUCED, log entry 62. -/
def noteDetect (s : State) : State :=
  if s.tile.lp.dark ∨ railsOut s then updLp (fun l => { l with detecting := false, okSince := none }) s
  else updLp (fun l => { l with okSince := some (l.okSince.getD s.now) }) s

/-- DETECT_RESUME_TIMER (R456). -/
def execDetectResumeTimer (s : State) : Host.Outcome State Fault Refusal :=
  onPart .tile (fun s0 =>
    let s := noteDetect s0
    match s.tile.lp.okSince with
    | some t => if t + 10000000 ≤ s.now then updLp (fun l => { l with detecting := true }) s else s
    | none => s) s

/-- DETAIL_A of the lamp events (R465). -/
def lampDet (x y c : Nat) : BitVec 32 := BitVec.ofNat 32 (x + 512 * y + 262144 * c)

/-- Too many lamps flagged within one frame (R456). DEDUCED, log entry 62. -/
def suspectCheck (s : State) : State :=
  let l := s.tile.lp
  if l.frameFlags.length ≤ 64 then s
  else
    post .tile 0x0B 3 0x0004 (BitVec.ofNat 32 l.frameFlags.length) ((BitVec.ofInt 32 (tileView s)).zeroExtend 64)
      (updLp (fun l => { l with flags := l.flags.filter (fun f => !l.frameFlags.contains f), frameFlags := [], suspect := true }) s)

/-- Flag a lamp (R455). DEDUCED, log entry 62. -/
def flagLamp (x y c : Nat) (short : Bool) (vf : Int) (s : State) : State :=
  let d : DeadLamp := { x := x, y := y, c := c, short := short }
  if 1024 ≤ s.tile.lp.flags.length then
    if s.tile.lp.deadFull then s
    else post .tile 0x0B 3 0x0003 (lampDet x y c) 0 (updLp (fun l => { l with deadFull := true }) s)
  else
    suspectCheck
      (post .tile 0x0B 2 (if short then 0x0002 else 0x0001) (lampDet x y c) (if short then BitVec.ofInt 64 vf else 0)
        (updLp (fun l => { l with flags := l.flags ++ [d], frameFlags := l.frameFlags ++ [d], deadAdded := true }) s))

/-- A lamp that lamp drive flags. -/
def isFlagged (x y c : Nat) (s : State) : Bool := s.tile.lp.flags.any (fun f => f.x == x && f.y == y && f.c == c)

/-- Detection runs now. -/
def detects (s : State) : Bool := s.tile.lp.detecting && !s.tile.lp.suspect

/-- The lamp of a sink in scan slot `q` (R432). -/
def lampAt (sink q : Nat) : Nat × Nat × Nat := (sink % 480, 68 * (sink / 1440) + q, sink % 1440 / 480)

/-- One main window's open test (R453). A window below 24 ns is passed over. DEDUCED, log entry 62. -/
def openTest (low : List (Nat × Nat × Nat)) (q : Nat) (s : State) (w : Lit) : State :=
  let k := lampAt w.sink q
  if w.w < 24 ∨ ¬ detects s ∨ ¬ s.tile.lp.openEn then s
  else if ¬ low.contains k then updLp (fun l => { l with openRuns := delKey l.openRuns k }) s
  else
    let n := (getKey s.tile.lp.openRuns k).getD 0 + 1
    if n < 8 then updLp (fun l => { l with openRuns := putKey l.openRuns k n }) s
    else flagLamp k.1 k.2.1 k.2.2 false 0 (updLp (fun l => { l with openRuns := delKey l.openRuns k }) s)

/-- One forward-voltage sample: the lamp temperature field, then the short test (R454). -/
def shortTest (vf : Int) (x y c : Nat) (s0 : State) : State :=
  let s := fieldSample x y c vf s0
  let k := (x, y, c)
  if ¬ detects s ∨ ¬ s.tile.lp.shortEn then s
  else if ((20 * s.tile.lp.shortV.getD c 0 : Nat) : Int) ≤ vf then updLp (fun l => { l with shortRuns := delKey l.shortRuns k }) s
  else
    let n := (getKey s.tile.lp.shortRuns k).getD 0 + 1
    if n < 3 then updLp (fun l => { l with shortRuns := putKey l.shortRuns k n }) s
    else flagLamp x y c true vf (updLp (fun l => { l with shortRuns := delKey l.shortRuns k }) s)

/-- The sense circuit's samples of a scan slot: the column in rotation, one lamp of each colour in each bank (R454).
DEDUCED, log entry 62. -/
def senseSlot (q : Nat) (vf : List Int) (s : State) : State :=
  let x := s.tile.lp.column
  ((slotRows q).flatMap (fun e => [(e.1, e.2, 0), (e.1, e.2, 1), (e.1, e.2, 2)])).foldl (fun a e =>
    match a.tile.lp.lit.find? (fun w => w.sink == sinkOf x e.2.1 e.2.2), vf[3 * e.1 + e.2.2]? with
    | some w, some v => if 24 ≤ w.w then updLp (fun l => { l with samples := l.samples ++ [((x, e.2.1, e.2.2), v)] }) a else a
    | _, _ => a) s

/-- The quiet slot converts the samples of the scan slots before it (R441, R454). DEDUCED, log entry 62. -/
def convertSamples (s : State) : State :=
  s.tile.lp.samples.foldl (fun a e => shortTest e.2 e.1.1 e.1.2.1 e.1.2.2 a) (updLp (fun l => { l with samples := [] }) s)

/-! ## Greyscale (R442 to R445, R449) -/

/-- E of a delivered code in cycle light units (R443), the code scaled by the fade under R449. -/
def lightUnits (d phi full : Nat) : Nat := roundDiv (d * phi / 16777216 * (16 * full)) 1048575

/-- w_i of R443. -/
def windowOf (t c i : Nat) : Nat := (i + 1) * t / c - i * t / c

/-- The residual pulses of R444, as levels. -/
def residualOf (r : Nat) : List Nat :=
  if r = 0 then [] else if r ≤ 8 then [r - 1] else [7, r - 9]

/-- The window and the pulses of a sink in cycle `j` of the frame. -/
def litOf (t : TickPar) (phase phi j : Nat) (d : Nat × Nat) : Lit :=
  let c := cyclesOf t / t.slots
  let i := j % c
  let e := lightUnits d.2 phi (fullScale t phase)
  { sink := d.1, w := windowOf (e / 16) c i, pulses := if i = 0 then residualOf (e % 16) else [] }

/-- The sinks lit in scan slot `q` of cycle `j` (R437, R443, R455, R458). -/
def litSlot (t : TickPar) (j q : Nat) (s : State) : List Lit :=
  let phi := phiSet s
  if s.tile.lp.dark then []
  else
    ((s.tile.lp.codes.filter (fun d =>
      let k := lampAt d.1 q
      !isFlagged k.1 k.2.1 k.2.2 s)).map (litOf t s.tile.lp.phaseNow phi j)).filter (fun w => w.w ≠ 0 ∨ w.pulses ≠ [])

/-! ## REFRESH and ROW (R66, R437 to R441) -/

/-- Start the fades that are due at a cycle start: those untargeted, and those of frame `n` (R448, R449).
DEDUCED, log entry 62. -/
def startFades (n : Nat) (a : Int) (s : State) : State :=
  let due := fun (e : Option Nat × Nat × Nat) => match e.1 with | none => true | some m => decide (m ≤ n)
  let mine := s.tile.lp.fadePend.filter due
  updLp (fun l =>
    mine.foldl (fun l e => { l with target := e.2.1, fade := some { f0 := l.f, t0 := a.toNat, f1 := e.2.1, dur := 1000000 * e.2.2 } })
      { l with fadePend := l.fadePend.filter (fun e => !due e) }) s

/-- f at a cycle start (R448). -/
def stepFade (a : Int) (s : State) : State :=
  match s.tile.lp.fade with
  | none => s
  | some d =>
    let above := decide ((d.dur : Int) ≤ a - d.t0)
    updLp (fun l => { l with f := fadeAt d a, fade := if above then none else some d }) s

/-- Set the banks of a mask to a global setting. -/
def setBanks (mask g : Nat) (l : List Nat) : List Nat := l.mapIdx (fun b v => if bit mask b then g else v)

/-- Currents, trims and waveform at a cycle start (R436, R450). -/
def takeSettings (n : Nat) (s : State) : State :=
  let s1 := updLp (fun l =>
    let due := l.curPend.filter (fun e => e.1 ≤ n)
    let cur := due.foldl (fun c e => setBanks e.2.1 e.2.2 c) l.cur
    { l with cur := cur, curNow := cur, curPend := l.curPend.filter (fun e => ¬ e.1 ≤ n), trimNow := l.trim }) s
  let b := s1.tile.ch.lampBand
  let w := s1.tile.lp.waves.getD b { tDg := 0, tPc := 0, vDg := 0, vR := 0, vG := 0, vB := 0 }
  let w' := if 218 < w.tDg + w.tPc then { w with tPc := 218 - w.tDg } else w
  let s2 := updLp (fun l => { l with band := b, waveNow := w' }) s1
  if b = s1.tile.lp.band then s2 else post .tile 0x0B 0 0x0007 (BitVec.ofNat 32 b) 0 s2

/-- The start of refresh cycle `j` of frame `n` has come and has not been taken. -/
def refreshDue (n j : Nat) (s : State) : Bool :=
  match tilePar n s with
  | none => false
  | some t =>
    let tt := s.tile.time
    let later := !tt.refSeen || decide (tt.refN < n) || (tt.refN == n && decide (tt.refJ < j))
    decide (s.tile.mt.lastN = some n ∧ j < cyclesOf t ∧ later ∧ cycleStart t n j ≤ wallOf .tile s)

/-- REFRESH of cycle `j` of frame `n`. DESIGN CHOICE, log entry 9; DEDUCED, log entry 64. -/
def refreshAt (n j : Nat) (s : State) : State :=
  match tilePar n s with
  | none => s
  | some t =>
    let a := cycleStart t n j
    if refreshDue n j s then
      let s0 := { s with tile.time.refN := n, tile.time.refJ := j, tile.time.refSeen := true, tile.time.rowSeen := false }
      let s1 := noteDetect (relight (noteDetect s0))
      let s2 := takeSettings n (stepFade a (startFades n a (stepFade a s1)))
      { s2 with tile.lp.column := (s2.tile.lp.column + 1) % 480, tile.ht.hLeadNow := s2.tile.ht.hLead }
    else s

def execRefresh (n j : Nat) (s : State) : Host.Outcome State Fault Refusal := onPart .tile (refreshAt n j) s

/-- The read of the next scan slot `r` from Landing (R404, R421, R438). -/
def landingRead (slot r : Nat) (obs : RowObs) (s : State) : State :=
  let s1 := predictSlot slot r (readSlot slot r obs s)
  updLp (fun l => { l with codes := deliverSlot slot r s1 }) s1

/-- The start of row slot `r` has come and has not been taken. -/
def rowDue (n j r : Nat) (s : State) : Bool :=
  match tilePar n s with
  | none => false
  | some t =>
    let tt := s.tile.time
    let mine := tt.refSeen && tt.refN == n && tt.refJ == j && s.tile.mt.lastN == some n
    let later := !tt.rowSeen || decide (tt.rowR < r)
    mine && later && decide (r ≤ 68 ∧ rowStart t n j r ≤ wallOf .tile s)

/-- ROW: row slot `r` of cycle `j` of frame `n`. DESIGN CHOICE, log entry 9; DEDUCED, log entry 64. -/
def rowAt (n j r : Nat) (obs : RowObs) (s : State) : State :=
  match tilePar n s with
  | none => s
  | some t =>
    if rowDue n j r s then
      let s0 := noteDetect { s with tile.time.rowR := r, tile.time.rowSeen := true }
      let slot := j / (cyclesOf t / t.slots)
      let s1 :=
        if r = 0 then measureSlot obs (convertSamples (updLp (fun l => { l with lit := [], row := none }) s0))
        else
          let q := r - 1
          let s2 := updLp (fun l => { l with lit := litSlot t j q s0, row := some q }) s0
          senseSlot q obs.vf (s2.tile.lp.lit.foldl (openTest obs.opens q) s2)
      if r ≤ 67 then landingRead slot r obs s1 else s1
    else s

def execRow (n j r : Nat) (obs : RowObs) (s : State) : Host.Outcome State Fault Refusal := onPart .tile (rowAt n j r obs) s

/-! ## The outputs in a row slot (R433, R439, R441, R445, R458, R625)

The levels of the row switches, the row and column lines and the sinks `off` nanoseconds after the ROW instant of the row slot
that runs, whose length is `len`. -/

/-- The row switch that bank `b` has closed. -/
def rowClosed (b len off : Nat) (s : State) : Option Nat :=
  match s.tile.lp.row with
  | some q =>
    if s.tile.lp.dark ∨ off < s.tile.lp.waveNow.tDg ∨ len ≤ off + 20 ∨ 270 ≤ 68 * b + q then none else some (68 * b + q)
  | none => none

/-- De-ghosting: the level that the row lines are pulled to, in units of 20 mV. -/
def rowPull (off : Nat) (s : State) : Option Nat :=
  if s.tile.lp.dark ∨ s.tile.lp.row.isNone ∨ s.tile.lp.waveNow.tDg ≤ off then none else some s.tile.lp.waveNow.vDg

/-- Pre-charge: how far below its rail the column lines of a colour are held, in units of 20 mV. -/
def colHold (c off : Nat) (s : State) : Option Nat :=
  let w := s.tile.lp.waveNow
  if s.tile.lp.dark ∨ s.tile.lp.row.isNone ∨ off < w.tDg ∨ w.tDg + w.tPc ≤ off then none
  else some (if c = 0 then w.vR else if c = 1 then w.vG else w.vB)

/-- Where the main window of a sink starts. -/
def sinkStart (k : Nat) (s : State) : Nat :=
  s.tile.lp.waveNow.tDg + s.tile.lp.waveNow.tPc + k % 16 * s.tile.lp.phaseNow

/-- The current of a sink in sixteenths of I_sink: 16 in its main window, then its residual pulses of 1 ns. -/
def sinkLevel (k off : Nat) (s : State) : Nat :=
  match s.tile.lp.lit.find? (fun w => w.sink == k) with
  | some w =>
    let a := sinkStart k s
    if s.tile.lp.dark ∨ off < a then 0
    else if off < a + w.w then 16
    else match w.pulses[off - (a + w.w)]? with
      | some l => l + 1
      | none => 0
  | none => 0

/-- The scan row whose anode balls ANODE_c_r are driven (R625). -/
def anodeDriven (len off : Nat) (s : State) : Option Nat := rowClosed 0 len off s

/-! ## Dark states (R459) -/

/-- LP_CTL_EN_WRITE: EN of LP_CTL. -/
def lpEnable (en : Bool) (s : State) : State :=
  let s1 := updLp (fun l => { l with en := en }) s
  if en then undark 1 s1 else darken 1 s1

/-- Lamp drive's part of a write of LP_CTL (R440, R453, R454). -/
def lpCtlWrite (v : Word) (s : State) : State :=
  lpEnable (v.getLsbD 0)
    (updLp (fun l => { l with phase := bits v.toNat 11 8, shortEn := v.getLsbD 2, openEn := v.getLsbD 1 }) s)

def execLpCtlEnWrite (value : Word) (s : State) : Host.Outcome State Fault Refusal := onPart .tile (lpCtlWrite value) s

/-! ## BLACKOUT_N (R460 to R463) -/

/-- The changes of the last 1 000 ms, with one more now. -/
def noteChange (l : List Nat) (now : Nat) : List Nat := (l.filter (fun t => now < t + 1000000000)) ++ [now]

/-- The Tile's own input as a cause of R459, with LP_BLACKOUT when it changes. -/
def ownBlackout (old : Bool) (s : State) : State :=
  let b := s.tile.lp.pin || s.tile.lp.chatter
  let s1 := if b then darken 2 s else undark 2 s
  if b = old then s1 else post .tile 0x0B 1 0x0005 (BitVec.ofNat 32 (b2n b)) 0 s1

/-- A filtered change at the Tile. -/
def tilePinChange (active : Bool) (s : State) : State :=
  let l := s.tile.lp
  if l.pin = active then s
  else
    let ch := noteChange l.changes s.now
    let sets := !l.chatter && decide (1000 < ch.length)
    let s1 := updLp (fun l =>
      { l with
        pin := active, changes := ch, transitions := l.transitions + 1, chatter := l.chatter || sets
        inactiveSince := if active then l.inactiveSince else s.now }) s
    let s2 := if sets then post .tile 0x0B 2 0x0006 1 (BitVec.ofNat 64 ch.length) s1 else s1
    ownBlackout (l.pin || l.chatter) s2

/-- PP_BLACKOUT for a change of CHATTER that leaves the blackout state as it is (R463). DEDUCED, log entry 63. -/
def postChatter (s : State) : State :=
  if blackoutState s.head.pp = s.head.pp.blackout then
    post .head 0x07 1 0x0004 (BitVec.ofNat 32 (b2n s.head.pp.blackout)) (BitVec.ofNat 64 (blackoutDetail s.head.pp)) s
  else s

/-- A filtered change at the Head. DEDUCED, log entry 63. -/
def headPinChange (active : Bool) (s : State) : State :=
  let p := s.head.pp
  if p.pinBlackout = active then s
  else
    let ch := noteChange p.changes s.now
    let sets := !p.chatter && decide (1000 < ch.length)
    let s1 := updPp (fun p =>
      { p with pinBlackout := active, changes := ch, chatter := p.chatter || sets, chatterAt := if active then p.chatterAt else s.now }) s
    noteBlackout (if sets then postChatter s1 else s1)

/-- BLACKOUT_N_CHANGE. -/
def execBlackoutNChange (p : Part) (active : Bool) (s : State) : Host.Outcome State Fault Refusal :=
  .next (if ¬ aonRuns p s then s
    else match p with
      | .head => headPinChange active s
      | .tile => tilePinChange active s)

/-- How long the input stays inactive before CHATTER clears (R463). -/
def chatterTime (p : Part) (s : State) : Nat :=
  match p with
  | .head => match s.head.mt.tick with | some t => ceilDiv t.pNum t.pDen | none => 50000000
  | .tile => match tileNow s with | some t => ceilDiv t.pNum t.pDen | none => 50000000

/-- CHATTER_CLEAR. DEDUCED, log entry 63. -/
def execChatterClear (p : Part) (s : State) : Host.Outcome State Fault Refusal :=
  .next (if ¬ aonRuns p s then s
    else match p with
      | .head =>
        if s.head.pp.chatter ∧ ¬ s.head.pp.pinBlackout ∧ s.head.pp.chatterAt + chatterTime .head s ≤ s.now then
          postChatter (updPp (fun q => { q with chatter := false, changes := [] }) s)
        else s
      | .tile =>
        let l := s.tile.lp
        if l.chatter ∧ ¬ l.pin ∧ l.inactiveSince + chatterTime .tile s ≤ s.now then
          let n := (l.changes.filter (fun t => s.now < t + 1000000000)).length
          ownBlackout true (post .tile 0x0B 2 0x0006 0 (BitVec.ofNat 64 n)
            (updLp (fun l => { l with chatter := false, changes := [] }) s))
        else s)

/-! ## Blackout of the Heads (R317) -/

/-- The Head blackout as a cause of R459. -/
def headBlackout (s : State) : State :=
  if s.tile.lp.headA.active || s.tile.lp.headB.active then darken 3 s else undark 3 s

/-- BLACKOUT_BLOCK_RECEIVED at the Tile, which relays the block (R345, R347). -/
def execBlackoutBlockReceived (port : Nat) (active headB : Bool) (s : State) : Host.Outcome State Fault Refusal :=
  onPart .tile (fun s =>
    let s1 := timeSend .tile (1 - port) 0x99 [((b2n active : Nat) : Int), ((b2n headB : Nat) : Int)] (timeTaken .tile port s)
    let h : HeadBlackout := { active := active, at_ := s.now }
    headBlackout (updLp (fun l => if headB then { l with headB := h } else { l with headA := h }) s1)) s

/-- HEAD_BLACKOUT_RELEASE_TIMEOUT: no block of a Head for 1 ms. -/
def execHeadBlackoutReleaseTimeout (headB : Bool) (s : State) : Host.Outcome State Fault Refusal :=
  onPart .tile (fun s =>
    let h := if headB then s.tile.lp.headB else s.tile.lp.headA
    if h.active ∧ h.at_ + 1000000 ≤ s.now then
      headBlackout (updLp (fun l =>
        if headB then { l with headB := { l.headB with active := false } } else { l with headA := { l.headA with active := false } }) s)
    else s) s

/-! ## Commands (R464) -/

/-- The frame of a frame-targeted command at the Tile, with LATE; none when it is untargeted or no frame can be chosen (R649).
DEDUCED, log entry 56. -/
def tileFrame (c : Cmd) (s : State) : Option (Nat × Bool) :=
  if ¬ flFrame c.flags then none
  else match frameOf c s with
    | .onFrame n late => some (n, late)
    | _ => none

/-- The reply to a command that may be frame-targeted. DEDUCED, log entry 23. -/
def okTarget (c : Cmd) (op : Nat) (f : Option (Nat × Bool)) (s : State) : State :=
  match f with
  | some (n, late) => okFrame c op [] n late s
  | none => ok c op [] s

def lpStatus (s : State) : Nat :=
  let l := s.tile.lp
  65536 * l.band + 256 * l.causes.toNat + 128 * b2n l.deadFull + 64 * b2n l.suspect + 32 * b2n l.deadAdded + 16 * b2n l.fade.isSome +
    8 * b2n (l.headA.active || l.headB.active) + 4 * b2n l.chatter + 2 * b2n l.pin + b2n l.dark

/-- LP_SLOT; 0 while the Tile holds no tick parameters. DEDUCED, log entry 62. -/
def lpSlot (s : State) : Nat :=
  match tileNow s with
  | some t => 65536 * (tMin t % 65536) + mainWindow t s.tile.lp.phaseNow % 65536
  | none => 0

/-- LP_FULL; 0 while the Tile holds no tick parameters. DEDUCED, log entry 62. -/
def lpFull (s : State) : Nat :=
  match tileNow s with
  | some t => 16777216 * depthOf t s.tile.lp.phaseNow + fullScale t s.tile.lp.phaseNow % 16777216
  | none => 0

def lpFade (s : State) : Nat := 65536 * s.tile.lp.target + s.tile.lp.f

def specLpGetStatus : OpSpec where
  opcode := 0x0B01
  onHead := false
  onTile := true
  run := fun c s =>
    ok c 0x0B01 (leBytes 4 (lpStatus s) ++ leBytes 4 (lpSlot s) ++ leBytes 4 (lpFull s) ++ leBytes 4 (lpFade s) ++
      leBytes 4 s.tile.lp.flags.length ++ leBytes 4 s.tile.lp.transitions.toNat) s

def execLpGetStatus (c : Cmd) (s : State) : Host.Outcome State Fault Refusal := runCmd specLpGetStatus c s

/-- LP_SET_CURRENT (R436, R649). -/
def specLpSetCurrent : OpSpec where
  opcode := 0x0B02
  onHead := false
  onTile := true
  frameable := true
  fits := fun n => n == 8
  params := fun c _ => inRange (fld c.params 0 1) 0 15 0
  run := fun c s =>
    let mask := fld c.params 0 1
    let g := fld c.params 4 3
    let f := tileFrame c s
    let s1 := match f with
      | some (n, _) => updLp (fun l => { l with curPend := l.curPend ++ [(n, mask, g)] }) s
      | none =>
        updLp (fun l =>
          { l with cur := setBanks mask g l.cur, curNow := if noFrames s then setBanks mask g l.curNow else l.curNow }) s
    okTarget c 0x0B02 f s1

def execLpSetCurrent (c : Cmd) (s : State) : Host.Outcome State Fault Refusal := runCmd specLpSetCurrent c s

/-- Set a trim; trims of 0 are not listed. -/
def setTrim (l : List (Nat × Int)) (k : Nat) (v : Int) : List (Nat × Int) := if v = 0 then delKey l k else putKey l k v

/-- The range checks of the trim commands. -/
def trimSpanErr (p : List Byte) : Option Err :=
  firstErr [inRange (fld p 0 2) 0 5759 0, inRange (fld p 2 2) 1 2048 2, inRange (fld p 4 1) 0 1 4,
    need (fld p 0 2 + fld p 2 2 ≤ 5760) (badParam 2)]

/-- LP_SET_TRIM (R436, R464). -/
def specLpSetTrim : OpSpec where
  opcode := 0x0B03
  onHead := false
  onTile := true
  fits := fun n => decide (8 ≤ n)
  params := fun c _ =>
    let p := c.params
    firstErr (trimSpanErr p :: need (p.length = 8 + fld p 2 2) badParamAny ::
      (List.range (fld p 2 2)).map (fun i => need (decide (-32 ≤ sfld p (8 + i) 1 ∧ sfld p (8 + i) 1 ≤ 31)) (badParam (8 + i))))
  run := fun c s =>
    let p := c.params
    let first := fld p 0 2
    let trim := (List.range (fld p 2 2)).foldl (fun l i => setTrim l (first + i) (sfld p (8 + i) 1)) s.tile.lp.trim
    let s1 := updLp (fun l => { l with trim := trim }) s
    if fld p 4 1 = 0 then ok c 0x0B03 [] s1
    else storeWrite .tile 1 [[{ key := keyTrims, index := first, payload := p.drop 8 }]] (some (c, 0x0B03, [])) 1 s1

def execLpSetTrim (c : Cmd) (s : State) : Host.Outcome State Fault Refusal := runCmd specLpSetTrim c s

/-- A golden trim; 0 where the golden copy holds none. DEDUCED, log entry 53. -/
def goldenTrim (k : Nat) (s : State) : Int :=
  match goldenCover keyTrims 1 k s with
  | some r => sfld r.payload (k - r.index) 1
  | none => 0

/-- The trims that the golden copy holds (R434). -/
def fillTrims (s : State) : State :=
  let trim := (List.range 5760).foldl (fun l k => setTrim l k (goldenTrim k s)) []
  updLp (fun l => { l with trim := trim, trimNow := trim }) s

def specLpGetTrim : OpSpec where
  opcode := 0x0B04
  onHead := false
  onTile := true
  fits := fun n => n == 8
  params := fun c _ => trimSpanErr c.params
  run := fun c s =>
    let p := c.params
    let v := fun (k : Nat) => if fld p 4 1 = 0 then (getKey s.tile.lp.trim k).getD 0 else goldenTrim k s
    ok c 0x0B04 ((List.range (fld p 2 2)).flatMap (fun i => leInt 1 (v (fld p 0 2 + i)))) s

def execLpGetTrim (c : Cmd) (s : State) : Host.Outcome State Fault Refusal := runCmd specLpGetTrim c s

/-- LP_FADE (R448, R649). -/
def specLpFade : OpSpec where
  opcode := 0x0B05
  onHead := false
  onTile := true
  frameable := true
  fits := fun n => n == 8
  params := fun c _ =>
    firstErr [need (fld c.params 0 2 ≤ 2400 ∨ fld c.params 0 2 = 4095) (badParam 0), inRange (fld c.params 2 2) 0 60000 2]
  run := fun c s =>
    let t := fld c.params 0 2
    let ms := fld c.params 2 2
    let f := tileFrame c s
    let s1 := updLp (fun l => { l with fadePend := l.fadePend ++ [(f.map Prod.fst, t, ms)] }) s
    let w : Int := wallOf .tile s
    okTarget c 0x0B05 f (if noFrames s then stepFade w (startFades 0 w s1) else s1)

def execLpFade (c : Cmd) (s : State) : Host.Outcome State Fault Refusal := runCmd specLpFade c s

/-- LP_SET_WAVEFORM (R451). -/
def specLpSetWaveform : OpSpec where
  opcode := 0x0B06
  onHead := false
  onTile := true
  fits := fun n => n == 8
  params := fun c _ =>
    let p := c.params
    firstErr [inRange (fld p 0 1) 0 3 0, inRange (fld p 1 1) 0 118 1, inRange (fld p 2 1) 0 100 2,
      need (fld p 1 1 + fld p 2 1 ≤ 218) (badParam 2)]
  run := fun c s =>
    let p := c.params
    let w : Wave := { tDg := fld p 1 1, tPc := fld p 2 1, vDg := fld p 3 1, vR := fld p 4 1, vG := fld p 5 1, vB := fld p 6 1 }
    ok c 0x0B06 [] (updLp (fun l => { l with waves := upd l.waves (fld p 0 1) (fun _ => w) }) s)

def execLpSetWaveform (c : Cmd) (s : State) : Host.Outcome State Fault Refusal := runCmd specLpSetWaveform c s

/-- LP_SET_SCAN (R440): in force at the next flip, or at once without frames. -/
def specLpSetScan : OpSpec where
  opcode := 0x0B07
  onHead := false
  onTile := true
  fits := fun n => n == 4
  params := fun c _ => inRange (fld c.params 0 1) 0 15 0
  run := fun c s =>
    let v := fld c.params 0 1
    ok c 0x0B07 [] (updLp (fun l => { l with phase := v, phaseNow := if noFrames s then v else l.phaseNow }) s)

def execLpSetScan (c : Cmd) (s : State) : Host.Outcome State Fault Refusal := runCmd specLpSetScan c s

/-- An entry of LP_GET_DEAD. -/
def deadEntry (d : DeadLamp) : Nat := d.x + 512 * d.y + 262144 * d.c + 1048576 * b2n d.short

def specLpGetDead : OpSpec where
  opcode := 0x0B08
  onHead := false
  onTile := true
  fits := fun n => n == 4
  run := fun c s =>
    let l := (s.tile.lp.flags.drop (fld c.params 0 2)).take 500
    ok c 0x0B08 (leBytes 2 s.tile.lp.flags.length ++ leBytes 2 l.length ++ l.flatMap (fun d => leBytes 4 (deadEntry d))) s

def execLpGetDead (c : Cmd) (s : State) : Host.Outcome State Fault Refusal := runCmd specLpGetDead c s

/-- LP_CLEAR_DEAD (R456, R457). -/
def clearDead (s : State) : State :=
  updLp (fun l => { l with flags := [], frameFlags := [], openRuns := [], shortRuns := [], samples := [], suspect := false }) s

def specLpClearDead : OpSpec where
  opcode := 0x0B09
  onHead := false
  onTile := true
  run := fun c s => ok c 0x0B09 [] (clearDead s)

def execLpClearDead (c : Cmd) (s : State) : Host.Outcome State Fault Refusal := runCmd specLpClearDead c s

def specLpSetDetect : OpSpec where
  opcode := 0x0B0A
  onHead := false
  onTile := true
  fits := fun n => n == 8
  run := fun c s =>
    let p := c.params
    ok c 0x0B0A [] (updLp (fun l =>
      { l with openEn := bit (fld p 0 1) 0, shortEn := bit (fld p 0 1) 1, shortV := [fld p 4 1, fld p 5 1, fld p 6 1] }) s)

def execLpSetDetect (c : Cmd) (s : State) : Host.Outcome State Fault Refusal := runCmd specLpSetDetect c s

/-! ## Lamp drive at a tick -/

/-- The flip's part of lamp drive: PHASE_STEP (R440), the flags of a frame (R456). -/
def lampFlip (s : State) : State := updLp (fun l => { l with phaseNow := l.phase, frameFlags := [] }) s

/-- What waits for a frame takes effect when a STOP does (R75). DEDUCED, log entry 49. -/
def lampStop (n : Nat) (t : Int) (s : State) : State :=
  let s1 := stepFade t (startFades n t (stepFade t (updLp (fun l => { l with fadePend := l.fadePend.map (fun e => (none, e.2)) }) s)))
  updLp (fun l =>
    let cur := l.curPend.foldl (fun c e => setBanks e.2.1 e.2.2 c) l.cur
    { l with cur := cur, curNow := cur, curPend := [] }) s1

/-! ## Register contents -/

def lpCtl (l : Lamp) : Nat := 256 * l.phase + 4 * b2n l.shortEn + 2 * b2n l.openEn + b2n l.en

/-- LP_TRIM_w. -/
def lpTrim (w : Nat) (s : State) : Nat :=
  ((List.range 4).map (fun i => 256 ^ i * unsigned 6 ((getKey s.tile.lp.trim (4 * w + i)).getD 0))).foldl (· + ·) 0

def lpTrimWrite (w : Nat) (v : Word) (s : State) : State :=
  updLp (fun l =>
    { l with trim := (List.range 4).foldl (fun t i => setTrim t (4 * w + i) (signed 6 (bits v.toNat (8 * i + 5) (8 * i)))) l.trim }) s

def lpWaveT (w : Wave) : Nat := 65536 * w.vDg + 256 * w.tPc + w.tDg
def lpWaveV (w : Wave) : Nat := 65536 * w.vB + 256 * w.vG + w.vR

def lpWaveWrite (n : Nat) (volts : Bool) (v : Word) (s : State) : State :=
  let a := bits v.toNat 7 0
  let b := bits v.toNat 15 8
  let c := bits v.toNat 23 16
  updLp (fun l => { l with waves := upd l.waves n (fun w =>
    if volts then { w with vR := a, vG := b, vB := c } else { w with tDg := a, tPc := b, vDg := c }) }) s

end Sys2Proof.Machine
end

