-- ==== Sys2Proof/Machine/DwOps.lean ====
section
/-!
DEFINITION. Dumbwaiter's channels (R499 to R511, R515): the channel table, doorbells, starting, stopping, abort and reload, the
end of count, and the commands.
-/
namespace Sys2Proof.Machine

/-- Dumbwaiter of a part. -/
def dwOf (p : Part) (s : State) : Dw := match p with | .head => s.head.dw | .tile => s.tile.dw

/-- Change it. -/
def updDw (p : Part) (f : Dw → Dw) (s : State) : State :=
  match p with
  | .head => { s with head.dw := f s.head.dw }
  | .tile => { s with tile.dw := f s.tile.dw }

/-- Channel `ch`. -/
def chanAt (p : Part) (ch : Nat) (s : State) : DwChan := (dwOf p s).chans.getD ch {}

/-- Change channel `ch`. -/
def updChan (p : Part) (ch : Nat) (f : DwChan → DwChan) (s : State) : State := updDw p (fun d => { d with chans := upd d.chans ch f }) s

/-- Channels, and the largest MAX_OUT, of a part (R497, R515). -/
def chanCount (p : Part) : Nat := match p with | .head => 64 | .tile => 8
def maxOutOf (p : Part) : Nat := match p with | .head => 64 | .tile => 16

/-- Bursts without a response, part-wide. -/
def burstsOut (p : Part) (s : State) : Nat := ((dwOf p s).chans.map (fun c => c.bursts.length)).foldl (· + ·) 0

/-! ## The Tile's local memory (R588) -/

/-- The bytes of the Tile's local memory outside the register windows. DEDUCED, log entry 69. -/
abbrev windowStart : Nat := 0x20000000
abbrev windowEnd : Nat := 0x20080000

/-- The memory holds an address. -/
def inWindow (a : Nat) : Bool := decide (windowStart ≤ a ∧ a < windowEnd)

/-- Read the Tile's local memory; other addresses read 0 (R125). DEDUCED, log entry 69. -/
def localRead (a n : Nat) (s : State) : List Byte :=
  (List.range n).map (fun i => if inWindow (a + i) then memGet s.tile.at_.mem (a + i) else 0)

/-- Write it; writes elsewhere are ignored (R125). DEDUCED, log entry 69. -/
def localWrite (a : Nat) : List Byte → State → State
  | [], s => s
  | b :: r, s =>
    localWrite (a + 1) r (if inWindow a then { s with tile.at_.mem := memPut s.tile.at_.mem a b } else s)

/-- A Dumbwaiter channel writes into Cellar, past the lease guard (R181, R239). -/
def cellarPut (a : Nat) (b : List Byte) (s : State) : State := submitWrite { cls := 4, req := .dumbwaiter, addr := a } b s

/-- Read a structure of Dumbwaiter: `host` is what host memory returned, none for a failed read. -/
def fetchBytes (p : Part) (space a n : Nat) (host : Option (List Byte)) (s : State) : Option (List Byte) × State :=
  match p with
  | .tile => (some (localRead a n s), s)
  | .head =>
    if space = 0 then (host.map (padTo n), emit .head (.hostRead a n) s)
    else
      let r := clRead 4 a n s
      (if r.2.1.isEmpty ∧ a + n ≤ cellarEnd then some r.1 else none, r.2.2)

/-- Write a structure of Dumbwaiter. -/
def putBytes (p : Part) (space a : Nat) (b : List Byte) (s : State) : State :=
  match p with
  | .tile => localWrite a b s
  | .head => if space = 0 then emit .head (.hostWrite a b) s else cellarPut a b s

/-! ## The table entry (R499, R500) -/

/-- The entry in 64 bytes. -/
def parseDwEntry (b : List Byte) : DwEntry :=
  { base := fld b 0 8, space := fld b 8 1, log2 := fld b 9 1, maxOut := fld b 10 1, irqEn := bit (fld b 11 1) 0, wbEn := bit (fld b 11 1) 1
    wbAddr := fld b 12 8, wbSpace := fld b 20 1, weight := fld b 21 1 }

/-- The 64 bytes of an entry. -/
def entryBytes (e : DwEntry) : List Byte :=
  leBytes 8 e.base ++ leBytes 1 e.space ++ leBytes 1 e.log2 ++ leBytes 1 e.maxOut ++ leBytes 1 (b2n e.irqEn + 2 * b2n e.wbEn) ++
    leBytes 8 e.wbAddr ++ leBytes 1 e.wbSpace ++ leBytes 1 e.weight ++ zeros 42

/-- A space that may hold a ring. -/
def ringSpace (p : Part) (v : Nat) : Bool := match p with | .head => decide (v ≤ 1) | .tile => decide (v = 1)

/-- Every field lies in its range. -/
def entryGood (p : Part) (e : DwEntry) : Bool :=
  decide (e.base % 64 = 0 ∧ 4 ≤ e.log2 ∧ e.log2 ≤ 16 ∧ 1 ≤ e.maxOut ∧ e.maxOut ≤ maxOutOf p ∧ e.wbAddr % 4 = 0 ∧ 1 ≤ e.weight ∧
    e.weight ≤ 16) && ringSpace p e.space && ringSpace p e.wbSpace

/-- Address of a channel's entry. -/
def entryAddr (p : Part) (ch : Nat) (s : State) : Nat := (dwOf p s).base + 64 * ch

/-- Read a channel's entry; none when it cannot be read or is out of range (R502). -/
def readEntry (p : Part) (ch : Nat) (host : Option (List Byte)) (s : State) : Option DwEntry × State :=
  let r := fetchBytes p (dwOf p s).space (entryAddr p ch s) 64 host s
  match r.1 with
  | some b => (if entryGood p (parseDwEntry b) then some (parseDwEntry b) else none, r.2)
  | none => (none, r.2)

/-! ## Interrupts and errors -/

/-- Signal a channel's vector (R112, R506). -/
def signalChan (p : Part) (ch : Nat) (s : State) : State := match p with | .head => emit .head (.msix (32 + ch)) s | .tile => s

/-- Answer the commands that wait on a channel, by opcode. -/
def answerWaits (p : Part) (ch : Nat) (ops : List Nat) (good : Bool) (s : State) : State :=
  let mine := (chanAt p ch s).waits.filter (fun w => ops.contains w.2)
  mine.foldl (fun a w => if good then ok w.1 w.2 [] a else failed w.1 w.2 0x0001 0 a)
    (updChan p ch (fun c => { c with waits := c.waits.filter (fun w => !ops.contains w.2) }) s)

/-- Enter ERROR (R502, R510, R515). -/
def enterError (p : Part) (ch : Nat) (ring : Bool) (det : Nat) (s : State) : State :=
  let s1 := updChan p ch (fun c =>
    { c with
      state := .error, runs := [], bursts := [], stopping := false, aborting := false, failing := 0, reload := none
      fetchError := c.fetchError || !ring, ringError := c.ringError || ring, irq := c.irq ||| 8#4 }) s
  let s2 := post p 0x0D 3 (if ring then 0x0003 else 0x0002) (BitVec.ofNat 32 ch) (BitVec.ofNat 64 det) s1
  let s3 := if (chanAt p ch s2).entry.irqEn then signalChan p ch s2 else s2
  answerWaits p ch [0x0D05] false (answerWaits p ch [0x0D03, 0x0D04] true s3)

/-! ## End of count (R504, R506 to R508, R511) -/

/-- DONE of a descriptor: 1 OK, 2 BAD, 3 ABORTED. -/
def doneCode (r : DwRun) : Nat := if r.err.isSome then 2 else if r.abortAt.isSome then 3 else 1

/-- RESIDUE, ERROR and ERR_OFFSET. -/
def residueOf (r : DwRun) : Nat × Nat × Nat :=
  match r.err with
  | some (code, left, off) => (left, code, off)
  | none => (r.abortAt.getD 0, 0, 0)

/-- The write-back of bytes [63:40] (R504). DEDUCED, log entry 67. -/
def backBytes (r : DwRun) (time : Nat) : List Byte :=
  let x := residueOf r
  leBytes 4 x.1 ++ leBytes 1 (doneCode r) ++ leBytes 1 x.2.1 ++ [0, 0] ++ leBytes 8 time ++ leBytes 4 x.2.2 ++ zeros 4

/-- Address of descriptor `k` in the ring (R501). -/
def descAddr (e : DwEntry) (k : BitVec 32) : Nat := e.base + 64 * (k.toNat % 2 ^ e.log2)

/-- DW_BAD, at most once per second per channel (R516). -/
def noteBad (p : Part) (ch : Nat) (r : DwRun) (s : State) : State :=
  let s1 := updChan p ch (fun c => { c with bad := c.bad + 1 }) s
  if s.now < (((chanAt p ch s).badPosted).map (fun t => t + 1000000000)).getD 0 then s1
  else
    post p 0x0D 2 0x0001 (BitVec.ofNat 32 (ch + 256 * (residueOf r).2.1)) (r.k.zeroExtend 64)
      (updChan p ch (fun c => { c with badPosted := some s.now }) s1)

/-- Write a descriptor back, in the order of R506. -/
def writeBack (p : Part) (ch : Nat) (r : DwRun) (s : State) : State :=
  let e := (chanAt p ch s).entry
  let t := wallOf p s
  let done := doneCode r
  let s1 := putBytes p e.space (descAddr e r.k + 40) (backBytes r t) s
  let s2 := updChan p ch (fun c => { c with head := r.k + 1, runs := c.runs.tail }) s1
  let s3 := if e.wbEn then putBytes p e.wbSpace e.wbAddr (leBytes 4 (r.k + 1).toNat) s2 else s2
  let s4 := if done = 1 ∧ bit r.desc.flags 1 ∧ p = .head then signalFence r.desc.fence (BitVec.ofNat 32 r.desc.fenceValue) t s3 else s3
  let s5 := if done = 3 then
      post p 0x0D 1 0x0004 (BitVec.ofNat 32 ch) (BitVec.ofNat 64 (residueOf r).1) (updChan p ch (fun c => { c with irq := c.irq ||| 4#4 }) s4)
    else if done = 2 then noteBad p ch r s4 else s4
  if bit r.desc.flags 0 ∧ e.irqEn then
    signalChan p ch (updChan p ch (fun c =>
      { c with irq := c.irq ||| (if done = 1 then 1#4 else if done = 2 then 3#4 else 0#4) }) s5)
  else s5

/-- A descriptor whose bursts are all answered, with none left to issue. -/
def runDone (c : DwChan) (r : DwRun) : Bool :=
  !(c.bursts.any (fun b => b.k == r.k)) && (r.left == 0 || r.err.isSome || r.abortAt.isSome)

/-- Write back what has ended, in ring order; `n` bounds how many. -/
def endRuns (p : Part) (ch : Nat) : Nat → State → State
  | 0, s => s
  | n + 1, s =>
    match (chanAt p ch s).runs with
    | r :: _ => if runDone (chanAt p ch s) r then endRuns p ch n (writeBack p ch r s) else s
    | [] => s

/-- A channel stops (R510). -/
def enterStopped (p : Part) (ch : Nat) (s : State) : State :=
  answerWaits p ch [0x0D03, 0x0D04] true
    (updChan p ch (fun c => { c with state := .stopped, stopping := false, aborting := false, runs := [], bursts := [] }) s)

/-- Take a reload at a descriptor boundary (R500). -/
def takeReload (p : Part) (ch : Nat) (host : Option (List Byte)) (s : State) : State :=
  let r := readEntry p ch host (updChan p ch (fun c => { c with reload := none }) s)
  match r.1 with
  | some e => answerWaits p ch [0x0D05] true (updChan p ch (fun c => { c with entry := e }) r.2)
  | none => enterError p ch false (entryAddr p ch s) r.2

/-- What follows once responses have arrived: write-backs, then ERROR, a reload or STOPPED. -/
def settle (p : Part) (ch : Nat) (s0 : State) : State :=
  let s := endRuns p ch (chanAt p ch s0).runs.length s0
  let c := chanAt p ch s
  if c.state ≠ .running then s
  else if c.failing ≠ 0 then
    if c.bursts.isEmpty then enterError p ch (decide (c.failing = 2)) c.failDet s else s
  else if ¬ c.runs.isEmpty then s
  else
    let s1 := match c.reload with
      | some host => takeReload p ch host s
      | none => s
    if (chanAt p ch s1).state = .running ∧ (c.stopping ∨ c.aborting) then enterStopped p ch s1 else s1

/-! ## Actions (R502, R510, R511) -/

/-- A doorbell further ahead than the ring is long (R502). -/
def tooFarAhead (c : DwChan) (e : DwEntry) (count : BitVec 32) : Bool := decide (2 ^ e.log2 < (count - c.head).toNat)

/-- Start a channel; a running one is left as it is. DESIGN CHOICE, log entry 10; DEDUCED, log entry 67. -/
def startChan (p : Part) (ch : Nat) (reset : Bool) (host : Option (List Byte)) (s : State) : State :=
  if (chanAt p ch s).state = .running then s
  else
    let s1 := if reset then updChan p ch (fun c => { c with tail := 0, head := 0 }) s else s
    let r := readEntry p ch host s1
    let s2 := updChan p ch (fun c => { c with fetchError := false, ringError := false, fetched := c.head, turn := 0 }) r.2
    match r.1 with
    | none => enterError p ch false (entryAddr p ch s) s2
    | some e =>
      let c := chanAt p ch s2
      let s3 := updChan p ch (fun c => { c with entry := e, state := .running }) s2
      if tooFarAhead c e c.tail then enterError p ch true c.tail.toNat s3 else s3

/-- Stop a channel after the descriptor in progress. -/
def stopChan (p : Part) (ch : Nat) (s : State) : State :=
  if (chanAt p ch s).state ≠ .running then s else settle p ch (updChan p ch (fun c => { c with stopping := true }) s)

/-- Abort a channel: the newest descriptor fetched is the one in progress. DEDUCED, log entry 67. -/
def abortChan (p : Part) (ch : Nat) (s : State) : State :=
  let c := chanAt p ch s
  if c.state ≠ .running ∨ c.aborting then s
  else
    let n := c.runs.length
    settle p ch (updChan p ch (fun c =>
      { c with
        aborting := true
        runs := c.runs.mapIdx (fun i r => if i + 1 = n ∧ r.err.isNone then { r with abortAt := some r.left } else r) }) s)

/-- Ask for a reload. DEDUCED, log entry 67. -/
def reloadChan (p : Part) (ch : Nat) (host : Option (List Byte)) (s : State) : State :=
  if (chanAt p ch s).state ≠ .running then s else settle p ch (updChan p ch (fun c => { c with reload := some host }) s)

/-- A failure ends a running channel once its responses are in. -/
def failChan (p : Part) (ch kind det : Nat) (s : State) : State :=
  settle p ch (updChan p ch (fun c => { c with failing := kind, failDet := det }) s)

/-- DW_CH_TAIL (R501, R502). DEDUCED, log entry 67. -/
def dwTail (p : Part) (ch : Nat) (count : Word) (s : State) : State :=
  let c := chanAt p ch s
  if c.state = .running ∧ tooFarAhead c c.entry count then
    if c.failing = 0 then failChan p ch 2 count.toNat s else s
  else updChan p ch (fun c => { c with tail := count }) s

def execDwChTail (p : Part) (ch : Nat) (count : Word) (s : State) : Host.Outcome State Fault Refusal :=
  onPart p (fun s => if ch < chanCount p then dwTail p ch count s else s) s

def execDwChCtlStart (p : Part) (ch : Nat) (reset : Bool) (host : Option (List Byte)) (s : State) : Host.Outcome State Fault Refusal :=
  onPart p (fun s => if ch < chanCount p then startChan p ch reset host s else s) s

def execDwChCtlStop (p : Part) (ch : Nat) (s : State) : Host.Outcome State Fault Refusal :=
  onPart p (fun s => if ch < chanCount p then stopChan p ch s else s) s

def execDwChCtlAbort (p : Part) (ch : Nat) (s : State) : Host.Outcome State Fault Refusal :=
  onPart p (fun s => if ch < chanCount p then abortChan p ch s else s) s

def execDwChCtlReload (p : Part) (ch : Nat) (host : Option (List Byte)) (s : State) : Host.Outcome State Fault Refusal :=
  onPart p (fun s => if ch < chanCount p then reloadChan p ch host s else s) s

/-- A write of DW_CH_CTL whose row carries no copy of host memory: what an entry there holds is free. -/
def dwCtlWrite (p : Part) (ch : Nat) (v : Word) (s : State) : State :=
  let d := draw s
  let host := some (Config.hostBytes d.1 (entryAddr p ch s))
  let s1 := if v.getLsbD 0 then startChan p ch (v.getLsbD 4) host d.2 else d.2
  let s2 := if v.getLsbD 1 then stopChan p ch s1 else s1
  let s3 := if v.getLsbD 2 then abortChan p ch s2 else s2
  if v.getLsbD 3 then reloadChan p ch host s3 else s3

/-! ## Register contents -/

def dwStateCode : DwState → Nat
  | .stopped => 0
  | .running => 1
  | .error => 2

def dwChStatus (c : DwChan) : Nat :=
  65536 * c.bursts.length + 8 * b2n c.ringError + 4 * b2n c.fetchError + dwStateCode c.state

/-! ## Commands (R515) -/

/-- CH in its range. -/
def chanErr (c : Cmd) : Option Err := inRange (fld c.params 0 1) 0 (chanCount c.part - 1) 0

/-- DW_SET_TABLE (R177, R515): a table in Cellar ends below 0xA_0000_0000. -/
def specDwSetTable : OpSpec where
  opcode := 0x0D01
  onTile := true
  fits := fun n => n == 12
  params := fun c _ =>
    let inCellar := c.part == .head && fld c.params 8 1 == 1
    firstErr [need (fld c.params 0 8 % 4096 = 0) (badParam 0), need (ringSpace c.part (fld c.params 8 1)) (badParam 8),
      need (!inCellar || decide (fld c.params 0 8 + 64 * chanCount .head ≤ cellarEnd)) (badParam 0)]
  state := fun c s => need (¬ (dwOf c.part s).chans.any (fun x => x.state == .running)) (errSt stBusy)
  run := fun c s =>
    ok c 0x0D01 [] (updDw c.part (fun d => { d with base := fld c.params 0 8, space := fld c.params 8 1 }) s)

def execDwSetTable (c : Cmd) (s : State) : Host.Outcome State Fault Refusal := runCmd specDwSetTable c s

/-- DW_CHANNEL_START. -/
def specDwChannelStart (host : Option (List Byte)) : OpSpec where
  opcode := 0x0D02
  onTile := true
  fits := fun n => n == 4
  params := fun c _ => chanErr c
  run := fun c s =>
    let ch := fld c.params 0 1
    let s1 := startChan c.part ch (bit (fld c.params 1 1) 0) host s
    if (chanAt c.part ch s1).state = .error then failed c 0x0D02 0x0001 0 s1 else ok c 0x0D02 [] s1

def execDwChannelStart (c : Cmd) (host : Option (List Byte)) (s : State) : Host.Outcome State Fault Refusal :=
  runCmd (specDwChannelStart host) c s

/-- Put a command among those that wait on a channel. -/
def waitOn (c : Cmd) (op : Nat) (s : State) : State :=
  updChan c.part (fld c.params 0 1) (fun x => { x with waits := x.waits ++ [(c, op)] }) s

/-- DW_CHANNEL_STOP. -/
def specDwChannelStop : OpSpec where
  opcode := 0x0D03
  onTile := true
  fits := fun n => n == 4
  params := fun c _ => chanErr c
  run := fun c s =>
    let ch := fld c.params 0 1
    if (chanAt c.part ch s).state ≠ .running then ok c 0x0D03 [] s else stopChan c.part ch (waitOn c 0x0D03 s)

def execDwChannelStop (c : Cmd) (s : State) : Host.Outcome State Fault Refusal := runCmd specDwChannelStop c s

/-- DW_CHANNEL_ABORT. -/
def specDwChannelAbort : OpSpec where
  opcode := 0x0D04
  onTile := true
  fits := fun n => n == 4
  params := fun c _ => chanErr c
  run := fun c s =>
    let ch := fld c.params 0 1
    if (chanAt c.part ch s).state ≠ .running then ok c 0x0D04 [] s else abortChan c.part ch (waitOn c 0x0D04 s)

def execDwChannelAbort (c : Cmd) (s : State) : Host.Outcome State Fault Refusal := runCmd specDwChannelAbort c s

/-- DW_CHANNEL_RELOAD. -/
def specDwChannelReload (host : Option (List Byte)) : OpSpec where
  opcode := 0x0D05
  onTile := true
  fits := fun n => n == 4
  params := fun c _ => chanErr c
  state := fun c s => need ((chanAt c.part (fld c.params 0 1) s).state = .running) (errSt stBusy)
  run := fun c s => reloadChan c.part (fld c.params 0 1) host (waitOn c 0x0D05 s)

def execDwChannelReload (c : Cmd) (host : Option (List Byte)) (s : State) : Host.Outcome State Fault Refusal :=
  runCmd (specDwChannelReload host) c s

/-- DW_GET_CHANNEL. -/
def specDwGetChannel : OpSpec where
  opcode := 0x0D06
  onTile := true
  fits := fun n => n == 4
  params := fun c _ => chanErr c
  run := fun c s =>
    let x := chanAt c.part (fld c.params 0 1) s
    ok c 0x0D06 (leBytes 4 (dwChStatus x) ++ leBytes 4 x.head.toNat ++ leBytes 4 x.tail.toNat ++ leBytes 4 x.irq.toNat ++
      entryBytes x.entry) s

def execDwGetChannel (c : Cmd) (s : State) : Host.Outcome State Fault Refusal := runCmd specDwGetChannel c s

end Sys2Proof.Machine
end

