-- ==== Sys2Proof/Machine/Mantel.lean ====
section
/-!
DEFINITION. Mantel: the servo (R47 to R50, R60 to R65), PTP (R51 to R56), chain time (R57 to R59), compare units
(R67 to R70), the commands of R71 to R77 and R647, and its registers (R79).
-/
namespace Sys2Proof.Machine

/-! ## Servo -/

/-- Step threshold and lock threshold in 1/256 ns (R48, R50: the Tile's on a Tile and on the twin port). -/
def stepThr (p : Part) (s : State) : Int :=
  match p with
  | .tile => 200 * 256
  | .head => if s.head.mt.srcPort = 6 then 200 * 256 else 256 * (s.head.time.cfg.stepThrNs : Int)

/-- Lock threshold in 1/256 ns (R48). -/
def lockThr (p : Part) (s : State) : Int :=
  match p with
  | .tile => 2 * 256
  | .head => if s.head.mt.srcPort = 6 then 2 * 256 else 256 * (s.head.time.cfg.lockThrNs : Int)

/-- A step is permitted (R46): no ticks run on the Head; the Tile's lamps are dark. -/
def stepPermitted (p : Part) (s : State) : Bool :=
  match p with
  | .head => !ticksRun s
  | .tile => s.tile.lp.dark

/-- The target a unit waits for (R67). -/
def trigTarget (t : Trig) : Nat := t.next

/-- The unit fires periodically (R67). -/
def isPeriodic (t : Trig) : Bool := t.periodic && t.period != 0

/-- The unit after its present target: a one-shot unit disarms, a periodic one takes its next target (R67). -/
def afterFiring (t : Trig) (late : Bool) : Trig :=
  { t with
    fired := true
    late := late
    arm := isPeriodic t
    done := trigTarget t :: t.done
    next := if isPeriodic t then trigTarget t + t.period.toNat else trigTarget t }

/-- A unit fires (R67, R68): flags, pulse, event. A unit that has fired for this target does not fire again; a periodic one goes
on to its next target. DEDUCED, log entry 88. -/
def fireTrig (p : Part) (u : Nat) (late : Bool) (s : State) : State :=
  let t := (mtOf p s).trigs.getD u {}
  let put := fun (t' : Trig) => setMt p { mtOf p s with trigs := upd (mtOf p s).trigs u (fun _ => t') } s
  if t.done.contains (trigTarget t) then
    put (if isPeriodic t then { t with next := trigTarget t + t.period.toNat } else t)
  else
    let s1 := put (afterFiring t late)
    let s2 := match p with
      | .head => if t.pulseW ≠ 0 ∧ (t.out = 1 ∨ t.out = 2) ∧ s.head.mt.ppsOutEn then
          emit .head (.pulse (t.out - 1) (8 * t.pulseW.toNat)) s1 else s1
      | .tile => s1
    if t.event then
      post p 0x02 0 0x0007 (BitVec.ofNat 32 (u + 256 * b2n late)) (BitVec.ofNat 64 (trigTarget t)) s2
    else s2

/-- Targets of an armed unit that lie before wall time `w`. -/
def passedTargets (t : Trig) (w : Nat) : Nat :=
  if ¬ t.arm ∨ w ≤ trigTarget t then 0
  else if isPeriodic t then (w - 1 - trigTarget t) / t.period.toNat + 1 else 1

/-- A unit fires at once, and late, for every target that has passed (R68, R69). DEDUCED, log entry 88. -/
def catchUp (p : Part) (u : Nat) (s : State) : State :=
  (List.range (passedTargets ((mtOf p s).trigs.getD u {}) (wallOf p s))).foldl (fun a _ => fireTrig p u true a) s

/-- Every armed unit whose target has passed fires late, in ascending unit number (R69, R70). -/
def fireLate (p : Part) (s : State) : State :=
  (List.range (mtOf p s).trigs.length).foldl (fun a u => catchUp p u a) s

/-- Add a signed number of ns to W_B (R46), with R69's consequence for the compare units. -/
def stepWall (p : Part) (d : Int) (s : State) : State :=
  let m := mtOf p s
  let s1 := setMt p { m with wB := BitVec.ofInt 64 ((m.wB.toNat : Int) + d), stepped := true } s
  if 0 < d then fireLate p s1 else s1

/-- R47's mean of RATE over the last second of the counter, weighted by time; before its first change RATE was its reset value, 0.
DESIGN CHOICE, log entry 13. -/
def meanRate (k : Nat) (m : Mantel) : Int :=
  let now := m.cnt.toNat
  let lo := now - 1000000000
  let acc := m.rateHist.foldl
    (fun (a : Int × Nat) e => (a.1 + e.2 * ((a.2 - max e.1 lo : Nat) : Int), min a.2 (max e.1 lo))) (0, now)
  if now = lo then m.rate else freeDiv k acc.1 ((now - lo : Nat) : Int)

/-- Source lost (R47): from ACQUIRING or LOCKED into HOLDOVER, the Head's RATE frozen at its mean, the Tile's
synthesiser frozen. DEDUCED, log entry 14. -/
def enterHoldover (p : Part) (s : State) : State :=
  let m := mtOf p s
  if m.servo ≠ .acquiring ∧ m.servo ≠ .locked then s
  else
    let lostPort := BitVec.ofNat 32 m.srcPort
    let d := draw s
    let m1 := match p with
      | .head => setRate (meanRate d.1 m) m
      | .tile => m
    let m2 := { m1 with servo := .holdover, srcPort := 15, holdSince := wall m, inCount := 0, outCount := 0 }
    let detB : BitVec 64 := match p with | .head => BitVec.ofInt 64 m2.rate | .tile => 0
    post p 0x02 2 0x0004 lostPort detB (setMt p m2 d.2)

/-- Source present: FREE_RUN, HOLDOVER and EXPIRED go to ACQUIRING (R47), unless HOLD or manual mode stops the
servo. -/
def sourcePresent (p : Part) (port : Nat) (s : State) : State :=
  let m := mtOf p s
  if m.manual ∨ m.hold ∨ (p = .head ∧ firmwareGone s) then s
  else if m.servo = .acquiring ∨ m.servo = .locked then s
  else setMt p { m with servo := .acquiring, srcPort := port, inCount := 0, outCount := 0 } s

/-- The Head's source is now `port` (R47, R49, R50): a Head on its twin's time regains a source of its own and samples it afresh;
another change of source keeps the servo's state. DEDUCED, log entry 14. -/
def headSource (port : Nat) (s : State) : State :=
  let m := s.head.mt
  if m.manual ∨ m.hold ∨ firmwareGone s ∨ (m.servo ≠ .acquiring ∧ m.servo ≠ .locked) then sourcePresent .head port s
  else if m.srcPort = 6 then { s with head.mt := { m with servo := .acquiring, srcPort := port, inCount := 0, outCount := 0 } }
  else { s with head.mt.srcPort := port }

/-- The servo's own rate after a sample at or below the step threshold: a free value (R47, R63). DESIGN CHOICE, log entry 13. -/
def servoAdjust (p : Part) (s : State) : State :=
  let d := draw s
  let m := mtOf p d.2
  setMt p { setRate (Config.servoRate d.1) m with freqEst := Config.freqEstimate d.1 } d.2

/-- One offset sample, in 1/256 ns, of the source's time minus local wall time (R47). -/
def offsetSample (p : Part) (off : Int) (s0 : State) : State :=
  let s := setMt p { mtOf p s0 with lastOffset := off } s0
  let m := mtOf p s
  let port := BitVec.ofNat 32 m.srcPort
  if m.manual ∨ (p = .head ∧ firmwareGone s) then s
  else match m.servo with
    | .acquiring =>
      if stepThr p s < off.natAbs then
        if stepPermitted p s then
          let d := draw s
          let ns := freeDiv d.1 off 256
          let s1 := stepWall p ns d.2
          let s2 := setMt p { mtOf p s1 with inCount := 0 } s1
          post p 0x02 1 0x0001 port (BitVec.ofInt 64 ns) s2
        else
          let r := m.freqEst + (if 0 < off then 549755813 else -549755813)
          setMt p { setRate r m with inCount := 0 } s
      else
        let s1 := servoAdjust p s
        let n := if off.natAbs ≤ lockThr p s then m.inCount + 1 else 0
        if 16 ≤ n then
          post p 0x02 1 0x0002 port (BitVec.ofInt 64 off)
            (setMt p { mtOf p s1 with servo := .locked, inCount := 0, outCount := 0 } s1)
        else setMt p { mtOf p s1 with inCount := n } s1
    | .locked =>
      let s1 := servoAdjust p s
      let n := if 10 * lockThr p s < off.natAbs then m.outCount + 1 else 0
      if 4 ≤ n then
        post p 0x02 2 0x0003 port (BitVec.ofInt 64 off)
          (setMt p { mtOf p s1 with servo := .acquiring, inCount := 0, outCount := 0 } s1)
      else setMt p { mtOf p s1 with outCount := n } s1
    | _ => s

/-- R61: the first sample after a change of a Tile's time-source port. There is no fourth sample then, and DETAIL_B of its
TIME_UNLOCK (R80) is this sample. DESIGN CHOICE, log entry 99. -/
def firstSampleAfterChange (off : Int) (s : State) : State :=
  let s0 := { s with tile.time.changed := false }
  if off.natAbs ≤ 200 * 256 then offsetSample .tile off s0
  else
    let port := BitVec.ofNat 32 s0.tile.mt.srcPort
    let s1 := setMt .tile { s0.tile.mt with servo := .acquiring, inCount := 0, outCount := 0 } s0
    let s2 := post .tile 0x02 2 0x0003 port (BitVec.ofInt 64 off) s1
    offsetSample .tile off (darken 4 s2)

/-- SERVO_MODE set to manual (R47): the servo stops in FREE_RUN and RATE holds its value. -/
def servoManual (p : Part) (s : State) : State :=
  setMt p { mtOf p s with manual := true, servo := .freeRun, srcPort := 15, inCount := 0, outCount := 0 } s

/-- HOLD set (MT_CTL): HOLDOVER as if the source were lost. -/
def holdSet (p : Part) (s : State) : State := enterHoldover p (setMt p { mtOf p s with hold := true } s)

/-! ## Chain time -/

/-- A port is a valid time source at `now` (R59). -/
def timeValid (now : Nat) (t : TimePort) : Bool :=
  match t.last with
  | some m => now ≤ t.lastAt + 100000 && (m.path || t.v1) && (m.state == 2 || m.state == 3)
  | none => false

/-- Chain-time port `k` of a part. -/
def timePort (p : Part) (k : Nat) (s : State) : TimePort := (mtOf p s).ports.getD k {}

/-- Change it. -/
def updTimePort (p : Part) (k : Nat) (f : TimePort → TimePort) (s : State) : State :=
  setMt p { mtOf p s with ports := upd (mtOf p s).ports k f } s

/-- HOPS as sent (R57). -/
def hopsOut (p : Part) (s : State) : Nat := match p with | .head => 0 | .tile => s.tile.mt.hops

/-- PATH of a TIME message out of a port (R59). -/
def pathOut (p : Part) (k : Nat) (s : State) : Bool :=
  match p with
  | .head => (s.head.mt.servo == .locked || s.head.mt.servo == .holdover) && !(s.head.mt.srcPort == 6 && k == 32)
  | .tile => timeValid s.now (timePort .tile (1 - k) s)

/-- STATE code of the servo. -/
def servoCode (v : Servo) : Nat :=
  match v with | .freeRun => 0 | .acquiring => 1 | .locked => 2 | .holdover => 3 | .expired => 4

/-- TIME_MESSAGE_SEND (R57, R345): the fields in the order of R57's table. Before a port has received a message it echoes SEQ 0
and time 0. DESIGN CHOICE, log entry 15. -/
def execTimeMessageSend (p : Part) (port : Nat) (s : State) : Host.Outcome State Fault Refusal :=
  onPart p (fun s =>
    let t := timePort p port s
    let due : Bool := match t.lastSent with | some n => decide (n + 16000 ≤ s.now) | none => true
    if (portAt p port s).state ≠ .active ∨ ¬ due ∨ (portAt p port s).cred.getD 0 0 = 0 then s
    else
      let w := wallOf p s
      let dep : BitVec 40 := BitVec.ofNat 40 (256 * w)
      let sec := if t.sentCount % 64 = Config.secPhase % 64 then some (w / 1000000000) else none
      let echo := match t.last with | some m => (m.seq, t.lastArr) | none => (0, 0)
      let f : List Int :=
        [t.nextSeq.toNat, dep.toNat, echo.1.toNat, echo.2.toNat, servoCode (mtOf p s).servo, hopsOut p s,
         b2n (pathOut p port s), (sec.getD 0 : Nat), b2n sec.isSome]
      timeSend p port 0x78 f
        (updTimePort p port (fun t =>
          { t with
            nextSeq := t.nextSeq + 1
            sentCount := t.sentCount + 1
            sent := (t.nextSeq, dep) :: t.sent.take 255
            lastSent := some s.now }) s)) s

/-- Path delay D of one exchange (R58) in 1/256 ns, rounded freely (log entry 13), when the echo names a message this port sent,
SEQ 0 included. DESIGN CHOICE, log entry 83. -/
def exchangeDelay (k : Nat) (t : TimePort) (m : TimeMsg) (arr : BitVec 40) : Option Int :=
  (getKey t.sent m.echoSeq).map (fun t3 =>
    freeDiv k (sdiffW 40 arr.toNat m.tDep.toNat + sdiffW 40 m.tEchoArr.toNat t3.toNat) 2)

/-- Mean of the last 64 exchanges (R58), rounded freely; 0 before any exchange. DESIGN CHOICE, log entry 83. -/
def meanDelay (k : Nat) (l : List Int) : Int := if l.isEmpty then 0 else freeDiv k (sumI l) (l.length : Int)

/-- Offset sample of a TIME message (R58): (t1 + D) − t2. With SEC present the whole of wall time is compared,
without it short time. -/
def timeOffset (w : Nat) (m : TimeMsg) (arr : BitVec 40) (d : Int) : Int :=
  let short := sdiffW 40 m.tDep.toNat arr.toNat + d
  match m.sec with
  | none => short
  | some sec =>
    let lo := sec * 1000000000
    let tns := m.tDep.toNat / 256
    let w1 := lo + (tns + 4294967296 - lo % 4294967296) % 4294967296
    let here := 256 * (w : Int) + sdiffW 40 arr.toNat ((256 * w) % 1099511627776)
    256 * (w1 : Int) + (m.tDep.toNat % 256 : Nat) + d - here

/-- Port `k` of the Tile has been valid without a break for 1 s (R60). -/
def validSecond (k : Nat) (s : State) : Bool :=
  match (timePort .tile k s).validSince with
  | some t0 => timeValid s.now (timePort .tile k s) && t0 + 1000000000 ≤ s.now
  | none => false

/-- The Tile chooses a time-source port (R60): Port 0 while valid, else Port 1, else HOLDOVER (R65). A Tile on Port 1 returns to
Port 0 only after its second, also when Port 1 is no longer valid. DEDUCED, log entry 89. Going to HOLDOVER and out of it is no
change of port in the sense of R61. DESIGN CHOICE, log entry 99. -/
def tileReselect (s : State) : State :=
  let cur := s.tile.mt.srcPort
  let ok := fun k => timeValid s.now (timePort .tile k s)
  if s.tile.mt.manual ∨ s.tile.mt.hold then s
  else if cur = 0 ∧ ok 0 then s
  else if cur = 1 ∧ ok 1 then s
  else if cur = 0 ∧ ok 1 then { s with tile.mt.srcPort := 1, tile.time.changed := true }
  else if cur = 1 ∧ ok 0 then (if validSecond 0 s then { s with tile.mt.srcPort := 0, tile.time.changed := true } else s)
  else if ok 0 then sourcePresent .tile 0 s
  else if ok 1 then sourcePresent .tile 1 s
  else enterHoldover .tile s

/-- HOPS of the Tile follows its source (R57), and keeps its value without one. DESIGN CHOICE, log entry 15. -/
def tileHops (s : State) : State :=
  match (timePort .tile s.tile.mt.srcPort s).last with
  | some m => if s.tile.mt.srcPort ≤ 1 then { s with tile.mt.hops := min 15 (m.hops + 1) } else s
  | none => s

/-- The record of a TIME message at a port (R58 to R60): D of the last 64 exchanges, and since when the port is valid without a
break. -/
def recordTime (k now : Nat) (m : TimeMsg) (arr : BitVec 40) (t : TimePort) : TimePort :=
  let t1 := { t with
    last := some m, lastArr := arr, lastAt := now
    dHist := match exchangeDelay k t m arr with | some d => (d :: t.dHist).take 64 | none => t.dHist }
  { t1 with
    validSince := if timeValid now t1 then some (if timeValid now t then t.validSince.getD now else now) else none }

/-- A TIME message at the Tile after it is recorded: choice of port, the sample. DESIGN CHOICE, log entry 15. -/
def tileTime (port : Nat) (off : Int) (s : State) : State :=
  let ok := timeValid s.now (timePort .tile port s)
  let s2 := tileHops (tileReselect s)
  if ok ∧ s2.tile.mt.srcPort = port then
    if s2.tile.time.changed then firstSampleAfterChange off s2 else offsetSample .tile off s2
  else s2

/-- A TIME message on the Head's twin port: MT_TWIN_OFFSET (R64), its low 32 bits, and the twin as source in HOLDOVER (R50), which
the Head leaves at the first message that is not LOCKED with PATH 1. DESIGN CHOICE, log entry 99. -/
def twinTime (off : Int) (m : TimeMsg) (s : State) : State :=
  let above := 256 * (s.head.time.twinThr : Int) < off.natAbs
  let s1 := { s with
    head.time.twinOffset := BitVec.ofInt 32 off
    head.time.twinOverSince := if above then some (s.head.time.twinOverSince.getD s.now) else none }
  let good := m.state = 2 ∧ m.path
  if good ∧ s1.head.mt.servo = .holdover then
    let s2 := sourcePresent .head 6 s1
    if s2.head.mt.srcPort = 6 then offsetSample .head off s2 else s2
  else if s1.head.mt.srcPort = 6 then
    if good then offsetSample .head off s1 else enterHoldover .head s1
  else s1

/-- TIME_MESSAGE_RECEIVED (R58, R59, R61, R64, R50, R339). -/
def execTimeMessageReceived (p : Part) (port : Nat) (m : TimeMsg) (arrival : BitVec 40) (s : State) :
    Host.Outcome State Fault Refusal :=
  onPart p (fun s =>
    let d := draw s
    let e := draw d.2
    let t := recordTime d.1 s.now m arrival (timePort p port s)
    let off := timeOffset (wallOf p s) m arrival (meanDelay e.1 t.dHist)
    let s1 := timeTaken p port (updTimePort p port (fun _ => t) e.2)
    match p with
    | .tile => tileTime port off s1
    | .head => if port = 32 then twinTime off m s1 else s1) s

/-- TIME_SOURCE_INVALID (R59, R60, R65, R50): no valid TIME message on a port for 100 µs. -/
def execTimeSourceInvalid (p : Part) (port : Nat) (s : State) : Host.Outcome State Fault Refusal :=
  onPart p (fun s =>
    if timeValid s.now (timePort p port s) then s
    else
      let s1 := updTimePort p port (fun t => { t with validSince := none }) s
      match p with
      | .tile => tileHops (tileReselect s1)
      | .head => if port = 32 ∧ s1.head.mt.srcPort = 6 then enterHoldover .head s1 else s1) s

/-- TIME_SOURCE_RETURN (R60): Port 0 has been valid for 1 s without a break. -/
def execTimeSourceReturn (s : State) : Host.Outcome State Fault Refusal :=
  onPart .tile (fun s =>
    if s.tile.mt.srcPort = 1 ∧ validSecond 0 s then
      tileHops { s with tile.mt.srcPort := 0, tile.time.changed := true }
    else s) s

/-- HOLDOVER_EXPIRED (R47, R65). -/
def execHoldoverExpired (s : State) : Host.Outcome State Fault Refusal :=
  onPart .tile (fun s =>
    let w := wall s.tile.mt
    if s.tile.mt.servo = .holdover ∧ s.tile.mt.holdSince + 1000000 * s.tile.time.holdLimitMs ≤ w then
      let s1 := darken 4 { s with tile.mt.servo := .expired }
      post .tile 0x02 3 0x0005 0 (BitVec.ofNat 64 (w - s.tile.mt.holdSince)) s1
    else s) s

/-- TWIN_TIME_ALARM (R64): sets after 1 s above the threshold, clears when the offset falls back. -/
def execTwinTimeAlarm (s : State) : Host.Outcome State Fault Refusal :=
  onPart .head (fun s =>
    let off := s.head.time.twinOffset.signExtend 64
    match s.head.time.twinOverSince with
    | some t0 =>
      if ¬ s.head.time.twinAlarm ∧ t0 + 1000000000 ≤ s.now then
        post .head 0x02 2 0x0006 1 off { s with head.time.twinAlarm := true }
      else s
    | none =>
      if s.head.time.twinAlarm then post .head 0x02 2 0x0006 0 off { s with head.time.twinAlarm := false } else s) s

/-! ## PTP and 1PPS -/

/-- 2^k seconds in ns, for the message intervals of R77. -/
def logInterval (k : Int) : Nat := if k < 0 then 1000000000 / 2 ^ (-k).toNat else 1000000000 * 2 ^ k.toNat

/-- Lexicographic comparison of two datasets: `true` when the first is better. -/
def better : List Nat → List Nat → Bool
  | a :: x, b :: y => if a < b then true else if b < a then false else better x y
  | _, _ => false

/-- The dataset of an Announce for the best master clock algorithm. -/
def dataset (m : PtpMsg) : List Nat :=
  [m.priority1, m.clockClass, m.accuracy, m.variance, m.priority2, m.gmIdentity, m.stepsRemoved, m.clockIdentity,
   m.portNumber]

/-- A foreign master is qualified: two Announces within four announce intervals, the last not older than the
receipt timeout (R49, IEEE 1588-2019). DEDUCED, log entry 16. -/
def qualified (c : PtpCfg) (w : Nat) (f : Foreign) : Bool :=
  match f.prev with
  | some q => f.last ≤ q + 4 * logInterval c.logAnnounce && w < f.last + c.announceTimeout * logInterval c.logAnnounce
  | none => false

/-- The best qualified master at wall time `w`. DEDUCED, log entry 16. -/
def bestMaster (h : HeadTime) (w : Nat) : Option Foreign :=
  (h.foreign.filter (qualified h.cfg w)).foldl (fun acc f =>
    match acc with
    | none => some f
    | some g => if better (dataset f.msg) (dataset g.msg) then some f else some g) none

/-- A master-capable clock compares its own dataset first (roles 1 and 2). -/
def ownBetter (c : PtpCfg) (f : Foreign) : Bool :=
  (c.role == 1 || c.role == 2) &&
    better [c.priority1, 248, 0xFE, 0xFFFF, c.priority2, Config.clockIdentity, 0, Config.clockIdentity, 0] (dataset f.msg)

/-- No master is followed: a source on a PTP port is lost (R47, R49). -/
def noMaster (s : State) : State :=
  let s1 := { s with head.time.masterNow := false }
  if s1.head.mt.srcPort ≤ 5 then enterHoldover .head s1 else s1

/-- Follow the best master, or none (R47, R49, R51). -/
def chooseMaster (s : State) : State :=
  let h := s.head.time
  match bestMaster h (wall s.head.mt) with
  | some f =>
    if h.cfg.role = 3 ∨ ownBetter h.cfg f then noMaster s
    else
      let s1 := { s with
        head.time.master := some f.msg, head.time.masterPort := f.port, head.time.masterNow := true
        head.time.lastAnnounce := f.last }
      headSource f.port s1
  | none => noMaster s

/-- Record an Announce: at most 16 foreign masters per port. DEDUCED, log entry 16. -/
def addForeign (port : Nat) (m : PtpMsg) (s : State) : State :=
  let w := wall s.head.mt
  let same := fun (f : Foreign) => f.port == port && f.msg.clockIdentity == m.clockIdentity && f.msg.portNumber == m.portNumber
  let l := s.head.time.foreign
  if l.any same then
    { s with head.time.foreign := l.map (fun f => if same f then { f with msg := m, prev := some f.last, last := w } else f) }
  else if (l.filter (fun f => f.port == port)).length < 16 then
    { s with head.time.foreign := l ++ [{ port := port, msg := m, last := w, prev := none }] }
  else s

/-- Whether a message comes from the master followed on a port. -/
def fromMaster (port : Nat) (m : PtpMsg) (s : State) : Bool :=
  s.head.time.masterNow && s.head.time.masterPort == port &&
    (match s.head.time.master with
     | some g => g.clockIdentity == m.clockIdentity && g.portNumber == m.portNumber
     | none => false)

/-- Corrected receive timestamp in 1/256 ns (R54). DEDUCED, log entry 17. -/
def rxTs (port : Nat) (raw : Int) (s : State) : Int :=
  let t := s.head.time.ts.getD port {}
  raw - 16 * (t.rxInt.toNat : Int) - 16 * t.rxBoard.toInt

/-- Corrected transmit timestamp in 1/256 ns (R54). DEDUCED, log entry 17. -/
def txTs (port : Nat) (raw : Int) (s : State) : Int :=
  let t := s.head.time.ts.getD port {}
  raw + 16 * (t.txInt.toNat : Int) + 16 * t.txBoard.toInt

/-- The delay asymmetry of a port in 1/256 ns (R56). DEDUCED, log entry 17. -/
def asymOf (port : Nat) (s : State) : Int := (s.head.time.ts.getD port {}).asym.toInt

/-- A Sync's t1 and t2 are known: the offset from the master and the servo's sample. DEDUCED, log entry 17. -/
def syncSample (port : Nat) (t1 t2 : Int) (s : State) : State :=
  let ofm := t2 - t1 - s.head.time.mpd - asymOf port s
  offsetSample .head (-ofm) { s with head.time.t1 := some t1, head.time.t2 := some t2, head.time.lastOffset := ofm }

/-- No PTP instance uses a disabled port (R175). -/
def ptpPortOff (port : Nat) (s : State) : Bool := decide (port < 4) && (s.head.fy.ports.getD port {}).mode == 0

/-- A PTP message processed by the instance (R47, R51, R53, R54, R56). -/
def ptpMessage (port : Nat) (m : PtpMsg) (rawTs : Int) (s : State) : State :=
  let c := s.head.time.cfg
  if m.domain ≠ c.domain ∨ m.transport ≠ c.transport ∨ ¬ c.portMask.getLsbD port ∨ ptpPortOff port s then s
  else match m.kind with
    | .management => s
    | .announce => if c.role = 3 then s else chooseMaster (addForeign port m s)
    | .sync =>
      if fromMaster port m s ∧ s.head.mt.tsEn then
        let t2 := rxTs port rawTs s
        if m.twoStep then { s with head.time.syncWait := some (m.seqId, t2 - m.correction) }
        else syncSample port (256 * m.originTs + m.correction) t2 s
      else s
    | .followUp =>
      match s.head.time.syncWait with
      | some (q, t2) =>
        if fromMaster port m s ∧ q = m.seqId then
          syncSample port (256 * m.originTs + m.correction) t2 { s with head.time.syncWait := none }
        else s
      | none => s
    | .delayReq =>
      if (c.role = 1 ∨ c.role = 2 ∨ c.role = 3) ∧ ¬ (s.head.time.masterNow ∧ s.head.time.masterPort = port) ∧ s.head.mt.tsEn then
        emit .head (.eth port 9 [m.seqId, m.clockIdentity, m.portNumber, rxTs port rawTs s]) s
      else s
    | .delayResp =>
      match s.head.time.t1, s.head.time.t2, s.head.time.t3 with
      | some t1, some t2, some (q, t3) =>
        if fromMaster port m s ∧ q = m.seqId ∧ m.reqIdentity = Config.clockIdentity then
          let t4 := 256 * m.originTs - m.correction
          let d := draw s
          { d.2 with head.time.mpd := freeDiv d.1 ((t2 - t1) + (t4 - t3)) 2, head.time.t3 := none }
        else s
      | _, _, _ => s

/-- PTP_MESSAGE_RECEIVED (R53). -/
def execPtpMessageReceived (port : Nat) (m : PtpMsg) (rawTs : Int) (s : State) : Host.Outcome State Fault Refusal :=
  onPart .head (ptpMessage port m rawTs) s

/-- CLOCK_CLASS of R647; in grandmaster role the class of R52, and that of HOLDOVER while time comes from the twin (R50). -/
def clockClassOut (s : State) : Nat :=
  if s.head.time.cfg.role = 3 then
    if ¬ s.head.time.ppsSeen then 248
    else if s.head.mt.srcPort = 6 ∨ s.head.mt.servo = .holdover then 7
    else if s.head.mt.srcPort = 7 ∧ s.head.mt.servo = .locked then 6
    else Config.gmClassAcquiring
  else match s.head.time.master with
    | some m => m.clockClass
    | none => 248

/-- The clock class announced: R52's in grandmaster role; else a Head in HOLDOVER, or on its twin's time, announces class 7 (R50),
one that follows a master that master's class, and one that follows none 248. PRESUMED, log entry 86. -/
def announceClass (s : State) : Nat :=
  if s.head.time.cfg.role = 3 then clockClassOut s
  else if s.head.mt.servo = .holdover ∨ s.head.mt.srcPort = 6 then 7
  else if s.head.time.masterNow then clockClassOut s
  else 248

/-- PTP_MESSAGE_SEND (R51, R52, R54, R77): Announce and Sync as master, Delay_Req as slave. -/
def execPtpMessageSend (port : Nat) (kind : PtpKind) (rawTs : Int) (s : State) : Host.Outcome State Fault Refusal :=
  onPart .head (fun s =>
    let c := s.head.time.cfg
    let slave := s.head.time.masterNow ∧ s.head.time.masterPort = port
    let master := (c.role = 1 ∨ c.role = 2 ∨ c.role = 3) ∧ ¬ slave
    let seq := s.head.time.txSeq
    let s1 := { s with head.time.txSeq := (seq + 1) % 65536 }
    if ¬ c.portMask.getLsbD port ∨ ptpPortOff port s then s
    else match kind with
      | .announce =>
        if master then
          emit .head (.eth port 11 [seq, c.domain, c.priority1, announceClass s, c.priority2, Config.clockIdentity]) s1
        else s
      | .sync =>
        if master ∧ s.head.mt.tsEn then
          emit .head (.eth port (if c.flags.getLsbD 0 then 0 else 8) [seq, c.domain, txTs port rawTs s]) s1
        else s
      | .delayReq =>
        if slave ∧ s.head.mt.tsEn then
          emit .head (.eth port 1 [seq, c.domain, b2n (c.flags.getLsbD 1)])
            { s1 with head.time.t3 := some (seq, txTs port rawTs s) }
        else s
      | _ => s) s

/-- PPS_IN_EDGE (R47, R52): a rising edge in grandmaster role. -/
def execPpsInEdge (s : State) : Host.Outcome State Fault Refusal :=
  onPart .head (fun s =>
    if s.head.time.cfg.role ≠ 3 then s
    else
      let w := wall s.head.mt
      let off : Int := 256 * ((s.head.time.todSec.toNat * 1000000000 : Nat) - (w : Int))
      let s1 := { s with
        head.time.ppsLast := w, head.time.ppsSeen := true, head.time.todSec := s.head.time.todSec + 1
        head.time.ppsOffset := -off }
      let s2 := headSource 7 s1
      if s2.head.mt.srcPort = 7 then offsetSample .head off s2 else s2) s

/-- ANNOUNCE_TIMEOUT (R49): the receipt timeout on the slave port with no other qualified master. -/
def execAnnounceTimeout (port : Nat) (s : State) : Host.Outcome State Fault Refusal :=
  onPart .head (fun s =>
    let h := s.head.time
    if h.masterNow ∧ h.masterPort = port ∧
        h.lastAnnounce + h.cfg.announceTimeout * logInterval h.cfg.logAnnounce ≤ wall s.head.mt then
      chooseMaster s
    else s) s

/-- PPS_LOSS_TIMEOUT (R49): no edge for 2 s in grandmaster role. -/
def execPpsLossTimeout (s : State) : Host.Outcome State Fault Refusal :=
  onPart .head (fun s =>
    if s.head.mt.srcPort = 7 ∧ s.head.time.ppsLast + 2000000000 ≤ wall s.head.mt then
      enterHoldover .head s
    else s) s

/-! ## Registers -/

/-- MT_CNT_LO read (R79): latch the upper half and the wall time of the same counter value. -/
def cntLoRead (p : Part) (s : State) : Word × State :=
  let m := mtOf p s
  let w := wall m
  (BitVec.ofNat 32 m.cnt.toNat,
   setMt p { m with
     latCntHi := BitVec.ofNat 32 (m.cnt.toNat / 4294967296)
     latNs := BitVec.ofNat 32 (w % 1000000000)
     latSec := BitVec.ofNat 48 (w / 1000000000) } s)

/-- A write to MT_RATE: in manual mode only (R44, R45). -/
def rateWrite (p : Part) (v : Word) (s : State) : State :=
  if (mtOf p s).manual then setMt p (setRate v.toInt (mtOf p s)) s else s

/-- A write to MT_CTL (R12, R646). DEDUCED, log entry 12. -/
def mtCtlWrite (p : Part) (v : Word) (s : State) : State :=
  let mode := bits v.toNat 7 6
  let s1 := match p with
    | .head => { s with head.mt.tsEn := v.getLsbD 5, head.mt.ppsOutEn := v.getLsbD 4 }
    | .tile => s
  let s2 :=
    if mode = 1 then (if (mtOf p s1).manual then s1 else servoManual p s1)
    else if mode = 0 then setMt p { mtOf p s1 with manual := false } s1
    else s1
  if v.getLsbD 0 then (if (mtOf p s2).hold then s2 else holdSet p s2)
  else setMt p { mtOf p s2 with hold := false } s2

/-- A write to MT_TRIG_CTL of unit `u` (R67, R68, R646). -/
def trigCtlWrite (p : Part) (u : Nat) (v : Word) (s : State) : State :=
  let m := mtOf p s
  let t := m.trigs.getD u {}
  let o := bits v.toNat 15 12
  let rise := v.getLsbD 0 && !t.arm
  let t' := { t with
    pulseW := BitVec.ofNat 8 (bits v.toNat 23 16)
    out := if p = .head ∧ o ≤ 2 then o else t.out
    late := t.late && !v.getLsbD 5
    fired := t.fired && !v.getLsbD 4
    event := v.getLsbD 3
    periodic := v.getLsbD 2
    arm := v.getLsbD 0
    next := if rise then t.tgt.toNat else t.next }
  let s1 := setMt p { m with trigs := upd m.trigs u (fun _ => t') } s
  if rise then catchUp p u s1 else s1

/-- A write to one half of an armed or idle unit's target (R68). -/
def trigTgtWrite (p : Part) (u : Nat) (hi : Bool) (v : Word) (s : State) : State :=
  let m := mtOf p s
  let t := m.trigs.getD u {}
  let tgt : BitVec 64 :=
    if hi then v ++ BitVec.ofNat 32 t.tgt.toNat else BitVec.ofNat 32 (t.tgt.toNat / 4294967296) ++ v
  let s1 := setMt p { m with trigs := upd m.trigs u (fun t => { t with tgt := tgt, next := tgt.toNat }) } s
  catchUp p u s1

/-- MT_CNT_LO_READ (R79). -/
def execMtCntLoRead (p : Part) (s : State) : Host.Outcome State Fault Refusal := onPart p (fun s => (cntLoRead p s).2) s

/-- MT_RATE_WRITE (R44, R45). -/
def execMtRateWrite (p : Part) (value : Word) (s : State) : Host.Outcome State Fault Refusal := onPart p (rateWrite p value) s

/-- MT_HOLD_SET (R47). -/
def execMtHoldSet (p : Part) (s : State) : Host.Outcome State Fault Refusal := onPart p (holdSet p) s

/-- MT_SERVO_MODE_SET (R47). -/
def execMtServoModeSet (p : Part) (s : State) : Host.Outcome State Fault Refusal := onPart p (servoManual p) s

/-- MT_TRIG_ARM (R67, R68): a write to MT_TRIG_CTL. -/
def execMtTrigArm (p : Part) (u : Nat) (value : Word) (s : State) : Host.Outcome State Fault Refusal :=
  onPart p (fun s => if u < (mtOf p s).trigs.length then trigCtlWrite p u value s else s) s

/-- MT_TRIG_TGT_WRITE (R68). -/
def execMtTrigTgtWrite (p : Part) (u : Nat) (hi : Bool) (value : Word) (s : State) : Host.Outcome State Fault Refusal :=
  onPart p (fun s => if u < (mtOf p s).trigs.length then trigTgtWrite p u hi value s else s) s

/-! ## Commands -/

/-- MT_GET_TIME (0x0201). -/
def specMtGetTime : OpSpec where
  opcode := 0x0201
  onTile := true
  run := fun c s =>
    let m := mtOf c.part s
    let w := wall m
    ok c 0x0201 (leBytes 6 (w / 1000000000) ++ leBytes 4 (w % 1000000000) ++ [0, 0] ++ leBytes 8 m.cnt.toNat ++
      leInt 4 m.rate) s

def execMtGetTime (c : Cmd) (s : State) : Host.Outcome State Fault Refusal := runCmd specMtGetTime c s

/-- The eight-tick rule of R28 and the order of pending changes (R73, R648). -/
def tickSwitchErr (c : Cmd) (s : State) : Option Err :=
  let m := s.head.mt
  let n := fld c.params 32 8
  if fld c.params 0 1 = 0 then none
  else if m.tick.isNone then badParamAny
  else if m.pendTicks.any (fun q => q.par.isNone && q.s < n) then badParam 32
  else match parFor { m with pendTicks := m.pendTicks.filter (fun q => q.s < n) } n with
    | none => badParam 32
    | some old =>
      need (decide (8 * (old.pNum : Int) ≤ (tickAt old n - c.arrival) * old.pDen)) (badParam 32)

/-- First N, counting from 0, whose T_N lies at least 8 × P after the arrival (R74). -/
def firstTickAfter (t : TickPar) (w : Nat) : Nat :=
  (lastTickBy t ((w : Int) + ceilDiv (8 * t.pNum) t.pDen - 1) + 1).toNat

/-- Take tick parameters as an INIT (R74, R377): the first frame, the generators of R66 before it, and the count of ticks without
a frame of each stream from there (R159). -/
def startTicks (t : TickPar) (arrival : Nat) (s : State) : State :=
  let n := firstTickAfter t arrival
  let s1 := { s with
    head.mt := { takePar t s.head.mt with prevTick := none, pendTicks := [], firstN := n, lastN := none }
    head.time.specN := n, head.time.cutN := n, head.time.openN := n, head.time.closeN := n
    head.fy.vst := s.head.fy.vst.map (fun v => { v with fromTick := n }) }
  evalClaim s1

/-- MT_SET_TICK (R72 to R76, R648). -/
def specMtSetTick : OpSpec where
  opcode := 0x0202
  fits := fun n => n == 48
  role := publisherOnly
  params := fun c s => firstErr [tickFieldErr c.params, tickSwitchErr c s]
  state := fun c s => if fld c.params 0 1 = 0 ∧ ticksRun s then errSt stBusy else none
  run := fun c s =>
    let mode := fld c.params 0 1
    let n := fld c.params 32 8
    let t := parseTick c.params
    let unack := fun (s : State) =>
      { s with head.en := s.head.en.map (fun e => { e with unacked := e.unacked.filter (fun k => k < n) ++ [n] }) }
    let s1 :=
      if mode = 0 then
        let s1 := startTicks t c.arrival s
        sendConfigs (tickInForce s1) false false s1
      else if mode = 1 then
        sendConfigs (some (tickBytes 1 t false n)) false false
          (unack { s with head.mt := addPending s.head.mt n (some t) })
      else
        sendConfigs (some (tickBytes 2 t false n)) false false
          (unack { s with head.mt := addPending s.head.mt n none })
    okFwd c 0x0202 [] s1

def execMtSetTick (c : Cmd) (s : State) : Host.Outcome State Fault Refusal := runCmd specMtSetTick c s

/-- MT_GET_TICK. -/
def specMtGetTick : OpSpec where
  opcode := 0x0203
  onTile := true
  run := fun c s =>
    let m := mtOf c.part s
    let body := match m.tick with | some t => tickBytes 0 t true t.nO | none => zeros 48
    let n := match m.lastN with | some n => leBytes 8 n | none => List.replicate 8 0xFF
    ok c 0x0203 (body ++ n) s

def execMtGetTick (c : Cmd) (s : State) : Host.Outcome State Fault Refusal := runCmd specMtGetTick c s

/-- MT_STEP_TIME (R46, R69). -/
def specMtStepTime : OpSpec where
  opcode := 0x0204
  fits := fun n => n == 8
  role := fun _ s => if s.head.mt.manual then none else errSt stNotInRole
  state := fun _ s => if ticksRun s then errSt stBusy else none
  run := fun c s => ok c 0x0204 [] (stepWall .head (sfld c.params 0 8) s)

def execMtStepTime (c : Cmd) (s : State) : Host.Outcome State Fault Refusal := runCmd specMtStepTime c s

/-- MT_SET_TOD (R52). -/
def specMtSetTod : OpSpec where
  opcode := 0x0205
  fits := fun n => n == 6
  role := fun _ s => if s.head.time.cfg.role = 3 then none else errSt stNotInRole
  state := fun _ s => if ticksRun s then errSt stBusy else none
  run := fun c s => ok c 0x0205 [] { s with head.time.todSec := BitVec.ofNat 48 (fld c.params 0 6) }

def execMtSetTod (c : Cmd) (s : State) : Host.Outcome State Fault Refusal := runCmd specMtSetTod c s

/-- Number of PTP ports in a mask. -/
def maskCount (m : Nat) : Nat := ((List.range 6).filter (fun i => m.testBit i)).length

/-- A signed range check at field `f`. -/
def inRangeI (v lo hi : Int) (f : Nat) : Option Err := need (decide (lo ≤ v ∧ v ≤ hi)) (badParam f)

/-- The ranges of R77. -/
def ptpErr (p : List Byte) : Option Err :=
  firstErr
    [inRange (fld p 0 1) 0 1 0, inRange (fld p 1 1) 0 3 1, inRange (fld p 2 1) 0 2 2, inRange (fld p 4 1) 0 127 4,
     need (if fld p 1 1 = 2 then decide (2 ≤ maskCount (fld p 7 1)) else decide (maskCount (fld p 7 1) = 1)) (badParam 7),
     inRangeI (sfld p 8 1) (-3) 3 8, inRangeI (sfld p 9 1) (-7) 1 9, inRangeI (sfld p 10 1) (-7) 5 10,
     inRange (fld p 11 1) 2 10 11, inRange (fld p 12 4) 1000 1000000000 12, inRange (fld p 16 4) 10 10000 16]

/-- The Head's one PTP instance ends where a new PROFILE, ROLE, TRANSPORT, DOMAIN or PORT_MASK makes another (R51): it follows no
master, it knows no foreign master, and a source on a PTP port or at PPS_IN is lost. DEDUCED, log entry 90. -/
def newInstance (s : State) : State :=
  let s1 := { s with
    head.time.foreign := [], head.time.masterNow := false, head.time.syncWait := none, head.time.t1 := none
    head.time.t2 := none, head.time.t3 := none, head.time.ppsSeen := false, head.time.ppsOffset := 0 }
  if s.head.mt.srcPort ≤ 5 ∨ s.head.mt.srcPort = 7 then enterHoldover .head s1 else s1

/-- Two settings describe one PTP instance (R51). DEDUCED, log entry 90. -/
def sameInstance (a b : PtpCfg) : Bool :=
  a.profile == b.profile && a.role == b.role && a.transport == b.transport && a.domain == b.domain && a.portMask == b.portMask

/-- MT_SET_PTP's settings enter, of the same instance or of a new one (R51). DEDUCED, log entry 90. -/
def setPtp (cfg : PtpCfg) (s : State) : State :=
  let s1 := { s with head.time.cfg := cfg }
  if sameInstance cfg s.head.time.cfg then s1 else newInstance s1

/-- MT_SET_PTP (R48, R51, R77). -/
def specMtSetPtp : OpSpec where
  opcode := 0x0206
  fits := fun n => n == 20
  params := fun c _ => ptpErr c.params
  run := fun c s =>
    let p := c.params
    let cfg : PtpCfg :=
      { profile := fld p 0 1, role := fld p 1 1, transport := fld p 2 1, flags := BitVec.ofNat 8 (fld p 3 1 % 4),
        domain := fld p 4 1, priority1 := fld p 5 1, priority2 := fld p 6 1,
        portMask := BitVec.ofNat 8 (fld p 7 1 % 64), logAnnounce := sfld p 8 1, logSync := sfld p 9 1,
        logDelayReq := sfld p 10 1, announceTimeout := fld p 11 1, stepThrNs := fld p 12 4, lockThrNs := fld p 16 4 }
    ok c 0x0206 [] (setPtp cfg s)

def execMtSetPtp (c : Cmd) (s : State) : Host.Outcome State Fault Refusal := runCmd specMtSetPtp c s

/-- The reply of R647. -/
def ptpInfo (s : State) : List Byte :=
  let h := s.head.time
  let gm := h.cfg.role == 3
  let parent := if gm then beBytes 8 Config.clockIdentity ++ [0, 0]
    else match h.master with
      | some m => beBytes 8 m.clockIdentity ++ beBytes 2 m.portNumber
      | none => zeros 10
  let gmId := if gm then beBytes 8 Config.clockIdentity
    else match h.master with
      | some m => beBytes 8 m.gmIdentity
      | none => zeros 8
  let flags := if gm ∨ h.masterNow then 1 else if h.master.isSome then 2 else 0
  let seen := gm || h.master.isSome
  leBytes 1 (servoCode s.head.mt.servo) ++ leBytes 1 (if h.masterNow ∧ ¬ gm then h.masterPort else 15) ++
    leBytes 1 (clockClassOut s) ++ leBytes 1 flags ++ parent ++ gmId ++ [0, 0] ++
    leInt 8 (if gm then h.ppsOffset else if seen then h.lastOffset else 0) ++ leInt 8 (if gm then 0 else if seen then h.mpd else 0)

/-- MT_GET_PTP (R647). -/
def specMtGetPtp : OpSpec where
  opcode := 0x0207
  run := fun c s => ok c 0x0207 (ptpInfo s) s

def execMtGetPtp (c : Cmd) (s : State) : Host.Outcome State Fault Refusal := runCmd specMtGetPtp c s

/-- MT_SET_CHAIN_TIME (R65, R96). -/
def specMtSetChainTime : OpSpec where
  opcode := 0x0208
  fits := fun n => n == 4
  params := fun c _ => inRange (fld c.params 0 4) 10 60000 0
  run := fun c s =>
    ok c 0x0208 [] (sendConfigs none false true { s with head.time.holdLimitMs := fld c.params 0 4 })

def execMtSetChainTime (c : Cmd) (s : State) : Host.Outcome State Fault Refusal := runCmd specMtSetChainTime c s

end Sys2Proof.Machine
end

