-- ==== Sys2Proof/Machine/Foyer.lean ====
section
/-!
DEFINITION. Foyer (R138 to R175): Ethernet ports, streams, frames in reception and their commits, audio and caption rings,
and surfaces.
-/
namespace Sys2Proof.Machine

/-- Change Foyer. -/
def updFy (f : Foyer → Foyer) (s : State) : State := { s with head.fy := f s.head.fy }

/-- Port E`p`. -/
def fyPort (p : Nat) (s : State) : FyPort := s.head.fy.ports.getD p {}

/-- Change it. -/
def updFyPort (p : Nat) (f : FyPort → FyPort) (s : State) : State := updFy (fun y => { y with ports := upd y.ports p f }) s

/-- Sub-ports of a mode (R138). -/
def subCount (mode : Nat) : Nat := match mode with | 1 => 1 | 2 => 2 | 3 => 4 | _ => 0

/-- The mode of its port provides a sub-port (R139). -/
def isProvided (sub : Nat) (s : State) : Bool := decide (sub < 16) && decide (sub % 4 < subCount (fyPort (sub / 4) s).mode)

/-- A sub-port has its link. -/
def subLink (sub : Nat) (s : State) : Bool := isProvided sub s && (fyPort (sub / 4) s).linkUp.getLsbD (sub % 4)

/-! ## Streams -/

/-- The streams of a kind: 0 video, 1 audio, 2 ancillary. -/
def streamsOf (kind : Nat) (s : State) : List Stream :=
  match kind with | 0 => s.head.fy.video | 1 => s.head.fy.audio | _ => s.head.fy.anc

/-- Stream `k` of a kind. -/
def streamAt (kind k : Nat) (s : State) : Stream := (streamsOf kind s).getD k { cfg := [] }

/-- Change it. -/
def updStream (kind k : Nat) (f : Stream → Stream) (s : State) : State :=
  updFy (fun y => match kind with
    | 0 => { y with video := upd y.video k f }
    | 1 => { y with audio := upd y.audio k f }
    | _ => { y with anc := upd y.anc k f }) s

/-- Change a stream's counters. -/
def updStats (kind k : Nat) (f : StreamStats → StreamStats) (s : State) : State :=
  updStream kind k (fun x => { x with stats := f x.stats }) s

/-- Where a path stands in a stream's parameters (R172, R173). -/
def pathOff (kind path : Nat) : Nat := (if kind = 0 then 16 else 8) + 36 * path

/-- Sub-port of a path; 0xFF for no second path. -/
def pathSub (kind path : Nat) (x : Stream) : Nat := fld x.cfg (pathOff kind path) 1

/-- A path is configured. -/
def hasPath (kind path : Nat) (x : Stream) : Bool := decide (path < 2) && decide (pathSub kind path x < 16)

/-- An enabled stream uses a sub-port. -/
def usesSub (sub : Nat) (s : State) : Bool :=
  (List.range 3).any (fun kind => (streamsOf kind s).any (fun x =>
    x.en && (pathSub kind 0 x == sub || pathSub kind 1 x == sub)))

/-- DIFF_MAX in ns. -/
def diffMax (kind : Nat) (x : Stream) : Nat := 1000 * (match kind with | 0 => fld x.cfg 14 2 | 1 => fld x.cfg 6 2 | _ => fld x.cfg 4 2)

/-- DETAIL_A of the stream and path events (R174). -/
def streamDet (kind k path : Nat) : BitVec 32 := BitVec.ofNat 32 (k + 256 * kind + 65536 * path)

/-- What an ingress buffer holds, in bytes (R142). -/
def heldBytes (l : List HeldPkt) : Nat := (l.map (fun h => h.bytes)).foldl (· + ·) 0

/-- A packet leaves the ingress buffer: the oldest one held that is like it. -/
def unhold (h : HeldPkt) (l : List HeldPkt) : List HeldPkt := l.erase h

/-- A path of a stream delivers no packets any more (R172, R175): what its ingress buffer still held of it is gone. -/
def dropHeldPackets (kind k : Nat) (s : State) : State :=
  updFy (fun y => { y with ports := y.ports.map (fun p => { p with held := p.held.filter (fun h => ¬ (h.kind = kind ∧ h.stream = k)) }) }) s

/-- A packet of an enabled stream on a path whose link is up: the ingress buffer, the path counters and FY_PATH_RESTORED
(R142, R161, R175). -/
def packetOn (kind k path bytes : Nat) (s : State) : State :=
  let x := streamAt kind k s
  let w := wall s.head.mt
  let port := pathSub kind path x / 4
  let s1 := updFyPort port (fun p => { p with held := unhold { kind := kind, stream := k, path := path, bytes := bytes } p.held }) s
  let s2 := updStats kind k (fun c => if path = 0 then { c with path0 := c.path0 + 1 } else { c with path1 := c.path1 + 1 }) s1
  let lost := if path = 0 then x.lost0 else x.lost1
  let s3 := updStream kind k (fun x =>
    if path = 0 then { x with seen0 := some w, lost0 := false } else { x with seen1 := some w, lost1 := false }) s2
  if lost then post .head 0x03 1 0x0006 (streamDet kind k path) 0 s3 else s3

/-- Whether a packet of a stream is received at all. -/
def takesPacket (kind k path : Nat) (s : State) : Bool :=
  let x := streamAt kind k s
  decide (k < 64) && x.en && hasPath kind path x && subLink (pathSub kind path x) s

/-! ## Commits of Foyer (R156 to R160, R384) -/

/-- Video state of stream `k`. -/
def videoAt (k : Nat) (s : State) : VideoSt := s.head.fy.vst.getD k {}

/-- Change it. -/
def updVideo (k : Nat) (f : VideoSt → VideoSt) (s : State) : State := updFy (fun y => { y with vst := upd y.vst k f }) s

/-- Send a Foyer commit or loss action to the mirror (R384): `code` 1 a frame with its RTP timestamp, 2 a loss action.
DEDUCED, log entry 41. -/
def forwardFoyer (code k frame eff seq : Nat) (arg : BitVec 32) (s : State) : State :=
  if s.head.tw.role = .publisher ∧ ¬ s.head.tw.claimMode then
    twinSend 0x02 (leBytes 4 frame ++ zeros 4 ++ leBytes 8 eff ++ leBytes 2 (orderKey 3 k seq) ++ leBytes 2 code ++ leBytes 1 k ++ leBytes 4 arg.toNat)
      (updTw (fun t => { t with
        fwdCount := t.fwdCount + 1
        fwdForFrame := putKey t.fwdForFrame frame ((getKey t.fwdForFrame frame).getD 0 + 1) }) s)
  else s

/-- Take a change of Foyer's own with effective timestamp `eff` (R31, R156, R217, R649).
DEDUCED, log entry 21; DEDUCED, log entry 82. -/
def submitFoyer (k : Nat) (ch : Change) (eff code : Nat) (arg : BitVec 32) (s : State) : State :=
  let q := s.head.pl.seq
  match entryFrame none eff s with
  | some (n, _) => forwardFoyer code k n eff q arg (install { frame := n, eff := eff, rank := 3, sub := k, seq := q, change := ch } none (nextSeq s))
  | none => forwardFoyer code k 0 eff q arg (applyNow ch none s)

/-- The ATC timecode of a frame (R157): of the lowest associated ancillary stream that holds one with its timestamp.
DEDUCED, log entry 102. -/
def timecodeFor (k : Nat) (rtp : BitVec 32) (s : State) : List Byte :=
  ((List.range 64).findSome? (fun a =>
    if (streamAt 2 a s).en ∧ fld (streamAt 2 a s).cfg 1 1 = k then getKey (s.head.fy.timecodes.getD a []) rtp else none)).getD []

/-- The commit of a stream's buffer to its layer (R156, R157): the colorimetry, transfer and range of the stream travel
with it (R153). -/
def foyerChange (k layer b : Nat) (rtp : BitVec 32) (s : State) : Change :=
  let c := (streamAt 0 k s).cfg
  .foyer layer k rtp (3584 + 8 * k + b) (timecodeFor k rtp s) (fld c 96 1) (fld c 97 1) (fld c 98 1)

/-- This Head commits on its own (R384). -/
def commitsItself (s : State) : Bool := !isFollower s

/-- A frame of stream `k` in buffer `b` is complete, by a packet received at `rx` (R156, R160, R384). -/
def frameDone (k b : Nat) (rtp : BitVec 32) (rx : Nat) (s : State) : State :=
  let v := videoAt k s
  let s1 := updVideo k (fun v => { v with fromTick := nextTick s.head.mt, lost := false }) s
  let s2 := if v.lost then post .head 0x03 1 0x0004 (streamDet 0 k 0) 0 s1 else s1
  if firmwareGone s then s2
  else if ¬ commitsItself s then updVideo k (fun v => { v with complete := (b, rtp) :: v.complete.filter (fun x => x.1 ≠ b) }) s2
  else match v.bound with
    | none => s2
    | some layer =>
      let s3 := updStats 0 k (fun c => { c with committed := c.committed + 1, lastCommit := rx }) s2
      submitFoyer k (foyerChange k layer b rtp s3) rx 1 rtp s3

/-! ## Receiving a video frame (R148 to R155) -/

/-- Surface format of a stream (R153). -/
def videoFormat (cfg : List Byte) : Nat :=
  if fld cfg 1 1 = 0 then (if fld cfg 2 1 = 8 then 5 else 6) else if fld cfg 2 1 = 8 then 1 else 3

/-- The surface of a buffer (R153, R154, R173). -/
def bufferSurface (cfg : List Byte) (b : Nat) : Surface :=
  let f : Surface := { format := videoFormat cfg, layout := 1, width := fld cfg 4 2, height := fld cfg 6 2, pitch := 0, base := 0, hdrBase := 0 }
  { f with base := fld cfg 88 8 + b * contentLen f }

/-- A sample left-aligned in its container (R153). -/
def alignSample (depth v : Nat) : Nat := if depth = 8 then v % 256 else v * 2 ^ (16 - depth) % 65536

/-- Samples of one pixel group of a stream. PRESUMED, log entry 39. -/
def groupSamples (cfg : List Byte) : Nat := if fld cfg 1 1 = 0 then 4 else 3

/-- Pixels that a row of samples covers. PRESUMED, log entry 39. -/
def rowPixels (cfg : List Byte) (r : SampleRow) : Nat :=
  r.samples.length / groupSamples cfg * (if fld cfg 1 1 = 0 then 2 else 1)

/-- The bytes of one pixel group as the surface holds them (R153, R165). -/
def groupBytes (cfg : List Byte) (g : List Nat) : List Byte :=
  let d := fld cfg 2 1
  let n := if d = 8 then 1 else 2
  let a := fun i => leBytes n (alignSample d (g.getD i 0))
  if fld cfg 1 1 = 0 then a 1 ++ a 0 ++ a 3 ++ a 2
  else if fld cfg 1 1 = 1 then a 2 ++ a 1 ++ a 0 ++ leBytes n 0xFFFF
  else a 0 ++ a 1 ++ a 2 ++ leBytes n 0xFFFF

/-- Write one row of a packet into a buffer. -/
def writeRow (cfg : List Byte) (b : Nat) (s : State) (r : SampleRow) : State :=
  let n := groupSamples cfg
  let step := if fld cfg 1 1 = 0 then 2 else 1
  (List.range (r.samples.length / n)).foldl (fun t i =>
    clWrite 1 (pixelAddr (bufferSurface cfg b) (r.offset + step * i) r.line) (groupBytes cfg ((r.samples.drop (n * i)).take n)) t) s

/-- R150: the packet breaks its stream's format. -/
def isBadPacket (cfg : List Byte) (v : VideoPkt) : Bool :=
  v.pt != fld cfg 13 1 || v.rows.any (fun r => decide (fld cfg 6 2 ≤ r.line) || decide (fld cfg 4 2 < r.offset + rowPixels cfg r))

/-- The lowest buffer neither open nor leased (R154). -/
def freeBuffer (k : Nat) (s : State) : Option Nat :=
  (List.range (fld (streamAt 0 k s).cfg 11 1)).find? (fun b =>
    !((videoAt k s).frames.any (fun f => f.buf == some b)) && !(s.head.pl.leases.any (fun l => l.surface == 3584 + 8 * k + b)))

/-- Close an open frame that is not complete (R149, R151, R155). -/
def closeIncomplete (k : Nat) (f : OpenFrame) (s : State) : State :=
  let s1 := updVideo k (fun v =>
    { v with frames := v.frames.erase f, done := ((f.rtp, none) :: v.done).take 16 }) s
  if f.buf.isSome then updStats 0 k (fun c => { c with incomplete := c.incomplete + 1 }) s1 else s1

/-- Open the frame of a packet (R149, R154, R155): a third frame closes the oldest one, and with DIFF_MAX 0 and no second
path every earlier frame closes at once. -/
def openFrame (k : Nat) (rtp : BitVec 32) (rx : Nat) (s : State) : State :=
  let x := streamAt 0 k s
  let v := videoAt k s
  let atOnce := diffMax 0 x = 0 ∧ ¬ hasPath 0 1 x
  let older := v.frames.filter (fun f => sdiff f.rtp rtp < 0)
  let oldest := older.filter (fun f => v.frames.all (fun g => sdiff f.rtp g.rtp ≤ 0))
  let gone := if atOnce then older else if 2 ≤ v.frames.length then oldest else []
  let s1 := gone.foldl (fun t f => closeIncomplete k f t) s
  let later := (v.frames.filter (fun f => 0 < sdiff f.rtp rtp)).map (fun f => f.startAt)
  let b := freeBuffer k s1
  let s2 := updVideo k (fun v =>
    { v with
      frames := v.frames.map (fun f => if sdiff f.rtp rtp < 0 ∧ f.laterAt.isNone then { f with laterAt := some rx } else f) ++
        [{ rtp := rtp, buf := b, startAt := rx, laterAt := later.head? }]
      newest := match v.newest with | some n => if sdiff rtp n < 0 then some n else some rtp | none => some rtp
      complete := v.complete.filter (fun c => some c.1 ≠ b) }) s1
  if b.isNone then updStats 0 k (fun c => { c with noBuffer := c.noBuffer + 1 }) s2 else s2

/-- A packet may open a frame (R149): one newer than all, or an older one whose later frame began within DIFF_MAX. -/
def mayOpen (k : Nat) (rtp : BitVec 32) (rx : Nat) (s : State) : Bool :=
  let v := videoAt k s
  match v.newest with
  | none => true
  | some n =>
    if 0 < sdiff rtp n then true
    else decide (v.frames.length < 2) && v.frames.any (fun f => decide (0 < sdiff f.rtp rtp) && decide (rx < f.startAt + diffMax 0 (streamAt 0 k s)))

/-- An extended sequence number lies from the first packet of a frame to its last one, modulo 2^32 (R148). -/
def isInFrame (q : BitVec 32) (ab : BitVec 32 × BitVec 32) : Bool := decide ((q - ab.1).toNat ≤ (ab.2 - ab.1).toNat)

/-- Every packet position of a frame is filled (R148). -/
def isWhole (f : OpenFrame) : Bool :=
  match f.first, f.last with
  | some a, some b => decide ((f.seqs.filter (fun q => isInFrame q (a, b))).length = (b - a).toNat + 1)
  | _, _ => false

/-- Parlour holds a lease on a buffer of a stream (R154, R155). -/
def isLeased (k b : Nat) (s : State) : Bool := s.head.pl.leases.any (fun l => l.surface == 3584 + 8 * k + b)

/-- An open frame whose buffer has been leased meanwhile (R155): Foyer never writes into a leased buffer, so the frame has none
any more. DEDUCED, log entry 102. -/
def giveUpBuffer (k : Nat) (f : OpenFrame) (s : State) : OpenFrame × State :=
  match f.buf with
  | some b =>
    if isLeased k b s then
      let f1 : OpenFrame := { f with buf := none }
      (f1, updStats 0 k (fun c => { c with noBuffer := c.noBuffer + 1 })
        (updVideo k (fun x => { x with frames := x.frames.map (fun g => if g = f then f1 else g) }) s))
    else (f, s)
  | none => (f, s)

/-- A packet into the open frame it belongs to. -/
def fillFrame (k : Nat) (v : VideoPkt) (f0 : OpenFrame) (s : State) : State :=
  let q := v.seq
  if f0.seqs.contains q then updStats 0 k (fun c => { c with duplicates := c.duplicates + 1 }) s
  else
    let cfg := (streamAt 0 k s).cfg
    let fs := giveUpBuffer k f0 s
    let f := fs.1
    let s1 := match f.buf with | some b => v.rows.foldl (writeRow cfg b) fs.2 | none => fs.2
    let starts := match v.rows with | r :: _ => r.line == 0 && r.offset == 0 | [] => false
    let f1 : OpenFrame := { f with
      seqs := q :: f.seqs, first := if starts then some q else f.first, last := if v.marker then some q else f.last }
    if isWhole f1 then
      let s2 := updVideo k (fun x =>
        { x with frames := x.frames.erase f, done := ((f.rtp, some (f1.first.getD 0, f1.last.getD 0)) :: x.done).take 16 }) s1
      match f.buf with
      | some b => frameDone k b f.rtp v.rxTime s2
      | none => s2
    else updVideo k (fun x => { x with frames := x.frames.map (fun g => if g = f then f1 else g) }) s1

/-! ## The ST 2110-21 models (R152). PRESUMED, log entry 93 -/

/-- C_MAX of a stream's receiver type: type N takes narrow senders, type W wide ones too. -/
def cMax (cfg : List Byte) : Nat :=
  let n := Config.framePackets cfg * 1000000000
  if fld cfg 8 1 = 0 then max 4 (n * 1125 / (43200 * 1080 * Config.framePeriod cfg)) else max 16 (n / (21600 * Config.framePeriod cfg))

/-- VRX_FULL of a stream's receiver type, for datagrams of at most 1460 bytes. -/
def vrxFull (cfg : List Byte) : Nat :=
  let n := Config.framePackets cfg * 1000000000
  if fld cfg 8 1 = 0 then max 8 (n / (27000 * Config.framePeriod cfg)) else max 739 (n / (300 * Config.framePeriod cfg))

/-- The network compatibility model: the bucket drains one packet each T_FRAME / (1.1 × packets), then takes this one. -/
def netModel (cfg : List Byte) (t : Nat) (m : SenderModel) : SenderModel :=
  let drain := Config.framePeriod cfg * 10 / (Config.framePackets cfg * 11)
  if drain = 0 then { m with level := 1, drained := t }
  else
    let n := (t - m.drained) / drain
    { m with level := m.level - n + 1, drained := m.drained + n * drain }

/-- The virtual receiver buffer: the packets of the frame that have come, less those read by now at one each
T_FRAME × R_ACTIVE / packets. -/
def vrxLevel (cfg : List Byte) (t : Nat) (m : SenderModel) : Nat :=
  let start := Config.readStart cfg (m.frame.getD 0)
  let read := if t < start then 0
    else (t - start) * Config.framePackets cfg * 1125 / (Config.framePeriod cfg * 1080) + 1
  m.came - read

/-- One packet through both models of its path. -/
def takeModel (cfg : List Byte) (v : VideoPkt) (m : SenderModel) : SenderModel :=
  let m1 := netModel cfg v.rxTime m
  if m.frame = some v.rtp then { m1 with came := m.came + 1 } else { m1 with frame := some v.rtp, came := 1 }

/-- A packet exceeds C_MAX or VRX_FULL. -/
def breaksModel (cfg : List Byte) (t : Nat) (m : SenderModel) : Bool :=
  decide (cMax cfg < m.level) || decide (vrxFull cfg < vrxLevel cfg t m)

/-- R152: MODEL_VIOLATIONS counts the packet where it breaks a model; it is never discarded for that. -/
def senderModel (k path : Nat) (v : VideoPkt) (s : State) : State :=
  let cfg := (streamAt 0 k s).cfg
  let m := takeModel cfg v ((videoAt k s).models.getD path {})
  let s1 := updVideo k (fun x => { x with models := upd x.models path (fun _ => m) }) s
  if breaksModel cfg v.rxTime m then updStats 0 k (fun c => { c with model := c.model + 1 }) s1 else s1

/-- The MAC receive timestamp of a packet on a stream's path in ns of wall time (R53, R54). DEDUCED, log entry 17. -/
def packetTime (kind k path raw : Nat) (s : State) : Nat :=
  (rxTs (pathSub kind path (streamAt kind k s) / 4) (256 * (raw : Int)) s / 256).toNat

/-- A packet that its stream takes. -/
def videoPacket (k path : Nat) (v : VideoPkt) (s : State) : State :=
  let s0 := senderModel k path v s
  if isBadPacket (streamAt 0 k s).cfg v then updStats 0 k (fun c => { c with formatErrors := c.formatErrors + 1 }) s0
  else
    let st := videoAt k s0
    let late := fun (t : State) => updStats 0 k (fun c => { c with late := c.late + 1 }) t
    match st.frames.find? (fun f => f.rtp == v.rtp) with
    | some f => fillFrame k v f s0
    | none =>
      match st.done.find? (fun d => d.1 == v.rtp) with
      | some d =>
        if d.2.any (isInFrame v.seq) then updStats 0 k (fun c => { c with duplicates := c.duplicates + 1 }) s0
        else late s0
      | none =>
        if mayOpen k v.rtp v.rxTime s0 then
          let s1 := openFrame k v.rtp v.rxTime s0
          match (videoAt k s1).frames.find? (fun f => f.rtp == v.rtp) with
          | some f => fillFrame k v f s1
          | none => s1
        else late s0

/-- VIDEO_PACKET_RECEIVED (R142, R148 to R161). -/
def execVideoPacketReceived (stream path : Nat) (v : VideoPkt) (s : State) : Host.Outcome State Fault Refusal :=
  onPart .head (fun s =>
    if takesPacket 0 stream path s then
      videoPacket stream path { v with rxTime := packetTime 0 stream path v.rxTime s } (packetOn 0 stream path v.bytes s)
    else s) s

/-- VIDEO_FRAME_CLOSE_TIMEOUT (R149): DIFF_MAX has passed since a later frame began. -/
def execVideoFrameCloseTimeout (stream : Nat) (rtp : Word) (s : State) : Host.Outcome State Fault Refusal :=
  onPart .head (fun s =>
    match (videoAt stream s).frames.find? (fun f => f.rtp == rtp) with
    | none => s
    | some f =>
      match f.laterAt with
      | some t => if t + diffMax 0 (streamAt 0 stream s) ≤ wall s.head.mt then closeIncomplete stream f s else s
      | none => s) s

/-! ## Audio and ancillary packets (R145, R146, R162, R163, R531, R532) -/

/-- Sequence numbers kept for duplicates. -/
def noteSeq (kind k q : Nat) (s : State) : State := updStream kind k (fun x => { x with seqs := (q :: x.seqs).take 1024 }) s

/-- The media-clock index that an RTP timestamp names, nearest to now. -/
def mediaIndex (rate : Nat) (rtp : Nat) (s : State) : Int :=
  let now := tdmFrameAt rate (wall s.head.mt)
  (now : Int) + sdiffW 32 rtp now

/-- Write sample frame `m` of a stream with a TAG, samples first (R528). -/
def writeSamples (k : Nat) (m : Int) (samples : List Nat) (s : State) : State :=
  let cfg := audioCfg k s
  let a := ringAddr cfg m
  let up := if fld cfg 1 1 = 0 then 65536 else 256
  let body := (List.range (fld cfg 3 1)).flatMap (fun i => leBytes 4 (samples.getD i 0 * up))
  clWrite 1 a (leBytes 4 (m % 4294967296).toNat) (clWrite 1 (a + 4) body s)

/-- One sample frame of an audio packet (R162, R531, R532). -/
def audioFrame (k : Nat) (m : Int) (samples : List Nat) (s : State) : State :=
  let ring : Int := fld (audioCfg k s) 88 4
  if ring = 0 then s
  else match (groupOfStream k s).bind (fun g => readPos g s) with
    | none => writeSamples k m samples s
    | some r =>
      if m < r then updAu (fun a => { a with stats := upd a.stats k (fun x => { x with discardedOld := x.discardedOld + 1 }) }) s
      else if r + ring ≤ m then countOver k (writeSamples k (r + ring - 1) samples s)
      else writeSamples k m samples s

/-- AUDIO_PACKET_RECEIVED (R145, R147, R161, R162, R531, R532). -/
def execAudioPacketReceived (stream path : Nat) (a : AudioPkt) (s : State) : Host.Outcome State Fault Refusal :=
  onPart .head (fun s =>
    if ¬ takesPacket 1 stream path s then s
    else
      let s1 := packetOn 1 stream path a.bytes s
      let x := streamAt 1 stream s1
      if a.pt ≠ fld x.cfg 4 1 then updStats 1 stream (fun c => { c with formatErrors := c.formatErrors + 1 }) s1
      else if x.seqs.contains a.seq.toNat then updStats 1 stream (fun c => { c with duplicates := c.duplicates + 1 }) s1
      else
        let m := mediaIndex (fld x.cfg 2 1) a.rtp.toNat s1
        ((List.range a.frames.length).foldl (fun t (i : Nat) => audioFrame stream (m + (i : Int)) (a.frames.getD i []) t)
          (noteSeq 1 stream a.seq.toNat s1))) s

/-- One caption packet into its ring (R163): the record, then the producer count. -/
def writeCaption (k : Nat) (rtp : BitVec 32) (b : List Byte) (s : State) : State :=
  let cfg := (streamAt 2 k s).cfg
  let n := s.head.fy.captions.getD k 0
  let records := fld cfg 88 4
  if records = 0 then s
  else
    let a := fld cfg 80 8 + 64 + 512 * (n.toNat % records)
    let s1 := clWrite 1 a (leBytes 4 rtp.toNat ++ leBytes 2 b.length ++ [0, 0] ++ b.take 504) s
    clWrite 1 (fld cfg 80 8) (leBytes 4 (n + 1).toNat) (updFy (fun y => { y with captions := upd y.captions k (fun c => c + 1) }) s1)

/-- One ANC data packet (R146, R157, R163). PRESUMED, log entry 39. -/
def ancData (k : Nat) (rtp : BitVec 32) (s : State) (d : AncData) : State :=
  if d.did = 0x60 ∧ d.sdid = 0x60 then
    updFy (fun y => { y with timecodes := upd y.timecodes k (fun l => ((rtp, d.bytes) :: l.filter (fun x => x.1 ≠ rtp)).take 64) }) s
  else if d.did = 0x61 ∧ d.sdid = 0x01 then writeCaption k rtp d.bytes s
  else updStats 2 k (fun c => { c with discarded := c.discarded + 1 }) s

/-- ANC_PACKET_RECEIVED (R146, R147, R157, R161, R163). -/
def execAncPacketReceived (stream path : Nat) (a : AncPkt) (s : State) : Host.Outcome State Fault Refusal :=
  onPart .head (fun s =>
    if ¬ takesPacket 2 stream path s then s
    else
      let s1 := packetOn 2 stream path a.bytes s
      let x := streamAt 2 stream s1
      if a.pt ≠ fld x.cfg 2 1 then updStats 2 stream (fun c => { c with formatErrors := c.formatErrors + 1 }) s1
      else if x.seqs.contains a.seq.toNat then updStats 2 stream (fun c => { c with duplicates := c.duplicates + 1 }) s1
      else a.anc.foldl (ancData stream a.rtp) (noteSeq 2 stream a.seq.toNat s1)) s

/-! ## Loss (R159, R161, R175) -/

/-- FY_STREAM_LOST (R159, R174): LOSS_TICKS ticks without a complete frame. DEDUCED, log entry 82. -/
def execFyStreamLost (stream : Nat) (s : State) : Host.Outcome State Fault Refusal :=
  onPart .head (fun s =>
    let x := streamAt 0 stream s
    let v := videoAt stream s
    let due : Bool := decide (stream < 64) && x.en && !v.lost && ticksRun s &&
      (match s.head.mt.lastN with | some n => decide (v.fromTick + fld x.cfg 10 1 ≤ n + 1) | none => false)
    if ¬ due then s
    else
      let s1 := post .head 0x03 2 0x0003 (streamDet 0 stream 0) 0 (updVideo stream (fun v => { v with lost := true }) s)
      match v.bound with
      | some layer =>
        if fld x.cfg 9 1 = 0 ∨ ¬ commitsItself s then s1
        else submitFoyer stream (.loss layer (fld x.cfg 9 1)) (wall s.head.mt) 2 (BitVec.ofNat 32 (fld x.cfg 9 1)) s1
      | none => s1) s

/-- FY_PATH_LOST (R161): 100 ms without a packet on one path while the other has had one. -/
def execFyPathLost (kind stream path : Nat) (s : State) : Host.Outcome State Fault Refusal :=
  onPart .head (fun s =>
    let x := streamAt kind stream s
    let w := wall s.head.mt
    let mine := if path = 0 then x.seen0 else x.seen1
    let other := if path = 0 then x.seen1 else x.seen0
    let lost := if path = 0 then x.lost0 else x.lost1
    let quiet : Bool := match mine with | some t => decide (t + 100000000 ≤ w) | none => true
    let alive : Bool := match other with | some t => decide (w < t + 100000000) | none => false
    if decide (kind < 3) && decide (stream < 64) && x.en && hasPath kind 0 x && hasPath kind 1 x && decide (path < 2) && !lost && quiet && alive then
      post .head 0x03 2 0x0005 (streamDet kind stream path) 0
        (updStream kind stream (fun x => if path = 0 then { x with lost0 := true } else { x with lost1 := true }) s)
    else s) s

/-- FY_LINK_UP (R174). -/
def execFyLinkUp (subport : Nat) (s : State) : Host.Outcome State Fault Refusal :=
  onPart .head (fun s =>
    if isProvided subport s ∧ ¬ subLink subport s then
      post .head 0x03 1 0x0001 (BitVec.ofNat 32 subport) 0
        (updFyPort (subport / 4) (fun p => { p with linkUp := p.linkUp ||| (1#4 <<< (subport % 4)) }) s)
    else s) s

/-- A sub-port loses its link (R175): what the ingress buffer held of the paths on it is gone. -/
def dropLink (sub : Nat) (s : State) : State :=
  let on := fun (h : HeldPkt) => pathSub h.kind h.path (streamAt h.kind h.stream s) == sub
  post .head 0x03 3 0x0002 (BitVec.ofNat 32 sub) 0
    (updFyPort (sub / 4) (fun p =>
      { p with
        linkUp := p.linkUp &&& ~~~(1#4 <<< (sub % 4)), dropped := p.dropped ||| (1#4 <<< (sub % 4))
        held := p.held.filter (fun h => ¬ on h) }) s)

/-- FY_LINK_DOWN (R174, R175). -/
def execFyLinkDown (subport : Nat) (s : State) : Host.Outcome State Fault Refusal :=
  onPart .head (fun s => if subLink subport s then dropLink subport s else s) s

/-- A packet of an enabled stream meets the ingress buffer of 2 MiB (R142, R174). -/
def ingress (port : Nat) (h : HeldPkt) (s : State) : State :=
  let p := fyPort port s
  if heldBytes p.held + h.bytes ≤ 2097152 then updFyPort port (fun p => { p with held := p.held ++ [h] }) s
  else
    let w := wall s.head.mt
    let may : Bool := match p.ovPosted with | some t => decide (t + 1000000000 ≤ w) | none => true
    let times := p.ovTimes.filter (fun t => decide (w < t + 1000000000)) ++ [w]
    let s1 := updFyPort port (fun p =>
      { p with
        overflow := p.overflow + 1, overflowed := true
        ovPosted := if may then some w else p.ovPosted, ovTimes := times }) s
    if may then post .head 0x03 3 0x0007 (BitVec.ofNat 32 port) (BitVec.ofNat 64 times.length) s1 else s1

/-- The MAC address of a sub-port (R141, R565): the identity's base and its number. PRESUMED, log entry 39. -/
def subMac (sub : Nat) (s : State) : Nat := (s.head.at_.ident.mac + BitVec.ofNat 48 sub).toNat

/-- An answer of firmware (R141) with its sub-port's MAC address. -/
def answerFrame (sub code : Nat) (s : State) : State :=
  if firmwareGone s then s else emit .head (.eth sub code [subMac sub s]) s

/-- ETH_FRAME_RECEIVED (R141, R142): the answers of firmware are the frames of kind 1 ARP, 2 neighbour discovery, 3 echo. -/
def execEthFrameReceived (subport : Nat) (f : EthFrame) (s : State) : Host.Outcome State Fault Refusal :=
  onPart .head (fun s =>
    if ¬ subLink subport s then s
    else if ¬ f.fcsOk ∨ f.bytes < 64 ∨ 9216 < f.bytes then updFyPort (subport / 4) (fun p => { p with rxBad := p.rxBad + 1 }) s
    else
      let sp := s.head.fy.subs.getD subport {}
      if f.vlan ≠ (if sp.vlan = 0 then none else some sp.vlan) then s
      else match f.kind with
        | .arp => if sp.ipv4 ≠ 0 then answerFrame subport 1 s else s
        | .neighbour => if sp.ipv6 ≠ 0 then answerFrame subport 2 s else s
        | .icmpEcho => if sp.ipv4 ≠ 0 ∨ sp.ipv6 ≠ 0 then answerFrame subport 3 s else s
        | .stream kind k path =>
          if takesPacket kind k path s ∧ pathSub kind path (streamAt kind k s) = subport then
            ingress (subport / 4) { kind := kind, stream := k, path := path, bytes := f.bytes } s
          else s
        | .ptp => s
        | .pause => s
        | .other => s) s

/-! ## Commands (R172, R173) -/

/-- FY_PORT_STATUS. -/
def fyStatus (p : FyPort) : Nat := 256 * p.linkUp.toNat + 16 * p.dropped.toNat + 8 * b2n p.overflowed + p.mode

/-- FY_PORT_STATUS written: write 1 to clear. -/
def fyStatusWrite (p : Nat) (v : Word) (s : State) : State :=
  updFyPort p (fun q => { q with dropped := q.dropped &&& ~~~(v.extractLsb' 4 4), overflowed := q.overflowed && !v.getLsbD 3 }) s

/-- The PTP instance that uses a port stops (R175), whatever its role: it stays stopped, with ROLE 0 and no port, until MT_SET_PTP
starts one. DEDUCED, log entry 90. -/
def stopPtp (port : Nat) (s : State) : State :=
  if s.head.time.cfg.portMask.getLsbD port then
    newInstance { s with head.time.cfg := { s.head.time.cfg with role := 0, portMask := 0 } }
  else s

/-- Firmware loads a port's internal latencies for its new speed mode (R54). -/
def loadLatency (p m : Nat) (s : State) : State :=
  { s with head.time.ts := upd s.head.time.ts p (fun t => { t with txInt := Config.txInt p m, rxInt := Config.rxInt p m }) }

/-- FY_SET_PORT (R138, R143). -/
def specFySetPort : OpSpec where
  opcode := 0x0301
  fits := fun n => n == 4
  params := fun c _ => firstErr [inRange (fld c.params 0 1) 0 3 0, inRange (fld c.params 1 1) 0 3 1]
  state := fun c s => if (List.range 4).any (fun k => usesSub (4 * fld c.params 0 1 + k) s) then errSt stBusy else none
  run := fun c s =>
    let p := fld c.params 0 1
    let m := fld c.params 1 1
    if m = (fyPort p s).mode then ok c 0x0301 [] s
    else
      let s1 := ((List.range 4).filter (fun k => subLink (4 * p + k) s)).foldl (fun t k => dropLink (4 * p + k) t) s
      ok c 0x0301 [] (stopPtp p (loadLatency p m (updFyPort p (fun q => { q with mode := m, linkUp := 0, held := [] }) s1)))

def execFySetPort (c : Cmd) (s : State) : Host.Outcome State Fault Refusal := runCmd specFySetPort c s

/-- FY_SET_SUBPORT (R139, R141). -/
def specFySetSubport : OpSpec where
  opcode := 0x0302
  fits := fun n => n == 28
  params := fun c s =>
    let p := c.params
    firstErr [inRange (fld p 0 1) 0 15 0, inRange (fld p 2 2) 0 4094 2, need (isProvided (fld p 0 1) s) (badParam 0)]
  state := fun c s => if usesSub (fld c.params 0 1) s then errSt stBusy else none
  run := fun c s =>
    let p := c.params
    let v : SubPort := { vlan := fld p 2 2, ipv4 := fld p 4 4, prefix4 := fld p 8 1, prefix6 := fld p 9 1, ipv6 := fld p 12 16 }
    ok c 0x0302 [] (updFy (fun y => { y with subs := upd y.subs (fld p 0 1) (fun _ => v) }) s)

def execFySetSubport (c : Cmd) (s : State) : Host.Outcome State Fault Refusal := runCmd specFySetSubport c s

/-- FY_GET_PORT. -/
def specFyGetPort : OpSpec where
  opcode := 0x0303
  fits := fun n => n == 1
  params := fun c _ => inRange (fld c.params 0 1) 0 3 0
  run := fun c s =>
    let p := fyPort (fld c.params 0 1) s
    ok c 0x0303 (leBytes 1 p.mode ++ zeros 3 ++ leBytes 4 (fyStatus p) ++ leBytes 4 p.rxBad.toNat ++ leBytes 4 p.overflow.toNat) s

def execFyGetPort (c : Cmd) (s : State) : Host.Outcome State Fault Refusal := runCmd specFyGetPort c s

/-- The two paths at an offset (R173): ranges, then what the ports provide. -/
def pathErrs (p : List Byte) (o : Nat) (s : State) : List (Option Err) × List (Option Err) :=
  ([inRange (fld p o 1) 0 15 o,
    need (decide ((fld p (o + 36) 1 ≤ 15 ∧ fld p (o + 36) 1 ≠ fld p o 1) ∨ fld p (o + 36) 1 = 0xFF)) (badParam (o + 36))],
   [need (isProvided (fld p o 1) s) (badParam o),
    need (decide (fld p (o + 36) 1 = 0xFF) || isProvided (fld p (o + 36) 1) s) (badParam (o + 36))])

/-- The stream of a kind that a command names is enabled. -/
def enabledErr (kind : Nat) (c : Cmd) (s : State) : Option Err := if (streamAt kind (fld c.params 0 1) s).en then errSt stBusy else none

/-- FY_SET_VIDEO_STREAM (R144, R154, R173). -/
def specFySetVideoStream : OpSpec where
  opcode := 0x0304
  fits := fun n => n == 100
  params := fun c s =>
    let p := c.params
    let ps := pathErrs p 16 s
    let len := fld p 11 1 * contentLen (bufferSurface p 0)
    firstErr
      ([inRange (fld p 0 1) 0 63 0, inRange (fld p 1 1) 0 2 1,
        need (decide (fld p 2 1 = 8 ∨ fld p 2 1 = 10 ∨ fld p 2 1 = 12)) (badParam 2), inRange (fld p 3 1) 0 1 3,
        need (decide (64 ≤ fld p 4 2 ∧ fld p 4 2 ≤ 8192 ∧ fld p 4 2 % 2 = 0)) (badParam 4), inRange (fld p 6 2) 64 4320 6,
        inRange (fld p 8 1) 0 1 8, inRange (fld p 9 1) 0 2 9, inRange (fld p 10 1) 1 255 10, inRange (fld p 11 1) 2 8 11,
        need (decide (fld p 12 1 ≤ 31 ∨ fld p 12 1 = 0xFF)) (badParam 12), inRange (fld p 13 1) 96 127 13,
        inRange (fld p 14 2) 0 10000 14] ++ ps.1 ++
       [need (decide (fld p 88 8 % 4096 = 0)) (badParam 88), inRange (fld p 96 1) 0 3 96, inRange (fld p 97 1) 0 2 97,
        inRange (fld p 98 1) 0 1 98,
        (match streamOf (fld p 12 1) s with
         | some k => if fld p 12 1 ≤ 31 ∧ k ≠ fld p 0 1 then badParam 12 else none
         | none => none)] ++ ps.2 ++
       [need (decide (fld p 88 8 + len ≤ 0xA00000000)) (badParam 88)])
  state := enabledErr 0
  run := fun c s =>
    let p := c.params
    let k := fld p 0 1
    let mine := fun (h : Nat) => decide (3584 + 8 * k ≤ h ∧ h < 3584 + 8 * k + 8)
    let new := (List.range (fld p 11 1)).map (fun b => (3584 + 8 * k + b, bufferSurface p b))
    let s1 := updFy (fun y => { y with surfaces := y.surfaces.filter (fun x => ¬ mine x.1) ++ new }) s
    let s2 := updStream 0 k (fun x => { x with cfg := p }) s1
    ok c 0x0304 [] (updVideo k (fun _ => { bound := if fld p 12 1 ≤ 31 then some (fld p 12 1) else none }) s2)

def execFySetVideoStream (c : Cmd) (s : State) : Host.Outcome State Fault Refusal := runCmd specFySetVideoStream c s

/-- Channels of all audio streams but one. -/
def otherChannels (k : Nat) (s : State) : Nat :=
  ((List.range 64).map (fun i => if i = k then 0 else fld (streamAt 1 i s).cfg 3 1)).foldl (· + ·) 0

/-- FY_SET_AUDIO_STREAM (R145, R147, R528). -/
def specFySetAudioStream : OpSpec where
  opcode := 0x0305
  fits := fun n => n == 92
  params := fun c s =>
    let p := c.params
    let ps := pathErrs p 8 s
    firstErr
      ([inRange (fld p 0 1) 0 63 0, inRange (fld p 1 1) 0 1 1, inRange (fld p 2 1) 0 1 2, inRange (fld p 3 1) 1 64 3,
        inRange (fld p 4 1) 0 127 4, inRange (fld p 5 1) 0 3 5, inRange (fld p 6 2) 0 10000 6] ++ ps.1 ++ ps.2 ++
       [need (decide (otherChannels (fld p 0 1) s + fld p 3 1 ≤ 1024)) (badParam 3),
        need (decide (fld p 80 8 + fld p 88 4 * 4 * (fld p 3 1 + 1) ≤ 0xA00000000)) (badParam 80)])
  state := enabledErr 1
  run := fun c s => ok c 0x0305 [] (updStream 1 (fld c.params 0 1) (fun x => { x with cfg := c.params, seqs := [] }) s)

def execFySetAudioStream (c : Cmd) (s : State) : Host.Outcome State Fault Refusal := runCmd specFySetAudioStream c s

/-- FY_SET_ANC_STREAM (R146, R147, R157, R163). -/
def specFySetAncStream : OpSpec where
  opcode := 0x0306
  fits := fun n => n == 92
  params := fun c s =>
    let p := c.params
    let ps := pathErrs p 8 s
    firstErr
      ([inRange (fld p 0 1) 0 63 0, need (decide (fld p 1 1 ≤ 63 ∨ fld p 1 1 = 0xFF)) (badParam 1), inRange (fld p 2 1) 0 127 2,
        inRange (fld p 4 2) 0 10000 4] ++ ps.1 ++ ps.2 ++
       [need (decide (fld p 80 8 + 64 + 512 * fld p 88 4 ≤ 0xA00000000)) (badParam 80)])
  state := enabledErr 2
  run := fun c s => ok c 0x0306 [] (updStream 2 (fld c.params 0 1) (fun x => { x with cfg := c.params, seqs := [] }) s)

def execFySetAncStream (c : Cmd) (s : State) : Host.Outcome State Fault Refusal := runCmd specFySetAncStream c s

/-- Joins (frame kind 4) or leaves (5) of a stream's paths (R141). -/
def groupFrames (kind k code : Nat) (s : State) : State :=
  let x := streamAt kind k s
  (List.range 2).foldl (fun t path =>
    if hasPath kind path x then
      let o := pathOff kind path
      emit .head (.eth (pathSub kind path x) code [(leNat ((x.cfg.drop (o + 4)).take 16) : Nat), (leNat ((x.cfg.drop (o + 20)).take 16) : Nat)]) t
    else t) s

/-- Enable a stream. -/
def enableStream (kind k : Nat) (s : State) : State :=
  let w := wall s.head.mt
  let layer := fld (streamAt kind k s).cfg 12 1
  let free : Bool := decide (layer ≤ 31) && (match streamOf layer s with | some j => j == k | none => true)
  let s1 := updStream kind k (fun x => { x with en := true, seen0 := some w, seen1 := some w, lost0 := false, lost1 := false, seqs := [] }) s
  let s2 := if kind = 0 then
      updVideo k (fun v => { v with
        bound := if free then some layer else none, frames := [], done := [], models := [{}, {}], newest := none, complete := [], lost := false
        fromTick := nextTick s.head.mt }) s1
    else s1
  groupFrames kind k 4 s2

/-- Disable a stream (R158, R172): its layer is unbound and keeps its last committed frame. -/
def disableStream (kind k : Nat) (s : State) : State :=
  let s1 := dropHeldPackets kind k (updStream kind k (fun x => { x with en := false }) s)
  let s2 := if kind = 0 then updVideo k (fun v => { v with bound := none, frames := [], complete := [] }) s1 else s1
  groupFrames kind k 5 s2

/-- FY_STREAM_CTL. -/
def specFyStreamCtl : OpSpec where
  opcode := 0x0307
  fits := fun n => n == 4
  params := fun c _ => firstErr [inRange (fld c.params 0 1) 0 63 0, inRange (fld c.params 1 1) 0 2 1, inRange (fld c.params 2 1) 0 1 2]
  run := fun c s =>
    let k := fld c.params 0 1
    let kind := fld c.params 1 1
    let on := fld c.params 2 1 = 1
    let was := (streamAt kind k s).en
    ok c 0x0307 [] (if on ∧ ¬ was then enableStream kind k s else if ¬ on ∧ was then disableStream kind k s else s)

def execFyStreamCtl (c : Cmd) (s : State) : Host.Outcome State Fault Refusal := runCmd specFyStreamCtl c s

/-- FY_GET_STREAM_STATS. -/
def specFyGetStreamStats : OpSpec where
  opcode := 0x0308
  fits := fun n => n == 4
  params := fun c _ => firstErr [inRange (fld c.params 0 1) 0 63 0, inRange (fld c.params 1 1) 0 2 1]
  run := fun c s =>
    let k := fld c.params 0 1
    let kind := fld c.params 1 1
    let x := (streamAt kind k s).stats
    let w := fun (v : BitVec 32) => leBytes 4 v.toNat
    let s1 := if bit (fld c.params 2 1) 0 then updStats kind k (fun y => { lastCommit := y.lastCommit }) s else s
    ok c 0x0308 (w x.committed ++ w x.incomplete ++ w x.noBuffer ++ w x.late ++ w x.formatErrors ++ w x.model ++ w x.discarded ++
      w x.path0 ++ w x.path1 ++ w x.duplicates ++ leBytes 8 x.lastCommit) s1

def execFyGetStreamStats (c : Cmd) (s : State) : Host.Outcome State Fault Refusal := runCmd specFyGetStreamStats c s

/-- The surface in the parameters of FY_SURFACE_CREATE. -/
def parseSurface (p : List Byte) : Surface :=
  { format := fld p 0 1, layout := fld p 1 1, width := fld p 4 2, height := fld p 6 2, pitch := fld p 8 4, base := fld p 12 8, hdrBase := fld p 20 8 }

/-- Host handles in use. -/
def hostHandles (s : State) : List Nat := (s.head.fy.surfaces.map Prod.fst).filter (fun h => h < 3584)

/-- The lowest free host handle (R164). -/
def freeHandle (s : State) : Option Nat := (List.range 3584).find? (fun h => ¬ (hostHandles s).contains h)

/-- R164, R165, R167, R177 of a surface to be created. -/
def surfaceErr (f : Surface) : Option Err :=
  firstErr
    [inRange f.format 1 6 0, inRange f.layout 0 2 1, need (decide (f.layout ≠ 2 ∨ f.format ≤ 4)) (badParam 1),
     need (decide (16 ≤ f.width ∧ f.width ≤ 16384 ∧ (f.format < 5 ∨ f.width % 2 = 0))) (badParam 4), inRange f.height 16 16384 6,
     need (decide (if f.layout = 0 then f.pitch % 256 = 0 ∧ f.width * bytesPer f.format ≤ f.pitch else f.pitch = 0)) (badParam 8),
     need (decide (f.base % 4096 = 0 ∧ f.base + contentLen f ≤ 0xA00000000)) (badParam 12),
     need (decide (if f.layout = 2 then f.hdrBase % 4096 = 0 ∧ f.hdrBase + 16 * tileCount f ≤ 0xA00000000 else f.hdrBase = 0)) (badParam 20)]

/-- FY_SURFACE_CREATE (R164, R165, R167, R382). -/
def specFySurfaceCreate : OpSpec where
  opcode := 0x0309
  fits := fun n => n == 28
  role := publisherOnly
  params := fun c _ => surfaceErr (parseSurface c.params)
  state := fun _ s => if (freeHandle s).isNone then errSt stBusy else none
  run := fun c s =>
    let h := (freeHandle s).getD 0
    finishFwd c 0x0309 (replyTo c 0x0309 stOk (leBytes 2 h)) h (BitVec.ofNat 32 c.tag) 0 (updFy (fun y => { y with surfaces := y.surfaces ++ [(h, parseSurface c.params)] }) s)

def execFySurfaceCreate (c : Cmd) (s : State) : Host.Outcome State Fault Refusal := runCmd specFySurfaceCreate c s

/-- A layer names a surface: in force, shown, in an accepted change or in a commit that waits. -/
def namesSurface (h : Nat) (s : State) : Bool :=
  let scene := fun (sc : Scene) => sc.layers.any (fun l => l.surface == h)
  let entry := fun (e : Entry) => bit e.change 0 && e.vals.surface == h
  scene s.head.pl.base || scene s.head.pl.shown ||
    s.head.pl.pend.any (fun p => match p.change with | .commit _ es => es.any entry | .foyer _ _ _ f _ _ _ _ => f == h | _ => false) ||
    s.head.pl.waiting.any (fun w => w.entries.any entry)

/-- FY_SURFACE_DESTROY. -/
def specFySurfaceDestroy : OpSpec where
  opcode := 0x030A
  fits := fun n => n == 4
  role := fun c s => firstErr [publisherOnly c s, (if 3584 ≤ fld c.params 0 2 then errSt stNotInRole else none)]
  params := fun c s => need (getKey s.head.fy.surfaces (fld c.params 0 2)).isSome (badParam 0)
  state := fun c s =>
    let h := fld c.params 0 2
    if namesSurface h s ∨ s.head.pl.leases.any (fun l => l.surface == h) then errSt stBusy else none
  run := fun c s => okFwd c 0x030A [] (updFy (fun y => { y with surfaces := delKey y.surfaces (fld c.params 0 2) }) s)

def execFySurfaceDestroy (c : Cmd) (s : State) : Host.Outcome State Fault Refusal := runCmd specFySurfaceDestroy c s

end Sys2Proof.Machine
end

