-- ==== Sys2Proof/Machine/Hearth.lean ====
section
/-!
DEFINITION. Hearth (R466 to R492): the sample and the hysteretic step, load feed-forward, references and coefficient banks, the
rail states and their faults, and the commands.
-/
namespace Sys2Proof.Machine

/-- Change Hearth. -/
def updHt (f : Hearth → Hearth) (s : State) : State := { s with tile.ht := f s.tile.ht }

/-- Rail `n`. -/
def railAt (n : Nat) (s : State) : Rail := s.tile.ht.rails.getD n { vSet := 0, coef := [] }

/-- Change rail `n`. -/
def updRail (n : Nat) (f : Rail → Rail) (s : State) : State := updHt (fun h => { h with rails := upd h.rails n f }) s

/-! ## Fixed parts (R466, R467) -/

/-- Phases of a rail. -/
def railPhases (n : Nat) : Nat := if n = 3 then 3 else 1

/-- Peak current, continuous current, in mA. -/
def railPeak (n : Nat) : Int := if n = 3 then 9000 else 4000
def railCont (n : Nat) : Int := if n = 3 then 9000 else 3200

/-- L_NH. -/
def railL (n : Nat) : Int := if n = 3 then 330 else 470

/-- The overvoltage threshold in mV. -/
def overThreshold (n : Nat) (r : Rail) : Int := if n = 3 then 900 else r.vRef + 400

/-- The set range of an LED rail (R466). DEDUCED, log entry 65. -/
def setRange (n : Nat) : Nat × Nat := if n = 0 then (2000, 3200) else (2800, 4200)

/-- The coefficients in use. -/
def coefNow (n : Nat) (s : State) : Coef := (railAt n s).coef.getD s.tile.ht.bank {}

/-- A rail that regulates. -/
def isOn (r : Rail) : Bool := r.state == .softStart || r.state == .run

/-- The current of a rail. -/
def railCurrent (r : Rail) : Int := sumI r.i

/-! ## Starting, stopping, faults (R481 to R486) -/

/-- Stop a rail (R484). -/
def stopped (st : RailState) (now : Nat) (r : Rail) : Rail :=
  { r with
    state := st, since := now, sw := r.sw.map (fun _ => false), blocked := r.blocked.map (fun _ => false), discharge := true
    settled := 0, dropSince := none, dropPosted := false }

/-- Enter SOFT_START (R476, R481, R483) with the voltage `v`. -/
def softStart (v : Int) (now : Nat) (r : Rail) : Rail :=
  { r with
    state := .softStart, since := now, acc := 0, vRef := min (r.vSet : Int) v, fe := 0, settled := 0, discharge := false }

/-- HT_RAIL_FAULT's record of a fault (R484, R492). -/
def noteFault (n cause : Nat) (s : State) : State :=
  let r := railAt n s
  post .tile 0x0C 3 0x0002 (BitVec.ofNat 32 (n + 256 * cause))
    (BitVec.ofNat 64 (unsigned 32 r.v + 2 ^ 32 * unsigned 32 (railCurrent r)))
    (updHt (fun h => { h with faulted := h.faulted ||| (1#4 <<< n) })
      (updRail n (fun r => { r with faults := r.faults + 1, lastCause := cause }) s))

/-- The Hearth cause of R459 while an LED rail is not in RUN (R489). -/
def railDark (s : State) : State :=
  if (s.tile.ht.rails.take 3).all (fun r => r.state == .run) then
    updHt (fun h => { h with runSince := some (h.runSince.getD s.now) }) s
  else darken 6 (updHt (fun h => { h with runSince := none }) s)

/-- Times of the last 10 s. -/
def lastTen (l : List Nat) (now : Nat) : List Nat := l.filter (fun t => now ≤ t + 10000000000)

/-- A VCORE fault (R486): every rail stops, and the Tile is held in reset. -/
def coreFault (cause : Nat) (s : State) : State :=
  let fails := lastTen s.tile.ht.coreFails s.now ++ [s.now]
  let s1 := nvStop .tile (noteFault 3 cause s)
  { updHt (fun h =>
      { h with
        rails := h.rails.map (stopped .off s.now), coreFails := fails, coreCause := cause }) (darken 0 s1) with
    tile.sys.phase := .inReset
    tile.sys.vcoreFaultAt := if 3 ≤ fails.length then none else some s.now }

/-- A fault of cause 1 to 4 (R481, R484 to R486). DEDUCED, log entry 65. -/
def railFault (n cause : Nat) (s : State) : State :=
  if ¬ isOn (railAt n s) then s
  else if n = 3 then coreFault cause s
  else
    let s1 := noteFault n cause s
    let fails := lastTen (railAt n s1).failTimes s.now ++ [s.now]
    let latch := decide (s.tile.ht.retryMax < fails.length)
    let s2 := updRail n (fun r =>
      { stopped (if latch then .latched else .retryWait) s.now r with failTimes := fails }) s1
    noteDetect (railDark (if latch then post .tile 0x0C 3 0x0003 (BitVec.ofNat 32 n) 0 s2 else s2))

/-- EN of an LED rail (R481). -/
def setEn (n : Nat) (b : Bool) (s : State) : State :=
  let s1 := updRail n (fun r => { r with en := b }) s
  if b then s1
  else noteDetect (railDark (updRail n (fun r => if r.state = .off then r else stopped .off s.now r) s1))

/-! ## The sample (R468 to R483, R487 to R490) -/

/-- Bring the bank that BANK names into use (R479). -/
def swapBank (s0 : State) : State :=
  let h0 := s0.tile.ht
  let due := match h0.swap with
    | some (_, none) => true
    | some (_, some n) => (match tickOf s0.tile.mt n with | some t => decide (t ≤ (wallOf .tile s0 : Int)) | none => true)
    | none => false
  let s := if due then updHt (fun h => { h with bankWrite := (h.swap.map Prod.fst).getD h.bankWrite, swap := none }) s0 else s0
  let h := s.tile.ht
  if h.bankWrite = h.bank then s
  else
    post .tile 0x0C 0 0x0008 (BitVec.ofNat 32 h.bankWrite) ((BitVec.ofInt 32 (tileView s)).zeroExtend 64)
      (updHt (fun h =>
        { h with
          bank := h.bankWrite
          rails := h.rails.map (fun r =>
            let k := r.coef.getD h.bankWrite {}
            { r with acc := clampI (65536 * min k.intMin k.intMax) (65536 * k.intMax) r.acc }) }) s)

/-- I_FF of a rail in mA (R473); LOAD is held as µA × 65 536. DEDUCED, log entry 65. -/
def feedForward (n : Nat) (k : Coef) (s : State) : Int :=
  if n = 3 then 0 else ((s.tile.ht.load.getD n 0 * k.ffGain / (256000 * 65536) : Nat) : Int)

/-- The step of R469 for one rail: its integrator and its switches. DEDUCED, log entry 65. -/
def stepRail (n : Nat) (k : Coef) (iff vin : Int) (r : Rail) : Rail :=
  let e := r.vRef - r.v
  let acc := clampI (65536 * min k.intMin k.intMax) (65536 * k.intMax) (r.acc + k.ki * e)
  let top := min k.irefMax (railPeak n)
  let low := if k.irefMax < k.irefMin then k.irefMax else k.irefMin
  let lo := min (if r.state = .softStart then max 0 low else low) top
  let iref := clampI lo top (iff + k.kp * e / 16 + acc / 65536)
  let itgt := iref / (railPhases n : Int)
  let half : Int := ((k.h / 2 : Nat) : Int)
  { r with
    acc := acc
    blocked := r.blocked.map (fun _ => false)
    sw := r.sw.mapIdx (fun p on =>
      let slope := if on then vin - r.v else -r.v
      let ipred := r.i.getD p 0 + slope * 20 / railL n
      if ipred ≤ itgt - half then true else if itgt + half ≤ ipred then false else on) }

/-- The following error and the end of soft start (R481, R483); HT_RAIL_UP. DEDUCED, log entry 65. -/
def followRail (n : Nat) (k : Coef) (s : State) : State :=
  let r := railAt n s
  let e := (r.vRef - r.v).natAbs
  let fe := if k.feLimit < e then r.fe + 1 else r.fe - 1
  let settled := if r.state = .softStart ∧ r.vRef = r.vSet ∧ e ≤ k.feLimit then r.settled + 1 else 0
  let s1 := updRail n (fun r => { r with fe := fe, settled := settled }) s
  if k.feTime ≤ fe then railFault n 1 s1
  else if 20 ≤ settled then
    post .tile 0x0C 0 0x0001 (BitVec.ofNat 32 n) 0 (updRail n (fun r => { r with state := .run, since := s.now, settled := 0 }) s1)
  else s1

/-- HT_DROPOUT of a running LED rail (R487). -/
def dropout (n : Nat) (s : State) : State :=
  let r := railAt n s
  if r.state = .run ∧ s.tile.ht.vin - r.vRef < 300 then
    let t := r.dropSince.getD s.now
    let s1 := updRail n (fun r => { r with dropSince := some t }) s
    if ¬ r.dropPosted ∧ t + 1000000 ≤ s.now then
      post .tile 0x0C 2 0x0005 (BitVec.ofNat 32 n) (BitVec.ofInt 64 s.tile.ht.vin) (updRail n (fun r => { r with dropPosted := true }) s1)
    else s1
  else updRail n (fun r => { r with dropSince := none, dropPosted := false }) s

/-- Samples of 1 µs and of 100 ms. DEDUCED, log entry 66. -/
abbrev shortMean : Nat := 20
abbrev longMean : Nat := 2000000

/-- HT_OVERLOAD (R490). -/
def overload (n : Nat) (s : State) : State :=
  let sum := sumI (railAt n s).hist
  if sum ≤ railCont n * (longMean : Nat) then s
  else
    let s1 := updHt (fun h => { h with overload := true }) s
    if s.now < (((railAt n s).overPosted).map (fun t => t + 1000000000)).getD 0 then s1
    else
      let d := draw s1
      post .tile 0x0C 2 0x0006 (BitVec.ofNat 32 n) (BitVec.ofInt 64 (freeDiv d.1 sum (longMean : Nat)))
        (updRail n (fun r => { r with overPosted := some s.now }) d.2)

/-- One rail at a sample: what was measured, then the step of the rail as its state was, or its entry into SOFT_START. -/
def sampleRail (m : HearthMeas) (s0 : State) (n : Nat) : State :=
  let s := updRail n (fun r =>
    let i := (List.range (railPhases n)).map (fun p => (m.i.getD n []).getD p 0)
    let v := m.v.getD n 0
    { r with v := v, i := i, hist := (sumI i :: r.hist).take longMean, discharge := r.discharge && decide (200 ≤ v) }) s0
  let r := railAt n s
  let k := coefNow n s
  let s1 :=
    if isOn r then followRail n k (updRail n (stepRail n k (feedForward n k s) s.tile.ht.vin) s)
    else if r.state = .off ∧ r.en ∧ ¬ s.tile.ht.inputLow then updRail n (softStart r.v s.now) s
    else s
  overload n (if n = 3 then s1 else dropout n s1)

/-- HEARTH_SAMPLE (R468, R469): at every 50th count of the Mantel counter. -/
def hearthSample (m : HearthMeas) (s : State) : State :=
  let k := s.tile.mt.cnt.toNat / 50
  if k ≤ s.tile.ht.sampleAt then s
  else
    let s1 := updHt (fun h =>
      { h with sampleAt := k, vin := m.vin, load := if h.late then (if s.tile.lp.dark then [0, 0, 0] else s.tile.ld.load) else h.load
               late := false }) s
    let s2 := (List.range 4).foldl (fun a n => if inService .tile a then sampleRail m a n else a) (swapBank s1)
    if inService .tile s2 then noteDetect (railDark s2) else s2

def execHearthSample (m : HearthMeas) (s : State) : Host.Outcome State Fault Refusal := onPart .tile (hearthSample m) s

/-! ## The gates (R470, R472, R484) -/

/-- The high side of phase `p` conducts. -/
def highSide (p : Nat) (r : Rail) : Bool := isOn r && r.sw.getD p false && !r.blocked.getD p false

/-- The low side of phase `p` conducts with the inductor current `i`: in RUN whenever the high side does not, in SOFT_START and
in a rail that stops only while the current is above 0. -/
def lowSide (p : Nat) (i : Int) (r : Rail) : Bool := !highSide p r && (r.state == .run || decide (0 < i))

/-! ## Load feed-forward (R473, R474) -/

/-- A load value that comes late: counted, and posted at most once per second with the values since the last record.
DEDUCED, log entry 65. -/
def noteLate (s : State) : State :=
  let s1 := updHt (fun h => { h with late := true, ffLate := h.ffLate + 1, lateSeen := true, lateCount := h.lateCount + 1 }) s
  if s.now < ((s.tile.ht.latePosted).map (fun t => t + 1000000000)).getD 0 then s1
  else
    post .tile 0x0C 2 0x0007 0 (BitVec.ofNat 64 s1.tile.ht.lateCount)
      (updHt (fun h => { h with latePosted := some s.now, lateCount := 0 }) s1)

/-- A HEARTH instant after the last one that fired. -/
def hearthLater (t : TileTime) (n j r : Nat) : Bool :=
  !t.hearthSeen || decide (t.hearthN < n ∨ (t.hearthN = n ∧ (t.hearthJ < j ∨ (t.hearthJ = j ∧ t.hearthR < r))))

/-- The HEARTH instant of row slot `r` has come and has not been taken. -/
def hearthDue (n j r : Nat) (s : State) : Bool :=
  match tilePar n s with
  | none => false
  | some t =>
    hearthLater s.tile.time n j r &&
      decide (j < cyclesOf t ∧ r ≤ 68 ∧ rowStart t n j r - s.tile.ht.hLeadNow ≤ wallOf .tile s)

/-- HEARTH: the load of row slot `r`, H_LEAD before it (R66, R473); `arrived` says that Landing's value has come.
DEDUCED, log entry 64. -/
def hearthAt (n j r : Nat) (arrived : Bool) (s : State) : State :=
  if hearthDue n j r s then
    let s1 := { s with tile.time.hearthN := n, tile.time.hearthJ := j, tile.time.hearthR := r, tile.time.hearthSeen := true }
    if r = 0 ∨ s.tile.lp.dark then updHt (fun h => { h with load := [0, 0, 0], late := false }) s1
    else if arrived then updHt (fun h => { h with load := s.tile.ld.load, late := false }) s1
    else noteLate s1
  else s

def execHearth (n j r : Nat) (arrived : Bool) (s : State) : Host.Outcome State Fault Refusal := onPart .tile (hearthAt n j r arrived) s

/-! ## Reference, comparators, timers -/

/-- One microsecond of V_REF (R477, R481). -/
def stepRef (r : Rail) : Rail :=
  let up := min (r.vRef + r.ssRate) (r.vSet : Int)
  match r.state with
  | .softStart => { r with vRef := if r.vRef ≤ r.vSet then up else r.vRef }
  | .run => { r with vRef := if r.vRef ≤ r.vSet then up else max (r.vRef - r.ssRate) (r.vSet : Int) }
  | _ => r

/-- VREF_STEP: at each microsecond boundary of the Mantel counter. -/
def execVrefStep (s : State) : Host.Outcome State Fault Refusal :=
  onPart .tile (fun s =>
    let k := s.tile.mt.cnt.toNat / 1000
    if k ≤ s.tile.ht.stepAt then s else updHt (fun h => { h with stepAt := k, rails := h.rails.map stepRef }) s) s

/-- ILIM_HW_EVENT (R472, R482): the 64th within 1 ms is a fault. -/
def execIlimHwEvent (rail phase : Nat) (s : State) : Host.Outcome State Fault Refusal :=
  onPart .tile (fun s =>
    if 4 ≤ rail ∨ railPhases rail ≤ phase ∨ ¬ isOn (railAt rail s) then s
    else
      let times := ((railAt rail s).ocTimes.filter (fun t => s.now ≤ t + 1000000)) ++ [s.now]
      let s1 := updRail rail (fun r =>
        { r with blocked := upd r.blocked phase (fun _ => true), oc := r.oc + 1, ocTimes := times }) s
      if 64 ≤ times.length then railFault rail 3 s1 else s1) s

/-- OVERVOLTAGE_FAULT (R482). -/
def execOvervoltageFault (rail : Nat) (v : Int) (s : State) : Host.Outcome State Fault Refusal :=
  onPart .tile (fun s =>
    if rail < 4 ∧ isOn (railAt rail s) ∧ overThreshold rail (railAt rail s) < v then
      railFault rail 2 (updRail rail (fun r => { r with v := v }) s)
    else s) s

/-- SS_TIMEOUT (R481): V_SET / SS_RATE + 1 000 µs since entry. DEDUCED, log entry 65. -/
def execSsTimeout (rail : Nat) (s : State) : Host.Outcome State Fault Refusal :=
  onPart .tile (fun s =>
    let r := railAt rail s
    if rail < 4 ∧ r.state = .softStart ∧ r.vSet * 1000 + 1000000 * r.ssRate ≤ (s.now - r.since) * r.ssRate then railFault rail 4 s
    else s) s

/-- RETRY_WAIT_EXPIRY (R481, R485). -/
def execRetryWaitExpiry (rail : Nat) (v : Int) (s : State) : Host.Outcome State Fault Refusal :=
  onPart .tile (fun s =>
    let r := railAt rail s
    if rail < 3 ∧ r.state = .retryWait ∧ r.since + 1000000 * s.tile.ht.retryMs ≤ s.now ∧ ¬ s.tile.ht.inputLow then
      updRail rail (softStart v s.now) s
    else s) s

/-- HT_INPUT_LOW (R487): LED rails stop with cause 5, which counts toward no retry. -/
def execHtInputLow (vin : Int) (s : State) : Host.Outcome State Fault Refusal :=
  onPart .tile (fun s =>
    if s.tile.ht.inputLow ∨ 4300 ≤ vin then s
    else
      let stop := fun (a : State) (n : Nat) =>
        if isOn (railAt n a) then updRail n (stopped .retryWait a.now) (noteFault n 5 a) else a
      let s1 := (List.range 3).foldl stop (updHt (fun h => { h with inputLow := true, vin := vin }) s)
      noteDetect (railDark (post .tile 0x0C 3 0x0009 0 (BitVec.ofInt 64 vin) s1))) s

/-- HT_INPUT_OK (R487, R607). -/
def execHtInputOk (vin : Int) (s : State) : Host.Outcome State Fault Refusal :=
  onPart .tile (fun s =>
    if ¬ s.tile.ht.inputLow ∨ vin < 4500 then s
    else
      nvStart .tile (post .tile 0x0C 1 0x000A 0 (BitVec.ofInt 64 vin) (updHt (fun h => { h with inputLow := false, vin := vin }) s))) s

/-- HEARTH_DARK_RELEASE (R489). -/
def execHearthDarkRelease (s : State) : Host.Outcome State Fault Refusal :=
  onPart .tile (fun s =>
    match s.tile.ht.runSince with
    | some t => if t + 1000000 ≤ s.now then undark 6 s else s
    | none => s) s

/-! ## Register contents -/

def htCtl (h : Hearth) : Nat := 65536 * h.hLead + 4096 * h.retryMax + 4 * h.retryMs + h.bankWrite

/-- A write of HT_CTL (R475, R479, R485). -/
def htCtlWrite (v : Word) (s : State) : State :=
  let w := v.toNat
  updHt (fun h => { h with hLead := bits w 25 16, retryMax := bits w 15 12, retryMs := bits w 11 2, bankWrite := bits w 0 0 }) s

/-- HT_CTL_BANK_WRITE. -/
def execHtCtlBankWrite (value : Word) (s : State) : Host.Outcome State Fault Refusal := onPart .tile (htCtlWrite value) s

def htStatus (h : Hearth) : Nat :=
  32768 * b2n h.coreRestarted + 16384 * b2n h.inputLow + 8192 * b2n h.lateSeen + 4096 * b2n h.overload + 256 * h.faulted.toNat +
    16 * ((List.range 4).map (fun n => match h.rails[n]? with
      | some r => if r.state = .run ∧ r.fe = 0 then 2 ^ n else 0
      | none => 0)).foldl (· + ·) 0 + h.bank

/-- The write-1-to-clear bits of HT_STATUS. -/
def htStatusWrite (v : Word) (s : State) : State :=
  updHt (fun h =>
    { h with
      coreRestarted := h.coreRestarted && !v.getLsbD 15, lateSeen := h.lateSeen && !v.getLsbD 13
      overload := h.overload && !v.getLsbD 12, faulted := h.faulted &&& ~~~(BitVec.ofNat 4 (bits v.toNat 11 8)) }) s

def htCoreLog (s : State) : Nat := 256 * min 255 (lastTen s.tile.ht.coreFails s.now).length + s.tile.ht.coreCause

def railCtl (r : Rail) : Nat := 2147483648 * b2n r.en + 65536 * r.ssRate + r.vSet

/-- A write of HT_RAIL_CTL_n; that of VCORE is read-only. -/
def railCtlWrite (n : Nat) (v : Word) (s : State) : State :=
  if 3 ≤ n then s
  else setEn n (v.getLsbD 31) (updRail n (fun r => { r with ssRate := bits v.toNat 23 16, vSet := bits v.toNat 12 0 }) s)

/-- HT_RAIL_CTL_EN_WRITE (R481). -/
def execHtRailCtlEnWrite (rail : Nat) (value : Word) (s : State) : Host.Outcome State Fault Refusal :=
  onPart .tile (railCtlWrite rail value) s

def railStateCode : RailState → Nat
  | .off => 0
  | .softStart => 1
  | .run => 2
  | .retryWait => 3
  | .latched => 4

def railStatus (n : Nat) (s : State) : Nat :=
  let r := railAt n s
  65536 * min 65535 r.fe + 4096 * min 15 (lastTen r.failTimes s.now).length + 256 * r.lastCause + railStateCode r.state

/-- HT_RAIL_MEAS_n: the rounding of the mean is free. -/
def railMeas (k n : Nat) (s : State) : Nat :=
  let r := railAt n s
  65536 * unsigned 16 (freeDiv k (sumI (r.hist.take shortMean)) (shortMean : Nat)) + unsigned 16 r.v

/-- HT_RAIL_MEAN_n. DEDUCED, log entry 66. -/
def railMean (k n : Nat) (s : State) : Nat := unsigned 16 (freeDiv k (sumI (railAt n s).hist) (longMean : Nat))

/-- The coefficient words of a rail in a bank. -/
def coefWord (k : Coef) (w : Nat) : Nat :=
  match w with
  | 0 => 65536 * k.kp + k.ki
  | 1 => 65536 * unsigned 16 k.intMax + unsigned 16 k.intMin
  | 2 => 65536 * unsigned 16 k.irefMax + unsigned 16 k.irefMin
  | 3 => 65536 * k.ffGain + k.h
  | _ => 65536 * k.feTime + k.feLimit

/-- Write one of them. -/
def setCoefWord (w v : Nat) (k : Coef) : Coef :=
  let hi := bits v 31 16
  let lo := bits v 15 0
  match w with
  | 0 => { k with kp := hi, ki := lo }
  | 1 => { k with intMax := signed 16 hi, intMin := signed 16 lo }
  | 2 => { k with irefMax := signed 16 hi, irefMin := signed 16 lo }
  | 3 => { k with ffGain := bits v 24 16, h := bits v 11 0 }
  | _ => { k with feTime := hi, feLimit := lo }

def coefWrite (bank n w : Nat) (v : Word) (s : State) : State :=
  updRail n (fun r => { r with coef := upd r.coef bank (setCoefWord w v.toNat) }) s

/-! ## Commands (R491) -/

def specHtGetStatus : OpSpec where
  opcode := 0x0C01
  onHead := false
  onTile := true
  run := fun c s =>
    let d := draw s
    let h := s.tile.ht
    ok c 0x0C01 (leBytes 4 (htCtl h) ++ leBytes 4 (htStatus h) ++ leInt 4 (unsigned 16 h.vin) ++ leBytes 4 h.ffLate.toNat ++
      (List.range 4).flatMap (fun n =>
        leBytes 4 (railCtl (railAt n s)) ++ leBytes 4 (railStatus n s) ++ leBytes 4 (railMeas d.1 n s) ++ leBytes 4 (railMean d.1 n s))) d.2

def execHtGetStatus (c : Cmd) (s : State) : Host.Outcome State Fault Refusal := runCmd specHtGetStatus c s

/-- Set a rail: V_SET, SS_RATE, then EN by the action. -/
def applyRail (n : Nat) (en : Option Bool) (v ss : Nat) (s : State) : State :=
  let s1 := updRail n (fun r => { r with vSet := v, ssRate := ss }) s
  match en with
  | some b => setEn n b s1
  | none => s1

/-- HT_SET_RAIL (R477, R481). -/
def specHtSetRail : OpSpec where
  opcode := 0x0C02
  onHead := false
  onTile := true
  frameable := true
  fits := fun n => n == 8
  params := fun c _ =>
    let p := c.params
    let g := setRange (fld p 0 1)
    firstErr [inRange (fld p 0 1) 0 2 0, inRange (fld p 1 1) 0 2 1, inRange (fld p 4 2) g.1 g.2 4, inRange (fld p 6 1) 1 50 6]
  state := fun c s =>
    need (¬ (fld c.params 1 1 = 1 ∧ (railAt (fld c.params 0 1) s).state = .latched)) (errSt stBusy)
  run := fun c s =>
    let p := c.params
    let n := fld p 0 1
    let en : Option Bool := if fld p 1 1 = 2 then none else some (decide (fld p 1 1 = 1))
    let f := tileFrame c s
    let s1 := match f with
      | some (m, _) => updRail n (fun r => { r with pendV := r.pendV ++ [(m, en, fld p 4 2, fld p 6 1)] }) s
      | none => applyRail n en (fld p 4 2) (fld p 6 1) s
    okTarget c 0x0C02 f s1

def execHtSetRail (c : Cmd) (s : State) : Host.Outcome State Fault Refusal := runCmd specHtSetRail c s

/-- Rails that wait for frame `n` take their values (R477). DEDUCED, log entry 65. -/
def hearthFlip (n : Nat) (s : State) : State :=
  (List.range 3).foldl (fun a k =>
    let due := (railAt k a).pendV.filter (fun e => e.1 ≤ n)
    due.foldl (fun b e => applyRail k e.2.1 e.2.2.1 e.2.2.2 b) (updRail k (fun r => { r with pendV := r.pendV.filter (fun e => ¬ e.1 ≤ n) }) a)) s

/-- What waits for a frame takes effect when a STOP does (R75). DEDUCED, log entry 49. -/
def hearthStop (s : State) : State :=
  let s1 := (List.range 3).foldl (fun a k =>
    (railAt k a).pendV.foldl (fun b e => applyRail k e.2.1 e.2.2.1 e.2.2.2 b) (updRail k (fun r => { r with pendV := [] }) a)) s
  updHt (fun h => { h with swap := h.swap.map (fun e => (e.1, none)) }) s1

/-- A bank that is in use, or that a pending swap will bring into use (R480). -/
def bankBusy (b : Nat) (h : Hearth) : Bool :=
  h.bank == b || h.bankWrite == b || (match h.swap with | some e => e.1 == b | none => false)

/-- HT_SET_COEF (R480). -/
def specHtSetCoef : OpSpec where
  opcode := 0x0C03
  onHead := false
  onTile := true
  fits := fun n => n == 24
  params := fun c _ =>
    let p := c.params
    let k := (List.range 5).foldl (fun k w => setCoefWord w (fld p (4 + 4 * w) 4) k) ({} : Coef)
    firstErr [inRange (fld p 0 1) 0 1 0, inRange (fld p 1 1) 0 3 1, inRange k.h 50 2000 16, inRange k.feLimit 10 1000 20,
      inRange k.feTime 1 65535 22, need (decide (k.intMin ≤ k.intMax)) (badParam 8), need (decide (k.irefMin ≤ k.irefMax)) (badParam 12),
      need (decide (k.irefMax ≤ railPeak (fld p 1 1))) (badParam 14)]
  state := fun c s => need (¬ bankBusy (fld c.params 0 1) s.tile.ht) (errSt stBusy)
  run := fun c s =>
    let p := c.params
    ok c 0x0C03 [] ((List.range 5).foldl (fun a w => coefWrite (fld p 0 1) (fld p 1 1) w (BitVec.ofNat 32 (fld p (4 + 4 * w) 4)) a) s)

def execHtSetCoef (c : Cmd) (s : State) : Host.Outcome State Fault Refusal := runCmd specHtSetCoef c s

/-- HT_SWAP_BANK (R479). -/
def specHtSwapBank : OpSpec where
  opcode := 0x0C04
  onHead := false
  onTile := true
  frameable := true
  fits := fun n => n == 4
  params := fun c _ => inRange (fld c.params 0 1) 0 1 0
  state := fun _ s => need (s.tile.ht.swap.isNone ∧ s.tile.ht.bankWrite = s.tile.ht.bank) (errSt stBusy)
  run := fun c s =>
    let b := fld c.params 0 1
    let f := tileFrame c s
    okTarget c 0x0C04 f
      (if b = s.tile.ht.bank then s else updHt (fun h => { h with swap := some (b, f.map Prod.fst) }) s)

def execHtSwapBank (c : Cmd) (s : State) : Host.Outcome State Fault Refusal := runCmd specHtSwapBank c s

/-- A LATCHED rail goes to OFF with its retry count at 0 (R481). -/
def unlatch (now : Nat) (r : Rail) : Rail := if r.state = .latched then { r with state := .off, since := now, failTimes := [] } else r

/-- HT_CLEAR_FAULT (R491). RAIL_MASK is bits [2:0] of its byte; R491 does not call bits [7:3] reserved, and a value with one of them
set is outside the range and refused. DESIGN CHOICE, log entry 98. -/
def specHtClearFault : OpSpec where
  opcode := 0x0C05
  onHead := false
  onTile := true
  fits := fun n => n == 4
  params := fun c _ => inRange (fld c.params 0 1) 0 7 0
  run := fun c s =>
    ok c 0x0C05 [] ((List.range 3).foldl (fun a n => if bit (fld c.params 0 1) n then updRail n (unlatch a.now) a else a) s)

def execHtClearFault (c : Cmd) (s : State) : Host.Outcome State Fault Refusal := runCmd specHtClearFault c s

def specHtGetCoef : OpSpec where
  opcode := 0x0C06
  onHead := false
  onTile := true
  fits := fun n => n == 4
  params := fun c _ => firstErr [inRange (fld c.params 0 1) 0 1 0, inRange (fld c.params 1 1) 0 3 1]
  run := fun c s =>
    let k := (railAt (fld c.params 1 1) s).coef.getD (fld c.params 0 1) {}
    ok c 0x0C06 ((List.range 5).flatMap (fun w => leBytes 4 (coefWord k w))) s

def execHtGetCoef (c : Cmd) (s : State) : Host.Outcome State Fault Refusal := runCmd specHtGetCoef c s

/-- HT_SET_LEAD (R475). -/
def specHtSetLead : OpSpec where
  opcode := 0x0C07
  onHead := false
  onTile := true
  fits := fun n => n == 4
  params := fun c s =>
    firstErr [inRange (fld c.params 0 2) 20 1000 0,
      match tileNow s with
      | some t => need (fld c.params 0 2 + 400 ≤ tMin t) (badParam 0)
      | none => none]
  run := fun c s => ok c 0x0C07 [] (updHt (fun h => { h with hLead := fld c.params 0 2 }) s)

def execHtSetLead (c : Cmd) (s : State) : Host.Outcome State Fault Refusal := runCmd specHtSetLead c s

end Sys2Proof.Machine
end

