-- ==== Sys2Proof/Machine/Porch.lean ====
section
/-!
DEFINITION. Porch (R81 to R137): its own commands, the PCIe queues, forwarded replies and timeouts, management
sessions and the event log. The register commands stand in Machine/Registers.lean, PO_RESTART in Machine/Startup.lean.
-/
namespace Sys2Proof.Machine

/-! ## Packets fetched from a ring -/

/-- The highest code of each opcode range, by its high byte (R94 and the owning chapters' tables). -/
def rangeTop (hi : Nat) : Nat :=
  match hi with
  | 0x01 => 0x0A | 0x02 => 0x08 | 0x03 => 0x0A | 0x04 => 0x07 | 0x05 => 0x0D | 0x06 => 0x09 | 0x07 => 0x05
  | 0x08 => 0x05 | 0x09 => 0x04 | 0x0A => 0x07 | 0x0B => 0x0A | 0x0C => 0x07 | 0x0D => 0x06 | 0x0E => 0x05
  | 0x0F => 0x06 | 0x10 => 0x12 | _ => 0

/-- Whether an opcode is defined (R94). -/
def knownOpcode (op : Nat) : Bool := op == 0x0100 || (1 ≤ op % 256 && op % 256 ≤ rangeTop (op / 256))

/-- The command a fetched packet spells (R81). -/
def parsePacket (q : Nat) (arrival : Nat) (b : List Byte) : Cmd :=
  { part := .head, src := .queue q, tag := fld b 2 2, flags := BitVec.ofNat 8 (fld b 6 1), status := fld b 7 1,
    pair := fld b 8 1, chain := fld b 9 1, position := fld b 10 1, frame := BitVec.ofNat 32 (fld b 12 4),
    arrival := arrival, params := (b.drop 16).take (fld b 4 2) }

/-- Slots the packet's LENGTH names (R107). -/
def packetSlots (b : List Byte) : Nat := slotsFor (fld b 4 2)

/-- Steps 1 and 2 of R98 on a fetched packet, and the notifications that software never sends (R95, R237): PO_EVENT_NOTIFY and
PL_RETIRE have no target but the Head, and step 5 refuses them with DENIED. -/
def fetchErr (c : Cmd) (op len : Nat) (s : State) : Option Err :=
  if c.status ≠ 0 ∨ flReply c.flags ∨ c.tag = 0xFFFF ∨ 4080 < len then badParamAny
  else if ¬ knownOpcode op then errSt stBadOpcode
  else if op = 0x010A ∨ op = 0x050D then
    firstErr [targetErr c s, (if op = 0x050D ∧ ¬ toHead c then errSt stNotInRole else none), recoveryErr op s, errSt stDenied]
  else none

/-- A fetched packet that a limit keeps from being taken (R100, R101). -/
def holdBack (q : Nat) (r : RingPkt) (s : State) : Bool :=
  atLimit (.queue q) s || (fld r.bytes 0 2 != 0x0100 && chainFull (parsePacket q r.arrival r.bytes) s)

/-- A queue falls into ring error: fetching stops, and vector 16 tells the host (R110, R112). -/
def ringFault (q : Nat) (count : Word) (s : State) : State :=
  emit .head (.msix 16) (post .head 0x01 3 0x0001 (BitVec.ofNat 32 q) (count.zeroExtend 64)
    (updQueue q (fun k => { k with ringError := true, halted := true }) s))

/-- Take one fetched packet: padding is consumed, a packet that fails the header or opcode step is answered, any
other becomes an outstanding command that has not started. -/
def takePacket (q : Nat) (r : RingPkt) (s : State) : State :=
  let op := fld r.bytes 0 2
  let c := parsePacket q r.arrival r.bytes
  if op = 0x0100 ∧ c.status = 0 ∧ ¬ flReply c.flags ∧ c.tag ≠ 0xFFFF ∧ fld r.bytes 4 2 ≤ 4080 then s
  else match fetchErr c op (fld r.bytes 4 2) s with
    | some e => refuse c op e (take op c s)
    | none => setOutst .head (s.head.po.outst ++ [{ entryOf op c s with started := false }]) s

/-- Fetch from a queue until its packets end, a limit is reached (R101) or a packet runs past the producer count
(R110). -/
def fetchAll (q : Nat) : List RingPkt → State → State
  | [], s => updQueue q (fun k => { k with unfetched := [] }) s
  | r :: rest, s =>
    let k := queueAt q s
    let n := packetSlots r.bytes
    if holdBack q r s then updQueue q (fun k => { k with unfetched := r :: rest }) s
    else if (k.cqTail - k.cqHead).toNat < n then
      ringFault q k.cqTail (updQueue q (fun k => { k with unfetched := r :: rest }) s)
    else
      let s1 := updQueue q (fun k => { k with cqHead := k.cqHead + BitVec.ofNat 32 n }) s
      fetchAll q rest (takePacket q r s1)

/-- Write the command consumer count back (R108). -/
def writeConsumer (q : Nat) (s : State) : State :=
  emit .head (.hostWrite (queueAt q s).cqWb.toNat (leBytes 4 (queueAt q s).cqHead.toNat)) s

/-- The command doorbell (R108, R110, R118): `packets` are the bytes the host's memory holds in the new slots.
DESIGN CHOICE, log entry 10. -/
def cqTail (q : Nat) (count : Word) (packets : List (List Byte)) (s : State) : State :=
  let k := queueAt q s
  if ¬ k.en ∨ k.halted then s
  else if 2 ^ k.cqSize < (count - k.cqHead).toNat then ringFault q count s
  else
    let now := wall s.head.mt
    let s1 := updQueue q (fun k => { k with cqTail := count }) s
    let fresh := packets.map (fun b => ({ arrival := now, bytes := b } : RingPkt))
    if firmwareGone s then updQueue q (fun k => { k with unfetched := k.unfetched ++ fresh }) s1
    else writeConsumer q (fetchAll q (k.unfetched ++ fresh) s1)

/-- PO_CQ_TAIL (R82, R84, R86, R91, R94, R98, R107, R108, R110). -/
def execPoCqTail (q : Nat) (count : Word) (packets : List (List Byte)) (s : State) : Host.Outcome State Fault Refusal :=
  onPart .head (fromHost (fun s => if q < 16 then cqTail q count packets s else s)) s

/-- A reply ring has room again: the time it was full is not counted against the replies of its commands (R103). -/
def noteRoom (q : Nat) (s : State) : State :=
  match (queueAt q s).fullSince with
  | some t =>
    if rqFull (queueAt q s) then s
    else
      let now := wall s.head.mt
      setOutst .head (s.head.po.outst.map (fun e =>
          if e.src = .queue q then { e with lastReply := e.lastReply + (now - max t e.lastReply) } else e))
        (updQueue q (fun k => { k with fullSince := none }) s)
  | none => s

/-- PO_RQ_HEAD (R108): reply slots are free again. -/
def execPoRqHead (q : Nat) (count : Word) (s : State) : Host.Outcome State Fault Refusal :=
  onPart .head (fromHost (fun s =>
    if (queueAt q s).en then noteRoom q (updQueue q (fun k => { k with rqHead := count }) s) else s)) s

/-- The fields of PO_Q_CTL other than EN. -/
def qCtlFields (v : Word) (k : Queue) : Queue :=
  { k with
    coalUs := BitVec.ofNat 8 (bits v.toNat 31 24), coalCnt := BitVec.ofNat 8 (bits v.toNat 23 16)
    irqEn := v.getLsbD 1 }

/-- A queue or session is gone: its commands run on with their replies discarded (R106), its subscription ends, a staging session
it opened closes (R593), and its leases leave no RETIRE record (R237). -/
def dropSource (src : Source) (s : State) : State :=
  sourceGone (fun x => x == src) { s with
    head.po.outst := s.head.po.outst.map (fun e => if e.src = src then { e with discard := true } else e)
    head.po.subs := s.head.po.subs.filter (fun u => u.1 ≠ src)
    head.at_.staging := s.head.at_.staging.filter (fun g => g.src ≠ src) }

/-- A write to PO_Q_CTL (R111). -/
def qCtlWrite (q : Nat) (v : Word) (s : State) : State :=
  let k := queueAt q s
  let s1 := updQueue q (qCtlFields v) s
  if v.getLsbD 0 then
    if k.en then s1
    else updQueue q (fun k =>
      { k with
        en := true, halted := false, cqTail := 0, cqHead := 0, rqTail := 0, rqHead := 0, unfetched := [], replies := [],
        unsignalled := 0, fullSince := none }) s1
  else if k.en then
    dropSource (.queue q)
      (updQueue q (fun k => { k with en := false, replies := [], unfetched := [], unsignalled := 0, fullSince := none }) s1)
  else s1

/-- PO_Q_ENABLE and PO_Q_DISABLE (R111): a write to PO_Q_CTL that sets or clears EN. -/
def execPoQEnable (q : Nat) (value : Word) (s : State) : Host.Outcome State Fault Refusal :=
  onPart .head (fromHost (fun s => if q < 16 then qCtlWrite q (value ||| 1#32) s else s)) s

def execPoQDisable (q : Nat) (value : Word) (s : State) : Host.Outcome State Fault Refusal :=
  onPart .head (fromHost (fun s => if q < 16 then qCtlWrite q (value &&& ~~~1#32) s else s)) s

/-- REPLY_WRITE (R109): the first waiting reply, once the ring has room. -/
def execReplyWrite (q : Nat) (s : State) : Host.Outcome State Fault Refusal :=
  onPart .head (fun s =>
    let k := queueAt q s
    match k.replies with
    | r :: rest =>
      if k.en ∧ rqFits k (slotsFor r.params.length) then
        noteRoom q (ringWrite q r (updQueue q (fun k => { k with replies := rest }) s))
      else s
    | [] => s) s

/-- MSIX_COALESCE_EXPIRY (R112, R129): the delay from the first unsignalled reply, or the count, is reached. -/
def execMsixCoalesceExpiry (q : Nat) (s : State) : Host.Outcome State Fault Refusal :=
  onPart .head (fun s =>
    let k := queueAt q s
    if 0 < k.unsignalled ∧
        (k.firstUnsig + 1000 * k.coalUs.toNat ≤ wall s.head.mt ∨ max 1 k.coalCnt.toNat ≤ k.unsignalled) then
      let s1 := updQueue q (fun k => { k with unsignalled := 0 }) s
      if k.irqEn then emit .head (.msix q) s1 else s1
    else s) s

/-- PORCH_RESUME_TAKING (R101): a place is free again, and the packets that waited are taken. -/
def execPorchResumeTaking (src : Source) (s : State) : Host.Outcome State Fault Refusal :=
  onPart .head (fun s =>
    match src with
    | .queue q =>
      let k := queueAt q s
      if k.en ∧ ¬ k.halted ∧ ¬ k.unfetched.isEmpty ∧ ¬ atLimit src s ∧ ¬ firmwareGone s then writeConsumer q (fetchAll q k.unfetched s) else s
    | _ => s) s

/-! ## Replies of Tiles -/

/-- Send the commands to Tiles that waited for a place (R100, R102). -/
def resumeForward (s : State) : State :=
  s.head.po.outst.foldl (fun a e =>
    if e.started ∧ e.final.isNone ∧ e.legs.any (fun l => l.sentAt.isNone && l.status.isNone) then sendLegs e a else a) s

/-- The forwarded command a Tile's reply answers: the oldest with its tag, opcode and Tile (R84, R99). -/
def findForwarded (chain pos tag op : Nat) (s : State) : Option Outst :=
  s.head.po.outst.find? (fun e => e.tag == tag && e.opcode == op && e.final.isNone && e.legs.any (atTile chain pos))

/-- A Tile's part of a command ends with a status: a broadcast replies once every Tile has one (R87), any other command with `rep`;
then the commands that waited for a place go out. -/
def endLeg (e : Outst) (chain pos st : Nat) (rep : Reply) (s : State) : State :=
  let e' := mapLegs chain pos (fun x => if atTile chain pos x then { x with status := some st } else x) e
  let s1 := putEntry e e' s
  resumeForward (if wasBcast e then settleBcast e' s1 else finish (entryCmd e) e.opcode rep s1)

/-- A PROGRESS reply of a Tile starts its 250 ms again and is passed on (R90, R103). -/
def tileProgress (e : Outst) (r : Reply) (s : State) : State :=
  let now := wall s.head.mt
  let e' := mapLegs r.chain r.position
    (fun x => if atTile r.chain r.position x then { x with sentAt := some now } else x) { e with lastReply := now, replied := true }
  if e.discard then putEntry e e' s else deliver .head e.src r (putEntry e e' s)

/-- A reply of a Tile to a command of this Head (R88, R93, R103). LATE that the Head decided stands in the reply; a Tile without
ticks answers without a frame (R649). DEDUCED, log entry 23. -/
def tileReply (r : Reply) (s : State) : State :=
  if r.opcode = 0x0109 then configReply r s
  else if r.opcode = 0x1010 ∨ r.opcode = 0x1011 then loadReply r s
  else match findForwarded r.chain r.position r.tag r.opcode s with
    | none => s
    | some e =>
      if r.status = stProgress then tileProgress e r s
      else
        let r' := if e.late ∧ r.status = stOk ∧ flFrame r.flags then { r with status := stLate, flags := 3, frame := e.frame } else r
        endLeg e r.chain r.position r'.status r' s

/-- The REPLY packet of a Tile (R333). -/
def replyPacket (r : TileReply) : GPkt :=
  let bytes := encodeReply r.reply
  { cls := 1, typ := 4, len := lenFor bytes.length, headB := r.headB, pair := r.reply.pair, chain := r.reply.chain
    position := r.reply.position, payload := bytes }

/-- TILE_REPLY_RECEIVED (R87, R88, R93, R103, R337): a reply for the partner passes over the twin port. -/
def execTileReplyReceived (r : Linked TileReply) (s : State) : Host.Outcome State Fault Refusal :=
  onPart .head (overLink .head r.via (fun s =>
    if r.msg.headB = s.head.sys.roleB then tileReply r.msg.reply s else passOver (replyPacket r.msg) s)) s

/-- TILE_COMMAND_TIMEOUT (R87, R90). -/
def execTileCommandTimeout (chain position : Nat) (tag : Nat) (s : State) : Host.Outcome State Fault Refusal :=
  onPart .head (fun s =>
    match s.head.po.outst.find? (fun e => e.tag == tag && e.final.isNone &&
        e.legs.any (fun l => atTile chain position l && decide (l.sentAt.getD 0 + 250000000 ≤ wall s.head.mt))) with
    | none => s
    | some e =>
      endLeg e chain position stTimeout (replyTo (entryCmd e) e.opcode stTimeout ({ status := stTimeout } : Err).params)
        (post .head 0x01 2 0x0006 (BitVec.ofNat 32 (e.opcode + 65536 * tag)) 0 s)) s

/-- TOTAL of a command's PROGRESS, in the units that its command defines (R104, R204, R429, R601): the 64 pseudo-channels of a fresh
run, the sectors of a slot, the sections of the staged bundle, the Tiles of a reload, the records of the Larder; otherwise 0, not
known. DESIGN CHOICE, log entry 25. -/
def progressTotal (p : Part) (e : Outst) (s : State) : Nat :=
  match p with
  | .head =>
    if e.opcode = 0x0402 then (match s.head.cl.op with | some o => if o.running then 64 else 0 | none => 0)
    else if e.opcode = 0x1008 then 1024
    else if e.opcode = 0x100A then
      match s.head.at_.staging with | some g => sectionCount (slotBytes g.slot s) | none => 0
    else if e.opcode = 0x100F then (reloadTiles e s).length
    else 0
  | .tile => if e.opcode = 0x0A06 then 129600 else 0
where
  /-- The Tiles that AT_TILE_RELOAD names (R601). -/
  reloadTiles (e : Outst) (s : State) : List TileEnt :=
    let ch := fld e.payload 0 1
    let po := fld e.payload 1 1
    s.head.en.filter (fun t => t.genuine && !t.reversed && (ch == 0xFF || t.chain == ch) && (po == 0xFF || t.position == po))

/-- DONE of a command's PROGRESS (R104): of a reload the Tiles that have ended it, else a free value up to TOTAL.
DESIGN CHOICE, log entry 25. -/
def progressDone (e : Outst) (total : Nat) (s : State) : Nat × State :=
  if total = 0 then (0, s)
  else if e.opcode = 0x100F then
    (match s.head.at_.reloads.find? (fun x => x.1.src == e.src && x.1.tag == e.tag) with
      | some x => total - x.2.length
      | none => total, s)
  else
    let d := draw s
    (Config.progressDone d.1 % (total + 1), d.2)

/-- The instant up to which the time of a command's reply counts: not while its reply ring is full (R103). -/
def replyClock (p : Part) (src : Source) (s : State) : Nat :=
  match p, src with
  | .head, .queue q => (queueAt q s).fullSince.getD (wallOf p s)
  | _, _ => wallOf p s

/-- PROGRESS_REPLY (R103, R104): a command without a final reply, started or not, reaches its reply deadline. -/
def execProgressReply (p : Part) (src : Source) (tag : Nat) (s : State) : Host.Outcome State Fault Refusal :=
  onPart p (fun s0 =>
    let s := expireRetrains p s0
    let limit := fun (e : Outst) => match p with
      | .head => if e.replied then 1000000000 else 2000000000
      | .tile => 200000000
    match (outstOf p s).find? (fun e =>
        e.src == src && e.tag == tag && e.final.isNone && decide (e.lastReply + limit e ≤ replyClock p src s)) with
    | none => s
    | some e =>
      let total := progressTotal p e s
      let d := progressDone e total s
      let rep : Reply :=
        { opcode := e.opcode, tag := e.tag, status := stProgress, flags := 9, pair := e.pair, chain := e.chain,
          position := e.position, params := leBytes 4 d.1 ++ leBytes 4 total }
      let s1 := setOutst p (putFirst e { e with lastReply := wallOf p s, replied := true } (outstOf p s)) d.2
      if e.discard then s1 else deliver p src rep s1) s

/-! ## Management sessions -/

/-- Close a session (R106, R115, R137). -/
def closeSession (n why : Nat) (s : State) : State :=
  let s1 := dropSource (.session n) { s with head.po.sessions := upd s.head.po.sessions n (fun _ => {}) }
  post .head 0x01 1 0x0005 (BitVec.ofNat 32 n) (BitVec.ofNat 64 why) s1

def sessionAt (n : Nat) (s : State) : Session := s.head.po.sessions.getD n {}

/-- MGMT_SESSION_CLOSE (R106, R137). -/
def execMgmtSessionClose (n : Nat) (tlsError : Bool) (s : State) : Host.Outcome State Fault Refusal :=
  onPart .head (fun s => if (sessionAt n s).isOpen then closeSession n (if tlsError then 2 else 0) s else s) s

/-- MGMT_SESSION_IDLE_TIMEOUT (R115). -/
def execMgmtSessionIdleTimeout (n : Nat) (s : State) : Host.Outcome State Fault Refusal :=
  onPart .head (fun s =>
    if (sessionAt n s).isOpen ∧ (sessionAt n s).last + 600000000000 ≤ wall s.head.mt then closeSession n 1 s else s) s

/-- PO_FRAMING_ERROR (R114). -/
def execPoFramingError (n : Nat) (length : Nat) (s : State) : Host.Outcome State Fault Refusal :=
  onPart .head (fun s =>
    if (sessionAt n s).isOpen ∧ 4080 < length then
      closeSession n 3 (post .head 0x01 2 0x0003 (BitVec.ofNat 32 n) 0 (emit .head (.tlsAlert n) s))
    else s) s

/-! ## The event log -/

/-- EVENTS_LOST of the Tile (R135, R137): the records that found its buffer full. -/
def eventsLost (s : State) : EventRec := mkEvent .tile 0x01 2 0x0007 (BitVec.ofNat 32 s.tile.po.lost) 0 s

/-- A record of the Tile of this model comes in: its buffer gives it up, preceded by EVENTS_LOST when records were dropped (R135).
A record that the buffer does not hold first cannot come. DEDUCED, log entry 26. -/
def forwardEvent (e : EventRec) (s : State) : State :=
  if s.tile.po.events.head? = some { e with seq := 0, fromTile := true } then
    let s1 := if 0 < s.tile.po.lost then insertEvent (eventsLost s) { s with tile.po.lost := 0 } else s
    insertEvent { e with fromTile := true } { s1 with tile.po.events := s.tile.po.events.tail }
  else s

/-- A Tile's record enters the log (R132, R134 to R136). -/
def eventTaken (e : EventRec) (s : State) : State :=
  if e.chain = s.tile.sys.chain ∧ e.position = s.tile.sys.position then forwardEvent e s
  else insertEvent { e with fromTile := true } s

/-- TILE_EVENT_RECEIVED (R132, R134 to R136). -/
def execTileEventReceived (e : Linked EventRec) (s : State) : Host.Outcome State Fault Refusal :=
  onPart .head (overLink .head e.via (eventTaken e.msg)) s

/-- EVENTS_SUPPRESSED (R134): wall time enters the next whole second. -/
def execEventsSuppressed (s : State) : Host.Outcome State Fault Refusal := onPart .head rollSecond s

/-- BAR_PARTIAL_WRITE (R124, R137): the value is not written. -/
def execBarPartialWrite (w : RegAccess) (_value : Word) (enables : BitVec 4) (s : State) : Host.Outcome State Fault Refusal :=
  onPart .head (fromHost (fun s =>
    if enables = 0xF ∨ w.space = .tileLocal then s
    else post .head 0x01 2 0x0002 0 (BitVec.ofNat 64 w.addr) s)) s

/-! ## Commands -/

/-- PO_PAD (R95, R107, R115): consumed, neither executed nor answered. -/
def execPoPad (c : Cmd) (s : State) : Host.Outcome State Fault Refusal := onPart c.part (touchSession c) s

/-- PO_NOP (R95). -/
def specPoNop : OpSpec where
  opcode := 0x0101
  onTile := true
  fits := fun _ => true
  run := fun c s => ok c 0x0101 c.params s

def execPoNop (c : Cmd) (s : State) : Host.Outcome State Fault Refusal := runCmd specPoNop c s

/-- The 32 bytes of PO_GET_INFO (R95). -/
def infoBytes (p : Part) (s : State) : List Byte :=
  match p with
  | .head =>
    leBytes 2 0x3216 ++ [0x10] ++ leBytes 1 (b2n s.head.sys.roleB) ++ leBytes 1 s.head.sys.pair ++ zeros 3 ++
      leBytes 4 s.head.sys.fwVersion.toNat ++ leBytes 4 s.head.sys.romVersion.toNat ++ padTo 16 s.head.sys.serial
  | .tile =>
    leBytes 2 0x4827 ++ [0x10] ++ [2] ++ leBytes 1 s.tile.sys.pair ++ zeros 3 ++
      leBytes 4 (if s.tile.sys.loaded then s.tile.sys.fwVersion.toNat else 0) ++ leBytes 4 s.tile.sys.romVersion.toNat ++
      padTo 16 s.tile.sys.serial

/-- PO_GET_INFO (R20, R95). -/
def specPoGetInfo : OpSpec where
  opcode := 0x0102
  onTile := true
  run := fun c s => ok c 0x0102 (infoBytes c.part s) s

def execPoGetInfo (c : Cmd) (s : State) : Host.Outcome State Fault Refusal := runCmd specPoGetInfo c s

/-- The held records from a SEQ on, oldest first: those of the LOG region, then those in RAM (R133, R600). -/
def recordsFrom (q : BitVec 32) (minSev : Nat) (s : State) : List EventRec :=
  let inRam := fun (e : EventRec) => s.head.po.log.any (fun x => x.seq == e.seq)
  let kept := ((s.head.at_.log.filter (fun p => p.good)).flatMap (fun p => p.recs)).filter (fun e => ¬ inRam e)
  ((kept ++ s.head.po.log.reverse).filter (fun e => decide (0 ≤ sdiff e.seq q))).filter (fun e => minSev ≤ e.severity)

/-- PO_EVENT_READ (R95, R132). The spec gives MIN_SEV no range: the model admits the severities of R131.
DESIGN CHOICE, log entry 87. -/
def specPoEventRead : OpSpec where
  opcode := 0x0105
  fits := fun n => n == 8
  params := fun c _ => firstErr [inRange (fld c.params 4 2) 1 127 4, inRange (fld c.params 6 1) 0 4 6]
  run := fun c s =>
    let l := (recordsFrom (BitVec.ofNat 32 (fld c.params 0 4)) (fld c.params 6 1) s).take (fld c.params 4 2)
    ok c 0x0105 (l.flatMap eventBytes) s

def execPoEventRead (c : Cmd) (s : State) : Host.Outcome State Fault Refusal := runCmd specPoEventRead c s

/-- PO_EVENT_SUBSCRIBE (R136). The spec gives MIN_SEV no range: the model admits the severities of R131 and 0xFF.
DESIGN CHOICE, log entry 87. -/
def specPoEventSubscribe : OpSpec where
  opcode := 0x0106
  fits := fun n => n == 4
  params := fun c _ => need (fld c.params 0 1 ≤ 4 ∨ fld c.params 0 1 = 0xFF) (badParam 0)
  run := fun c s =>
    let m := fld c.params 0 1
    ok c 0x0106 []
      { s with head.po.subs := if m = 0xFF then delKey s.head.po.subs c.src else putKey s.head.po.subs c.src m }

def execPoEventSubscribe (c : Cmd) (s : State) : Host.Outcome State Fault Refusal := runCmd specPoEventSubscribe c s

/-- The FAILED reply of an aborted command (R85, R105). -/
def abortedErr : Err := { status := stFailed, reason := 0x8001 }

/-- Abort an outstanding command that has not started, or has not left for its Tile, or waits on its fences
(R105, R221). -/
def abortEntry (e : Outst) (s : State) : State :=
  finish (entryCmd e) e.opcode (replyTo (entryCmd e) e.opcode stFailed abortedErr.params) (putEntry e { e with started := true } s)

/-- A commit that waits on its fences is the command of an entry. -/
def waitsFor (e : Outst) (w : Waiting) : Bool := isEntry w.cmd 0x0504 e

/-- Drop the commit of an entry that waits on its fences, with its leases (R221, R236). -/
def dropWaiting (e : Outst) (s : State) : State :=
  match s.head.pl.waiting.find? (waitsFor e) with
  | some w => endHeld w { s with head.pl.waiting := s.head.pl.waiting.erase w }
  | none => s

/-- PO_ABORT at the Head for a command of its own (R105). DESIGN CHOICE, log entry 24. -/
def abortHere (c : Cmd) (s : State) : State :=
  let tag := fld c.params 0 2
  match s.head.po.outst.find? (fun e =>
      e.src == c.src && e.tag == tag && e.final.isNone && !(e.opcode == 0x0107 && e.tag == c.tag)) with
  | none => refuse c 0x0107 { status := stBadParam, field := 0 } s
  | some e =>
    if ¬ e.started ∨ (e.position ≠ 0 ∧ e.legs.all (fun l => l.sentAt.isNone)) then ok c 0x0107 [] (abortEntry e s)
    else if e.opcode = 0x0504 ∧ s.head.pl.waiting.any (waitsFor e) then
      ok c 0x0107 [] (abortEntry e (dropWaiting e s))
    else refuse c 0x0107 { status := stBusy } s

/-- PO_ABORT targeted at a Tile (R105): matched by the Head, then aborted here or forwarded. DESIGN CHOICE, log entry 24. -/
def abortTile (o : OpSpec) (c : Cmd) (s : State) : State :=
  let tag := fld c.params 0 2
  let same := fun (e : Outst) => e.tag == tag && e.chain == c.chain && e.position == c.position && e.final.isNone &&
    e.opcode != 0x0107
  match s.head.po.outst.find? (fun e => same e && e.src == c.src) with
  | none => refuse c 0x0107 { status := stBadParam, field := 0 } (take 0x0107 c s)
  | some e =>
    if e.legs.all (fun l => l.sentAt.isNone) then ok c 0x0107 [] (abortEntry e (take 0x0107 c s))
    else match s.head.po.outst.find? (fun x => same x && x.legs.any (atTile c.chain c.position)) with
      | some f => if f.src = c.src then forward o c s else refuse c 0x0107 { status := stBusy } (take 0x0107 c s)
      | none => forward o c s

/-- PO_ABORT: on the Tile a command in progress cannot be aborted. -/
def specPoAbort : OpSpec where
  opcode := 0x0107
  onTile := true
  fits := fun n => n == 4
  run := fun c s =>
    match c.part with
    | .head => abortHere c s
    | .tile =>
      let tag := fld c.params 0 2
      if s.tile.po.outst.any (fun e => sameHead e.src c.src && e.tag == tag && e.final.isNone &&
          !(e.opcode == 0x0107 && e.tag == c.tag)) then
        refuse c 0x0107 { status := stBusy } s
      else refuse c 0x0107 { status := stBadParam, field := 0 } s

def execPoAbort (c : Cmd) (s : State) : Host.Outcome State Fault Refusal :=
  let d := stamped 0x0107 c s
  if c.part = .head ∧ inService .head s ∧ ¬ firmwareGone s ∧ ¬ toHead c ∧ ¬ isBcast c ∧ ¬ mustWait 0x0107 d s ∧
      (forwardErr specPoAbort d s).isNone ∧ c.params.length = 4 then
    .next (abortTile specPoAbort d s)
  else runCmd specPoAbort c s

/-- The ranges of PO_TILE_CONFIG (R96). -/
def tileConfigErr (p : List Byte) : Option Err :=
  let f := fld p 1 1
  firstErr
    [inRange (fld p 0 1) 0 1 0,
     (if bit f 2 then inRange (fld p 2 2) 10 60000 2 else none),
     (if bit f 1 then need (fld p 4 1 ≤ 1 ∨ fld p 4 1 = 0xFF) (badParam 4) else none),
     (if bit f 1 then need (fld p 5 1 ≤ 1 ∨ fld p 5 1 = 0xFF) (badParam 5) else none),
     (if bit f 0 then (tickFieldErr (p.drop 8)).map (fun e => { e with field := if e.field = 0xFFFF then e.field else e.field + 8 })
      else none)]

/-- The Tile's ticks run on with these parameters from its next tick. -/
def tileTicks (t : TickPar) (s : State) : State :=
  let m := s.tile.mt
  { s with
    tile.mt := { takePar t m with
      prevTick := none, lastN := none, pendTicks := m.pendTicks.filter (fun c => t.nO < c.s), firstN := (lastTickBy t (wall m) + 1).toNat }
    tile.time.refSeen := false }

/-- A change whose frame S the Tile has passed takes effect at once: a SWITCH with the next tick of its parameters, a STOP by the end
of the ticks; the Tile is dark until its next tick (R76, R648). DEDUCED, log entry 19. -/
def changePassed (n : Nat) (s : State) : State :=
  match parFor s.tile.mt n with
  | some t => darken 5 (tileTicks t s)
  | none => darken 5 { s with tile.mt.tick := none, tile.mt.prevTick := none, tile.mt.pendTicks := [], tile.mt.lastN := none }

/-- Take the TICK field at the Tile (R76, R96, R648): the parameters in force, or a pending SWITCH or STOP. A change
acknowledged only after its frame S takes effect at once. DEDUCED, log entry 19. -/
def takeTick (p : List Byte) (s : State) : State :=
  let q := p.drop 8
  let mode := fld q 0 1
  let t := parseTick q
  let m := s.tile.mt
  if mode = 0 then (if m.tick = some t then s else tileTicks t { s with tile.mt.pendTicks := [] })
  else
    let n := fld q 32 8
    let passed : Bool := match tickOf m n with | some tn => decide (tn ≤ (wall m : Int)) | none => false
    let s1 := { s with tile.mt := addPending m n (if mode = 1 then some t else none) }
    if passed ∧ m.tick.isSome then changePassed n s1 else s1

/-- PO_TILE_CONFIG (R65, R96, R390): a change of MODE sets C_T to 0 and forgets the copies held. -/
def specPoTileConfig : OpSpec where
  opcode := 0x0109
  onHead := false
  onTile := true
  denied := true
  fits := fun n => n == 56
  params := fun c _ => tileConfigErr c.params
  run := fun c s =>
    let p := c.params
    let f := fld p 1 1
    let mode := fld p 0 1 = 1
    let s1 := if s.tile.po.claimMode = decide mode then s
      else { s with tile.po.claimMode := mode, tile.ld.claim := 0, tile.ld.held := [] }
    let s2 := if bit f 2 then { s1 with tile.time.holdLimitMs := fld p 2 2 } else s1
    let s3 := if bit f 1 then { s2 with tile.po.routeA := fld p 4 1, tile.po.routeB := fld p 5 1 } else s2
    let s4 := if bit f 0 then takeTick p s3 else s3
    ok c 0x0109 [] s4

def execPoTileConfig (c : Cmd) (s : State) : Host.Outcome State Fault Refusal := runCmd specPoTileConfig c s

/-! ## Registers -/

/-- PO_Q_STATUS of queue `q` (R129). -/
def qStatus (q : Nat) (s : State) : Nat :=
  let k := queueAt q s
  let n := outstCount (.queue q) s
  65536 * (n % 65536) + 8 * b2n k.ringError + 4 * b2n (rqFull k) +
    2 * b2n (n == 0 && k.unfetched.isEmpty) + b2n (k.en && !k.halted)

/-- PO_Q_CTL of a queue. -/
def qCtl (k : Queue) : Nat := 16777216 * k.coalUs.toNat + 65536 * k.coalCnt.toNat + 2 * b2n k.irqEn + b2n k.en

end Sys2Proof.Machine
end

