-- ==== Sys2Proof/Machine/Twin.lean ====
section
/-!
DEFINITION. Twin (R372 to R393): Doorbell lines, roles, pairing and joining, the forwarding of commits, CUT and DIGEST, the
switch-over, claim mode, and the Twin commands and registers.
-/
namespace Sys2Proof.Machine

/-! ## Frames of the twin -/

/-- The frame that a 32-bit number of the partner names. -/
def frameNamed (f : BitVec 32) (s : State) : Nat := (namedFrame (frameInView s.head.mt (wall s.head.mt)) f).toNat

/-- The first frame from the next on whose cutoff lies at least `k` ticks after `w`. -/
def cutAhead (k w : Nat) (s : State) : Nat :=
  let n := nextFrame s.head.mt w
  let far := fun (m : Nat) => match parFor s.head.mt m, cutoffOf s.head.mt m with
    | some t, some c => decide ((k * t.pNum : Nat) ≤ (c - (w : Int)) * t.pDen)
    | _, _ => true
  ((List.range 16).map (fun i => n + i)).find? far |>.getD (n + 16)

/-- The mirror closes frame `n` at CUT, not at C_N (R383); so does a joining Head from its join frame on. -/
def waitsForCut (n : Nat) (s : State) : Bool :=
  let t := s.head.tw
  !t.claimMode && (t.role == .mirror || (t.role == .joining && (match t.joinFrame with | some m => decide (m ≤ n) | none => false)))

/-- A mirror's Foyer commits of frame `n` (R384): the buffer that holds the stream's frame, or a miss. -/
def resolveLive (n : Nat) (s : State) : State :=
  let mine := s.head.tw.live.filter (fun x => x.1 == n)
  mine.foldl (fun a x =>
    let k := x.2.2.1
    let v := videoAt k a
    match v.bound, v.complete.find? (fun c => c.2 == x.2.2.2) with
    | some layer, some c =>
      install { frame := n, eff := x.2.1, rank := 3, sub := k, seq := a.head.pl.seq, change := foyerChange k layer c.1 x.2.2.2 a } none
        (updVideo k (fun v => { v with complete := v.complete.erase c }) a)
    | some _, none => updTw (fun t => { t with liveMiss := t.liveMiss + 1 }) a
    | none, _ => a)
    (updTw (fun t => { t with live := t.live.filter (fun x => x.1 ≠ n) }) s)

/-- A joining Head composes and sends from its join frame on, unless it keeps the state it held as a mirror (R376). -/
def isIdle (n : Nat) (s : State) : Bool :=
  s.head.tw.role == .joining && !s.head.tw.keeps && (match s.head.tw.joinFrame with | some m => decide (n < m) | none => true)

/-- Close frame `n`; at its join frame a mirror takes every pane as dirty (R379). -/
def closeTwin (n : Nat) (s : State) : State :=
  let s1 := resolveLive n s
  let s2 := if s.head.tw.joinFrame = some n then
      { s1 with head.pl.carry := addKeys s1.head.pl.carry (allPanes (sceneFor n s1) (slotsOf n s1)) } else s1
  let s3 := closeFrame n s2
  if isIdle n s then updRec n (fun r => { r with dirty := [], live := [], passes := [], todo := [] }) s3 else s3

/-! ## Snapshots (R378) -/

/-- Layers bound to a stream name it in place of their surface. -/
def byStream (sc : Scene) (s : State) : Scene :=
  { sc with layers := sc.layers.mapIdx (fun i l => if isLive i s then { l with surface := 0xFFFF } else l) }

/-- Surfaces of the host range. -/
def hostSurfaces (s : State) : List (Nat × Surface) := s.head.fy.surfaces.filter (fun x => x.1 < 3584)

/-- The layers bound to streams. -/
def bindings (s : State) : List (Option Nat) := s.head.fy.vst.map (fun v => v.bound)

/-- A Foyer commit among the accepted changes. -/
def liveOf (p : Pend) : Option (Nat × Nat × Nat × BitVec 32) :=
  match p.change with
  | .foyer _ k rtp _ _ _ _ _ => some (p.frame, p.eff, k, rtp)
  | _ => none

/-- The state in force at frame `m` − 1 and what has been accepted for later frames. DEDUCED, log entry 47. -/
def takeSnapshot (m : Nat) (s : State) : Snapshot :=
  { m := BitVec.ofNat 32 m
    scene := byStream (sceneFor (m - 1) s) s
    bound := bindings s
    pend := s.head.pl.pend.filter (fun p => m ≤ p.frame && (liveOf p).isNone)
    live := (s.head.pl.pend.filter (fun p => m ≤ p.frame)).filterMap liveOf
    govs := s.head.pl.govs
    surfaces := hostSurfaces s
    formats := s.head.pp.ports.map (fun q => q.wl12) }

/-- The snapshot leaves once the state of frame M − 1 is complete, its governor point included. DEDUCED, log entry 41. -/
def sendSnapshot (m : Nat) (s : State) : State :=
  if s.head.tw.snapFor = some m ∧ twinUpNow s then
    let sn := takeSnapshot m s
    emit .head (.snapshot sn)
      (twinSend 0x06 (leBytes 4 m ++ [0, 1] ++ leBytes 4 (Config.stateCrc sn).toNat) (updTw (fun t => { t with snapFor := none }) s))
  else s

/-- TW_PAIRED. -/
def postPaired (role : Nat) (s : State) : State := post .head 0x09 1 0x0001 (BitVec.ofNat 32 role) 0 s

/-- The packet of a snapshot request: KIND 0x06 with no contents (log entry 41), with the SEQ that this Head expects. DEDUCED, log
entry 95. -/
def requestVia (s : State) : Via :=
  { port := 32
    pkt :=
      { cls := 5, typ := 0xA, len := lenFor 0, seq := (portAt .head 32 s).seqExp, headB := !s.head.sys.roleB, pair := s.head.sys.pair
        payload := [0x06] } }

/-- SNAPSHOT_REQUEST_RECEIVED (R376, R378): the claim holder chooses the join frame. DEDUCED, log entry 44. -/
def execSnapshotRequestReceived (s : State) : Host.Outcome State Fault Refusal :=
  onPart .head (fun s => overLink .head (some (requestVia s)) (fun s =>
    if s.head.tw.claimMode ∨ ¬ s.head.tw.dbClaim ∨ ¬ ticksRun s ∨ ¬ twinUpNow s then s
    else
      let s1 := updTw (fun t => { t with snapFor := some (cutAhead 4 (wall s.head.mt) s) }) s
      if s.head.tw.role = .alone ∧ s.head.tw.paired then setRole .publisher (postPaired 2 s1) else s1) s) s

/-- The surface of a live layer on this Head: the buffer of its stream that it already shows, or none. -/
def keepBuffers (sn : Snapshot) (s : State) : List Layer :=
  sn.scene.layers.mapIdx (fun i l =>
    match (List.range 64).find? (fun k => sn.bound.getD k none == some i) with
    | some k =>
      let old := (s.head.pl.base.layers.getD i {}).surface
      if 3584 + 8 * k ≤ old ∧ old < 3592 + 8 * k then { l with surface := old } else l
    | none => l)

/-- What a snapshot replaces; a second one keeps what the first replaced. -/
def replacedBy (s : State) : Replaced :=
  s.head.pl.replaced.getD
    { base := s.head.pl.base, pend := s.head.pl.pend, govs := s.head.pl.govs, surfaces := hostSurfaces s, bound := bindings s
      leases := s.head.pl.leases, formats := s.head.pp.ports.map (fun q => q.fmtNext) }

/-- SNAPSHOT_RECEIVED (R378, R379, R382): the state of the claim holder takes the place of this Head's. -/
def execSnapshotReceived (sn : Linked Snapshot) (s : State) : Host.Outcome State Fault Refusal :=
  onPart .head (overLink .head sn.via (fun s =>
    let sn := sn.msg
    let m := frameNamed sn.m s
    if s.head.tw.role ≠ .joining ∨ s.head.tw.claimMode ∨ s.head.tw.joinFrame.isSome ∨ ¬ twinUpNow s then s
    else if m < nextToClose s then requestSnapshot s.head.tw.keeps s
    else
      let old := s.head.fy.surfaces.filter (fun x => 3584 ≤ x.1)
      let s1 := { s with
        head.pl.replaced := some (replacedBy s)
        head.pl.base := { sn.scene with layers := keepBuffers sn s }
        head.pl.pend := sn.pend
        head.pl.seq := sn.pend.foldl (fun q p => max q (p.seq + 1)) s.head.pl.seq
        head.pl.govs := sn.govs
        head.fy.surfaces := old ++ sn.surfaces
        head.fy.vst := s.head.fy.vst.mapIdx (fun k v => { v with bound := sn.bound.getD k none })
        head.pp.ports := s.head.pp.ports.mapIdx (fun c q => { q with fmtNext := some (m, sn.formats.getD c q.wl12) }) }
      let s2 := mapVers (fun v => some v.n == s.head.pl.openFrame && !v.shown) (fun v => { v with state := 3 }) s1
      let s3 := (List.range 32).foldl (fun a n => setLease n (a.head.pl.base.layers.getD n {}).surface m none 0 false a) s2
      updTw (fun t => { t with joinFrame := some m, live := sn.live }) s3)) s

/-! ## Roles and claims (R373 to R376) -/

/-- Evaluate the claim, and end a handover that its other side has completed (R375, R376, R388). DEDUCED, log entry 43. -/
def twinEval (s : State) : State :=
  let s1 := evalClaim s
  let t := s1.head.tw
  let s2 := if t.handoverM.isSome ∧ ¬ t.dbClaim ∧ peerClaim s1 then updTw (fun t => { t with handoverM := none }) s1 else s1
  match t.handoverIn with
  | some m =>
    let past : Bool := match cutoffOf s2.head.mt m with | some c => decide (c ≤ (wall s2.head.mt : Int)) | none => true
    if t.role = .mirror ∧ ticksRun s2 ∧ past ∧ ¬ peerClaim s2 then
      noteBoth (setRole .publisher (setClaim true (updTw (fun t => { t with handoverIn := none }) s2)))
    else s2
  | none => s2

/-- The rows of R376 for an unjoined Head, evaluated at each HELLO. -/
def pairEval (s : State) : State :=
  let t := s.head.tw
  if t.claimMode ∨ ¬ t.paired ∨ ¬ twinUpNow s ∨ ¬ (t.role = .alone ∨ t.role = .isolated) then s
  else if peerClaim s ∧ ¬ t.dbClaim then requestSnapshot false s
  else if t.role = .isolated then s
  else if t.dbClaim ∧ ¬ peerClaim s then (if t.peerRole = 3 then s else setRole .publisher (postPaired 2 s))
  else if ¬ t.dbClaim ∧ ¬ peerClaim s ∧ ¬ t.pairedPosted then
    postPaired 0 (updTw (fun t => { t with pairedPosted := true }) s)
  else s

/-- DB_BEAT_TOGGLE (R373). -/
def execDbBeatToggle (s : State) : Host.Outcome State Fault Refusal :=
  onPart .head (fun s =>
    if ownBeat s ∧ s.head.tw.beatAt + 10000 ≤ s.now then
      emit .head (.pin .dbBeat (!s.head.tw.beatOut)) (updTw (fun t => { t with beatOut := !t.beatOut, beatAt := s.now }) s)
    else s) s

/-- DB_PEER_CLAIM_CHANGE (R372, R374 to R376). -/
def execDbPeerClaimChange (level : Bool) (s : State) : Host.Outcome State Fault Refusal :=
  onPart .head (fun s => twinEval (updTw (fun t => { t with peerLine := level }) s)) s

/-- TW_TAKEOVER: the first frame sent with PUB = 1, or as ACTIVE. -/
def postTakeover (s : State) : State := post .head 0x09 2 0x0005 0 (BitVec.ofNat 64 (s.head.time.openN % 4294967296)) s

/-- The partner's beat is lost (R373, R375, R376, R389). DEDUCED, log entry 47. -/
def beatLost (s : State) : State :=
  let s1 := updTw (fun t => { t with beat := false, dbFaultBeat := false, handoverM := none, handoverIn := none }) s
  match s.head.tw.role with
  | .publisher => evalClaim (setRole .alone s1)
  | .joining => evalClaim (setRole .alone s1)
  | .mirror =>
    let s2 := evalClaim (setRole .alone s1)
    if s2.head.tw.dbClaim then postTakeover s2 else s2
  | .isolated =>
    let s2 := evalClaim (setRole .alone s1)
    if s2.head.tw.dbClaim then postTakeover s2 else s2
  | _ => evalClaim s1

/-- PEER_BEAT_LOST (R373): 50 µs without the beat on DB_PEER_BEAT; while ROLE messages carry it, only the line is lost.
DEDUCED, log entry 45. -/
def execPeerBeatLost (s : State) : Host.Outcome State Fault Refusal :=
  onPart .head (fun s =>
    let byRole : Bool := match s.head.tw.lastRoleBeat with | some t => decide (s.now < t + 50000) | none => false
    if byRole then
      if s.head.tw.dbFaultBeat then s
      else twinEval (post .head 0x09 2 0x000D 0 0 (updTw (fun t => { t with dbFaultBeat := true }) s))
    else if s.head.tw.beat then beatLost s else s) s

/-- PEER_BEAT_REGAINED (R373). -/
def execPeerBeatRegained (s : State) : Host.Outcome State Fault Refusal :=
  onPart .head (fun s => twinEval (updTw (fun t => { t with beat := true, dbFaultBeat := false }) s)) s

/-- TWIN_WATCHDOG_EXPIRY (R373): the beat stops until the firmware starts again. DEDUCED, log entry 47. -/
def execTwinWatchdogExpiry (s : State) : Host.Outcome State Fault Refusal :=
  onPart .head (fun s => noteBoth (updTw (fun t => { t with wdExpired := true }) s)) s

/-- TW_SPLIT (R375): Head B yields and rejoins. DEDUCED, log entry 47. -/
def execTwSplit (s : State) : Host.Outcome State Fault Refusal :=
  onPart .head (fun s =>
    let due : Bool := match s.head.tw.bothSince with | some t => decide (t + 20000 ≤ s.now) | none => false
    if ¬ due then s
    else
      let s1 := updTw (fun t => { t with split := true }) s
      if s.head.sys.roleB then
        pairEval (setRole .alone (post .head 0x09 3 0x000C 0 0 (noteBoth (setClaim false s1))))
      else s1) s

/-! ## HELLO and ROLE (R373, R377) -/

/-- Code of a role. -/
def roleCode (r : TwRole) : Nat :=
  match r with
  | .alone => 0 | .joining => 1 | .publisher => 2 | .mirror => 3 | .isolated => 4 | .active => 5 | .standby => 6

/-- What HELLO says now. -/
def helloNow (s : State) : Hello :=
  { pair := s.head.sys.pair, roleB := s.head.sys.roleB, claimMode := s.head.tw.claimMode, tick := s.head.mt.tick
    claim := s.head.tw.dbClaim, fwVersion := s.head.sys.fwVersion }

/-- The contents of HELLO. DEDUCED, log entry 41. -/
def helloBytes (h : Hello) : List Byte :=
  leBytes 1 h.pair ++ leBytes 1 (b2n h.roleB + 2 * b2n h.claimMode + 4 * b2n h.tick.isSome + 8 * b2n h.claim) ++ [0, 0] ++
    leBytes 4 h.fwVersion.toNat ++ (match h.tick with | some t => tickBytes 0 t true t.nO | none => zeros 48)

/-- HELLO_SEND (R377): on a change of what it carries, and every 10 ms. -/
def execHelloSend (s : State) : Host.Outcome State Fault Refusal :=
  onPart .head (fun s =>
    let h := helloNow s
    if twinUpNow s ∧ (s.head.tw.lastHello ≠ some h ∨ s.head.tw.sentHello + 10000000 ≤ s.now) then
      twinSend 0x01 (helloBytes h) (updTw (fun t => { t with lastHello := some h, sentHello := s.now }) s)
    else s) s

/-- The check of R377 that a HELLO fails: 1 pair number or MODE, 2 tick parameters, 0 none. -/
def helloFault (h : Hello) (s : State) : Nat :=
  if h.pair ≠ s.head.sys.pair ∨ h.claimMode ≠ s.head.tw.claimMode then 1
  else match h.tick, s.head.mt.tick with
    | some a, some b => if a = b then 0 else 2
    | _, _ => 0

/-- A failed check: both Heads stay ALONE; the event comes with the change. DEDUCED, log entry 47. -/
def helloFailed (k : Nat) (h : Hello) (s : State) : State :=
  let again := s.head.tw.fault = k ∧ (s.head.tw.peer.map (fun p => (p.pair, p.claimMode, p.tick))) = some (h.pair, h.claimMode, h.tick)
  let s1 := updTw (fun t => { t with paired := false, fault := k, peer := some h, peerRoleClaim := h.claim }) s
  let r := s.head.tw.role
  let s2 := if r = .publisher ∨ r = .mirror ∨ r = .joining then setRole .alone s1 else s1
  let s3 := if again then s2
    else if k = 1 then post .head 0x09 3 0x0002 (BitVec.ofNat 32 (h.pair + 256 * b2n h.claimMode)) 0 s2
    else
      let t := h.tick
      post .head 0x09 3 0x0003 0
        (BitVec.ofNat 64 ((t.map (fun t => t.pNum)).getD 0 + 4294967296 * (t.map (fun t => t.pDen)).getD 0)) s2
  twinEval s3

/-- HELLO_RECEIVED (R23, R376, R377). -/
def helloTaken (h : Hello) (s : State) : State :=
  if ¬ twinUpNow s then s
  else match helloFault h s with
    | 0 =>
      let old := s.head.tw.peer.map (fun p => p.fwVersion)
      let s1 := updTw (fun t => { t with paired := true, fault := 0, peer := some h, peerRoleClaim := h.claim }) s
      let s2 := if h.fwVersion ≠ s.head.sys.fwVersion ∧ old ≠ some h.fwVersion then
          post .head 0x09 1 0x0004 h.fwVersion 0 s1 else s1
      let s3 := match h.tick with
        | some t =>
          if ¬ ticksRun s ∧ h.claim ∧ ¬ s.head.tw.claimMode then
            let s3 := startTicks t (wall s2.head.mt) s2
            sendConfigs (tickInForce s3) false false s3
          else s2
        | none => s2
      pairEval (twinEval s3)
    | k => helloFailed k h s

def execHelloReceived (h : Linked Hello) (s : State) : Host.Outcome State Fault Refusal :=
  onPart .head (overLink .head h.via (helloTaken h.msg)) s

/-- ROLE_SEND (R373): every 10 µs. -/
def execRoleSend (s : State) : Host.Outcome State Fault Refusal :=
  onPart .head (fun s =>
    if twinUpNow s ∧ s.head.tw.sentRole + 10000 ≤ s.now then
      twinSend 0x07 (leBytes 1 (b2n s.head.tw.dbClaim + 2 * b2n (ownBeat s) + 4 * roleCode s.head.tw.role))
        (updTw (fun t => { t with sentRole := s.now }) s)
    else s) s

/-- The claim wire is judged as the beat wire is: 50 µs of disagreement with ROLE messages (R373, R393).
DEDUCED, log entry 45. -/
def claimWire (claim : Bool) (s : State) : State :=
  let t := s.head.tw
  if claim = t.peerLine then updTw (fun t => { t with claimDiffers := none, dbFaultClaim := false }) s
  else
    let since := t.claimDiffers.getD s.now
    let s1 := updTw (fun t => { t with claimDiffers := some since }) s
    if since + 50000 ≤ s.now ∧ ¬ t.dbFaultClaim then
      post .head 0x09 2 0x000D 1 0 (updTw (fun t => { t with dbFaultClaim := true }) s1)
    else s1

/-- ROLE_RECEIVED (R373, R376, R381). DEDUCED, log entry 45. -/
def execRoleReceived (claim beat : Bool) (role : Linked Nat) (s : State) : Host.Outcome State Fault Refusal :=
  onPart .head (overLink .head role.via (fun s =>
    let role := role.msg
    if ¬ twinUpNow s then s
    else
      let s1 := claimWire claim (updTw (fun t =>
        { t with
          peerRoleClaim := claim, peerRole := role, beat := t.beat || beat
          lastRoleBeat := if beat then some s.now else t.lastRoleBeat }) s)
      let s2 := if s1.head.tw.role = .mirror ∧ role = 0 ∧ peerClaim s1 then requestSnapshot true s1 else s1
      twinEval s2)) s

/-! ## Forwarded commands (R380 to R385) -/

/-- R382, R383, R386: the states have parted at frame `n`; the mirror joins again. -/
def postDiverged (n : Nat) (s : State) : State := post .head 0x09 2 0x0008 0 (BitVec.ofNat 64 (n % 4294967296)) s

/-- The place in the order of submission that an order key ends with, nearest to the one last known (R217). -/
def seqNear (key last : Nat) : Nat :=
  let d := (key % 256 + 256 - last % 256) % 256
  if d < 128 then last + d else last + d - 256

/-- Install a forwarded change at the frame and in the order it carries. -/
def fwdInstall (f : FwdCmd) (ch : Change) (src : Option Source) (s : State) : State :=
  if ¬ ticksRun s then applyNow ch src s
  else
    let n := frameNamed f.frame s
    let q := seqNear f.key s.head.pl.seq
    if n < nextToClose s then requestSnapshot false (postDiverged n s)
    else install { frame := n, eff := f.stamp, rank := f.key / 16384, sub := f.key / 256 % 64, seq := q, change := ch } src
      { s with head.pl.seq := max s.head.pl.seq (q + 1) }

/-- The queue or session that takes the RETIRE records of a forwarded commit (R385). -/
def fwdSource (key : Nat) : Option Source :=
  if key / 16384 = 0 then some (.queue (key / 256 % 64)) else if key / 16384 = 1 then some (.session (key / 256 % 64)) else none

/-- A forwarded opcode. -/
def fwdOpcode (f : FwdCmd) (op : Nat) (c0 : Cmd) (s : State) : State :=
  let c := { c0 with part := .head, src := .twin }
  match changeOf op f.id c s with
  | some ch =>
    let ids := op = 0x0504 ∨ op = 0x0604 ∨ op = 0x0606 ∨ op = 0x0607 ∨ op = 0x0608
    fwdInstall f ch (fwdSource f.key) (if ids then { s with head.pl.commitId := f.id } else s)
  | none =>
    if op = 0x0202 then specMtSetTick.run c s
    else if op = 0x0309 then
      updFy (fun y => { y with surfaces := y.surfaces ++ [(f.frame.toNat, parseSurface c.params)] }) s
    else if op = 0x030A then specFySurfaceDestroy.run c s
    else if op = 0x0601 then specPlSetCoef.run c s
    else if op = 0x0602 then specPlSetTone.run c s
    else if op = 0x0603 then specPlSetPixset.run c s
    else if op = 0x0703 then specPpSetChain.run c s
    else if op = 0x0903 then updTw (fun t => { t with handoverIn := some (frameNamed f.frame s) }) s
    else s

/-- What a forwarded command does on the mirror (R312, R382, R384). -/
def fwdTaken (f : FwdCmd) (s : State) : State :=
  match f.body with
  | .cmd op c => fwdOpcode f op c s
  | .foyer k rtp =>
    let n := frameNamed f.frame s
    if n < nextToClose s then requestSnapshot false (postDiverged n s)
    else updTw (fun t => { t with live := t.live ++ [(n, f.stamp, k, rtp)] }) s
  | .loss layer act => fwdInstall f (.loss layer act) none s
  | .format chain wl12 => updChain chain (fun q => { q with fmtNext := some (frameNamed f.frame s, wl12) }) s

/-- A follower holds the state that forwarded commands change: a MIRROR, or a JOINING Head once the snapshot is in. -/
def takesForwarded (s : State) : Bool :=
  s.head.tw.role == .mirror || s.head.tw.joinFrame.isSome || s.head.tw.keeps

/-- FWD_CMD_RECEIVED (R381, R382, R384, R388): acknowledged; before the snapshot it needs no effect. -/
def execFwdCmdReceived (f : Linked FwdCmd) (s : State) : Host.Outcome State Fault Refusal :=
  onPart .head (overLink .head f.via (fun s =>
    let f := f.msg
    if ¬ isFollower s ∨ ¬ twinUpNow s then s
    else
      let s1 := match f.body with | .cmd _ _ => twinSend 0x03 (leBytes 4 f.id.toNat) s | _ => s
      if takesForwarded s then fwdTaken f (updTw (fun t => { t with fwdCount := t.fwdCount + 1 }) s1) else s1)) s

/-- FWD_ACK_RECEIVED (R381). -/
def execFwdAckReceived (id : Linked Word) (s : State) : Host.Outcome State Fault Refusal :=
  onPart .head (overLink .head id.via (fun s =>
    match s.head.tw.fwdWait.find? (fun w => w.id == id.msg) with
    | some w => finish w.cmd w.opcode w.reply (updTw (fun t => { t with fwdWait := t.fwdWait.erase w }) s)
    | none => s)) s

/-- FWD_ACK_TIMEOUT (R376, R381): after 1 ms the publisher replies and goes on alone. DEDUCED, log entry 44. -/
def execFwdAckTimeout (id : Word) (s : State) : Host.Outcome State Fault Refusal :=
  onPart .head (fun s =>
    match s.head.tw.fwdWait.find? (fun w => w.id == id && decide (w.sentAt + 1000000 ≤ s.now)) with
    | some w =>
      if s.head.tw.role = .publisher then evalClaim (setRole .alone (post .head 0x09 3 0x000A w.id 0 s)) else s
    | none => s) s

/-! ## CUT (R383) -/

/-- The publisher's CUT for frame `n`. DEDUCED, log entry 41. -/
def sendCut (n : Nat) (s : State) : State :=
  if s.head.tw.role = .publisher ∧ ¬ s.head.tw.claimMode then
    twinSend 0x04 (leBytes 4 n ++ leBytes 4 ((getKey s.head.tw.fwdForFrame n).getD 0))
      (updTw (fun t => { t with fwdForFrame := t.fwdForFrame.filter (fun x => n < x.1) }) s)
  else s

/-- CUT_RECEIVED (R383, R384). DEDUCED, log entry 41. -/
def execCutReceived (fn : Linked Word) (count : Nat) (s : State) : Host.Outcome State Fault Refusal :=
  onPart .head (overLink .head fn.via (fun s =>
    let n := frameNamed fn.msg s
    if count < 4294967296 ∧ n = nextToClose s ∧ waitsForCut n s ∧ twinUpNow s then twinEval (closeTwin n s) else s)) s

/-- CUT_WAIT_EXPIRY (R383, R393). -/
def execCutWaitExpiry (n : Nat) (s : State) : Host.Outcome State Fault Refusal :=
  onPart .head (fun s =>
    let due : Bool := match cutoffOf s.head.mt n with
      | some c => decide (c + 1000 * s.head.tw.cutWaitUs ≤ (wall s.head.mt : Int))
      | none => false
    if ticksRun s ∧ n = nextToClose s ∧ waitsForCut n s ∧ due then
      twinEval (closeTwin n (post .head 0x09 2 0x0009 0 (BitVec.ofNat 64 (n % 4294967296)) s))
    else s) s

/-! ## DIGEST (R386) -/

/-- The state in force at a frame, as STATE_CRC covers it; q is compared by itself. DESIGN CHOICE, log entry 42. -/
def stateAt (r : FrameRec) (s : State) : Snapshot :=
  { m := BitVec.ofNat 32 r.n, scene := byStream r.scene s, bound := bindings s, surfaces := hostSurfaces s
    formats := (List.range 32).map (fun c => r.wl12.getLsbD c) }

/-- DIGEST of a frame. -/
def digestOf (r : FrameRec) (s : State) : Digest :=
  { fn := BitVec.ofNat 32 r.n, stateCrc := Config.stateCrc (stateAt r s), q := r.qs, wl12 := r.wl12, sigs := r.sigs }

/-- Signature entries, one word each. -/
def sigWord (x : PaneKey × BitVec 32) : List Byte :=
  leBytes 7 (x.1.chain + 32 * (x.1.position - 1) + 512 * x.1.pane + 131072 * x.1.slot + 524288 * x.2.toNat)

/-- The parts of DIGEST. -/
def digestParts (d : Digest) : List (List Byte) :=
  let n := max 1 (ceilDiv d.sigs.length 900)
  (List.range n).map (fun i =>
    leBytes 4 d.fn.toNat ++ leBytes 4 d.stateCrc.toNat ++ leBytes 1 i ++ leBytes 1 (b2n (decide (i + 1 = n))) ++
      (List.range 64).flatMap (fun g => leBytes 1 (d.q.getD g 0)) ++ leBytes 4 d.wl12.toNat ++
      ((d.sigs.drop (900 * i)).take 900).flatMap sigWord)

/-- Twin signatures that differ (R286). -/
def twinSigs (a b : Digest) (s : State) : State :=
  a.sigs.foldl (fun t x =>
    match getKey b.sigs x.1 with
    | some y =>
      if x.2 = y then t
      else
        let sc := match recByFn a.fn t with | some r => r.scene | none => t.head.pl.base
        let ws := (List.range 16).filter (fun w => guards sc w x.1 && (sc.sigs.getD w {}).twin)
        ws.foldl (fun u w =>
          post .head 0x06 2 0x0002 (sigDetail w x.1) (BitVec.ofNat 64 (a.fn.toNat + 4294967296 * x.2.toNat))
            { u with
              head.pl.sigTwin := u.head.pl.sigTwin + 1
              head.pl.sigStatus := u.head.pl.sigStatus ||| (1#32 <<< (16 + w)) }) t
    | none => t) s

/-- Compare this Head's DIGEST with the partner's. -/
def compareDigest (a b : Digest) (s : State) : State :=
  let crc := a.stateCrc ≠ b.stateCrc
  let s1 := if crc ∨ a.wl12 ≠ b.wl12 then
      postDiverged a.fn.toNat (updTw (fun t => { t with diverged := true }) s) else s
  let s2 := if a.q ≠ b.q then updTw (fun t => { t with qMismatch := t.qMismatch + 1 }) s1 else s1
  let s3 := twinSigs a b s2
  let miss := if crc then s3.head.tw.crcMiss + 1 else 0
  let s4 := updTw (fun t => { t with
    crcMiss := miss
    own := t.own.filter (fun d => d.fn ≠ a.fn), theirs := t.theirs.filter (fun d => d.fn ≠ a.fn) }) s3
  if s4.head.tw.role = .mirror ∧ s4.head.tw.digestLimit ≤ miss then requestSnapshot false s4 else s4

/-- Each paired Head sends DIGEST for frame `n` after T_N − F. -/
def sendDigest (n : Nat) (s : State) : State :=
  let t := s.head.tw
  if t.claimMode ∨ ¬ twinUpNow s ∨ ¬ (t.role = .publisher ∨ t.role = .mirror) then s
  else match recOf n s with
    | none => s
    | some r =>
      let d := digestOf r s
      let s1 := (digestParts d).foldl (fun a b => twinSend 0x05 b a) (updTw (fun t => { t with own := d :: t.own.take 7 }) s)
      match t.theirs.find? (fun x => x.fn == d.fn) with
      | some x => compareDigest d x s1
      | none => s1

/-- DIGEST_RECEIVED (R286, R376, R386). -/
def execDigestReceived (d : Linked Digest) (s : State) : Host.Outcome State Fault Refusal :=
  onPart .head (overLink .head d.via (fun s =>
    let d := d.msg
    let t := s.head.tw
    if t.claimMode ∨ ¬ twinUpNow s ∨ ¬ (t.role = .publisher ∨ t.role = .mirror) then s
    else match t.own.find? (fun x => x.fn == d.fn) with
      | some x => compareDigest x d s
      | none => updTw (fun t => { t with theirs := d :: t.theirs.take 7 }) s)) s

/-! ## Passed packets (R88, R337) -/

/-- A reply from the bytes of its packet (R81). -/
def parseReply (p : List Byte) : Reply :=
  { opcode := fld p 0 2, tag := fld p 2 2, flags := BitVec.ofNat 8 (fld p 6 1), status := fld p 7 1, pair := fld p 8 1
    chain := fld p 9 1, position := fld p 10 1, frame := BitVec.ofNat 32 (fld p 12 4), params := (p.drop 16).take (fld p 4 2) }

/-- A record from its 32 bytes (R130). -/
def parseEvent (p : List Byte) : EventRec :=
  { time := fld p 0 8, seq := BitVec.ofNat 32 (fld p 8 4), block := fld p 12 1, severity := fld p 13 1, code := fld p 14 2
    pair := fld p 16 1, chain := fld p 17 1, position := fld p 18 1, headB := bit (fld p 19 1) 0, fromTile := bit (fld p 19 1) 1
    unlocked := bit (fld p 19 1) 2, detA := BitVec.ofNat 32 (fld p 20 4), detB := BitVec.ofNat 64 (fld p 24 8) }

/-- The pane that a Tile's packet names (R333). -/
def pktPane (k : GPkt) : PaneKey :=
  let w0 := fld k.payload 0 7
  { chain := k.chain, position := k.position, pane := bits w0 31 24, slot := bits w0 6 5 }

/-- What a Tile's packet to this Head does, by its type (R333, R407): PANE_ACK, REPLY, FRAME_REPORT, EVENT, REPLAY_REQ,
LINK_STATE. -/
def tilePacket (k : GPkt) (s : State) : State :=
  let w := fun i => fld k.payload (7 * i) 7
  match k.typ with
  | 2 => ackTaken { port := 32, key := pktPane k, fn := BitVec.ofNat 32 (w 1), originB := k.headB, status := bits (w 0) 10 8 } s
  | 4 => tileReply (parseReply k.payload) s
  | 5 =>
    reportTaken { chain := k.chain, position := k.position, fn := BitVec.ofNat 32 (w 1), accepted := bits (w 2) 15 0
                  rejected := bits (w 2) 31 16, missing := bits (w 2) 47 32 } s
  | 6 => eventTaken (parseEvent k.payload) s
  | 7 => replayReqTaken (pktPane k) (BitVec.ofNat 32 (w 1)) s
  | 8 =>
    linkStateReceived { chain := k.chain, position := k.position, port := bits (w 0) 0 0, state := bits (w 0) 3 1
                        laneMask := bits (w 0) 7 4, rate := bits (w 0) 9 8, passed := true } s
  | _ => s

/-- A packet from the partner: a Tile's packet to this Head, or a command for a Tile that this Head reaches. Any packet of a
Tile shows that the partner reaches it. DEDUCED, log entry 41. -/
def passedTaken (k : GPkt) (s : State) : State :=
  if k.headB = s.head.sys.roleB then
    tilePacket k { s with head.en := s.head.en.map (fun e =>
      if e.chain = k.chain ∧ e.position = k.position then { e with there := true } else e) }
  else match tileEnt k.chain k.position s with
    | some e =>
      if ¬ e.here then s
      else if k.typ = 3 then hand .head e.port { k with cls := 1 } s
      else if k.typ = 9 then hand .head e.port { k with cls := 4 } s
      else s
    | none => s

def execPassedReceived (k : Linked GPkt) (s : State) : Host.Outcome State Fault Refusal :=
  onPart .head (overLink .head k.via (fun s => if twinUpNow s then passedTaken k.msg s else s)) s

/-! ## Claim mode (R390, R391) -/

/-- MODE takes a value: a claim-mode Head starts as STANDBY; the Tiles learn of it by PO_TILE_CONFIG (R96).
DEDUCED, log entry 46. -/
def setMode (claimMode : Bool) (s : State) : State :=
  if s.head.tw.claimMode = claimMode then s
  else
    let s1 := setRole (if claimMode then .standby else .alone) s
    twinEval (sendConfigs none false false
      (updTw (fun t => { t with
        claimMode := claimMode, goActive := false, paired := false, joinFrame := none, keeps := false
        handoverM := none, handoverIn := none }) s1))

/-- CLAIM_TAKEOVER_TIMEOUT (R391): P + 50 µs without a TICK message of the other ORIGIN. DEDUCED, log entry 46. -/
def execClaimTakeoverTimeout (s : State) : Host.Outcome State Fault Refusal :=
  onPart .head (fun s =>
    let t := s.head.tw
    match s.head.mt.tick with
    | none => s
    | some p =>
      let start : Int := match t.lastOtherTick with | some w => w | none => tickAt p s.head.mt.firstN
      let due := decide (p.pNum + (start + 50000) * p.pDen ≤ (wall s.head.mt : Int) * p.pDen)
      if t.claimMode ∧ t.role = .standby ∧ t.autoTakeover ∧ ¬ t.goActive ∧ due then
        postTakeover (updTw (fun t => { t with goActive := true }) s)
      else s) s

/-! ## Commands and registers (R392) -/

/-- TW_CTL and TW_STATUS. -/
def twCtl (s : State) : Nat :=
  let t := s.head.tw
  65536 * t.cutWaitUs + 256 * t.digestLimit + 2 * b2n t.autoTakeover + b2n t.claimMode

def twStatus (s : State) : Nat :=
  let t := s.head.tw
  2048 * b2n (t.dbFaultBeat || t.dbFaultClaim) + 1024 * b2n t.beat + 512 * b2n (peerClaim s) + 256 * b2n t.dbClaim +
    128 * b2n t.split + 64 * b2n t.diverged + 32 * b2n (t.paired && twinUpNow s) + roleCode t.role

def twCtlWrite (v : Word) (s : State) : State :=
  let n := v.toNat
  setMode (bit n 0) (twinEval (updTw (fun t =>
    { t with cutWaitUs := bits n 31 16, digestLimit := bits n 15 8, autoTakeover := bit n 1 }) s))

def twStatusWrite (v : Word) (s : State) : State :=
  updTw (fun t => { t with split := t.split && !v.getLsbD 7, diverged := t.diverged && !v.getLsbD 6 }) s

/-- TW_GET_STATUS. DEDUCED, log entry 47. -/
def specTwGetStatus : OpSpec where
  opcode := 0x0901
  run := fun c s =>
    let t := s.head.tw
    let h := t.peer
    ok c 0x0901 (leBytes 4 (twStatus s) ++ leBytes 4 (twCtl s) ++ leBytes 1 ((h.map (fun h => h.pair)).getD 0) ++
      leBytes 1 ((h.map (fun h => b2n h.claimMode)).getD 0) ++ [0, 0] ++ leBytes 4 ((h.map (fun h => h.fwVersion.toNat)).getD 0) ++
      leBytes 4 t.fwdCount.toNat ++ leBytes 4 t.liveMiss.toNat ++ leBytes 4 t.qMismatch.toNat ++ leBytes 4 t.tileDivergent.toNat) s

def execTwGetStatus (c : Cmd) (s : State) : Host.Outcome State Fault Refusal := runCmd specTwGetStatus c s

/-- TW_SET_MODE. -/
def specTwSetMode : OpSpec where
  opcode := 0x0902
  fits := fun n => n == 12
  params := fun c _ =>
    let p := c.params
    firstErr [inRange (fld p 0 1) 0 1 0, inRange (fld p 2 1) 1 255 2, inRange (fld p 4 2) 10 500 4, inRange (fld p 6 2) 1 65535 6,
      need (decide (fld p 6 2 < fld p 8 2)) (badParam 8)]
  state := fun c s => if (fld c.params 0 1 = 1) ≠ (s.head.tw.claimMode = true) ∧ ticksRun s then errSt stBusy else none
  run := fun c s =>
    let p := c.params
    let s1 := updTw (fun t =>
      { t with
        autoTakeover := bit (fld p 1 1) 0, digestLimit := fld p 2 1, cutWaitUs := fld p 4 2
        claimPend := some (BitVec.ofNat 16 (fld p 6 2), BitVec.ofNat 16 (fld p 8 2)) }) s
    ok c 0x0902 [] (setMode (fld p 0 1 = 1) (twinEval s1))

def execTwSetMode (c : Cmd) (s : State) : Host.Outcome State Fault Refusal := runCmd specTwSetMode c s

/-- The handover to the mirror (R388): the frame M, named to the mirror by a forwarded TW_HANDOVER. DEDUCED, log entry 43. -/
def handOver (c : Cmd) (s : State) : State :=
  let r : Nat × Bool := match namedOf c, chooseFrame s.head.mt (namedOf c) c.arrival with
    | some _, .onFrame n late => (n, late)
    | _, _ => (cutAhead 2 c.arrival s, false)
  let m := r.1
  let pkt := encodeReply
    { opcode := 0x0903, tag := c.tag, status := 0, flags := c.flags, pair := c.pair, chain := c.chain
      position := c.position, frame := c.frame, params := c.params }
  let s1 := twinSend 0x02 (leBytes 4 m ++ leBytes 4 c.tag ++ leBytes 8 c.arrival ++ leBytes 2 0 ++ pkt)
    (updTw (fun t => { t with handoverM := some m, fwdCount := t.fwdCount + 1 }) s)
  okFrame c 0x0903 [] m r.2 (post .head 0x09 1 0x0006 0 (BitVec.ofNat 64 (m % 4294967296)) s1)

/-- The takeover at once: in claim mode ACTIVE from the open push window on (R391), in native mode the claim (R375).
DEDUCED, log entry 46. -/
def takeOver (c : Cmd) (s : State) : State :=
  let m := s.head.time.openN
  let s1 :=
    if s.head.tw.claimMode then
      if s.head.tw.role = .active then s
      else
        let s1 := updTw (fun t => { t with role := .active, goActive := false, fullFrame := some m }) s
        postTakeover { s1 with head.pl.frames := s1.head.pl.frames.map (fun r =>
          if r.isOpen ∧ ¬ r.isClosed then { r with claim := s1.head.tw.claimUp } else r) }
    else if ¬ ticksRun s ∨ s.head.tw.dbClaim then s
    else postTakeover (noteBoth (setRole .alone (setClaim true s)))
  okFrame c 0x0903 [] m false s1

/-- TW_HANDOVER. -/
def specTwHandover : OpSpec where
  opcode := 0x0903
  frameable := true
  fits := fun n => n == 4
  role := fun c s => if fld c.params 0 1 = 0 ∧ s.head.tw.role ≠ .publisher then errSt stNotInRole else none
  params := fun c _ => inRange (fld c.params 0 1) 0 1 0
  state := fun c s => if fld c.params 0 1 = 1 ∧ ¬ s.head.tw.claimMode ∧ s.head.tw.beat then errSt stBusy else none
  run := fun c s => if fld c.params 0 1 = 0 then handOver c s else takeOver c s

def execTwHandover (c : Cmd) (s : State) : Host.Outcome State Fault Refusal := runCmd specTwHandover c s

/-- TW_RESYNC: its final reply comes at the join frame. -/
def specTwResync : OpSpec where
  opcode := 0x0904
  role := fun _ s => if s.head.tw.role ≠ .mirror then errSt stNotInRole else none
  run := fun c s => requestSnapshot false (updTw (fun t => { t with resync := t.resync ++ [c] }) s)

def execTwResync (c : Cmd) (s : State) : Host.Outcome State Fault Refusal := runCmd specTwResync c s

/-- The join frame M is reached (R376): the Head is MIRROR from the opening of its push window. -/
def joinAt (n : Nat) (s : State) : State :=
  if s.head.tw.role = .joining ∧ s.head.tw.joinFrame = some n then
    let s1 := updTw (fun t => { t with joinFrame := none, keeps := false, resync := [], fullFrame := none })
      (setRole .mirror { s with head.pl.replaced := none })
    s.head.tw.resync.foldl (fun a c => okFrame c 0x0904 [] n false a) s1
  else s

end Sys2Proof.Machine
end

