-- ==== Sys2Proof/Machine/Registers.lean ====
section
/-!
DEFINITION. The register spaces of both parts (R121 to R129): the windows of BAR0, BAR4 and the Tile's local addresses,
every register's contents as read, and what a write does to it under its access codes (R12, R13, R646).
-/
namespace Sys2Proof.Machine

/-! ## Addresses -/

/-- The number and the offset inside of one of `count` register groups that lie `stride` apart from `base` on. -/
def strided (off base stride count : Nat) : Option (Nat × Nat) :=
  if base ≤ off ∧ off < base + stride * count then some ((off - base) / stride, (off - base) % stride) else none

/-- One half of a 64-bit register replaced. -/
def withLo (v : Nat) (w : Word) : Nat := v / 4294967296 * 4294967296 + w.toNat
def withHi (v : Nat) (w : Word) : Nat := w.toNat * 4294967296 + v % 4294967296

/-- The low half of a ring or table address, whose bits [11:0] "must be 0", and of a count's address, whose bits [1:0] must: ones
written to them are dropped. DESIGN CHOICE, log entry 97. -/
def lowBase (w : Word) : Word := w &&& 0xFFFFF000#32
def lowWord (w : Word) : Word := w &&& 0xFFFFFFFC#32
def withLo64 (v : BitVec 64) (w : Word) : BitVec 64 := BitVec.ofNat 64 (withLo v.toNat w)
def withHi64 (v : BitVec 64) (w : Word) : BitVec 64 := BitVec.ofNat 64 (withHi v.toNat w)

/-! ## Porch (R129, R612) -/

/-- A register of queue `q` at an offset of its 4 KiB of BAR4. -/
def queueRead (q off : Nat) (s : State) : Nat :=
  let k := queueAt q s
  match off with
  | 0x000 => k.cqBase.toNat % 4294967296
  | 0x004 => k.cqBase.toNat / 4294967296
  | 0x008 => k.cqSize
  | 0x010 => k.cqWb.toNat % 4294967296
  | 0x014 => k.cqWb.toNat / 4294967296
  | 0x018 => k.rqBase.toNat % 4294967296
  | 0x01C => k.rqBase.toNat / 4294967296
  | 0x020 => k.rqSize
  | 0x028 => k.rqWb.toNat % 4294967296
  | 0x02C => k.rqWb.toNat / 4294967296
  | 0x030 => qCtl k
  | 0x034 => qStatus q s
  | _ => 0

/-- A write there; what the new slots of a command ring hold is free where the write carries no copy of them. -/
def queueWrite (q off : Nat) (v : Word) (s : State) : State :=
  match off with
  | 0x000 => updQueue q (fun k => { k with cqBase := withLo64 k.cqBase (lowBase v) }) s
  | 0x004 => updQueue q (fun k => { k with cqBase := withHi64 k.cqBase v }) s
  | 0x008 => updQueue q (fun k => { k with cqSize := v.toNat % 16 }) s
  | 0x00C =>
    let d := draw s
    cqTail q v (Config.hostPackets d.1) d.2
  | 0x010 => updQueue q (fun k => { k with cqWb := withLo64 k.cqWb (lowWord v) }) s
  | 0x014 => updQueue q (fun k => { k with cqWb := withHi64 k.cqWb v }) s
  | 0x018 => updQueue q (fun k => { k with rqBase := withLo64 k.rqBase (lowBase v) }) s
  | 0x01C => updQueue q (fun k => { k with rqBase := withHi64 k.rqBase v }) s
  | 0x020 => updQueue q (fun k => { k with rqSize := v.toNat % 16 }) s
  | 0x024 => if (queueAt q s).en then updQueue q (fun k => { k with rqHead := v }) s else s
  | 0x028 => updQueue q (fun k => { k with rqWb := withLo64 k.rqWb (lowWord v) }) s
  | 0x02C => updQueue q (fun k => { k with rqWb := withHi64 k.rqWb v }) s
  | 0x030 => qCtlWrite q v s
  | 0x034 => updQueue q (fun k => { k with ringError := k.ringError && !v.getLsbD 3 }) s
  | _ => s

/-- PO_RESET_CAUSE (R612). -/
def resetCause (p : Part) (s : State) : Nat :=
  match p with
  | .head => 256 * s.head.sys.starts.toNat + s.head.sys.cause.toNat
  | .tile => 256 * s.tile.sys.starts.toNat + s.tile.sys.cause.toNat

def porchRead (p : Part) (off : Nat) (s : State) : Nat :=
  if off = 0x048 then resetCause p s
  else if off = 0x040 ∧ p = .head then 2 * s.head.po.rangeEn.toNat + b2n s.head.po.regWrite
  else 0

def porchWrite (p : Part) (off : Nat) (v : Word) (s : State) : State :=
  if off = 0x040 ∧ p = .head then
    { s with head.po.rangeEn := BitVec.ofNat 16 (bits v.toNat 16 1), head.po.regWrite := v.getLsbD 0 }
  else s

/-! ## Mantel -/

def mtCtl (p : Part) (s : State) : Nat :=
  let m := mtOf p s
  64 * b2n m.manual + (if p = .head then 32 * b2n m.tsEn + 16 * b2n m.ppsOutEn else 0) + b2n m.hold

/-- MT_STATUS. -/
def mtStatus (p : Part) (s : State) : Nat :=
  let m := mtOf p s
  65536 * m.srcPort + 4096 * hopsOut p s + 128 * b2n m.stepped + 64 * b2n m.tick.isSome +
    (if p = .head then 32 * b2n s.head.time.twinAlarm else 0) + servoCode m.servo

/-- MT_TRIG_CTL of a unit. -/
def trigCtl (t : Trig) : Nat :=
  65536 * t.pulseW.toNat + 4096 * t.out + 32 * b2n t.late + 16 * b2n t.fired + 8 * b2n t.event + 4 * b2n t.periodic + b2n t.arm

def trigRead (t : Trig) (off : Nat) : Nat :=
  match off with
  | 0 => t.tgt.toNat % 4294967296
  | 4 => t.tgt.toNat / 4294967296
  | 8 => trigCtl t
  | 12 => t.period.toNat
  | _ => 0

def tsRead (t : TsPort) (off : Nat) : Nat :=
  match off with
  | 0 => 65536 * t.txInt.toNat + t.rxInt.toNat
  | 4 => 65536 * t.txBoard.toNat + t.rxBoard.toNat
  | 8 => t.asym.toNat
  | _ => 0

/-- A Mantel register; MT_CNT_LO latches (R79). -/
def mantelRead (p : Part) (off : Nat) (s : State) : Nat × State :=
  let m := mtOf p s
  match off with
  | 0x000 => (mtCtl p s, s)
  | 0x004 => (mtStatus p s, s)
  | 0x008 =>
    let r := cntLoRead p s
    (r.1.toNat, r.2)
  | 0x00C => (m.latCntHi.toNat, s)
  | 0x010 => (m.latNs.toNat, s)
  | 0x014 => (m.latSec.toNat % 4294967296, s)
  | 0x018 => (m.latSec.toNat / 4294967296, s)
  | 0x01C => (unsigned 32 m.rate, s)
  | 0x020 => (if p = .head then s.head.time.twinOffset.toNat else 0, s)
  | 0x024 => (if p = .head then s.head.time.twinThr else 0, s)
  | _ =>
    match strided off 0x080 0x10 m.trigs.length with
    | some x => (trigRead (m.trigs.getD x.1 {}) x.2, s)
    | none =>
      match p, strided off 0x200 0x10 6 with
      | .head, some x => (tsRead (s.head.time.ts.getD x.1 {}) x.2, s)
      | _, _ => (0, s)

/-- A write of one of a unit's registers (R67, R68). -/
def trigWrite (p : Part) (u off : Nat) (v : Word) (s : State) : State :=
  match off with
  | 0 => trigTgtWrite p u false v s
  | 4 => trigTgtWrite p u true v s
  | 8 => trigCtlWrite p u v s
  | 12 => setMt p { mtOf p s with trigs := upd (mtOf p s).trigs u (fun t => { t with period := v }) } s
  | _ => s

def tsWrite (k off : Nat) (v : Word) (s : State) : State :=
  match off with
  | 4 => { s with head.time.ts := upd s.head.time.ts k (fun t =>
      { t with txBoard := v.extractLsb' 16 16, rxBoard := v.extractLsb' 0 16 }) }
  | 8 => { s with head.time.ts := upd s.head.time.ts k (fun t => { t with asym := v }) }
  | _ => s

def mantelWrite (p : Part) (off : Nat) (v : Word) (s : State) : State :=
  let m := mtOf p s
  match off with
  | 0x000 => mtCtlWrite p v s
  | 0x004 => setMt p { m with stepped := m.stepped && !v.getLsbD 7 } s
  | 0x01C => rateWrite p v s
  | 0x024 => if p = .head then { s with head.time.twinThr := v.toNat % 65536 } else s
  | _ =>
    match strided off 0x080 0x10 m.trigs.length with
    | some x => trigWrite p x.1 x.2 v s
    | none =>
      match p, strided off 0x200 0x10 6 with
      | .head, some x => tsWrite x.1 x.2 v s
      | _, _ => s

/-! ## Dumbwaiter -/

def chanRead (c : DwChan) (off : Nat) : Nat :=
  match off with
  | 0x04 => dwChStatus c
  | 0x0C => c.head.toNat
  | 0x10 => c.irq.toNat
  | 0x14 => c.bad.toNat
  | _ => 0

def dwRead (p : Part) (off : Nat) (s : State) : Nat :=
  let d := dwOf p s
  match off with
  | 0x000 => d.space
  | 0x004 => burstsOut p s
  | 0x008 => d.base % 4294967296
  | 0x00C => d.base / 4294967296
  | _ =>
    match strided off 0x100 0x20 (chanCount p) with
    | some x => chanRead (chanAt p x.1 s) x.2
    | none => 0

def dwWrite (p : Part) (off : Nat) (v : Word) (s : State) : State :=
  match off with
  | 0x000 => if p = .head then updDw p (fun d => { d with space := v.toNat % 2 }) s else s
  | 0x008 => updDw p (fun d => { d with base := withLo d.base (lowBase v) }) s
  | 0x00C => updDw p (fun d => { d with base := withHi d.base v }) s
  | _ =>
    match strided off 0x100 0x20 (chanCount p) with
    | some (ch, 0x00) => dwCtlWrite p ch v s
    | some (ch, 0x08) => dwTail p ch v s
    | some (ch, 0x10) => updChan p ch (fun c => { c with irq := c.irq &&& ~~~(v.extractLsb' 0 4) }) s
    | _ => s

/-! ## Graed -/

def glRead (p : Part) (off : Nat) (s : State) : Nat :=
  match strided off 0 0x40 (portCount p s) with
  | some (k, o) =>
    let g := portAt p k s
    match o with
    | 0x00 => glCtl g
    | 0x04 => glStatus g
    | 0x08 => glFom g
    | 0x0C => glMap g
    | 0x10 => g.blockErrors.toNat
    | 0x14 => g.replays.toNat
    | 0x18 => g.retrains.toNat
    | 0x1C => g.abortsRx.toNat
    | 0x20 => g.discards.toNat
    | 0x24 => glSeq g
    | _ => 0
  | none => 0

def glWrite (p : Part) (off : Nat) (v : Word) (s : State) : State :=
  match strided off 0 0x40 (portCount p s) with
  | some (k, 0x00) => glCtlWrite p k v s
  | some (k, 0x04) =>
    updPort p k (fun g =>
      { g with
        linkDropped := g.linkDropped && !v.getLsbD 14, laneDropped := g.laneDropped && !v.getLsbD 13
        retrained := g.retrained && !v.getLsbD 12 }) s
  | _ => s

/-! ## Chimney -/

def chRead (p : Part) (off : Nat) (s : State) : Nat :=
  let c := chOf p s
  match off with
  | 0x000 => match p with | .head => 2 * b2n c.termEn | .tile => chCtl c
  | 0x004 => chStatus c
  | 0x008 => chTripLog c s.now
  | 0x00C => c.rejects.toNat
  | 0x010 => if p = .tile then 65536 * c.hotBudget + c.lampHot else 0
  | _ =>
    match strided off 0x040 4 c.temps.length, p, strided off 0x400 4 270 with
    | some (k, 0), _, _ => chTemp c k
    | _, .tile, some (w, 0) => chField c (2 * w) + 65536 * chField c (2 * w + 1)
    | _, _, _ => 0

def chWrite (p : Part) (off : Nat) (v : Word) (s : State) : State :=
  match off with
  | 0x000 =>
    updCh p (fun c =>
      match p with
      | .head => { c with termEn := v.getLsbD 1 }
      | .tile => { c with hotCapEn := v.getLsbD 2, termEn := v.getLsbD 1, sinkEn := v.getLsbD 0 }) s
  | 0x004 =>
    updCh p (fun c =>
      { c with
        tripRestart := c.tripRestart && !v.getLsbD 15, trimDefaulted := c.trimDefaulted && !v.getLsbD 11
        trimDegraded := c.trimDegraded && !v.getLsbD 2, trimReject := c.trimReject && !v.getLsbD 1 }) s
  | 0x010 =>
    if p = .tile then
      setHotLimits (updCh .tile (fun c => { c with hotBudget := bits v.toNat 31 16, lampHot := bits v.toNat 15 0 }) s)
    else s
  | _ => s

/-! ## Attic -/

/-- AT_CTL. -/
def atCtl (s : State) : Nat := 65536 * s.head.at_.healthWindow + 4 * b2n s.head.at_.enrolPolicy + 2 * b2n s.head.at_.confirmMode

/-- AT_STATUS of a part. -/
def atStatus (p : Part) (s : State) : Nat :=
  match p with
  | .head =>
    let a := s.head.at_
    32 * b2n a.recovery + 16 * b2n a.staging.isSome + 4 * b2n a.torn + 2 * b2n a.fellBack + b2n a.unreadable
  | .tile => 8 * b2n s.tile.at_.lock.isSome + 4 * b2n s.tile.at_.torn + b2n s.tile.at_.unreadable

/-- AT_BOOT. -/
def atBoot (s : State) : Nat := 256 * s.head.at_.running + 16 * slotState 1 s + slotState 0 s

/-- AT_WINDOW_LEFT: whole seconds left of HEALTH_WINDOW, rounded up. -/
def windowLeft (s : State) : Nat :=
  if slotState s.head.at_.running s = 3 then
    ceilDiv (s.head.at_.trialSince + 1000000000 * s.head.at_.healthWindow - s.now) 1000000000
  else 0

def atRead (p : Part) (off : Nat) (s : State) : Nat :=
  match p, off with
  | .head, 0x000 => atCtl s
  | _, 0x004 => atStatus p s
  | .head, 0x008 => atBoot s
  | .head, 0x00C => windowLeft s
  | _, 0x010 => storeFreeKib p s
  | _, _ => 0

def atWrite (p : Part) (off : Nat) (v : Word) (s : State) : State :=
  match p, off with
  | .head, 0x000 =>
    { s with
      head.at_.healthWindow := bits v.toNat 31 16, head.at_.enrolPolicy := v.getLsbD 2, head.at_.confirmMode := v.getLsbD 1 }
  | .head, 0x004 =>
    { s with head.at_.torn := s.head.at_.torn && !v.getLsbD 2, head.at_.fellBack := s.head.at_.fellBack && !v.getLsbD 1 }
  | .tile, 0x004 => { s with tile.at_.torn := s.tile.at_.torn && !v.getLsbD 2 }
  | _, _ => s

/-! ## Foyer, Cellar, Parlour, Pane push, Twin, audio -/

def fyRead (off : Nat) (s : State) : Nat :=
  match strided off 0 0x40 4 with
  | some (p, o) =>
    let q := fyPort p s
    match o with
    | 0x00 => fyStatus q
    | 0x04 => q.rxBad.toNat
    | 0x08 => q.overflow.toNat
    | 0x0C => q.fecCorr.toNat
    | 0x10 => q.fecUncorr.toNat
    | _ => 0
  | none => 0

def fyWrite (off : Nat) (v : Word) (s : State) : State :=
  match strided off 0 0x40 4 with
  | some (p, 0x00) => fyStatusWrite p v s
  | _ => s

/-- The registers of a stack. -/
def stackRead (k : Stack) (off : Nat) : Nat :=
  match off with
  | 0x00 => k.ceCount.toNat
  | 0x04 => k.ueCount.toNat
  | 0x08 => k.ceAddr % 4294967296
  | 0x0C => k.ceAddr / 4294967296
  | 0x10 => k.ueAddr % 4294967296
  | 0x14 => k.ueAddr / 4294967296
  | 0x18 => 65536 * min 1024 k.peak + min 1024 k.queue.length
  | 0x1C => k.stalls.toNat
  | _ => 0

def clRegRead (off : Nat) (s : State) : Nat :=
  match off with
  | 0x000 => clCtl s
  | 0x004 => clStatus s
  | 0x008 => 65536 * unsigned 16 (stackAt 1 s).temp + unsigned 16 (stackAt 0 s).temp
  | _ =>
    match strided off 0x010 4 6, strided off 0x030 4 5, strided off 0x050 0x20 2 with
    | some (j, 0), _, _ => (s.head.cl.pcXor.getD j 0).toNat
    | _, some (i, 0), _ => (s.head.cl.bkXor.getD i 0).toNat
    | _, _, some (k, o) => stackRead (stackAt k s) o
    | _, _, _ => 0

def clRegWrite (off : Nat) (v : Word) (s : State) : State :=
  match off with
  | 0x000 => clCtlWrite v s
  | 0x004 => clStatusWrite v s
  | _ =>
    match strided off 0x010 4 6, strided off 0x030 4 5 with
    | some (j, 0), _ => pcXorWrite j v s
    | _, some (i, 0) => bkXorWrite i v s
    | _, _ => s

def plRead (off : Nat) (s : State) : Nat :=
  let l := s.head.pl
  match off with
  | 0x000 => plCtl s
  | 0x004 => plStatus s
  | 0x008 => l.staleTotal.toNat
  | 0x00C => l.discarded.toNat
  | 0x010 => l.loadLast
  | 0x014 => loadRated s
  | 0x400 => l.sigStatus.toNat
  | 0x404 => l.sigMismatches.toNat
  | 0x408 => l.sigHeld.toNat
  | 0x40C => l.sigTwin.toNat
  | _ =>
    match strided off 0x100 4 32, strided off 0x200 4 64 with
    | some (n, 0), _ => plLayerCtl n s
    | _, some (g, 0) => plGov g s
    | _, _ => 0

def plWrite (off : Nat) (v : Word) (s : State) : State :=
  match off with
  | 0x000 => plCtlWrite v s
  | 0x004 => plStatusWrite v s
  | 0x400 => { s with head.pl.sigStatus := s.head.pl.sigStatus &&& ~~~v }
  | _ => s

def ppRead (off : Nat) (s : State) : Nat :=
  let q := s.head.pp
  match off with
  | 0x000 => ppCtl s
  | 0x004 => ppStatus s
  | 0x008 => q.fsrBase % 4294967296
  | 0x00C => q.fsrBase / 4294967296
  | 0x010 => q.fsrSize
  | 0x014 => q.fsrCount.toNat
  | 0x018 => q.staleTotal.toNat
  | 0x01C => q.replayTotal.toNat
  | 0x020 => q.trans.length
  | _ =>
    match strided off 0x100 4 32 with
    | some (c, 0) => ppPort c s
    | _ => 0

def ppWrite (off : Nat) (v : Word) (s : State) : State :=
  match off with
  | 0x000 => ppCtlWrite v s
  | 0x004 => ppStatusWrite v s
  | 0x008 => ppBaseLoWrite v s
  | 0x00C => ppBaseHiWrite v s
  | 0x010 => ppSizeWrite v s
  | _ =>
    match strided off 0x100 4 32 with
    | some (c, 0) => ppPortWrite c v s
    | _ => s

def twRead (off : Nat) (s : State) : Nat :=
  let t := s.head.tw
  match off with
  | 0x000 => twCtl s
  | 0x004 => twStatus s
  | 0x008 => t.fwdCount.toNat
  | 0x00C => t.liveMiss.toNat
  | 0x010 => t.qMismatch.toNat
  | 0x014 => t.tileDivergent.toNat
  | _ => 0

def twWrite (off : Nat) (v : Word) (s : State) : State :=
  match off with
  | 0x000 => twCtlWrite v s
  | 0x004 => twStatusWrite v s
  | _ => s

def auRead (off : Nat) (s : State) : Nat :=
  match strided off 0 0x40 8, strided off 0x400 0x10 8 with
  | some (p, o), _ =>
    let q := auPort p s
    match o with
    | 0x00 => auPortCtl q
    | 0x04 => auPortStatus q s
    | 0x08 => auDiv q s
    | 0x10 => q.mask.toNat
    | 0x14 => q.hostBase % 4294967296
    | 0x18 => q.hostBase / 4294967296
    | 0x1C => q.hostFrames
    | _ => 0
  | _, some (g, o) =>
    let q := auGroup g s
    match o with
    | 0x00 => auGroupCtl q
    | 0x04 => q.ds
    | 0x08 => auGroupWall q
    | 0x0C => unsigned 32 q.cfg.offset
    | _ => 0
  | _, _ => 0

def auWrite (off : Nat) (v : Word) (s : State) : State :=
  match strided off 0 0x40 8, strided off 0x400 0x10 8 with
  | some (p, o), _ =>
    match o with
    | 0x00 => auPortCtlWrite p v s
    | 0x04 => auPortStatusWrite p v s
    | 0x0C => auTailWrite p v s
    | 0x14 => auBaseLoWrite p v s
    | 0x18 => auBaseHiWrite p v s
    | 0x1C => auFramesWrite p v s
    | _ => s
  | _, some (g, 0x00) => auGroupCtlWrite g v s
  | _, some (g, 0x0C) => auOffsetWrite g v s
  | _, _ => s

/-! ## Landing, Larder, lamp drive, Hearth -/

def ldRead (off : Nat) (s : State) : Nat :=
  let l := s.tile.ld
  match off with
  | 0x000 => 4 * b2n l.limitEn + 2 * b2n l.repairEn
  | 0x004 => ldStatus s
  | 0x008 => l.shownFn.toNat
  | 0x00C => l.parityErrors.toNat
  | 0x010 => l.repairReqs.toNat
  | 0x014 => l.divergence.toNat
  | 0x018 => l.lim.budget
  | 0x01C => 256 * l.energyReg + l.q
  | _ =>
    match strided off 0x020 4 3, strided off 0x100 0x20 4 with
    | some (c, 0), _ => l.lim.peaks.getD c 0
    | _, some (k, o) => if o < 0x14 then ldShow k (o / 4) s else 0
    | _, _ => 0

def ldWrite (off : Nat) (v : Word) (s : State) : State :=
  match off with
  | 0x000 => updLd (fun l => { l with limitEn := v.getLsbD 2, repairEn := v.getLsbD 1 }) s
  | 0x004 =>
    updLd (fun l =>
      { l with
        paritySeen := l.paritySeen && !v.getLsbD 5, limited := l.limited && !v.getLsbD 4, diverged := l.diverged && !v.getLsbD 3
        tickMismatch := l.tickMismatch && !v.getLsbD 2, noTick := l.noTick && !v.getLsbD 1 }) s
  | 0x018 => limitsNow (updLd (fun l => { l with lim := { l.lim with budget := v.toNat % 65536 } }) s)
  | _ =>
    match strided off 0x020 4 3 with
    | some (c, 0) => limitsNow (updLd (fun l => { l with lim := { l.lim with peaks := upd l.lim.peaks c (fun _ => v.toNat % 65536) } }) s)
    | _ => s

def lrRegRead (off : Nat) (s : State) : Nat :=
  let l := s.tile.lr
  match off with
  | 0x000 => b2n l.driftEn
  | 0x004 => lrStatus s
  | 0x008 => unsigned 16 s.tile.ld.lim.tRef
  | 0x018 => l.parityErrors.toNat
  | 0x01C => l.refetches.toNat
  | _ =>
    match strided off 0x00C 4 3 with
    | some (c, 0) => unsigned 16 (s.tile.ld.lim.base.getD c 0)
    | _ => 0

/-- Larder's status clears NO_GOLDEN nowhere; its W1C bits are GOLDEN_BAD and REFETCHED. -/
def lrRegWrite (off : Nat) (v : Word) (s : State) : State :=
  match off with
  | 0x000 => updLr (fun l => { l with driftEn := v.getLsbD 0, driftNow := v.getLsbD 0 }) s
  | 0x004 => updLr (fun l => { l with goldenBad := l.goldenBad && !v.getLsbD 3, refetched := l.refetched && !v.getLsbD 2 }) s
  | 0x008 => limitsNow (updLd (fun l => { l with lim := { l.lim with tRef := signed 16 (v.toNat % 65536) } }) s)
  | _ =>
    match strided off 0x00C 4 3 with
    | some (c, 0) =>
      limitsNow (updLd (fun l => { l with lim := { l.lim with base := upd l.lim.base c (fun _ => signed 16 (v.toNat % 65536)) } }) s)
    | _ => s

def lpRead (off : Nat) (s : State) : Nat :=
  let l := s.tile.lp
  match off with
  | 0x000 => lpCtl l
  | 0x004 => lpStatus s
  | 0x008 => lpSlot s
  | 0x00C => lpFull s
  | 0x010 => lpFade s
  | 0x014 => l.transitions.toNat
  | 0x018 => l.flags.length
  | 0x01C => 65536 * l.shortV.getD 2 0 + 256 * l.shortV.getD 1 0 + l.shortV.getD 0 0
  | _ =>
    match strided off 0x020 4 4, strided off 0x040 8 4, strided off 0x400 4 1440 with
    | some (b, 0), _, _ => l.cur.getD b 0
    | _, some (n, 0), _ => lpWaveT (l.waves.getD n l.waveNow)
    | _, some (n, 4), _ => lpWaveV (l.waves.getD n l.waveNow)
    | _, _, some (w, 0) => lpTrim w s
    | _, _, _ => 0

def lpWrite (off : Nat) (v : Word) (s : State) : State :=
  match off with
  | 0x000 => lpCtlWrite v s
  | 0x004 => updLp (fun l => { l with deadFull := l.deadFull && !v.getLsbD 7, deadAdded := l.deadAdded && !v.getLsbD 5 }) s
  | 0x01C => updLp (fun l => { l with shortV := [bits v.toNat 7 0, bits v.toNat 15 8, bits v.toNat 23 16] }) s
  | _ =>
    match strided off 0x020 4 4, strided off 0x040 8 4, strided off 0x400 4 1440 with
    | some (b, 0), _, _ =>
      let g := bits v.toNat 23 0
      updLp (fun l =>
        { l with
          cur := upd l.cur b (fun _ => g), curNow := if noFrames s then upd l.curNow b (fun _ => g) else l.curNow }) s
    | _, some (n, 0), _ => lpWaveWrite n false v s
    | _, some (n, 4), _ => lpWaveWrite n true v s
    | _, _, some (w, 0) => lpTrimWrite w v s
    | _, _, _ => s

/-- The coefficient words: bank, rail, word. -/
def coefPlace (off : Nat) : Option (Nat × Nat × Nat) :=
  match strided off 0x100 0x100 2 with
  | some (b, o) => if o < 0x80 ∧ o % 0x20 < 0x14 then some (b, o / 0x20, o % 0x20 / 4) else none
  | none => none

/-- A Hearth register; `k` names the free rounding of its means. -/
def htRead (k off : Nat) (s : State) : Nat :=
  match off with
  | 0x000 => htCtl s.tile.ht
  | 0x004 => htStatus s.tile.ht
  | 0x008 => unsigned 16 s.tile.ht.vin
  | 0x00C => s.tile.ht.ffLate.toNat
  | 0x010 => htCoreLog s
  | _ =>
    match strided off 0x040 0x20 4, coefPlace off with
    | some (n, 0x00), _ => railCtl (railAt n s)
    | some (n, 0x04), _ => railStatus n s
    | some (n, 0x08), _ => railMeas k n s
    | some (n, 0x0C), _ => (railAt n s).faults.toNat
    | some (n, 0x10), _ => (railAt n s).oc.toNat
    | some (n, 0x14), _ => railMean k n s
    | _, some (b, n, w) => coefWord ((railAt n s).coef.getD b {}) w
    | _, _ => 0

def htWrite (off : Nat) (v : Word) (s : State) : State :=
  match off with
  | 0x000 => htCtlWrite v s
  | 0x004 => htStatusWrite v s
  | _ =>
    match strided off 0x040 0x20 4, coefPlace off with
    | some (n, 0x00), _ => railCtlWrite n v s
    | _, some (b, n, w) => coefWrite b n w v s
    | _, _ => s

/-! ## The spaces -/

/-- A register of BAR0 (R122). -/
def headRead (addr : Nat) (s : State) : Nat × State :=
  let off := addr % 0x400000
  match addr / 0x400000 with
  | 0 => (porchRead .head off s, s)
  | 1 => mantelRead .head off s
  | 2 => (dwRead .head off s, s)
  | 3 => (glRead .head off s, s)
  | 4 => (chRead .head off s, s)
  | 5 => (atRead .head off s, s)
  | 6 => (fyRead off s, s)
  | 7 => (clRegRead off s, s)
  | 8 => (plRead off s, s)
  | 9 => (ppRead off s, s)
  | 10 => (twRead off s, s)
  | 11 => (auRead off s, s)
  | _ => (0, s)

def headWrite (addr : Nat) (v : Word) (s : State) : State :=
  let off := addr % 0x400000
  match addr / 0x400000 with
  | 0 => porchWrite .head off v s
  | 1 => mantelWrite .head off v s
  | 2 => dwWrite .head off v s
  | 3 => glWrite .head off v s
  | 4 => chWrite .head off v s
  | 5 => atWrite .head off v s
  | 6 => fyWrite off v s
  | 7 => clRegWrite off v s
  | 8 => plWrite off v s
  | 9 => ppWrite off v s
  | 10 => twWrite off v s
  | 11 => auWrite off v s
  | _ => s

/-- A register of the Tile's local addresses (R123). -/
def tileRead (addr : Nat) (s : State) : Nat × State :=
  let off := addr % 0x100000
  match addr / 0x100000 with
  | 0 => (porchRead .tile off s, s)
  | 1 => mantelRead .tile off s
  | 2 => (dwRead .tile off s, s)
  | 3 => (glRead .tile off s, s)
  | 4 => (chRead .tile off s, s)
  | 5 => (atRead .tile off s, s)
  | 6 => (ldRead off s, s)
  | 7 => (lrRegRead off s, s)
  | 8 => (lpRead off s, s)
  | 9 =>
    let d := draw s
    (htRead d.1 off s, d.2)
  | _ => (0, s)

def tileWrite (addr : Nat) (v : Word) (s : State) : State :=
  let off := addr % 0x100000
  match addr / 0x100000 with
  | 0 => porchWrite .tile off v s
  | 1 => mantelWrite .tile off v s
  | 2 => dwWrite .tile off v s
  | 3 => glWrite .tile off v s
  | 4 => chWrite .tile off v s
  | 5 => atWrite .tile off v s
  | 6 => ldWrite off v s
  | 7 => lrRegWrite off v s
  | 8 => lpWrite off v s
  | 9 => htWrite off v s
  | _ => s

/-- A 32-bit read at an address of a part, BAR0 on the Head (R124, R125). -/
def regRead (p : Part) (addr : Nat) (s : State) : Word × State :=
  let r := match p with | .head => headRead addr s | .tile => tileRead addr s
  (BitVec.ofNat 32 r.1, r.2)

/-- A 32-bit write there. DEDUCED, log entry 11; DEDUCED, log entry 67. -/
def regWrite (p : Part) (addr : Nat) (v : Word) (s : State) : State :=
  match p with | .head => headWrite addr v s | .tile => tileWrite addr v s

/-- The part whose registers a space holds. -/
def spacePart : Space → Part
  | .tileLocal => .tile
  | _ => .head

/-- A 32-bit write at an address of a space. -/
def spaceWord (sp : Space) (addr : Nat) (v : Word) (s : State) : State :=
  match sp with
  | .bar0 => headWrite addr v s
  | .bar4 => if addr < 0x10000 then queueWrite (addr / 0x1000) (addr % 0x1000) v s else s
  | .tileLocal => tileWrite addr v s

/-- The words of an access in ascending order of address (R124). -/
def spaceWords (sp : Space) (addr : Nat) : List Word → State → State
  | [], s => s
  | v :: r, s => spaceWords sp (addr + 4) r (spaceWord sp addr v s)

/-- A write in one of the spaces: only aligned ones are accepted (R124). -/
def spaceWrite (w : RegAccess) (v : Word) (s : State) : State :=
  if w.addr % 4 ≠ 0 then s else spaceWords w.space w.addr (v :: w.more) s

/-- REGISTER_WRITE (R13, R124, R125, R646). -/
def execRegisterWrite (w : RegAccess) (value : Word) (s : State) : Host.Outcome State Fault Refusal :=
  onPart (spacePart w.space) (if w.space = .tileLocal then spaceWrite w value else fromHost (spaceWrite w value)) s

/-! ## PO_REG_READ and PO_REG_WRITE (R95) -/

/-- Read `n` registers from ascending addresses. -/
def readRegs (p : Part) (addr : Nat) : Nat → State → List Byte × State
  | 0, s => ([], s)
  | n + 1, s =>
    let r := regRead p addr s
    let q := readRegs p (addr + 4) n r.2
    (leBytes 4 r.1.toNat ++ q.1, q.2)

/-- Write registers at ascending addresses, each taking effect as it is made. -/
def writeRegs (p : Part) (addr : Nat) : List Word → State → State
  | [], s => s
  | v :: r, s => writeRegs p (addr + 4) r (regWrite p addr v s)

/-- ADDR and COUNT. -/
def regErrs (p : List Byte) : List (Option Err) := [need (fld p 0 4 % 4 = 0) (badParam 0), inRange (fld p 4 2) 1 256 4]

def specPoRegRead : OpSpec where
  opcode := 0x0103
  onTile := true
  fits := fun n => n == 8
  params := fun c _ => firstErr (regErrs c.params)
  run := fun c s =>
    let r := readRegs c.part (fld c.params 0 4) (fld c.params 4 2) s
    ok c 0x0103 r.1 r.2

def execPoRegRead (c : Cmd) (s : State) : Host.Outcome State Fault Refusal := runCmd specPoRegRead c s

def specPoRegWrite : OpSpec where
  opcode := 0x0104
  onTile := true
  fits := fun n => decide (8 ≤ n)
  params := fun c _ => firstErr (regErrs c.params ++ [need (c.params.length = 8 + 4 * fld c.params 4 2) badParamAny])
  run := fun c s =>
    let l := (List.range (fld c.params 4 2)).map (fun i => BitVec.ofNat 32 (fld c.params (8 + 4 * i) 4))
    ok c 0x0104 [] (writeRegs c.part (fld c.params 0 4) l s)

def execPoRegWrite (c : Cmd) (s : State) : Host.Outcome State Fault Refusal := runCmd specPoRegWrite c s

end Sys2Proof.Machine
end

