-- ==== Sys2Proof/Machine/Dumbwaiter.lean ====
section
/-!
DEFINITION. Dumbwaiter's descriptors and bursts (R493 to R498, R504 to R509), the packets of TILE space and a Tile's remote
port (R512 to R514).
-/
namespace Sys2Proof.Machine

/-! ## Descriptors (R504, R505) -/

/-- The fields of a descriptor's 64 bytes. -/
def parseDesc (b : List Byte) : DwDesc :=
  { src := fld b 0 8, dst := fld b 8 8, count := fld b 16 4, srcSpace := fld b 20 1, dstSpace := fld b 21 1, flags := fld b 22 1
    chain := fld b 24 1, position := fld b 25 1, fence := fld b 26 1, fenceValue := fld b 28 4, pattern := (b.drop 32).take 8 }

/-- The present Tiles that a descriptor names. DEDUCED, log entry 68. -/
def descTiles (d : DwDesc) (s : State) : List TileEnt :=
  s.head.en.filter (fun e => present e && e.chain == d.chain && (d.position == 0xFF || e.position == d.position))

/-- A descriptor is bad (R505). -/
def descBad (p : Part) (d : DwDesc) (s : State) : Bool :=
  let spaces := match p with
    | .head => decide (d.srcSpace ≤ 3 ∧ d.dstSpace ≤ 2)
    | .tile => (d.srcSpace == 1 || d.srcSpace == 3) && d.dstSpace == 1
  let beyond := p == .head && ((d.srcSpace == 1 && decide (cellarEnd < d.src + d.count)) ||
    (d.dstSpace == 1 && decide (cellarEnd < d.dst + d.count)))
  let tile := d.srcSpace == 2 || d.dstSpace == 2
  let noTile := tile && ((descTiles d s).isEmpty || (d.srcSpace == 2 && d.position == 0xFF))
  d.count == 0 || !spaces || beyond || noTile || (p == .tile && bit d.flags 1)

/-- The channel may fetch its next descriptor: everything fetched has been issued. -/
def mayFetch (c : DwChan) : Bool :=
  c.state == .running && !c.stopping && !c.aborting && c.failing == 0 && c.reload.isNone && c.fetched != c.tail &&
    c.runs.all (fun r => r.left == 0 || r.err.isSome)

/-- A descriptor is fetched (R502, R504, R505, R510): `host` is what host memory returned, none for a failed read.
DESIGN CHOICE, log entry 10. -/
def fetchDesc (p : Part) (ch : Nat) (host : Option (List Byte)) (s : State) : State :=
  let c := chanAt p ch s
  let addr := descAddr c.entry c.fetched
  let r := fetchBytes p c.entry.space addr 64 host s
  match r.1 with
  | none => failChan p ch 1 addr r.2
  | some b =>
    let d := parseDesc b
    let run : DwRun := { k := c.fetched, desc := d, left := d.count, err := if descBad p d s then some (9, d.count, 0) else none }
    settle p ch (updChan p ch (fun c => { c with fetched := c.fetched + 1, runs := c.runs ++ [run] }) r.2)

/-- DESCRIPTOR_FETCHED. -/
def execDescriptorFetched (p : Part) (ch : Nat) (host : Option (List Byte)) (s : State) : Host.Outcome State Fault Refusal :=
  onPart p (fun s => if ch < chanCount p ∧ mayFetch (chanAt p ch s) then fetchDesc p ch host s else s) s

/-! ## Issuing (R494, R495, R497, R498) -/

/-- The descriptor whose bursts are being issued. -/
def issuing (c : DwChan) : Option DwRun := c.runs.find? (fun r => decide (0 < r.left) && r.err.isNone && r.abortAt.isNone)

/-- The channel has a burst ready and stays within the limits (R497, R504). -/
def mayIssue (p : Part) (ch : Nat) (s : State) : Bool :=
  let c := chanAt p ch s
  match issuing c with
  | some r =>
    c.state == .running && !c.aborting && c.failing == 0 && decide (c.bursts.length < c.entry.maxOut) &&
      decide (burstsOut p s < match p with | .head => 2048 | .tile => 64) &&
      (!bit r.desc.flags 2 || c.runs.head?.map (fun h => h.k) == some r.k)
  | none => false

/-- The channel whose turn it is, in weighted round robin (R498). DESIGN CHOICE, log entry 33. -/
def nextIssuer (p : Part) (s : State) : Option Nat :=
  let cur := (dwOf p s).current
  let c := chanAt p cur s
  if mayIssue p cur s ∧ c.turn < c.entry.weight then some cur
  else (List.range (chanCount p)).findSome? (fun i =>
    let k := (cur + 1 + i) % chanCount p
    if mayIssue p k s then some k else none)

/-- Length of the next burst (R494). DEDUCED, log entry 68. -/
def burstLen (r : DwRun) : Nat :=
  min r.left (if r.desc.dstSpace = 2 then 1536 else 256 - (r.desc.dst + r.next) % 256)

/-- The bytes of a PATTERN source. -/
def patternBytes (d : DwDesc) (off n : Nat) : List Byte := (List.range n).map (fun i => d.pattern.getD ((off + i) % 8) 0)

/-- Change a burst, found by its descriptor and offset. -/
def updBurst (p : Part) (ch : Nat) (k : BitVec 32) (off : Nat) (f : DwBurst → DwBurst) (s : State) : State :=
  updChan p ch (fun c => { c with bursts := c.bursts.map (fun b => if b.k = k ∧ b.offset = off then f b else b) }) s

/-- The write half of a burst begins with its data (R496, R512, R514). -/
def startWrite (p : Part) (ch : Nat) (d : DwDesc) (k : BitVec 32) (off : Nat) (data : List Byte) (s : State) : State :=
  if d.dstSpace = 2 ∧ p = .head then
    let tiles := descTiles d s
    let lit := (enabledTiles s.head.pl.base).map Prod.fst
    let wait := if d.position = 0xFF then (tiles.filter (fun e => lit.contains (tIndex e.chain e.position))).map (fun e => e.position) else []
    let g := draw s
    sendBulk tiles (bulkPacket d.chain d.position (Config.burstTag g.1).toNat ch 0 (d.dst + off) data.length data g.2)
      (updBurst p ch k off (fun b => { b with data := some data, at_ := s.now, waiting := wait }) g.2)
  else updBurst p ch k off (fun b => { b with data := some data, at_ := s.now }) s

/-- Issue the next burst of a channel: its read, or its write for a PATTERN. -/
def issueBurst (p : Part) (ch : Nat) (r : DwRun) (s : State) : State :=
  let d := r.desc
  let n := burstLen r
  let burst : DwBurst := { k := r.k, offset := r.next, len := n, at_ := s.now }
  let s1 := updChan p ch (fun c =>
    { c with
      runs := c.runs.map (fun x => if x.k = r.k then { x with left := x.left - n, next := x.next + n } else x)
      bursts := c.bursts ++ [burst] }) s
  match d.srcSpace with
  | 3 => startWrite p ch d r.k r.next (patternBytes d r.next n) s1
  | 0 => emit .head (.hostRead (d.src + r.next) n) s1
  | 2 =>
    let g := draw s1
    sendBulk (descTiles d s) (bulkPacket d.chain d.position (Config.burstTag g.1).toNat ch 1 (d.src + r.next) n [] g.2) g.2
  | _ => s1

/-- Take the turn (R498). -/
def takeTurn (p : Part) (ch : Nat) (s : State) : State :=
  let same := (dwOf p s).current = ch ∧ (chanAt p ch s).turn < (chanAt p ch s).entry.weight
  updDw p (fun d => { d with current := ch }) (updChan p ch (fun c => { c with turn := if same then c.turn + 1 else 1 }) s)

/-- A ring fetch or a reply write of Porch is ready, which goes ahead of Dumbwaiter's requests to the host (R498). -/
def porchReady (s : State) : Bool :=
  (List.range 16).any (fun q =>
    let k := queueAt q s
    k.en && !k.halted && ((!k.unfetched.isEmpty && !atLimit (.queue q) s) || (!k.replies.isEmpty && !rqFull k)))

/-- The next burst of a descriptor begins with a request to the host. -/
def asksHost (p : Part) (r : DwRun) : Bool := p == .head && (r.desc.srcSpace == 0 || (r.desc.srcSpace == 3 && r.desc.dstSpace == 0))

/-- BURST_ISSUE. -/
def execBurstIssue (p : Part) (ch : Nat) (s : State) : Host.Outcome State Fault Refusal :=
  onPart p (fun s =>
    match issuing (chanAt p ch s) with
    | some r =>
      if ch < chanCount p ∧ nextIssuer p s = some ch ∧ ¬ (asksHost p r ∧ porchReady s) then issueBurst p ch r (takeTurn p ch s)
      else s
    | none => s) s

/-! ## The Tile's local addresses -/

/-- A range of whole, aligned registers of the Tile (R123, R513). -/
def isRegRange (a n : Nat) : Bool := decide (a + n ≤ 0xA00000 ∧ a % 4 = 0 ∧ n % 4 = 0)

/-- Read local addresses: memory, or whole registers. DEDUCED, log entry 69. -/
def localLoad (a n : Nat) (s : State) : List Byte × State :=
  if isRegRange a n then readRegs .tile a (n / 4) s else (localRead a n s, s)

/-- Write them. DEDUCED, log entry 69. -/
def localStore (a : Nat) (b : List Byte) (s : State) : State :=
  if isRegRange a b.length then
    writeRegs .tile a ((List.range (b.length / 4)).map (fun i => BitVec.ofNat 32 (fld b (4 * i) 4))) s
  else localWrite a b s

/-! ## Responses (R496, R508, R509, R514) -/

/-- Error codes that a half of a burst can answer with, by its space. -/
def mayFail (p : Part) (reading : Bool) (space err : Nat) : Bool :=
  match p, reading, space with
  | .head, true, 0 => err == 1 || err == 2 || err == 4
  | .head, true, 2 => err == 6 || err == 8
  | .head, false, 2 => err == 6
  | .tile, true, 1 => err == 8
  | _, _, _ => false

/-- A burst ends with an error: the first one of its descriptor stands (R508, R511). -/
def burstError (p : Part) (ch : Nat) (b : DwBurst) (code : Nat) (s : State) : State :=
  settle p ch (updChan p ch (fun c =>
    { c with
      bursts := c.bursts.filter (fun x => ¬ (x.k = b.k ∧ x.offset = b.offset))
      runs := c.runs.map (fun r =>
        if r.k = b.k ∧ r.err.isNone ∧ r.abortAt.isNone then { r with err := some (code, r.left, b.offset) } else r) }) s)

/-- A burst ends without one. -/
def burstEnd (p : Part) (ch : Nat) (b : DwBurst) (s : State) : State :=
  settle p ch (updChan p ch (fun c => { c with bursts := c.bursts.filter (fun x => ¬ (x.k = b.k ∧ x.offset = b.offset)) }) s)

/-- The data of a read that has returned, or the code of its error. -/
def burstData (p : Part) (d : DwDesc) (b : DwBurst) (r : BurstResp) (s : State) : Except Nat (List Byte) × State :=
  match p, d.srcSpace with
  | .head, 1 =>
    let x := clRead 4 (d.src + b.offset) b.len s
    (if x.2.1.isEmpty then .ok x.1 else .error 5, x.2.2)
  | .tile, _ =>
    let x := localLoad (d.src + b.offset) b.len s
    (.ok x.1, x.2)
  | _, _ => (.ok (padTo b.len r.data), s)

/-- A write's data reach their place. -/
def landData (p : Part) (d : DwDesc) (off : Nat) (data : List Byte) (s : State) : State :=
  match p, d.dstSpace with
  | .head, 0 => emit .head (.hostWrite (d.dst + off) data) s
  | .head, 1 => cellarPut (d.dst + off) data s
  | .tile, _ => localStore (d.dst + off) data s
  | _, _ => s

/-- The read of a burst has returned, or its write has its response. -/
def burstResponse (p : Part) (ch : Nat) (b : DwBurst) (d : DwDesc) (r : BurstResp) (s : State) : State :=
  match b.data with
  | none =>
    if mayFail p true d.srcSpace r.err then burstError p ch b r.err s
    else match burstData p d b r s with
      | (.error e, s1) => burstError p ch b e s1
      | (.ok data, s1) => startWrite p ch d b.k b.offset data s1
  | some data =>
    if b.waiting.isEmpty then
      if mayFail p false d.dstSpace r.err then burstError p ch b r.err s
      else burstEnd p ch b (landData p d b.offset data s)
    else
      let left := b.waiting.filter (fun x => x ≠ r.position)
      let refused := b.refused || (b.waiting.contains r.position && r.err == 6)
      if ¬ left.isEmpty then updBurst p ch b.k b.offset (fun x => { x with waiting := left, refused := refused }) s
      else if refused then burstError p ch b 6 s
      else burstEnd p ch b s

/-- A burst without a response, with its descriptor. DEDUCED, log entry 68. -/
def findBurst (p : Part) (ch off : Nat) (f : DwBurst → DwDesc → Bool) (s : State) : Option (DwBurst × DwDesc) :=
  let c := chanAt p ch s
  c.bursts.findSome? (fun b =>
    match c.runs.find? (fun r => r.k == b.k) with
    | some r => if b.offset = off ∧ f b r.desc then some (b, r.desc) else none
    | none => none)

/-- What the read half of a burst reads of Cellar. -/
def burstSpans (p : Part) (d : DwDesc) (b : DwBurst) : List (Nat × Nat) :=
  if p = .head ∧ b.data.isNone ∧ d.srcSpace = 1 then [(d.src + b.offset, b.len)] else []

/-- BURST_RESPONSE. -/
def execBurstResponse (p : Part) (ch : Nat) (r : BurstResp) (s : State) : Host.Outcome State Fault Refusal :=
  onPart p (fun s =>
    match findBurst p ch r.offset (fun _ _ => true) s with
    | some x => whenServed 4 (burstSpans p x.2 x.1) (burstResponse p ch x.1 x.2 r) s
    | none => s) s

/-- HOST_READ_TIMEOUT (R498): 50 ms without a completion. -/
def execHostReadTimeout (ch offset : Nat) (s : State) : Host.Outcome State Fault Refusal :=
  onPart .head (fun s =>
    match findBurst .head ch offset (fun b d => d.srcSpace == 0 && b.data.isNone && decide (b.at_ + 50000000 ≤ s.now)) s with
    | some x => burstError .head ch x.1 3 s
    | none => s) s

/-- Every port toward the Tiles of a burst is down, so that the link has lost it (R357, R498). -/
def linkLost (d : DwDesc) (s : State) : Bool :=
  (descTiles d s).all (fun e =>
    let g := (portAt .head (if e.here then e.port else 32) s).state
    !(g == .active || g == .retrain))

/-- TILE_BURST_TIMEOUT (R498, R514): 1 ms without a response, or the link lost. -/
def execTileBurstTimeout (ch offset : Nat) (s : State) : Host.Outcome State Fault Refusal :=
  onPart .head (fun s =>
    match findBurst .head ch offset (fun b d =>
        (if b.data.isNone then d.srcSpace == 2 else d.dstSpace == 2) && (decide (b.at_ + 1000000 ≤ s.now) || linkLost d s)) s with
    | some x => burstError .head ch x.1 (if x.1.refused then 6 else 7) s
    | none => s) s

/-! ## A Tile's remote port (R513, R588) -/

/-- A byte of the load window that the Head named by `headB` may write: the Tile is unloaded and that Head holds the lock. -/
def mayLoad (headB : Bool) (s : State) : Bool :=
  !s.tile.sys.loaded && (s.tile.at_.lock.map Prod.fst == some headB)

/-- The range holds a byte of the load window. -/
def touchesWindow (a n : Nat) : Bool := decide (a < windowEnd ∧ windowStart < a + n)

/-- Answer a BULK packet. DEDUCED, log entry 68. -/
def bulkAnswer (k : GPkt) (op status : Nat) (data : List Byte) (s : State) : State :=
  let w0 := fld k.payload 0 7
  let w1 := fld k.payload 7 7
  let own := 16 * op + 2 ^ 24 * bits w0 31 24 + 2 ^ 44 * bits w0 55 44
  tileSend 9 4 (2 + ceilDiv data.length 7) k.headB
    (leBytes 7 (tileWord0 9 own k.headB s) ++ leBytes 7 (bits w1 31 0 + 2 ^ 32 * bits w1 42 32 + 2 ^ 43 * status) ++ data) s

/-- Serve a WRITE: memory of the load window under the lock, or whole registers. -/
def bulkWrite (k : GPkt) (addr : Nat) (data : List Byte) (s : State) : State :=
  if isRegRange addr data.length then bulkAnswer k 3 0 [] (localStore addr data s)
  else if touchesWindow addr data.length ∧ mayLoad k.headB s then
    bulkAnswer k 3 0 [] (localWrite addr data { s with tile.at_.lock := some (k.headB, s.now) })
  else bulkAnswer k 3 1 [] s

/-- Serve a READ_REQ. DEDUCED, log entry 68. -/
def bulkRead (k : GPkt) (addr n : Nat) (parity : Bool) (s : State) : State :=
  if isRegRange addr n ∨ touchesWindow addr n then
    if parity then bulkAnswer k 2 2 (zeros n) s
    else
      let r := localLoad addr n s
      bulkAnswer k 2 0 r.1 r.2
  else bulkAnswer k 2 1 (zeros n) s

/-- A BULK packet at a Tile: accepted by the link, forwarded when it is not only for this Tile, and served (R335, R512, R513). -/
def bulkReceived (b : BulkPkt) (s : State) : State :=
  let k := b.pkt
  let a := linkAccept .tile b.port k s
  if ¬ a.1 then a.2
  else
    let s1 := freeRx .tile b.port k.cls k.len a.2
    if packetBad k then updPort .tile b.port (fun g => { g with discards := g.discards + 1 }) s1
    else
      let mine := k.pair == s.tile.sys.pair && k.chain == s.tile.sys.chain && (k.bcast || k.position == s.tile.sys.position)
      let s2 := if mine ∧ ¬ k.bcast then s1 else hand .tile (1 - b.port) k s1
      let w0 := fld k.payload 0 7
      let w1 := fld k.payload 7 7
      let n := bits w1 42 32
      if ¬ mine ∨ k.typ ≠ 9 then s2
      else match bits w0 6 4 with
        | 0 =>
          if 1 ≤ n ∧ n ≤ 1536 then bulkWrite k (bits w1 31 0) (padTo n (k.payload.drop 14)) s2 else bulkAnswer k 3 1 [] s2
        | 1 =>
          if 1 ≤ n ∧ n ≤ 1536 then bulkRead k (bits w1 31 0) n b.parity s2 else bulkAnswer k 2 1 [] s2
        | _ => s2

/-- BULK_PACKET_RECEIVED. -/
def execBulkPacketReceived (b : BulkPkt) (s : State) : Host.Outcome State Fault Refusal := onPart .tile (bulkReceived b) s

end Sys2Proof.Machine
end

