-- ==== Sys2Proof/Machine/Attic.lean ====
section
/-!
DEFINITION. Attic of both parts (R564 to R602) but for the loading of Tiles: identity and challenge, staging, activation,
confirmation and fallback, the event log's pages, and the ends of non-volatile operations.
-/
namespace Sys2Proof.Machine

/-! ## Identity (R578 to R582) -/

/-- The identity of a part. -/
def identOf (p : Part) (s : State) : Identity := match p with | .head => s.head.at_.ident | .tile => s.tile.at_.ident

/-- A certificate by WHICH; one that the part does not hold has no bytes. -/
def certOf (i : Identity) (which : Nat) : List Byte :=
  match which with
  | 0 => i.device
  | 1 => i.operational.getD []
  | n => i.chain.getD (n - 2) []

/-- AT_GET_INFO. A Tile's boot, slot, window and epoch fields read 0. -/
def specAtGetInfo : OpSpec where
  opcode := 0x1001
  onTile := true
  run := fun c s =>
    let slots := match c.part with
      | .head =>
        leBytes 4 (atBoot s) ++ leBytes 4 (slotInfo 0 s).fwVersion.toNat ++ leBytes 4 (slotInfo 1 s).fwVersion.toNat ++
          leBytes 4 (windowLeft s)
      | .tile => zeros 16
    let epoch := match c.part with | .head => s.head.at_.epochFused | .tile => 0
    ok c 0x1001 (leBytes 4 (atStatus c.part s) ++ slots ++ leBytes 4 (storeFreeKib c.part s) ++ leBytes 1 epoch ++ zeros 3) s

def execAtGetInfo (c : Cmd) (s : State) : Host.Outcome State Fault Refusal := runCmd specAtGetInfo c s

/-- AT_GET_CERT. -/
def specAtGetCert : OpSpec where
  opcode := 0x1002
  onTile := true
  fits := fun n => n == 4
  params := fun c _ => inRange (fld c.params 0 1) 0 3 0
  run := fun c s =>
    ok c 0x1002 (((certOf (identOf c.part s) (fld c.params 0 1)).drop (2048 * fld c.params 2 2)).take 2048) s

def execAtGetCert (c : Cmd) (s : State) : Host.Outcome State Fault Refusal := runCmd specAtGetCert c s

/-- AT_GET_CSR (R579). -/
def specAtGetCsr : OpSpec where
  opcode := 0x1003
  run := fun c s => ok c 0x1003 Config.certRequest s

def execAtGetCsr (c : Cmd) (s : State) : Host.Outcome State Fault Refusal := runCmd specAtGetCsr c s

/-- AT_SET_CERT (R579): a key other than the device key is refused with the reason for chain or signature. DEDUCED, log entry 75. -/
def specAtSetCert : OpSpec where
  opcode := 0x1004
  fits := fun n => decide (4 ≤ n)
  params := fun c _ => need (decide (c.params.length = 4 + fld c.params 0 2)) badParamAny
  state := fun c _ => if Config.keyMatches (c.params.drop 4) then none else errReason stFailed 0x0003
  run := fun c s => nvPush .head [{ kind := .cert (c.params.drop 4), cmd := some (c, 0x1004, []) }] s

def execAtSetCert (c : Cmd) (s : State) : Host.Outcome State Fault Refusal := runCmd specAtSetCert c s

/-- AT_SET_TRUST (R580). -/
def specAtSetTrust : OpSpec where
  opcode := 0x1005
  fits := fun n => decide (4 ≤ n ∧ n ≤ 2052)
  params := fun c _ =>
    firstErr [inRange (fld c.params 0 1) 0 15 0, inRange (fld c.params 1 1) 0 1 1,
      need (decide ((fld c.params 1 1 = 0) ↔ (c.params.length = 4))) badParamAny]
  run := fun c s =>
    let der := if fld c.params 1 1 = 0 then none else some (c.params.drop 4)
    nvPush .head [{ kind := .trust (fld c.params 0 1) der, cmd := some (c, 0x1005, []) }] s

def execAtSetTrust (c : Cmd) (s : State) : Host.Outcome State Fault Refusal := runCmd specAtSetTrust c s

/-- What a part says of itself in a challenge: bytes 147 to 75 of R581. A Head is loaded unless it runs its ROM, and has no
LOAD_DIGEST. DEDUCED, log entry 75. -/
def challengeFields (p : Part) (s : State) : List Byte :=
  match p with
  | .head =>
    leBytes 1 (b2n (!s.head.at_.recovery)) ++ padTo 16 s.head.sys.serial ++ leBytes 4 s.head.sys.romVersion.toNat ++
      leBytes 4 s.head.sys.fwVersion.toNat ++ zeros 48
  | .tile =>
    if s.tile.sys.loaded then
      leBytes 1 1 ++ padTo 16 s.tile.sys.serial ++ leBytes 4 s.tile.sys.romVersion.toNat ++ leBytes 4 s.tile.sys.fwVersion.toNat ++
        padTo 48 s.tile.at_.loadDigest
    else leBytes 1 0 ++ padTo 16 s.tile.sys.serial ++ leBytes 4 s.tile.sys.romVersion.toNat ++ zeros 52

/-- The string of R581 of which a part signs the SHA-384, from bytes 74 to 8 and the part's own. -/
def challengeText (given own : List Byte) : List Byte := [0x44, 0x58, 0x54, 0x43, 0x48, 0x41, 0x4C, 0x31] ++ given ++ own

/-- AT_CHALLENGE (R581). -/
def specAtChallenge : OpSpec where
  opcode := 0x1006
  onTile := true
  fits := fun n => n == 68
  run := fun c s =>
    let own := challengeFields c.part s
    let text := challengeText (c.params.take 67) own
    ok c 0x1006 ((c.params.drop 64).take 3 ++ own ++ padTo 96 (Config.signature c.part (sha384 text))) s

def execAtChallenge (c : Cmd) (s : State) : Host.Outcome State Fault Refusal := runCmd specAtChallenge c s

/-- The INDEX of an address in the enrolment list. DEDUCED, log entry 54. -/
def enrolIndex (chain pos : Nat) : Nat := 16 * chain + (pos - 1)

/-- Enrol a serial at an address, or remove what is enrolled there. DEDUCED, log entry 54. -/
def setEnrolled (chain pos : Nat) (serial : Option (List Byte)) (cmd : Option (Cmd × Nat × List Byte)) (s : State) : State :=
  let l := delKey s.head.at_.enrolled (chain, pos)
  let l' := match serial with | some x => l ++ [((chain, pos), x)] | none => l
  writeSettings .head [(keyEnrol, enrolIndex chain pos, serial.getD [])] cmd { s with head.at_.enrolled := l' }

/-- AT_ENROL (R582). -/
def specAtEnrol : OpSpec where
  opcode := 0x1007
  fits := fun n => n == 4
  params := fun c _ =>
    let p := c.params
    if fld p 2 1 = 2 then inRange (fld p 3 1) 0 1 3
    else firstErr [inRange (fld p 0 1) 0 31 0, inRange (fld p 1 1) 1 16 1, inRange (fld p 2 1) 0 2 2]
  state := fun c s =>
    if fld c.params 2 1 = 1 then
      (match tileEnt (fld c.params 0 1) (fld c.params 1 1) s with
       | some e => need (present e) (errSt stNoTarget)
       | none => errSt stNoTarget)
    else none
  run := fun c s =>
    let ch := fld c.params 0 1
    let po := fld c.params 1 1
    match fld c.params 2 1 with
    | 0 => setEnrolled ch po none (some (c, 0x1007, [])) s
    | 1 => setEnrolled ch po ((tileEnt ch po s).map (fun e => e.serial)) (some (c, 0x1007, [])) s
    | _ => ok c 0x1007 [] { s with head.at_.enrolPolicy := decide (fld c.params 3 1 = 1) }

def execAtEnrol (c : Cmd) (s : State) : Host.Outcome State Fault Refusal := runCmd specAtEnrol c s

/-! ## Management sessions (R113, R115, R580) -/

/-- What R113 supports: TLS 1.3 with its suites, group and scheme, and no resumption. -/
def tlsAgrees (h : TlsHello) : Bool :=
  h.versions.contains 0x0304 && (h.suites.contains 0x1302 || h.suites.contains 0x1301) && h.groups.contains 0x0018 &&
    h.schemes.contains 0x0503 && !h.resumeOnly

/-- MGMT_SESSION_OPEN: a ninth connection is reset; the Head presents its operational or device certificate; a client whose
certificate chains to a trust anchor opens a session. DESIGN CHOICE, log entry 78. -/
def execMgmtSessionOpen (hello : TlsHello) (s : State) : Host.Outcome State Fault Refusal :=
  onPart .head (fun s =>
    if firmwareGone s ∨ hello.port ≠ 4720 then s
    else match (List.range 8).find? (fun n => !(sessionAt n s).isOpen) with
      | none => emit .head .tcpReset s
      | some n =>
        let anchors := s.head.at_.anchors.filterMap id
        let s1 := emit .head (.tlsCert (s.head.at_.ident.operational.getD s.head.at_.ident.device)) s
        if ¬ tlsAgrees hello then s
        else if anchors.isEmpty ∨ ¬ Config.chains anchors hello.cert then s1
        else
          let f := Config.fingerprint hello.cert
          post .head 0x01 1 0x0004 (BitVec.ofNat 32 n) f
            { s1 with
              head.po.sessions := upd s1.head.po.sessions n (fun _ =>
                { isOpen := true, last := wall s.head.mt, fingerprint := f }) }) s

/-! ## Staging (R592 to R594) -/

/-- The boot record as the operations that wait will leave it. -/
def bootNext (s : State) : BootRec :=
  s.head.at_.nv.ops.foldl (fun b o => match o.kind with | .boot r => r | _ => b) s.head.at_.boot

/-- The slot that does not run. -/
def idleSlot (s : State) : Nat := otherSlot s.head.at_.running

/-- Write a slot's state into the boot record. -/
def bootWrite (k st : Nat) (cmd : Option (Cmd × Nat × List Byte)) (s : State) : State :=
  nvPush .head [{ kind := .boot (withSlot k st (bootNext s)), cmd := cmd }] s

/-- AT_STAGE_BEGIN. -/
def specAtStageBegin : OpSpec where
  opcode := 0x1008
  fits := fun n => n == 8
  params := fun c _ => inRange (fld c.params 0 4) 1 268435456 0
  state := fun _ s =>
    if s.head.at_.staging.isSome ∨ slotState s.head.at_.running s = 3 then errSt stBusy else none
  run := fun c s =>
    let k := idleSlot s
    let cmd := some (c, 0x1008, ([] : List Byte))
    nvPush .head [{ kind := .boot (withSlot k 1 (bootNext s)), cmd := cmd }, { kind := .eraseSlot k, cmd := cmd }]
      { s with head.at_.staging := some { src := c.src, slot := k, total := fld c.params 0 4 } }

def execAtStageBegin (c : Cmd) (s : State) : Host.Outcome State Fault Refusal := runCmd specAtStageBegin c s

/-- The checks of AT_STAGE_DATA against the session. DEDUCED, log entry 74. -/
def stageErr (c : Cmd) (s : State) : Option Err :=
  let off := fld c.params 0 4
  let n := fld c.params 4 4
  match s.head.at_.staging with
  | none => errSt stBusy
  | some g =>
    if g.src ≠ c.src then errSt stBusy
    else if g.total < off + n ∨ g.written.any (fun w => decide (w.1 < off + n ∧ off < w.1 + w.2)) then badParam 0
    else none

/-- AT_STAGE_DATA (R594): a word that Cellar cannot correct fails the write. -/
def specAtStageData : OpSpec where
  opcode := 0x1009
  fits := fun n => decide (20 ≤ n)
  params := fun c _ =>
    let p := c.params
    let n := fld p 4 4
    let direct := fld p 8 1 = 0
    firstErr [inRange (fld p 8 1) 0 1 8, inRange n 1 (if direct then 4060 else 16777216) 4,
      need (decide (p.length = 20 + (if direct then n else 0))) badParamAny,
      (if direct then none else need (decide (fld p 12 8 + n ≤ cellarEnd)) (badParam 12))]
  state := stageErr
  run := fun c s =>
    let p := c.params
    let off := fld p 0 4
    let n := fld p 4 4
    let r := if fld p 8 1 = 0 then (p.drop 20, [], s) else clRead 4 (fld p 12 8) n s
    if ¬ r.2.1.isEmpty then failed c 0x1009 0x0007 0 r.2.2
    else match s.head.at_.staging with
      | none => s
      | some g =>
        nvPush .head [{ kind := .image g.slot off r.1, cmd := some (c, 0x1009, []) }]
          { r.2.2 with head.at_.staging := some { g with written := g.written ++ [(off, n)] } }

def execAtStageData (c : Cmd) (s : State) : Host.Outcome State Fault Refusal := runCmd specAtStageData c s

/-- Every byte of the session's bundle was written. -/
def stagedWhole (g : Staging) : Bool := (g.written.map (fun w => w.2)).foldl (· + ·) 0 == g.total

/-- AT_STAGE_VERIFY (R594): a slot with no session open is incomplete. -/
def specAtStageVerify : OpSpec where
  opcode := 0x100A
  run := fun c s =>
    match s.head.at_.staging with
    | none => failed c 0x100A 0x0006 0 s
    | some g =>
      let s1 := { s with head.at_.staging := none }
      let b := slotBytes g.slot s
      match (if stagedWhole g then bundleReason b s else some 6) with
      | some r => failed c 0x100A r 0 (bootWrite g.slot 5 none s1)
      | none =>
        let i := infoOf b
        bootWrite g.slot 2 (some (c, 0x100A, leBytes 4 i.fwVersion.toNat))
          { s1 with head.at_.info := upd s1.head.at_.info g.slot (fun _ => i) }

def execAtStageVerify (c : Cmd) (s : State) : Host.Outcome State Fault Refusal := runCmd specAtStageVerify c s

/-- AT_STAGE_ABORT: with no session open nothing happens. -/
def specAtStageAbort : OpSpec where
  opcode := 0x100B
  run := fun c s =>
    match s.head.at_.staging with
    | none => ok c 0x100B [] s
    | some g => bootWrite g.slot 0 (some (c, 0x100B, [])) { s with head.at_.staging := none }

def execAtStageAbort (c : Cmd) (s : State) : Host.Outcome State Fault Refusal := runCmd specAtStageAbort c s

/-! ## Activation (R595, R597, R598) -/

/-- The frame of an activation: the one it targets, or the first whose cutoff lies at least 2 ticks ahead; none without ticks
(R649). DEDUCED, log entry 74. -/
def activationFrame (c : Cmd) (s : State) : Option (Nat × Bool) :=
  if s.head.mt.tick.isNone then none
  else match namedOf c, chooseFrame s.head.mt (namedOf c) c.arrival with
    | some _, .onFrame n late => some (n, late)
    | _, _ => some (cutAhead 2 c.arrival s, false)

/-- Schedule the restart into the idle slot; the reply names N. DEDUCED, log entry 74. -/
def schedule (c : Cmd) (op : Nat) (s : State) : State :=
  let act := fun (n : Nat) (s : State) => { s with head.at_.act := some { n := n, slot := idleSlot s } }
  match activationFrame c s with
  | some (n, late) => act n (okFrame c op [] n late s)
  | none => act 0 (ok c op [] s)

/-- The publisher of a pair is not restarted (R595). -/
def activateRole (s : State) : Option Err := if s.head.tw.role = .publisher then errSt stNotInRole else none

/-- AT_ACTIVATE. -/
def specAtActivate : OpSpec where
  opcode := 0x100C
  frameable := true
  role := fun _ s => activateRole s
  state := fun _ s =>
    if s.head.at_.act.isSome then errSt stBusy
    else if slotState (idleSlot s) s ≠ 2 then errReason stFailed 0x0009
    else none
  run := fun c s => schedule c 0x100C s

def execAtActivate (c : Cmd) (s : State) : Host.Outcome State Fault Refusal := runCmd specAtActivate c s

/-- AT_ROLLBACK. -/
def specAtRollback : OpSpec where
  opcode := 0x100E
  frameable := true
  role := fun _ s => activateRole s
  state := fun _ s =>
    let st := slotState (idleSlot s) s
    if s.head.at_.act.isSome then errSt stBusy
    else if st ≠ 4 ∧ st ≠ 2 then errReason stFailed 0x0009
    else if (slotInfo (idleSlot s) s).epoch < s.head.at_.epochFused then errReason stFailed 0x0005
    else none
  run := fun c s => schedule c 0x100E s

def execAtRollback (c : Cmd) (s : State) : Host.Outcome State Fault Refusal := runCmd specAtRollback c s

/-- AT_CONFIRM (R596). -/
def specAtConfirm : OpSpec where
  opcode := 0x100D
  state := fun _ s => if s.head.at_.unreadable then errReason stFailed 0x0008 else none
  run := fun c s =>
    ok c 0x100D [] (if slotState s.head.at_.running s = 3 then { s with head.at_.confirmed := true } else s)

def execAtConfirm (c : Cmd) (s : State) : Host.Outcome State Fault Refusal := runCmd specAtConfirm c s

/-- The boot record of a restart at C_N: the new slot TRIAL and the old one GOOD, or after a fallback the trial slot BAD. -/
def activationBoot (a : Activation) (s : State) : BootRec :=
  if a.fallback then { withSlot s.head.at_.running 5 (bootNext s) with named := a.slot }
  else { withSlot a.slot 3 (withSlot s.head.at_.running 4 (bootNext s)) with named := a.slot }

/-- At C_N (R595): trims are saved, the boot record is written, and no further frame closes. DEDUCED, log entry 74. -/
def atCutoff (a : Activation) (s : State) : State :=
  let s1 := saveTrims .head s
  nvPush .head [{ kind := .boot (activationBoot a s1) }] { s1 with head.at_.act := some { a with phase := 1 } }

/-- At T_N: what is being written ends, the control cores are reset, and Mantel goes into HOLDOVER. DEDUCED, log entry 74. -/
def atRestart (a : Activation) (s : State) : State :=
  let s1 := nvDrain .head (2 * s.head.at_.nv.ops.length) s
  enterHoldover .head (emit .head (.restart 0)
    { dropFirmware s1 with head.at_.act := some { a with phase := 2, at_ := s.now } })

/-- ACTIVATE_RESTART (R595, R597): at C_N, then at T_N; without ticks both are due at once. -/
def execActivateRestart (n : Nat) (s : State) : Host.Outcome State Fault Refusal :=
  onPart .head (fun s =>
    match s.head.at_.act with
    | none => s
    | some a =>
      let due := fun (t : Option Int) => match t with | some t => decide (t ≤ (wall s.head.mt : Int)) | none => true
      if a.n ≠ n ∨ 2 ≤ a.phase then s
      else if a.phase = 0 then (if due (cutoffOf s.head.mt n) then atCutoff a s else s)
      else if due (tickOf s.head.mt n) then atRestart a s
      else s) s

/-- The queued packets of every queue are fetched again (R595). -/
def fetchWaiting (s : State) : State :=
  (List.range 16).foldl (fun a q =>
    let k := queueAt q a
    if k.en ∧ ¬ k.halted ∧ ¬ k.unfetched.isEmpty then writeConsumer q (fetchAll q k.unfetched a) else a) s

/-- ACTIVATE_RESUME (R595 to R597): the image of the slot that the boot record names is verified and runs. -/
def execActivateResume (s : State) : Host.Outcome State Fault Refusal :=
  onPart .head (fun s =>
    match s.head.at_.act with
    | some a =>
      if a.phase < 2 then s
      else
        let s1 := startFirmware (countStart .head 0x09 { s with head.at_.act := none })
        let s2 := if a.fallback then { s1 with head.at_.fellBack := true } else s1
        fetchWaiting (resumeFrames s2)
    | none => s) s

/-- HEALTH_WINDOW_EXPIRY (R597): the Head falls back, with the pause of R595. DEDUCED, log entry 74. -/
def execHealthWindowExpiry (s : State) : Host.Outcome State Fault Refusal :=
  onPart .head (fun s =>
    let a := s.head.at_
    if slotState a.running s ≠ 3 ∨ a.act.isSome ∨ s.now < a.trialSince + 1000000000 * a.healthWindow then s
    else
      let n := if s.head.mt.tick.isNone then 0 else cutAhead 2 (wall s.head.mt) s
      post .head 0x10 3 0x0006 (slotInfo a.running s).fwVersion 0
        { s with head.at_.act := some { n := n, slot := idleSlot s, fallback := true } }) s

/-- The conditions of HEALTH_CONFIRM (R596). -/
def healthGood (s : State) : Bool :=
  let a := s.head.at_
  !a.unreadable && s.head.cl.usable.getLsbD s.head.cl.point && s.head.cl.op.isNone && (!a.confirmMode || a.confirmed) &&
    a.toRun.all (fun t => match tileEnt t.1 t.2 s with | some e => !present e || e.loaded | none => true)

/-- HEALTH_CONFIRM (R596): the boot record is written. -/
def execHealthConfirm (s : State) : Host.Outcome State Fault Refusal :=
  onPart .head (fun s =>
    if slotState s.head.at_.running s = 3 ∧ ¬ s.head.at_.confirming ∧ s.head.at_.act.isNone ∧ healthGood s then
      bootWrite s.head.at_.running 4 none { s with head.at_.confirming := true }
    else s) s

/-! ## Non-volatile operations that end -/

/-- The boot record with HEALTH_CONFIRM has been written: AT_CONFIRMED, and the fused epoch rises (R586, R596). -/
def confirmDone (s : State) : State :=
  let i := slotInfo s.head.at_.running s
  post .head 0x10 1 0x0005 i.fwVersion 0
    { s with head.at_.confirming := false, head.at_.epochFused := max s.head.at_.epochFused i.epoch }

/-- A program of the Head ends. -/
def headProgramDone (good : Bool) (s : State) : State :=
  let k := s.head.at_.running
  match nvFront .head s with
  | some { kind := .boot b, .. } =>
    let s1 := nvProgramDone .head good s
    if s.head.at_.confirming ∧ slotState k s = 3 ∧ b.states.getD k 0 = 4 then
      if good then confirmDone s1 else { s1 with head.at_.confirming := false }
    else s1
  | _ => nvProgramDone .head good s

/-- NV_PROGRAM_DONE (R550, R564, R569). -/
def execNvProgramDone (p : Part) (ok : Bool) (s : State) : Host.Outcome State Fault Refusal :=
  onPart p (fun s => match p with | .head => headProgramDone ok s | .tile => nvProgramDone .tile ok s) s

/-- NV_ERASE_DONE (R564, R570). -/
def execNvEraseDone (p : Part) (s : State) : Host.Outcome State Fault Refusal := onPart p (nvEraseDone p) s

/-! ## The event log's pages (R133, R599) -/

/-- A record's deadline has come (R133). DEDUCED, log entry 55. -/
def logDue (s : State) : Bool :=
  s.head.po.logPending.any (fun e => decide (e.time + (if 3 ≤ e.severity then 10000000 else 100000000) ≤ wall s.head.mt))

/-- LOG_PAGE_WRITE: a page is written when it is full or when a record's deadline falls due. DEDUCED, log entry 55. -/
def execLogPageWrite (s : State) : Host.Outcome State Fault Refusal :=
  onPart .head (fun s =>
    let l := s.head.po.logPending
    if 127 ≤ l.length ∨ logDue s then
      nvPush .head [{ kind := .log (l.take 127) }] { s with head.po.logPending := l.drop 127 }
    else s) s

end Sys2Proof.Machine
end

