-- ==== Sys2Proof/Machine/Frames.lean ====
section
/-!
DEFINITION. The instants of the tick timeline (R29, R66): SPEC, CUTOFF, PUSH_OPEN, PUSH_CLOSE and TICK, with the SWITCH and STOP
of R28 and R75. An instant whose wall time has not come, or that is not the next of its generator, leaves the state as it is.
-/
namespace Sys2Proof.Machine

/-! ## Instants -/

/-- T_{n−k}, extrapolated before frame 0. -/
def tickBack (m : Mantel) (n k : Nat) : Option Int :=
  (parFor m (n - k)).map (fun t => t.origin + (((n : Int) - k - t.nO) * t.pNum) / (t.pDen : Int))

/-- T_n, and for the S of a pending STOP the instant at which it takes effect, under the parameters before it (R75). -/
def edgeOf (m : Mantel) (n : Nat) : Option Int :=
  match parFor m n with
  | some t => some (tickAt t n)
  | none =>
    if m.pendTicks.any (fun c => c.s == n && c.par.isNone) then
      (parFor { m with pendTicks := m.pendTicks.filter (fun c => c.s < n) } n).map (fun t => tickAt t n)
    else none

/-- An instant has come. -/
def reached (t : Option Int) (m : Mantel) : Bool := match t with | some t => decide (t ≤ (wall m : Int)) | none => false

/-- A restart of R595 is past its C_N: no further frame closes. -/
def pausing (s : State) : Bool := match s.head.at_.act with | some a => decide (1 ≤ a.phase) | none => false

/-- SPEC of frame `n` is due: T_{n−2} has come. -/
def specDue (n : Nat) (s : State) : Bool :=
  let m := s.head.mt
  decide (n = s.head.time.specN ∧ (parFor m n).isSome ∧ reached (tickBack m n 2) m ∧ ¬ pausing s ∧ n ≤ s.head.time.cutN)

/-- SPEC (R29, R222). DESIGN CHOICE, log entry 8; DESIGN CHOICE, log entry 9. -/
def execSpec (n : Nat) (s : State) : Host.Outcome State Fault Refusal :=
  onPart .head (fun s =>
    if specDue n s then (if s.head.time.cutN = n then openSpec n s else { s with head.time.specN := n + 1 }) else s) s

/-- C_M of a handover: the publisher takes back its claim and follows (R388). DEDUCED, log entry 43. -/
def handOff (n : Nat) (s : State) : State :=
  if s.head.tw.handoverM = some n ∧ s.head.tw.role = .publisher then noteBoth (setRole .mirror (setClaim false s)) else s

/-- A taken command can start: with FLAGS.ORDERED it has no earlier one of its source before it, and no earlier one of its source
that cannot start (R83, R99). -/
def startable (src : Source) : List Outst → Bool → List Outst
  | [], _ => []
  | e :: r, busy =>
    if e.src ≠ src ∨ e.final.isSome then startable src r (busy || e.src == src)
    else if e.started then startable src r true
    else if flOrdered e.flags ∧ busy then []
    else e :: startable src r true

/-- A command of the Head that arrived before an instant is free to run and has not run: a packet that its queue may fetch, or one
taken that may start. The commits of such commands apply to the frame that the instant closes (R31). DEDUCED, log entry 91. -/
def earlierWaits (c : Int) (s : State) : Bool :=
  let before := fun (t : Nat) => decide ((t : Int) < c)
  let sources := (List.range 16).map Source.queue ++ (List.range 8).map Source.session
  !firmwareGone s &&
    ((List.range 16).any (fun q =>
        (queueAt q s).en && !(queueAt q s).halted && !atLimit (.queue q) s && (queueAt q s).unfetched.any (fun r => before r.arrival)) ||
      sources.any (fun src => (startable src s.head.po.outst (!(waitingFinals src s).isEmpty)).any
        (fun e => e.position == 0 && before e.arrival)))

/-- CUTOFF of frame `n` is due: C_n has come, no CUT is waited for, and no earlier command is still to run. -/
def cutDue (n : Nat) (s : State) : Bool :=
  match cutoffOf s.head.mt n with
  | some c =>
    decide (n = s.head.time.cutN ∧ c ≤ (wall s.head.mt : Int) ∧ ¬ waitsForCut n s ∧ ¬ pausing s ∧ ¬ earlierWaits c s)
  | none => false

/-- CUTOFF (R29, R216, R312, R383, R388). A Head that follows closes its frame at CUT.
DESIGN CHOICE, log entry 8; DESIGN CHOICE, log entry 9. -/
def execCutoff (n : Nat) (s : State) : Host.Outcome State Fault Refusal :=
  onPart .head (fun s => if cutDue n s then twinEval (handOff n (sendCut n (decideFormats n (closeTwin n s)))) else s) s

/-- PUSH_OPEN of frame `n` is due: T_{n−1} has come, and the frame before has flipped. -/
def openDue (n : Nat) (s : State) : Bool :=
  let m := s.head.mt
  decide (n = s.head.time.openN ∧ (parFor m n).isSome ∧ reached (tickBack m n 1) m ∧ n ≤ nextTick m ∧
    (n < s.head.time.cutN ∨ pausing s))

/-- PUSH_OPEN (R29, R245, R246, R311, R379): it follows the flip of the frame before, whose versions are SHOWN.
DESIGN CHOICE, log entry 9. -/
def execPushOpen (n : Nat) (s : State) : Host.Outcome State Fault Refusal :=
  onPart .head (fun s =>
    if openDue n s then
      match recOf n s with
      | some _ => sendSnapshot (n + 1) (openPush n (powerLate n (governorPoint n (joinAt n s))))
      | none => { joinAt n s with head.time.openN := n + 1 }
    else s) s

/-- PUSH_CLOSE of frame `n` is due: T_n − F has come. -/
def closeDue (n : Nat) (s : State) : Bool :=
  let m := s.head.mt
  decide (n = s.head.time.closeN ∧ n < s.head.time.openN) &&
    (match parFor m n with
      | some t => decide (tickAt t n - 1000 * t.fUs ≤ (wall m : Int))
      | none => false)

/-- PUSH_CLOSE (R34, R294, R305, R386). DESIGN CHOICE, log entry 9. -/
def execPushClose (n : Nat) (s : State) : Host.Outcome State Fault Refusal :=
  onPart .head (fun s => if closeDue n s then sendDigest n (closePush n s) else s) s

/-! ## The Head's tick -/

/-- The SWITCH of frame `n` takes effect (R28). -/
def switchAt (n : Nat) (m : Mantel) : Mantel :=
  match m.pendTicks.find? (fun c => c.s == n) with
  | some c =>
    let m1 := { m with prevTick := m.tick, pendTicks := m.pendTicks.filter (fun c => n < c.s) }
    match c.par with
    | some t => takePar t m1
    | none => { m1 with tick := none }
  | none => m

/-- The versions that the flip to frame `n` brings into view (R231). DEDUCED, log entry 79. -/
def flipVersions (n : Nat) (s : State) : State :=
  let comes := fun (v : Ver) => v.n == n && v.state == 2 && !v.shown
  let keys := (s.head.pl.vers.filter comes).map (fun v => v.key)
  reviseVers (fun v => some
    (if comes v then { v with shown := true } else if v.shown ∧ keys.contains v.key then { v with shown := false, rescale := false } else v)) s

/-- The wall time that a video RTP timestamp names on the ST 2110-10 media clock of 90 kHz, nearest to `t` (R525).
DEDUCED, log entry 52. -/
def rtpTime (rtp : BitVec 32) (t : Int) : Int :=
  let now := t * 9 / 100000
  (now + sdiff rtp (BitVec.ofInt 32 now)) * 100000 / 9

/-- L_W of every group whose VIDEO stream's frame first comes into view (R525). DEDUCED, log entry 52. -/
def measureFlip (r : FrameRec) (t : Int) (s : State) : State :=
  (List.range 8).foldl (fun a g =>
    match (r.video.filter (fun x => x.1 == (auGroup g a).cfg.video)).getLast? with
    | some x => measureWall g (t - rtpTime x.2 t) a
    | none => a) s

/-- The Tiles that have not acknowledged a change of a frame up to `n` + 2 (R76). DEDUCED, log entry 19. -/
def markHeld (n : Nat) (s : State) : State :=
  { s with head.en := s.head.en.map (fun e =>
      if e.unacked.any (fun k => decide (k ≤ n + 2)) then { e with heldDark := true } else e) }

/-- The Head holds this Tile dark (R76). DEDUCED, log entry 19. -/
def heldHere (s : State) : Bool :=
  s.head.en.any (fun e => e.heldDark && e.chain == s.tile.sys.chain && e.position == s.tile.sys.position)

/-- Hold the Tile dark from T_S, when it has not acknowledged a change of frame S (R76). DEDUCED, log entry 19. -/
def holdDark (n : Nat) (s : State) : State :=
  if heldHere s ∧ s.head.en.any (fun e => e.unacked.any (fun k => decide (k ≤ n)) && e.chain == s.tile.sys.chain &&
      e.position == s.tile.sys.position) then darken 5 s else s

/-- Replay requests that the flip finds unserved (R304). -/
def dropServes (s : State) : State :=
  s.head.pl.frames.foldl (fun a r =>
    updRec r.n (fun r => { r with serve := [] }) (r.serve.foldl (fun b k => staleReplay k r.n b) a)) s

/-- Flip to frame `n` at the Head. -/
def headFlip (n : Nat) (t : Int) (s : State) : State :=
  let s1 := flipVersions n (dropServes s)
  let s2 := match recOf n s1 with
    | some r => measureFlip r t (updRec n (fun r => { r with flipped := true }) { s1 with head.pl.shown := r.scene })
    | none => s1
  let s3 := holdDark n (markHeld n (stepTerms .head s2))
  let mt := switchAt n s3.head.mt
  { s3 with
    head.mt := { mt with lastN := some n }
    head.pl.frames := s3.head.pl.frames.filter (fun r => n ≤ r.n + 4 || !r.written) }

/-- One command that waited for a frame takes effect at a STOP (R75). DEDUCED, log entry 49. -/
def flushOne (n : Nat) (p : Pend) (s : State) : State :=
  let b := applyChange s.head.pl.base p.change
  postApplied p.change n { s with
    head.pl.base := b
    head.pl.carry := addKeys s.head.pl.carry (footprint s.head.pl.base b 4 p.change) }

/-- The frame limit of a waiting commit, counted without ticks (R221). DEDUCED, log entry 49. -/
def relLimit (n : Nat) (s : State) (w : Waiting) : Waiting :=
  { w with rel := true, limit := if w.rel then w.limit + s.head.mt.firstN - n else w.limit - (n - 1) }

/-- A join that waits for its frame ends with the ticks. DEDUCED, log entry 48. -/
def joinStop (s : State) : State :=
  match s.head.tw.joinFrame with
  | some m => joinAt m s
  | none => if s.head.tw.role = .joining then setRole .alone s else s

/-- A handover accepted for a frame that no longer comes takes effect at the STOP (R75, R388). DEDUCED, log entry 48. -/
def handoverStop (s : State) : State :=
  match s.head.tw.handoverM with
  | some m => { handOff m s with head.tw.handoverM := none }
  | none => s

/-- A STOP of frame `n` takes effect at the Head (R75): the records due are written, every waiting command takes effect, and
no ticks run. DEDUCED, log entry 48; DEDUCED, log entry 49; DEDUCED, log entry 79. -/
def headStop (n : Nat) (s : State) : State :=
  let s1 := (s.head.pl.frames.filter (fun r => ¬ r.written)).foldl (fun a r => fsrWrite r a) (holdDark n (markHeld n (stepTerms .head s)))
  let s2 := s1.head.pl.pend.foldl (fun a p => flushOne n p a) s1
  let s3 := { s2 with
    head.pl.pend := [], head.pl.frames := [], head.pl.openFrame := none
    head.pl.waiting := s2.head.pl.waiting.map (relLimit n s2)
    head.tw.handoverIn := none, head.tw.snapFor := none
    head.en := s2.head.en.map (fun e => { e with ticks := e.ticks && !e.unacked.isEmpty }) }
  let s4 := handoverStop (reviseVers (fun v => if v.shown then some v else none) s3)
  let s5 := endLeases (fun _ => true) (joinStop { s4 with head.mt.tick := none, head.mt.prevTick := none, head.mt.pendTicks := [], head.mt.lastN := none })
  evalClaim { s5 with head.pl.leases := s5.head.pl.leases.map (fun l => { l with from_ := 0 }) }

/-- The Head's TICK. DESIGN CHOICE, log entry 9. -/
def headTick (n : Nat) (s : State) : State :=
  let m := s.head.mt
  match edgeOf m n with
  | none => s
  | some t =>
    if n ≠ nextTick m ∨ (wall m : Int) < t then s
    else if (parFor m n).isNone then headStop n s
    else if n < s.head.time.closeN then headFlip n t s
    else s

/-! ## The Tile's tick -/

/-- The dark causes that a tick ends (R459, R620): cause 4 once LOCKED; cause 5 once LOCKED since the load, and while the Head
does not hold the Tile dark. DEDUCED, log entry 19. -/
def tickCauses (s : State) : State :=
  let locked := s.tile.mt.servo = .locked
  let s1 := if locked then undark 4 s else s
  if s.tile.sys.loaded ∧ (locked ∨ s.tile.time.shownOnce) ∧ ¬ heldHere s then
    undark 5 { s1 with tile.time.shownOnce := true }
  else s1

/-- Flip to frame `n` at the Tile (R36, R403). -/
def tileFlip (n : Nat) (t : TickPar) (s : State) : State :=
  let s1 := landFlip n (chimneyFlip (t.pNum / t.pDen) s)
  let s2 := { s1 with tile.mt := { switchAt n s1.tile.mt with lastN := some n } }
  hearthFlip n (lampFlip (tickCauses s2))

/-- A STOP of frame `n` takes effect at the Tile (R75, R459). DEDUCED, log entry 49. -/
def tileStop (n : Nat) (t : Int) (s : State) : State :=
  let s1 := applySels (hearthStop (lampStop n t (darken 5 s)))
  { s1 with
    tile.mt.tick := none, tile.mt.prevTick := none, tile.mt.pendTicks := [], tile.mt.lastN := none
    tile.lp.phaseNow := s1.tile.lp.phase, tile.ch.vfNow := s1.tile.ch.vf
    tile.ld.limNow := s1.tile.ld.lim, tile.ld.held := [], tile.ld.seen := [], tile.ld.repairs := [], tile.ld.ticks := [] }

/-- The Tile's TICK (R37). DESIGN CHOICE, log entry 9. -/
def tileTick (n : Nat) (s : State) : State :=
  let m := s.tile.mt
  match edgeOf m n with
  | none => s
  | some t =>
    if n ≠ nextTick m ∨ (wall m : Int) < t then s
    else match parFor m n with
      | none => tileStop n t s
      | some p => tileFlip n p s

/-! ## Compare units (R66 to R70) -/

/-- A tick of a part is due. -/
def tickDue (p : Part) (s : State) : Bool :=
  let n := nextTick (mtOf p s)
  reached (edgeOf (mtOf p s) n) (mtOf p s) &&
    (match p with
      | .head => (parFor s.head.mt n).isNone || decide (n < s.head.time.closeN)
      | .tile => true)

/-- The refresh cycle, row slot and HEARTH instant that follow the last ones of the frame in view. -/
def tileDue (s : State) : Bool :=
  let tt := s.tile.time
  match s.tile.mt.lastN with
  | none => false
  | some n =>
    refreshDue n (if tt.refSeen ∧ tt.refN = n then tt.refJ + 1 else 0) s ||
      rowDue n tt.refJ (if tt.rowSeen then tt.rowR + 1 else 0) s ||
      (if ¬ tt.hearthSeen ∨ tt.hearthN < n then hearthDue n 0 0 s
        else if tt.hearthR < 68 then hearthDue tt.hearthN tt.hearthJ (tt.hearthR + 1) s
        else hearthDue tt.hearthN (tt.hearthJ + 1) 0 s || hearthDue (tt.hearthN + 1) 0 0 s)

/-- A generator of R66 is due: it fires before the compare units (R70). -/
def generatorDue (p : Part) (s : State) : Bool :=
  tickDue p s ||
    (match p with
      | .head =>
        specDue s.head.time.specN s || cutDue s.head.time.cutN s || openDue s.head.time.openN s ||
          closeDue s.head.time.closeN s || (List.range 8).any (fun g => audioDue g s)
      | .tile => tileDue s)

/-- An armed unit whose target wall time has reached. -/
def trigDue (p : Part) (u : Nat) (s : State) : Bool :=
  let t := (mtOf p s).trigs.getD u {}
  t.arm && decide (trigTarget t ≤ wallOf p s) && !t.done.contains (trigTarget t)

/-- TRIGGER_FIRE (R66, R67): wall time equals or exceeds an armed unit's target. A generator that is due, and a unit of a lower
number that is due, fire first (R70). DESIGN CHOICE, log entry 8. -/
def execTriggerFire (p : Part) (u : Nat) (s : State) : Host.Outcome State Fault Refusal :=
  onPart p (fun s =>
    if u < (mtOf p s).trigs.length ∧ ((mtOf p s).trigs.getD u {}).arm ∧ trigTarget ((mtOf p s).trigs.getD u {}) ≤ wallOf p s ∧
        ¬ generatorDue p s ∧ ¬ (List.range u).any (fun v => trigDue p v s) then fireTrig p u false s
    else s) s

/-- TICK (R26, R29, R37, R66). -/
def execTick (p : Part) (n : Nat) (s : State) : Host.Outcome State Fault Refusal :=
  onPart p (match p with | .head => headTick n | .tile => tileTick n) s

end Sys2Proof.Machine
end

