-- ==== Sys2Proof/Machine/TileLoad.lean ====
section
/-!
DEFINITION. The loading of Tiles (R582, R588 to R591, R608, R620): the Head's challenge and choice, and the Tile's load lock,
image and start.
-/
namespace Sys2Proof.Machine

/-! ## The Head (R582, R591) -/

/-- DETAIL_A of the events about a Tile's load (R602). -/
def addrDet (chain pos : Nat) : BitVec 32 := BitVec.ofNat 32 (chain + 256 * pos)

/-- Load or adopt a genuine Tile (R591). DEDUCED, log entry 75. -/
def loadOrAdopt (e : TileEnt) (r : ChallengeReply) (s : State) : State :=
  let k := s.head.at_.running
  if ¬ r.loaded then beginLoad e s
  else if padTo 48 r.loadDigest = padTo 48 (slotDigest k s) then tileRuns e.chain e.position s
  else if r.fwVersion.toNat < (slotInfo k s).tileCompat then beginLoad e s
  else tileRuns e.chain e.position
    (post .head 0x10 1 0x0009 (addrDet e.chain e.position) (r.fwVersion.zeroExtend 64) s)

/-- The fields that a Tile signs (R581). -/
def replyFields (r : ChallengeReply) : List Byte :=
  leBytes 1 (b2n r.loaded) ++ padTo 16 r.serial ++ leBytes 4 r.romVersion.toNat ++ leBytes 4 r.fwVersion.toNat ++ padTo 48 r.loadDigest

/-- A Tile's answer is genuine (R578, R582): its certificate bears its serial, and chain and signature hold. -/
def isGenuine (given : List Byte) (r : ChallengeReply) : Bool :=
  padTo 16 (Config.certSerial r.cert) == padTo 16 r.serial &&
    Config.deviceSigned r.cert r.chain (sha384 (challengeText given (replyFields r))) r.signature

/-- The choice of R582 on a Tile's answer. -/
def judgeTile (e : TileEnt) (genuine : Bool) (r : ChallengeReply) (s : State) : State :=
  let ch := e.chain
  let po := e.position
  let enrolled := getKey s.head.at_.enrolled (ch, po) == some r.serial
  if ¬ genuine then
    post .head 0x10 3 0x0007 (addrDet ch po) 3 (updTileEnt ch po (fun e => { e with genuine := false }) s)
  else if ¬ enrolled ∧ s.head.at_.enrolPolicy then
    post .head 0x10 2 0x0008 (addrDet ch po) 0 (updTileEnt ch po (fun e => { e with genuine := false }) s)
  else
    let s1 := updTileEnt ch po (fun e => { e with serial := r.serial, genuine := true }) s
    loadOrAdopt { e with serial := r.serial } r (if enrolled then s1 else setEnrolled ch po (some r.serial) none s1)

/-- Challenge a Tile with a fresh nonce (R581, R582), and judge its answer. -/
def challengeTile (e : TileEnt) (r : ChallengeReply) (s : State) : State :=
  let d := draw s
  let given := padTo 48 (Config.nonce d.1) ++ padTo 16 s.head.sys.serial ++ leBytes 1 s.head.sys.pair ++ leBytes 1 e.chain ++ leBytes 1 e.position
  judgeTile e (isGenuine given r) r (sendToTile e 0x1006 0 0 0 (given ++ [0]) d.2)

/-- TILE_ENROL_AND_LOAD: not of a reversed Tile (R17), nor by a Head in ROM recovery. -/
def execTileEnrolAndLoad (chain position : Nat) (r : ChallengeReply) (s : State) : Host.Outcome State Fault Refusal :=
  onPart .head (fun s =>
    match tileEnt chain position s with
    | some e => if present e ∧ ¬ e.reversed ∧ ¬ s.head.at_.recovery ∧ ¬ firmwareGone s then challengeTile e r s else s
    | none => s) s

/-- The Tiles that AT_TILE_RELOAD names and this Head may load. DEDUCED, log entry 75. -/
def reloadTiles (c : Cmd) (s : State) : List TileEnt :=
  let ch := fld c.params 0 1
  let po := fld c.params 1 1
  s.head.en.filter (fun e => present e && e.genuine && !e.reversed && (ch == 0xFF || e.chain == ch) && (po == 0xFF || e.position == po))

/-- AT_TILE_RELOAD (R591). -/
def specAtTileReload : OpSpec where
  opcode := 0x100F
  fits := fun n => n == 4
  params := fun c _ =>
    let ch := fld c.params 0 1
    let po := fld c.params 1 1
    firstErr [need (decide (ch ≤ 31 ∨ ch = 0xFF)) (badParam 0), need (decide ((1 ≤ po ∧ po ≤ 16) ∨ po = 0xFF)) (badParam 1)]
  state := fun c s => if (reloadTiles c s).isEmpty then errSt stNoTarget else none
  run := fun c s =>
    let l := reloadTiles c s
    l.foldl (fun a e => beginLoad e a)
      { s with head.at_.reloads := s.head.at_.reloads ++ [(c, l.map (fun e => (e.chain, e.position)))] }

def execAtTileReload (c : Cmd) (s : State) : Host.Outcome State Fault Refusal := runCmd specAtTileReload c s

/-! ## The Tile (R588 to R590) -/

/-- The Head that a command at the Tile comes from. -/
def headOf (c : Cmd) : Bool := match c.src with | .chain b _ => b | _ => false

/-- AT_TILE_STAGE_BEGIN. -/
def specAtTileStageBegin : OpSpec where
  opcode := 0x1010
  onHead := false
  onTile := true
  denied := true
  state := fun _ s => if s.tile.at_.lock.isSome then errSt stBusy else none
  run := fun c s =>
    let s1 := if s.tile.sys.loaded then unload s else s
    ok c 0x1010 [] { s1 with tile.at_.lock := some (headOf c, s.now) }

def execAtTileStageBegin (c : Cmd) (s : State) : Host.Outcome State Fault Refusal := runCmd specAtTileStageBegin c s

/-- A Tile section lies in its part of the load window (R588). -/
def sectionPlaced (e : List Byte) : Bool :=
  let a := fld e 12 4
  let n := fld e 8 4
  if fld e 0 2 = 3 then decide (a = 0x20000000 ∧ n ≤ 0x70000) else decide (a = 0x20070000 ∧ n ≤ 0x10000)

/-- The Tile ROM's checks of AT_TILE_BOOT (R589): header and lengths, part and ROM, chain and signature, the digests of the sections
as written. DEDUCED, log entry 75. -/
def bootReason (b : List Byte) (s : State) : Option Nat :=
  let n := sectionCount b
  let tiles := tileEntries b
  if fld b 0 4 ≠ 0x42495844 ∨ fld b 4 2 ≠ 1 ∨ n < 1 ∨ 16 < n ∨ b.length ≠ 256 + 64 * n + fld b 36 4 ∨
      tiles.map (fun e => fld e 0 2) ≠ [3, 4] ∨ ¬ tiles.all sectionPlaced then some 1
  else if fld b 6 2 ≠ 0x3216 ∨ s.tile.sys.romVersion.toNat < fld b 44 4 then some 2
  else if ¬ bundleSigned (signedBytes b) (b.drop (256 + 64 * n)) then some 3
  else if tiles.any (fun e => sha384 (localRead (fld e 12 4) (fld e 8 4) s) != (e.drop 16).take 48) then some 4
  else none

/-- The lamp calibrations that the settings hold (R562). -/
def readVfCal (s : State) : State :=
  let cal := fun (i : Nat) (v : VfCal) => match readSetting .tile keyVfCal i s with
    | some r =>
      let p := r.payload
      { vfRef := fld p 2 2, kt := sfld p 4 2, rs := fld p 6 1, iRef := fld p 8 2, tCal := sfld p 10 2 }
    | none => v
  updCh .tile (fun c => { c with vf := c.vf.mapIdx cal, vfNow := c.vf.mapIdx cal }) s

/-- Landing after a load (R390, R397). -/
def clearLanding (s : State) : State :=
  updLd (fun l =>
    { l with
      ready := true, codes := [], show_ := [], flips := [], resum := [], held := [], seen := [], repairs := [], claim := 0 }) s

/-- What firmware posts once after a start of the Tile (R486, R551, R554). DEDUCED, log entry 71. -/
def firstPosts (s : State) : State :=
  if s.tile.at_.booted then s
  else
    let c := s.tile.ch
    let s1 := if c.oscUncomp then post .tile 0x0F 3 0x0005 0 0 s else s
    let s2 := if s.tile.sys.cause = 0x05 then
        post .tile 0x0F 4 0x0003 (BitVec.ofNat 32 (c.tripCause + 256 * c.tripSensor + 65536 * recentTrips c s.now)) 0
          (updCh .tile (fun c => { c with tripRestart := true }) s1)
      else s1
    let s3 := if s.tile.sys.cause = 0x07 then
        post .tile 0x0C 4 0x0004 (BitVec.ofNat 32 (htCoreLog s)) 0 s2
      else s2
    { s3 with tile.at_.booted := true }

/-- The Tile's image starts (R65, R589): READY, the Larder and the trims filled, the settings read, the LED rails about to be enabled. -/
def startImage (b : List Byte) (s : State) : State :=
  let s1 := { s with
    tile.sys.loaded := true, tile.sys.fwVersion := BitVec.ofNat 32 (fld b 8 4), tile.at_.loadDigest := loadDigestOf b
    tile.at_.schema := fld b 22 2, tile.at_.schemaMin := fld b 24 2, tile.at_.lock := none
    tile.at_.railStep := 1, tile.at_.railAt := s.now, tile.time.holdLimitMs := 2000 }
  let s2 := readVfCal (startSettings .tile (firstPosts s1))
  let s3 := clearDead (fillTrims (fillLarder (clearLanding (restoreTrims .tile s2))))
  let s4 := updHt (fun h => { h with rails := h.rails.map (unlatch s.now) }) s3
  postStart .tile (darken 5 (undark 0 s4))

/-- AT_TILE_BOOT: a sender that does not hold the lock is refused with BUSY. -/
def specAtTileBoot : OpSpec where
  opcode := 0x1011
  onHead := false
  onTile := true
  denied := true
  fits := fun n => decide (256 ≤ n)
  state := fun c s => if s.tile.at_.lock.map Prod.fst = some (headOf c) then none else errSt stBusy
  run := fun c s =>
    match bootReason c.params s with
    | some r =>
      failed c 0x1011 r 0
        (post .tile 0x10 3 0x0007 (addrDet s.tile.sys.chain s.tile.sys.position) (BitVec.ofNat 64 r) s)
    | none => ok c 0x1011 [] (startImage c.params s)

def execAtTileBoot (c : Cmd) (s : State) : Host.Outcome State Fault Refusal := runCmd specAtTileBoot c s

/-- AT_TILE_STAGE_ABORT: a lock that the other Head holds stays. -/
def specAtTileStageAbort : OpSpec where
  opcode := 0x1012
  onHead := false
  onTile := true
  denied := true
  state := fun c s => if s.tile.at_.lock.map Prod.fst = some (!headOf c) then errSt stBusy else none
  run := fun c s => ok c 0x1012 [] { s with tile.at_.lock := none }

def execAtTileStageAbort (c : Cmd) (s : State) : Host.Outcome State Fault Refusal := runCmd specAtTileStageAbort c s

/-- TILE_LOAD_LOCK_TIMEOUT (R590): 2 s without a write from the holder. -/
def execTileLoadLockTimeout (s : State) : Host.Outcome State Fault Refusal :=
  onPart .tile (fun s =>
    match s.tile.at_.lock with
    | some l => if l.2 + 2000000000 ≤ s.now then { s with tile.at_.lock := none } else s
    | none => s) s

/-- LED_RAIL_ENABLE_SEQUENCE (R608): VLED_G, VLED_B and VLED_R, 100 µs apart, never while the input is low. -/
def execLedRailEnableSequence (step : Nat) (s : State) : Host.Outcome State Fault Refusal :=
  onPart .tile (fun s =>
    let a := s.tile.at_
    if a.railStep ≠ step + 1 ∨ 3 ≤ step ∨ s.now < a.railAt ∨ ¬ s.tile.sys.loaded ∨ s.tile.ht.inputLow then s
    else
      setEn ([1, 2, 0].getD step 0) true
        { s with tile.at_.railStep := if step = 2 then 0 else step + 2, tile.at_.railAt := s.now + 100000 }) s

end Sys2Proof.Machine
end

