-- ==== Sys2Proof/Machine/Startup.lean ====
section
/-!
DEFINITION. Resets and starts of both parts (R603 to R617), the hardware shutdown of R549 to R552, the compensation of R553 to R555,
and PO_RESTART. A start sequence is one step.
-/
namespace Sys2Proof.Machine

/-! ## Compensation at a start (R553, R554) -/

/-- Three conversions, the fuse check. -/
def compensate (p : Part) (b : BootInput) (s : State) : State :=
  updCh p (fun c =>
    let c0 := { c with
      badRun := c.badRun.map (fun _ => 0), broken := c.broken.map (fun _ => false)
      brokenPosted := c.brokenPosted.map (fun _ => false) }
    { convert p b.readings (convert p b.readings (convert p b.readings c0)) with oscUncomp := !b.fuseOk, convAt := s.now }) s

/-- What a start without an input of its own finds: TWSEL and the sensors as they last read. -/
def sameInput (p : Part) (s : State) : BootInput :=
  let c := chOf p s
  { twsel := s.head.sys.twsel, fuseOk := !c.oscUncomp
    readings := c.temps.mapIdx (fun k t => if c.broken.getD k false then none else some t) }

/-- What the always-on domain of Chimney keeps through a reset (R551, R609). -/
def keepAlways (old fresh : Chimney) : Chimney :=
  { fresh with
    temps := old.temps, badRun := old.badRun, broken := old.broken, bands := old.bands, convAt := old.convAt
    oscUncomp := old.oscUncomp, tripCause := old.tripCause, tripSensor := old.tripSensor, trips := old.trips
    tripped := old.tripped, coolSince := old.coolSince }

/-! ## The Head's reset and start (R609, R614) -/

/-- The SEQ with which the log goes on: one above the newest record in LOG, or 0 (R600). -/
def nextLogSeq (pages : List LogPage) : BitVec 32 :=
  match ((pages.filter (fun p => p.good)).flatMap (fun p => p.recs)).getLast? with
  | some e => e.seq + 1
  | none => 0

/-- DB_CLAIM and DB_BEAT fall (R549, R605). -/
def dropDoorbell (s : State) : State :=
  let s1 := if s.head.tw.dbClaim then emit .head (.pin .dbClaim false) s else s
  if s.head.tw.beatOut then emit .head (.pin .dbBeat false) s1 else s1

/-- The Head in reset: every field at its reset value, but for the always-on domain, what the non-volatile memory holds, and its
pins. DEDUCED, log entry 77. -/
def resetHead (s : State) : State :=
  let h := s.head
  let f := State.reset.head
  { s with head := { f with
      sys := { h.sys with phase := .inReset, fwVersion := 0, porFree := none }
      ch := keepAlways h.ch f.ch
      cl := { f.cl with stks := h.cl.stks.map (fun k => ({ temp := k.temp, band := k.band } : Stack)) }
      at_ := { f.at_ with
        nv := h.at_.nv, ident := h.at_.ident, anchors := h.at_.anchors, boot := h.at_.boot, copies := h.at_.copies
        pairNumber := h.at_.pairNumber, running := h.at_.running
        bytes := h.at_.bytes, info := h.at_.info, epochFused := h.at_.epochFused, log := h.at_.log }
      out := h.out } }

/-- Hold the Head in reset for a cause of R609. -/
def haltHead (cause : Nat) (s : State) : State :=
  let s1 := resetHead (nvStop .head (dropDoorbell s))
  { s1 with head.sys.cause := BitVec.ofNat 8 cause }

/-- Cellar at a start (R192, R614): the training records that the settings hold; without a valid one for point 0 a fresh run
begins. DEDUCED, log entry 38. -/
def startCellar (s : State) : State :=
  let recs := (List.range 4).map (fun i => (readSetting .head keyTrain i s).map (fun r => parseTrain r.payload))
  let s1 := { s with head.cl.records := recs }
  if recordValid 0 s1 then s1
  else stopService { s1 with head.cl.op := some { cmd := none, train := true, point := 0, running := true } }

/-- The trip of before is reported at the next start (R551). DEDUCED, log entry 71. -/
def reportTrip (s : State) : State :=
  let c := s.head.ch
  if s.head.sys.cause = 0x05 then
    post .head 0x0F 4 0x0003 (BitVec.ofNat 32 (c.tripCause + 256 * c.tripSensor + 65536 * recentTrips c s.now)) 0
      (updCh .head (fun c => { c with tripRestart := true }) s)
  else s

/-- The Head starts (R553, R614). -/
def startHead (b : BootInput) (s : State) : State :=
  let s1 := compensate .head b { s with
    head.sys.phase := .inService, head.sys.starts := oneMore s.head.sys.starts, head.sys.twsel := b.twsel
    head.sys.roleB := b.twsel, head.po.nextSeq := nextLogSeq s.head.at_.log
    head.sys.porFree := some s.now, head.sys.crsUntil := s.now + 900000000
    head.gl := s.head.gl.map (fun g => { g with since := s.now }) }
  let s2 := dieBandStep .head (postBroken .head (startFirmware s1))
  let s3 := if s2.head.ch.oscUncomp then post .head 0x0F 3 0x0005 0 0 s2 else s2
  evalClaim (startCellar (restoreTrims .head (reportTrip s3)))

/-- The Head starts unless something still holds it in reset. DESIGN CHOICE, log entry 7. -/
def releaseHead (b : BootInput) (s : State) : State :=
  if s.head.sys.por ∨ s.head.sys.supplyBad ∨ s.head.ch.tripped then s else startHead b s

/-- Trips within the 60 min before the last one, it included. -/
def tripsAtLast (c : Chimney) : Nat := recentTrips c (c.trips.getLast?.getD 0)

/-- A power-on reset clears the count of a Head that its third trip holds, and ends the hold of one that has cooled (R552).
DEDUCED, log entry 71. -/
def endThirdTrip (s : State) : State :=
  let c := s.head.ch
  if ¬ c.tripped ∨ tripsAtLast c < 3 then s
  else
    let cooled := match c.coolSince with | some t => decide (t + 10000000000 ≤ s.now) | none => false
    let s1 := updCh .head (fun c => { c with trips := [] }) s
    if cooled then emit .head (.pin .thermTrip true) (updCh .head (fun c => { c with tripped := false, coolSince := none }) s1)
    else s1

/-- POR_N_ASSERT. -/
def execPorNAssert (s : State) : Host.Outcome State Fault Refusal :=
  .next (if s.head.sys.por then s else let s1 := haltHead 0x02 (endThirdTrip s); { s1 with head.sys.por := true })

/-- POR_N_RELEASE (R20, R614). -/
def execPorNRelease (b : BootInput) (s : State) : Host.Outcome State Fault Refusal :=
  .next (if s.head.sys.por then releaseHead b { s with head.sys.por := false } else s)

/-- SUPPLY_MONITOR_TRIP (R605): VDD, VDDA_SER or VDD_HBM. -/
def execSupplyMonitorTrip (rail : Nat) (s : State) : Host.Outcome State Fault Refusal :=
  .next
    (if 3 ≤ rail ∨ s.head.sys.supplyBad then s
     else
       let s1 := haltHead 0x06 s
       { s1 with head.sys.supplyBad := true })

/-- SUPPLY_RETURN (R605). -/
def execSupplyReturn (b : BootInput) (s : State) : Host.Outcome State Fault Refusal :=
  .next (if s.head.sys.supplyBad then releaseHead b { s with head.sys.supplyBad := false } else s)

/-! ## PERST# (R611, R615) -/

/-- A channel's table, ring or current descriptor names HOST space. -/
def namesHost (s : State) (c : DwChan) : Bool :=
  s.head.dw.space == 0 || c.entry.space == 0 ||
    (match c.runs.getLast? with | some r => r.desc.srcSpace == 0 || r.desc.dstSpace == 0 | none => false)

/-- PERST# resets the endpoint (R611): every queue is disabled, and the channels that name HOST space are aborted. -/
def resetEndpoint (s : State) : State :=
  let s1 := (List.range 16).foldl (fun a q =>
    qCtlWrite q (BitVec.ofNat 32 (qCtl (queueAt q a)) &&& ~~~1#32) a) s
  let s2 := (List.range 64).foldl (fun a ch => if namesHost a (chanAt .head ch a) then abortChan .head ch a else a) s1
  { s2 with head.sys.cause := 0x0A }

/-- PERST_ASSERT (R611): in a Head that is itself in reset, only the pin falls.
DEDUCED, log entry 76; DEDUCED, log entry 77. -/
def execPerstAssert (s : State) : Host.Outcome State Fault Refusal :=
  .next
    (if s.head.sys.perst then s
     else
       let s1 := if inService .head s then resetEndpoint s else s
       { s1 with head.sys.perst := true, head.sys.perstFree := none })

/-- PERST_RELEASE (R615). -/
def execPerstRelease (s : State) : Host.Outcome State Fault Refusal :=
  .next (if s.head.sys.perst then { s with head.sys.perst := false, head.sys.perstFree := some s.now } else s)

/-! ## The Tile's reset and start (R606, R609, R617) -/

/-- The Tile in reset: every field at its reset value, but for the always-on domain (unless `all`), HT_CORE_LOG, what the
non-volatile memory holds, its address and its output. Its ports wait for the synthesiser (R555). -/
def resetTile (all : Bool) (s : State) : State :=
  let h := s.tile
  let f := State.reset.tile
  { s with tile := { f with
      sys := { h.sys with phase := .inReset, loaded := false, fwVersion := 0, inputLow := false, vcoreFaultAt := none }
      ch := if all then { f.ch with temps := h.ch.temps } else keepAlways h.ch f.ch
      gl := f.gl.map (fun g => { g with en := false, state := .disabled, since := s.now })
      ht := { f.ht with coreFails := h.ht.coreFails, coreCause := h.ht.coreCause, vin := h.ht.vin }
      at_ := { f.at_ with nv := h.at_.nv, ident := h.at_.ident }
      out := h.out } }

/-- The Tile starts and waits, unloaded and dark. DESIGN CHOICE, log entry 7. -/
def startTile (b : BootInput) (cause : Nat) (s : State) : State :=
  let s1 := compensate .tile b { s with
    tile.sys.phase := .inService, tile.sys.cause := BitVec.ofNat 8 cause, tile.sys.starts := oneMore s.tile.sys.starts }
  recoverStore .tile (dieBandStep .tile (postBroken .tile s1))

/-- VIN_POWER_ON (R606): the first start since the power came, so STARTS is 0. -/
def execVinPowerOn (b : BootInput) (s : State) : Host.Outcome State Fault Refusal :=
  .next
    (if s.tile.sys.vinOn then s
     else
       let s1 := startTile b 0x01 { s with tile.sys.vinOn := true }
       { s1 with tile.sys.starts := 0 })

/-- VIN_POWER_OFF (R571, R606): the always-on domain loses its state too. -/
def execVinPowerOff (s : State) : Host.Outcome State Fault Refusal :=
  .next
    (if ¬ s.tile.sys.vinOn then s
     else
       let s1 := resetTile true (nvCut .tile s)
       { s1 with
         tile.sys.phase := .off, tile.sys.vinOn := false, tile.ht.coreFails := [], tile.ht.coreCause := 0
         tile.ht.rails := s1.tile.ht.rails.map (stopped .off s.now) })

/-- VCORE_RESTART (R486): 100 ms after the fault. DEDUCED, log entry 71. -/
def execVcoreRestart (s : State) : Host.Outcome State Fault Refusal :=
  .next
    (match s.tile.sys.vcoreFaultAt with
     | some t =>
       if s.now < t + 100000000 ∨ ¬ s.tile.sys.vinOn then s
       else
         let s1 := startTile (sameInput .tile s) 0x07 (resetTile true s)
         { s1 with tile.ht.coreRestarted := true }
     | none => s)

/-- CLOCK_SYNTH_LOCK (R555, R617, R618): the synthesiser has locked to the frames on a port, and both ports are enabled. -/
def execClockSynthLock (port : Nat) (s : State) : Host.Outcome State Fault Refusal :=
  onPart .tile (fun s =>
    if 2 ≤ port ∨ ¬ s.tile.gl.all (fun g => g.state == .disabled) then s
    else { s with tile.gl := s.tile.gl.map (fun g => { toDetect s.now g with en := true, fellBack := none, fails := 0 }) }) s

/-! ## The hardware shutdown (R548 to R552) -/

/-- Every sensor of one tier is broken (R542). -/
def tierBroken (p : Part) (c : Chimney) : Bool :=
  let all := fun (l : List Nat) => l.all (fun k => c.broken.getD k false)
  match p with
  | .head => all (List.range 16)
  | .tile => all [0, 1, 2, 3] || all [4, 5, 6, 7]

/-- The cause of a trip holds (R548). -/
def tripCauseHolds (p : Part) (cause sensor : Nat) (s : State) : Bool :=
  match cause with
  | 1 => decide (sensor < (chOf p s).temps.length)
  | 2 => p == .head && decide (sensor < 2 ∧ 1680 ≤ (stackAt sensor s).temp)
  | 3 => tierBroken p (chOf p s)
  | _ => false

/-- The trip is latched with its cause. DEDUCED, log entry 71. -/
def latchTrip (p : Part) (cause sensor : Nat) (s : State) : State :=
  updCh p (fun c =>
    { c with
      tripped := true, coolSince := none, tripCause := cause, tripSensor := sensor
      trips := c.trips.filter (fun t => s.now ≤ t + 3600000000000) ++ [s.now] }) s

/-- THERMAL_TRIP: the trip logic works in reset too. -/
def execThermalTrip (p : Part) (cause sensor : Nat) (s : State) : Host.Outcome State Fault Refusal :=
  .next
    (if ¬ aonRuns p s ∨ (chOf p s).tripped ∨ ¬ tripCauseHolds p cause sensor s then s
    else
      let s1 := latchTrip p cause sensor s
      match p with
      | .head => haltHead 0x05 (emit .head (.pin .thermTrip false) s1)
      | .tile =>
        let s2 := resetTile false (nvStop .tile s1)
        { s2 with
          tile.sys.cause := 0x05, tile.lp.causes := 0x81
          tile.ht.rails := s2.tile.ht.rails.map (stopped .off s.now) })

/-- TRIP_COOL_RESTART (R551, R552): 10 s cool, and not after the third trip within 60 min. -/
def execTripCoolRestart (p : Part) (s : State) : Host.Outcome State Fault Refusal :=
  .next
    (let c := chOf p s
     match c.coolSince with
     | some t =>
       if ¬ c.tripped ∨ s.now < t + 10000000000 ∨ 3 ≤ tripsAtLast c then s
       else
         let s1 := updCh p (fun c => { c with tripped := false, coolSince := none }) s
         match p with
         | .head => releaseHead (sameInput .head s) (emit .head (.pin .thermTrip true) { s1 with head.sys.cause := 0x05 })
         | .tile => if s.tile.sys.vinOn then startTile (sameInput .tile s) 0x05 (resetTile false s1) else s1
     | none => s)

/-! ## Restarts that a command or a watchdog causes (R95, R609, R610) -/

/-- WATCHDOG_EXPIRY. -/
def execWatchdogExpiry (p : Part) (s : State) : Host.Outcome State Fault Refusal := onPart p (fwRestart p 0x08) s

/-- Write out the replies that a queue still holds while its ring has room; `n` bounds how many. -/
def flushQueue (q : Nat) : Nat → State → State
  | 0, s => s
  | n + 1, s =>
    match (queueAt q s).replies with
    | r :: rest =>
      if (queueAt q s).en ∧ rqFits (queueAt q s) (slotsFor r.params.length) then
        flushQueue q n (ringWrite q r (updQueue q (fun k => { k with replies := rest }) s))
      else s
    | [] => s

/-- The reply of PO_RESTART leaves before the restart begins. -/
def sendNow (c : Cmd) (op : Nat) (s : State) : State :=
  let s1 := deliver c.part c.src (replyTo c op stOk [])
    (setOutst c.part ((outstOf c.part s).filter (fun e => ¬ isEntry c op e)) s)
  match c.src with
  | .queue q => flushQueue q (queueAt q s1).replies.length s1
  | _ => s1

/-- A full reset (SCOPE 1). -/
def fullReset (p : Part) (s : State) : State :=
  let b := sameInput p s
  let s1 := emit p (.restart 1) s
  match p with
  | .head => releaseHead b (haltHead 0x03 s1)
  | .tile => startTile b 0x03 (resetTile false (nvStop .tile s1))

/-- PO_RESTART: trims are saved first (R561). -/
def specPoRestart : OpSpec where
  opcode := 0x0108
  onTile := true
  fits := fun n => n == 4
  params := fun c _ => inRange (fld c.params 0 1) 0 1 0
  run := fun c s =>
    let s1 := sendNow c 0x0108 s
    if fld c.params 0 1 = 0 then scope0Restart c.part s1 else fullReset c.part (endOperations c.part s1)

def execPoRestart (c : Cmd) (s : State) : Host.Outcome State Fault Refusal := runCmd specPoRestart c s

end Sys2Proof.Machine
end

