-- ==== Sys2Proof/Machine/Dispatch.lean ====
section
/-!
DEFINITION. One arm per command, each a direct call of its meaning.
-/
namespace Sys2Proof.Machine

/-- The effect of one command on everything but the queue. -/
def exec (i : Instr) (s : State) : Host.Outcome State Fault Refusal :=
  match i with
  | .registerWrite w value => Sys2Proof.Machine.execRegisterWrite w value s
  | .barPartialWrite w value enables => Sys2Proof.Machine.execBarPartialWrite w value enables s
  | .poPad c => Sys2Proof.Machine.execPoPad c s
  | .poNop c => Sys2Proof.Machine.execPoNop c s
  | .poGetInfo c => Sys2Proof.Machine.execPoGetInfo c s
  | .poRegRead c => Sys2Proof.Machine.execPoRegRead c s
  | .poRegWrite c => Sys2Proof.Machine.execPoRegWrite c s
  | .poEventRead c => Sys2Proof.Machine.execPoEventRead c s
  | .poEventSubscribe c => Sys2Proof.Machine.execPoEventSubscribe c s
  | .poAbort c => Sys2Proof.Machine.execPoAbort c s
  | .poRestart c => Sys2Proof.Machine.execPoRestart c s
  | .poTileConfig c => Sys2Proof.Machine.execPoTileConfig c s
  | .poCqTail q count packets => Sys2Proof.Machine.execPoCqTail q count packets s
  | .poRqHead q count => Sys2Proof.Machine.execPoRqHead q count s
  | .poQEnable q value => Sys2Proof.Machine.execPoQEnable q value s
  | .poQDisable q value => Sys2Proof.Machine.execPoQDisable q value s
  | .replyWrite q => Sys2Proof.Machine.execReplyWrite q s
  | .msixCoalesceExpiry q => Sys2Proof.Machine.execMsixCoalesceExpiry q s
  | .porchResumeTaking src => Sys2Proof.Machine.execPorchResumeTaking src s
  | .tileReplyReceived r => Sys2Proof.Machine.execTileReplyReceived r s
  | .tileCommandTimeout chain position tag => Sys2Proof.Machine.execTileCommandTimeout chain position tag s
  | .mgmtSessionOpen cert => Sys2Proof.Machine.execMgmtSessionOpen cert s
  | .mgmtSessionClose n tlsError => Sys2Proof.Machine.execMgmtSessionClose n tlsError s
  | .mgmtSessionIdleTimeout n => Sys2Proof.Machine.execMgmtSessionIdleTimeout n s
  | .poFramingError n length => Sys2Proof.Machine.execPoFramingError n length s
  | .tileEventReceived e => Sys2Proof.Machine.execTileEventReceived e s
  | .eventsSuppressed => Sys2Proof.Machine.execEventsSuppressed s
  | .logPageWrite => Sys2Proof.Machine.execLogPageWrite s
  | .mtGetTime c => Sys2Proof.Machine.execMtGetTime c s
  | .mtSetTick c => Sys2Proof.Machine.execMtSetTick c s
  | .mtGetTick c => Sys2Proof.Machine.execMtGetTick c s
  | .mtStepTime c => Sys2Proof.Machine.execMtStepTime c s
  | .mtSetTod c => Sys2Proof.Machine.execMtSetTod c s
  | .mtSetPtp c => Sys2Proof.Machine.execMtSetPtp c s
  | .mtGetPtp c => Sys2Proof.Machine.execMtGetPtp c s
  | .mtSetChainTime c => Sys2Proof.Machine.execMtSetChainTime c s
  | .mtCntLoRead p => Sys2Proof.Machine.execMtCntLoRead p s
  | .mtRateWrite p value => Sys2Proof.Machine.execMtRateWrite p value s
  | .mtHoldSet p => Sys2Proof.Machine.execMtHoldSet p s
  | .mtServoModeSet p => Sys2Proof.Machine.execMtServoModeSet p s
  | .mtTrigArm p u value => Sys2Proof.Machine.execMtTrigArm p u value s
  | .mtTrigTgtWrite p u hi value => Sys2Proof.Machine.execMtTrigTgtWrite p u hi value s
  | .triggerFire p u => Sys2Proof.Machine.execTriggerFire p u s
  | .spec n => Sys2Proof.Machine.execSpec n s
  | .cutoff n => Sys2Proof.Machine.execCutoff n s
  | .pushOpen n => Sys2Proof.Machine.execPushOpen n s
  | .pushClose n => Sys2Proof.Machine.execPushClose n s
  | .tick p n => Sys2Proof.Machine.execTick p n s
  | .frameReportSend n => Sys2Proof.Machine.execFrameReportSend n s
  | .refresh n j => Sys2Proof.Machine.execRefresh n j s
  | .row n j r obs => Sys2Proof.Machine.execRow n j r obs s
  | .hearth n j r arrived => Sys2Proof.Machine.execHearth n j r arrived s
  | .audio g k => Sys2Proof.Machine.execAudio g k s
  | .ptpMessageReceived port m rawTs => Sys2Proof.Machine.execPtpMessageReceived port m rawTs s
  | .ptpMessageSend port kind rawTs => Sys2Proof.Machine.execPtpMessageSend port kind rawTs s
  | .ppsInEdge => Sys2Proof.Machine.execPpsInEdge s
  | .announceTimeout port => Sys2Proof.Machine.execAnnounceTimeout port s
  | .ppsLossTimeout => Sys2Proof.Machine.execPpsLossTimeout s
  | .timeMessageSend p port => Sys2Proof.Machine.execTimeMessageSend p port s
  | .timeMessageReceived p port m arrival => Sys2Proof.Machine.execTimeMessageReceived p port m arrival s
  | .timeSourceInvalid p port => Sys2Proof.Machine.execTimeSourceInvalid p port s
  | .timeSourceReturn => Sys2Proof.Machine.execTimeSourceReturn s
  | .holdoverExpired => Sys2Proof.Machine.execHoldoverExpired s
  | .twinTimeAlarm => Sys2Proof.Machine.execTwinTimeAlarm s
  | .fySetPort c => Sys2Proof.Machine.execFySetPort c s
  | .fySetSubport c => Sys2Proof.Machine.execFySetSubport c s
  | .fyGetPort c => Sys2Proof.Machine.execFyGetPort c s
  | .fySetVideoStream c => Sys2Proof.Machine.execFySetVideoStream c s
  | .fySetAudioStream c => Sys2Proof.Machine.execFySetAudioStream c s
  | .fySetAncStream c => Sys2Proof.Machine.execFySetAncStream c s
  | .fyStreamCtl c => Sys2Proof.Machine.execFyStreamCtl c s
  | .fyGetStreamStats c => Sys2Proof.Machine.execFyGetStreamStats c s
  | .fySurfaceCreate c => Sys2Proof.Machine.execFySurfaceCreate c s
  | .fySurfaceDestroy c => Sys2Proof.Machine.execFySurfaceDestroy c s
  | .ethFrameReceived subport f => Sys2Proof.Machine.execEthFrameReceived subport f s
  | .videoPacketReceived stream path v => Sys2Proof.Machine.execVideoPacketReceived stream path v s
  | .videoFrameCloseTimeout stream rtp => Sys2Proof.Machine.execVideoFrameCloseTimeout stream rtp s
  | .audioPacketReceived stream path a => Sys2Proof.Machine.execAudioPacketReceived stream path a s
  | .ancPacketReceived stream path a => Sys2Proof.Machine.execAncPacketReceived stream path a s
  | .fyStreamLost stream => Sys2Proof.Machine.execFyStreamLost stream s
  | .fyPathLost kind stream path => Sys2Proof.Machine.execFyPathLost kind stream path s
  | .fyLinkUp subport => Sys2Proof.Machine.execFyLinkUp subport s
  | .fyLinkDown subport => Sys2Proof.Machine.execFyLinkDown subport s
  | .clGetInfo c => Sys2Proof.Machine.execClGetInfo c s
  | .clSetFreq c => Sys2Proof.Machine.execClSetFreq c s
  | .clTrain c => Sys2Proof.Machine.execClTrain c s
  | .clSelfRefresh c => Sys2Proof.Machine.execClSelfRefresh c s
  | .clGetErrors c => Sys2Proof.Machine.execClGetErrors c s
  | .clSetScrub c => Sys2Proof.Machine.execClSetScrub c s
  | .clInjectError c => Sys2Proof.Machine.execClInjectError c s
  | .cellarRequest r => Sys2Proof.Machine.execCellarRequest r s
  | .ceWriteback addr => Sys2Proof.Machine.execCeWriteback addr s
  | .patrolScrub words => Sys2Proof.Machine.execPatrolScrub words s
  | .stackTempRead stack reading => Sys2Proof.Machine.execStackTempRead stack reading s
  | .trainingComplete failed => Sys2Proof.Machine.execTrainingComplete failed s
  | .freqChangeComplete stopNs => Sys2Proof.Machine.execFreqChangeComplete stopNs s
  | .srAutoEntry stack => Sys2Proof.Machine.execSrAutoEntry stack s
  | .srPointOfNoReturn stack => Sys2Proof.Machine.execSrPointOfNoReturn stack s
  | .srExit stack => Sys2Proof.Machine.execSrExit stack s
  | .srExitComplete stack => Sys2Proof.Machine.execSrExitComplete stack s
  | .bar2Access a => Sys2Proof.Machine.execBar2Access a s
  | .plSetCanvas c => Sys2Proof.Machine.execPlSetCanvas c s
  | .plSetTile c => Sys2Proof.Machine.execPlSetTile c s
  | .plGetTile c => Sys2Proof.Machine.execPlGetTile c s
  | .plCommit c => Sys2Proof.Machine.execPlCommit c s
  | .plGetLayer c => Sys2Proof.Machine.execPlGetLayer c s
  | .plFenceSignal c => Sys2Proof.Machine.execPlFenceSignal c s
  | .plFenceGet c => Sys2Proof.Machine.execPlFenceGet c s
  | .plFenceTimeout commitId => Sys2Proof.Machine.execPlFenceTimeout commitId s
  | .plLeaseGuard c => Sys2Proof.Machine.execPlLeaseGuard c s
  | .plSetPowerGroup c => Sys2Proof.Machine.execPlSetPowerGroup c s
  | .plGetPower c => Sys2Proof.Machine.execPlGetPower c s
  | .plRefresh c => Sys2Proof.Machine.execPlRefresh c s
  | .plPaneRead c => Sys2Proof.Machine.execPlPaneRead c s
  | .paneComposeDone k n powerPass => Sys2Proof.Machine.execPaneComposeDone k n powerPass s
  | .leaseRetire surface layer => Sys2Proof.Machine.execLeaseRetire surface layer s
  | .plRetire src => Sys2Proof.Machine.execPlRetire src s
  | .plSetCoef c => Sys2Proof.Machine.execPlSetCoef c s
  | .plSetTone c => Sys2Proof.Machine.execPlSetTone c s
  | .plSetPixset c => Sys2Proof.Machine.execPlSetPixset c s
  | .plPpApply c => Sys2Proof.Machine.execPlPpApply c s
  | .plGetPixset c => Sys2Proof.Machine.execPlGetPixset c s
  | .plSetSlotmap c => Sys2Proof.Machine.execPlSetSlotmap c s
  | .plSigSet c => Sys2Proof.Machine.execPlSigSet c s
  | .plSigExpect c => Sys2Proof.Machine.execPlSigExpect c s
  | .plSigRead c => Sys2Proof.Machine.execPlSigRead c s
  | .ppSetStatusRing c => Sys2Proof.Machine.execPpSetStatusRing c s
  | .ppGetFrameStatus c => Sys2Proof.Machine.execPpGetFrameStatus c s
  | .ppSetChain c => Sys2Proof.Machine.execPpSetChain c s
  | .ppGetChain c => Sys2Proof.Machine.execPpGetChain c s
  | .ppBlackout c => Sys2Proof.Machine.execPpBlackout c s
  | .panePacketSend k replay => Sys2Proof.Machine.execPanePacketSend k replay s
  | .paneAckReceived a => Sys2Proof.Machine.execPaneAckReceived a s
  | .paneTransactionLost k unreachable => Sys2Proof.Machine.execPaneTransactionLost k unreachable s
  | .replayReqReceived k fn => Sys2Proof.Machine.execReplayReqReceived k fn s
  | .frameReportReceived r => Sys2Proof.Machine.execFrameReportReceived r s
  | .fsrWrite n => Sys2Proof.Machine.execFsrWrite n s
  | .formatReturnTimer chain => Sys2Proof.Machine.execFormatReturnTimer chain s
  | .headBlackoutChange => Sys2Proof.Machine.execHeadBlackoutChange s
  | .blackoutBlockRepeat => Sys2Proof.Machine.execBlackoutBlockRepeat s
  | .blackoutBlockReceived port active headB => Sys2Proof.Machine.execBlackoutBlockReceived port active headB s
  | .headBlackoutReleaseTimeout headB => Sys2Proof.Machine.execHeadBlackoutReleaseTimeout headB s
  | .glGetPort c => Sys2Proof.Machine.execGlGetPort c s
  | .glSetPort c => Sys2Proof.Machine.execGlSetPort c s
  | .glRetrain c => Sys2Proof.Machine.execGlRetrain c s
  | .glTest c => Sys2Proof.Machine.execGlTest c s
  | .glTestDone p port bits errors => Sys2Proof.Machine.execGlTestDone p port bits errors s
  | .glClearCounters c => Sys2Proof.Machine.execGlClearCounters c s
  | .glPortCtlRetrain p port => Sys2Proof.Machine.execGlPortCtlRetrain p port s
  | .glPortEnable p port => Sys2Proof.Machine.execGlPortEnable p port s
  | .glPortDisable p port => Sys2Proof.Machine.execGlPortDisable p port s
  | .trainingFrameReceived p port f => Sys2Proof.Machine.execTrainingFrameReceived p port f s
  | .trainTimeout p port => Sys2Proof.Machine.execTrainTimeout p port s
  | .blockLock p port => Sys2Proof.Machine.execBlockLock p port s
  | .lockTimeout p port => Sys2Proof.Machine.execLockTimeout p port s
  | .capsReceived p port caps => Sys2Proof.Machine.execCapsReceived p port caps s
  | .capsTimeout p port => Sys2Proof.Machine.execCapsTimeout p port s
  | .retrainReqReceived p port cause => Sys2Proof.Machine.execRetrainReqReceived p port cause s
  | .retrainTimeout p port => Sys2Proof.Machine.execRetrainTimeout p port s
  | .holdExpiry p port => Sys2Proof.Machine.execHoldExpiry p port s
  | .laneFail p port lane cause => Sys2Proof.Machine.execLaneFail p port lane cause s
  | .laneSetReceived p port mask copy => Sys2Proof.Machine.execLaneSetReceived p port mask copy s
  | .laneRetrainTimer p port lane clean => Sys2Proof.Machine.execLaneRetrainTimer p port lane clean s
  | .linkStateReceived m => Sys2Proof.Machine.execLinkStateReceived m s
  | .ackReceived p port seq => Sys2Proof.Machine.execAckReceived p port seq s
  | .nakReceived p port seq => Sys2Proof.Machine.execNakReceived p port seq s
  | .replayTimeout p port => Sys2Proof.Machine.execReplayTimeout p port s
  | .creditReceived p port clsA freedA clsB freedB => Sys2Proof.Machine.execCreditReceived p port clsA freedA clsB freedB s
  | .creditInitReceived p port poolA sizeA poolB sizeB => Sys2Proof.Machine.execCreditInitReceived p port poolA sizeA poolB sizeB s
  | .creditSend p port cls => Sys2Proof.Machine.execCreditSend p port cls s
  | .alignSend p port => Sys2Proof.Machine.execAlignSend p port s
  | .skipSend p port => Sys2Proof.Machine.execSkipSend p port s
  | .alignReceived p port physLane lane lanes rate count => Sys2Proof.Machine.execAlignReceived p port physLane lane lanes rate count s
  | .skipReceived p port => Sys2Proof.Machine.execSkipReceived p port s
  | .abortReceived p port => Sys2Proof.Machine.execAbortReceived p port s
  | .packetForward port k => Sys2Proof.Machine.execPacketForward port k s
  | .tickMessageReceived p port m => Sys2Proof.Machine.execTickMessageReceived p port m s
  | .twGetStatus c => Sys2Proof.Machine.execTwGetStatus c s
  | .twSetMode c => Sys2Proof.Machine.execTwSetMode c s
  | .twHandover c => Sys2Proof.Machine.execTwHandover c s
  | .twResync c => Sys2Proof.Machine.execTwResync c s
  | .dbBeatToggle => Sys2Proof.Machine.execDbBeatToggle s
  | .dbPeerClaimChange level => Sys2Proof.Machine.execDbPeerClaimChange level s
  | .peerBeatLost => Sys2Proof.Machine.execPeerBeatLost s
  | .twinWatchdogExpiry => Sys2Proof.Machine.execTwinWatchdogExpiry s
  | .twSplit => Sys2Proof.Machine.execTwSplit s
  | .helloSend => Sys2Proof.Machine.execHelloSend s
  | .helloReceived h => Sys2Proof.Machine.execHelloReceived h s
  | .snapshotRequestReceived => Sys2Proof.Machine.execSnapshotRequestReceived s
  | .snapshotReceived sn => Sys2Proof.Machine.execSnapshotReceived sn s
  | .fwdCmdReceived f => Sys2Proof.Machine.execFwdCmdReceived f s
  | .fwdAckReceived id => Sys2Proof.Machine.execFwdAckReceived id s
  | .fwdAckTimeout id => Sys2Proof.Machine.execFwdAckTimeout id s
  | .cutReceived fn count => Sys2Proof.Machine.execCutReceived fn count s
  | .cutWaitExpiry n => Sys2Proof.Machine.execCutWaitExpiry n s
  | .digestReceived d => Sys2Proof.Machine.execDigestReceived d s
  | .roleSend => Sys2Proof.Machine.execRoleSend s
  | .roleReceived claim beat role => Sys2Proof.Machine.execRoleReceived claim beat role s
  | .passedReceived k => Sys2Proof.Machine.execPassedReceived k s
  | .claimTakeoverTimeout => Sys2Proof.Machine.execClaimTakeoverTimeout s
  | .ldGetStatus c => Sys2Proof.Machine.execLdGetStatus c s
  | .ldSetLimits c => Sys2Proof.Machine.execLdSetLimits c s
  | .ldRead c => Sys2Proof.Machine.execLdRead c s
  | .lrWrite c => Sys2Proof.Machine.execLrWrite c s
  | .lrRead c => Sys2Proof.Machine.execLrRead c s
  | .lrReload c => Sys2Proof.Machine.execLrReload c s
  | .lrSetDrift c => Sys2Proof.Machine.execLrSetDrift c s
  | .panePacketReceived port k => Sys2Proof.Machine.execPanePacketReceived port k s
  | .larderRefetch index readable => Sys2Proof.Machine.execLarderRefetch index readable s
  | .larderScrub words flips => Sys2Proof.Machine.execLarderScrub words flips s
  | .lpGetStatus c => Sys2Proof.Machine.execLpGetStatus c s
  | .lpSetCurrent c => Sys2Proof.Machine.execLpSetCurrent c s
  | .lpSetTrim c => Sys2Proof.Machine.execLpSetTrim c s
  | .lpGetTrim c => Sys2Proof.Machine.execLpGetTrim c s
  | .lpFade c => Sys2Proof.Machine.execLpFade c s
  | .lpSetWaveform c => Sys2Proof.Machine.execLpSetWaveform c s
  | .lpSetScan c => Sys2Proof.Machine.execLpSetScan c s
  | .lpGetDead c => Sys2Proof.Machine.execLpGetDead c s
  | .lpClearDead c => Sys2Proof.Machine.execLpClearDead c s
  | .lpSetDetect c => Sys2Proof.Machine.execLpSetDetect c s
  | .lpCtlEnWrite value => Sys2Proof.Machine.execLpCtlEnWrite value s
  | .blackoutNChange p active => Sys2Proof.Machine.execBlackoutNChange p active s
  | .chatterClear p => Sys2Proof.Machine.execChatterClear p s
  | .detectResumeTimer => Sys2Proof.Machine.execDetectResumeTimer s
  | .htGetStatus c => Sys2Proof.Machine.execHtGetStatus c s
  | .htSetRail c => Sys2Proof.Machine.execHtSetRail c s
  | .htSetCoef c => Sys2Proof.Machine.execHtSetCoef c s
  | .htSwapBank c => Sys2Proof.Machine.execHtSwapBank c s
  | .htClearFault c => Sys2Proof.Machine.execHtClearFault c s
  | .htGetCoef c => Sys2Proof.Machine.execHtGetCoef c s
  | .htSetLead c => Sys2Proof.Machine.execHtSetLead c s
  | .htCtlBankWrite value => Sys2Proof.Machine.execHtCtlBankWrite value s
  | .htRailCtlEnWrite rail value => Sys2Proof.Machine.execHtRailCtlEnWrite rail value s
  | .hearthSample m => Sys2Proof.Machine.execHearthSample m s
  | .vrefStep => Sys2Proof.Machine.execVrefStep s
  | .ilimHwEvent rail phase => Sys2Proof.Machine.execIlimHwEvent rail phase s
  | .overvoltageFault rail v => Sys2Proof.Machine.execOvervoltageFault rail v s
  | .ssTimeout rail => Sys2Proof.Machine.execSsTimeout rail s
  | .retryWaitExpiry rail v => Sys2Proof.Machine.execRetryWaitExpiry rail v s
  | .htInputLow vin => Sys2Proof.Machine.execHtInputLow vin s
  | .htInputOk vin => Sys2Proof.Machine.execHtInputOk vin s
  | .vcoreRestart => Sys2Proof.Machine.execVcoreRestart s
  | .hearthDarkRelease => Sys2Proof.Machine.execHearthDarkRelease s
  | .dwSetTable c => Sys2Proof.Machine.execDwSetTable c s
  | .dwChannelStart c host => Sys2Proof.Machine.execDwChannelStart c host s
  | .dwChannelStop c => Sys2Proof.Machine.execDwChannelStop c s
  | .dwChannelAbort c => Sys2Proof.Machine.execDwChannelAbort c s
  | .dwChannelReload c host => Sys2Proof.Machine.execDwChannelReload c host s
  | .dwGetChannel c => Sys2Proof.Machine.execDwGetChannel c s
  | .dwChCtlStart p ch reset host => Sys2Proof.Machine.execDwChCtlStart p ch reset host s
  | .dwChCtlStop p ch => Sys2Proof.Machine.execDwChCtlStop p ch s
  | .dwChCtlAbort p ch => Sys2Proof.Machine.execDwChCtlAbort p ch s
  | .dwChCtlReload p ch host => Sys2Proof.Machine.execDwChCtlReload p ch host s
  | .dwChTail p ch count => Sys2Proof.Machine.execDwChTail p ch count s
  | .descriptorFetched p ch host => Sys2Proof.Machine.execDescriptorFetched p ch host s
  | .burstIssue p ch => Sys2Proof.Machine.execBurstIssue p ch s
  | .burstResponse p ch r => Sys2Proof.Machine.execBurstResponse p ch r s
  | .hostReadTimeout ch offset => Sys2Proof.Machine.execHostReadTimeout ch offset s
  | .tileBurstTimeout ch offset => Sys2Proof.Machine.execTileBurstTimeout ch offset s
  | .bulkPacketReceived b => Sys2Proof.Machine.execBulkPacketReceived b s
  | .auSetPort c => Sys2Proof.Machine.execAuSetPort c s
  | .auSetGroup c => Sys2Proof.Machine.execAuSetGroup c s
  | .auSetSlots c => Sys2Proof.Machine.execAuSetSlots c s
  | .auGetStatus c => Sys2Proof.Machine.execAuGetStatus c s
  | .auGetStreamStats c => Sys2Proof.Machine.execAuGetStreamStats c s
  | .auHostTail port tail => Sys2Proof.Machine.execAuHostTail port tail s
  | .tdmFrame port n => Sys2Proof.Machine.execTdmFrame port n s
  | .auPllUnlock => Sys2Proof.Machine.execAuPllUnlock s
  | .auPllRelock => Sys2Proof.Machine.execAuPllRelock s
  | .chGetStatus c => Sys2Proof.Machine.execChGetStatus c s
  | .chSetLimits c => Sys2Proof.Machine.execChSetLimits c s
  | .chSetVfCal c => Sys2Proof.Machine.execChSetVfCal c s
  | .chGetField c => Sys2Proof.Machine.execChGetField c s
  | .chGetTrim c => Sys2Proof.Machine.execChGetTrim c s
  | .chTrimCtl c => Sys2Proof.Machine.execChTrimCtl c s
  | .sensorConversion p readings => Sys2Proof.Machine.execSensorConversion p readings s
  | .thermalTrip p cause sensor => Sys2Proof.Machine.execThermalTrip p cause sensor s
  | .tripCoolRestart p => Sys2Proof.Machine.execTripCoolRestart p s
  | .trimSweepEval => Sys2Proof.Machine.execTrimSweepEval s
  | .termTrimMeasure p port lane targetP targetN => Sys2Proof.Machine.execTermTrimMeasure p port lane targetP targetN s
  | .trimSave p => Sys2Proof.Machine.execTrimSave p s
  | .atGetInfo c => Sys2Proof.Machine.execAtGetInfo c s
  | .atGetCert c => Sys2Proof.Machine.execAtGetCert c s
  | .atGetCsr c => Sys2Proof.Machine.execAtGetCsr c s
  | .atSetCert c => Sys2Proof.Machine.execAtSetCert c s
  | .atSetTrust c => Sys2Proof.Machine.execAtSetTrust c s
  | .atChallenge c => Sys2Proof.Machine.execAtChallenge c s
  | .atEnrol c => Sys2Proof.Machine.execAtEnrol c s
  | .atStageBegin c => Sys2Proof.Machine.execAtStageBegin c s
  | .atStageData c => Sys2Proof.Machine.execAtStageData c s
  | .atStageVerify c => Sys2Proof.Machine.execAtStageVerify c s
  | .atStageAbort c => Sys2Proof.Machine.execAtStageAbort c s
  | .atActivate c => Sys2Proof.Machine.execAtActivate c s
  | .atConfirm c => Sys2Proof.Machine.execAtConfirm c s
  | .atRollback c => Sys2Proof.Machine.execAtRollback c s
  | .atTileReload c => Sys2Proof.Machine.execAtTileReload c s
  | .atTileStageBegin c => Sys2Proof.Machine.execAtTileStageBegin c s
  | .atTileBoot c => Sys2Proof.Machine.execAtTileBoot c s
  | .atTileStageAbort c => Sys2Proof.Machine.execAtTileStageAbort c s
  | .tileLoadLockTimeout => Sys2Proof.Machine.execTileLoadLockTimeout s
  | .tileEnrolAndLoad chain position r => Sys2Proof.Machine.execTileEnrolAndLoad chain position r s
  | .nvProgramDone p ok => Sys2Proof.Machine.execNvProgramDone p ok s
  | .nvEraseDone p => Sys2Proof.Machine.execNvEraseDone p s
  | .activateRestart n => Sys2Proof.Machine.execActivateRestart n s
  | .activateResume => Sys2Proof.Machine.execActivateResume s
  | .healthConfirm => Sys2Proof.Machine.execHealthConfirm s
  | .healthWindowExpiry => Sys2Proof.Machine.execHealthWindowExpiry s
  | .porNAssert => Sys2Proof.Machine.execPorNAssert s
  | .porNRelease b => Sys2Proof.Machine.execPorNRelease b s
  | .perstAssert => Sys2Proof.Machine.execPerstAssert s
  | .perstRelease => Sys2Proof.Machine.execPerstRelease s
  | .supplyMonitorTrip rail => Sys2Proof.Machine.execSupplyMonitorTrip rail s
  | .supplyReturn b => Sys2Proof.Machine.execSupplyReturn b s
  | .vinPowerOn b => Sys2Proof.Machine.execVinPowerOn b s
  | .vinPowerOff => Sys2Proof.Machine.execVinPowerOff s
  | .clockSynthLock port => Sys2Proof.Machine.execClockSynthLock port s
  | .ledRailEnableSequence step => Sys2Proof.Machine.execLedRailEnableSequence step s
  | .watchdogExpiry p => Sys2Proof.Machine.execWatchdogExpiry p s
  | .blockError p port k => Sys2Proof.Machine.execBlockError p port k s
  | .peerBeatRegained => Sys2Proof.Machine.execPeerBeatRegained s
  | .inputLowWriteTimeout => Sys2Proof.Machine.execInputLowWriteTimeout s
  | .progressReply p src tag => Sys2Proof.Machine.execProgressReply p src tag s
  | .fomMeasurement p port lane fom => Sys2Proof.Machine.execFomMeasurement p port lane fom s

end Sys2Proof.Machine
end

