-- ==== Sys2Proof/Machine/Step.lean ====
section
/-!
DEFINITION. One step: the command at the front of the queue, or, on an empty queue, one nanosecond of the clocks (DESIGN CHOICE, log entry 2).
-/
namespace Sys2Proof.Machine

/-- A step: the front command's effect on the state with the queue's rest; on an empty queue the clocks count 1 ns.
DESIGN CHOICE, log entry 2; DESIGN CHOICE, log entry 80. -/
def step (s : State) : Host.Outcome State Fault Refusal :=
  match s.pending with
  | [] => .next (idle s)
  | c :: rest => exec c { s with pending := rest }

/-- The state with the command of a word put in front; no word spells a command, so the state itself.
DESIGN CHOICE, log entry 81. -/
def State.withFetchWord (s : State) (nbits w : Nat) : State :=
  match decodeTableWord nbits w with
  | some c => { s with pending := c :: s.pending }
  | none => s

end Sys2Proof.Machine
end

