-- ==== Sys2Proof/Safety.lean ====
section
/-!
DEFINITION. The terms in which claims are stated: when Porch accepts a command (R98), and the invariants of a run.
-/
namespace Sys2Proof.Safety

open Sys2Proof.Machine

/-- The Head takes and accepts an opcode's command addressed to itself: it is in service, its firmware runs, no earlier command
holds this one back (R83, R99), its arrival is the one that its doorbell stamped (R91), and every check of R98 passes. -/
abbrev HeadAccepts (o : OpSpec) (c : Cmd) (s : State) : Prop :=
  c.part = .head ∧ inService .head s = true ∧ firmwareGone s = false ∧ stamped o.opcode c s = c ∧ mustWait o.opcode c s = false ∧
    toHead c = true ∧ headErr o c s = none

/-- The Tile takes and accepts a command addressed to it that its link has delivered: it is in service, with fewer than eight
commands outstanding from that Head (R102), and every check of R98 passes. -/
abbrev TileAccepts (o : OpSpec) (c : Cmd) (s : State) : Prop :=
  c.part = .tile ∧ inService .tile s = true ∧ c.link = none ∧ toThisTile c s = true ∧
    (s.tile.po.outst.filter (fun e => sameHead e.src c.src)).length < 8 ∧ tileErr o c s = none

/-- The part that a command names accepts it. -/
abbrev Accepts (o : OpSpec) (c : Cmd) (s : State) : Prop := HeadAccepts o c s ∨ TileAccepts o c s

/-- What every step keeps: both memories in canonical form, the log within 65 536 records (R133), the Tile's records within 64
(R135), and every waiting command well formed. -/
structure Inv (s : State) : Prop where
  cellar : Memory.wf s.head.cl.mem = true
  tileMem : Memory.wf s.tile.at_.mem = true
  log : s.head.po.log.length ≤ 65536
  events : s.tile.po.events.length ≤ 64
  queue : s.pending.all Instr.wf = true

/-- The commands that a packet of a Graed link carries to the Head, for any packet that carries them. -/
def carried : Instr → Option (Option Via → Instr)
  | .tileReplyReceived r => some (fun v => .tileReplyReceived { r with via := v })
  | .tileEventReceived e => some (fun v => .tileEventReceived { e with via := v })
  | .paneAckReceived a => some (fun v => .paneAckReceived { a with via := v })
  | .replayReqReceived k fn => some (fun v => .replayReqReceived { k with via := v } fn)
  | .frameReportReceived r => some (fun v => .frameReportReceived { r with via := v })
  | .linkStateReceived m => some (fun v => .linkStateReceived { m with via := v })
  | .helloReceived h => some (fun v => .helloReceived { h with via := v })
  | .snapshotReceived x => some (fun v => .snapshotReceived { x with via := v })
  | .fwdCmdReceived f => some (fun v => .fwdCmdReceived { f with via := v })
  | .fwdAckReceived id => some (fun v => .fwdAckReceived { id with via := v })
  | .cutReceived fn count => some (fun v => .cutReceived { fn with via := v } count)
  | .digestReceived d => some (fun v => .digestReceived { d with via := v })
  | .roleReceived claim beat role => some (fun v => .roleReceived claim beat { role with via := v })
  | .passedReceived k => some (fun v => .passedReceived { k with via := v })
  | _ => none

/-- A port's receiver after it has accepted a packet (R350, R341): the next SEQ is expected, ACK is sent, and the packet's words
are freed. -/
def afterPacket (p : Part) (port : Nat) (k : GPkt) (s : State) : State :=
  freeRx p port k.cls k.len (emit p (.block port 0x55 [(k.seq.toNat : Nat), 0])
    (updPort p port (fun g => { g with seqExp := g.seqExp + 1, nakAt := none }) s))

/-! ## Traffic

What the link, `finish`, `post` and the forwarding of a command may change in passing, whatever else a command does: the outstanding
commands, the reply rings and sessions, the event log and the Tile's waiting records, the packets queued on the Graed ports, and
the record of what was sent. -/

/-- A queue but for its rings' contents. -/
def stillQueue (q : Queue) : Queue := { q with rqTail := 0, replies := [], unsignalled := 0, firstUnsig := 0, fullSince := none }

/-- A port but for its transmitter and what it tells the peer of packets received. -/
def stillPort (g : GlPort) : GlPort :=
  { g with
    txq := [], replayBuf := [], seqNext := 0, oldestSince := 0, bulkPassed := 0, ctlSent := [], cred := [], credShared := 0
    discards := 0, seqExp := 0, nakAt := none, freedTx := [] }

/-- The state but for its traffic. -/
def still (s : State) : State :=
  { s with
    head.po := { s.head.po with
      queues := s.head.po.queues.map stillQueue, sessions := s.head.po.sessions.map (fun x => { x with last := 0 })
      outst := [], log := [], nextSeq := 0, rateSec := 0, rates := [], logPending := [] }
    head.gl := s.head.gl.map stillPort, head.out := []
    tile.po := { s.tile.po with events := [], lost := 0, outst := [] }
    tile.gl := s.tile.gl.map stillPort, tile.out := [] }

/-- The commands that only report: their reply tells what the part holds, and nothing else comes of them. A read that draws
a free value, counts, clears or reads the stacks of Cellar is none of these. -/
def isReport : Instr → Bool
  | .poNop _ | .poGetInfo _ | .poEventRead _ | .mtGetTime _ | .mtGetTick _ | .mtGetPtp _ | .fyGetPort _ | .clGetInfo _
  | .plGetTile _ | .plGetLayer _ | .plFenceGet _ | .plGetPower _ | .plGetPixset _ | .plSigRead _ | .ppGetChain _
  | .glGetPort _ | .twGetStatus _ | .ldGetStatus _ | .ldRead _ | .lrRead _ | .lpGetStatus _ | .lpGetTrim _ | .lpGetDead _
  | .htGetCoef _ | .dwGetChannel _ | .auGetStatus _ | .chGetStatus _ | .chGetField _ | .chGetTrim _ | .atGetInfo _
  | .atGetCert _ | .atGetCsr _ | .atChallenge _ => true
  | _ => false

end Sys2Proof.Safety
end

