-- ==== Sys2Proof/Certificates/Slice0/Obligations.lean ====
section
/-!
DEFINITION. The statements for the provers. Those named …Complete say, for every command of a family, the next state that exec
answers and the conditions on the state and the operands alone under which it does; the state given is the whole of it, so that it
is the frame too. `Accepts` is R98 passed; `take` puts a command among the outstanding ones; `ok`, `refuse` and the like send its
final reply.
-/
open Sys2Proof Sys2Proof.Machine Sys2Proof.Safety

/-- An accepted CL_GET_INFO, CL_SET_FREQ, CL_TRAIN, CL_SELF_REFRESH, CL_GET_ERRORS, CL_SET_SCRUB or CL_INJECT_ERROR answers the next state written out for it: the reply with its fields, the frequency change or training started or queued, the stacks sent to self-refresh or back, the counts cleared, the scrub settings, the injection. -/
def Obligations.CellarCommandsComplete : Prop :=
  (∀ (c : Cmd) (s0 : State), Accepts specClGetInfo c s0 → exec (.clGetInfo c) s0 = .next (
    let s := take 0x0401 c s0
    let a := stackAt 0 s
    let b := stackAt 1 s
    let mask := (List.range 4).foldl (fun m k => m + (if recordValid k s then 2 ^ k else 0)) 0
    ok c 0x0401 (leBytes 1 s.head.cl.point ++ leBytes 1 s.head.cl.usable.toNat ++ leBytes 1 a.band ++ leBytes 1 b.band ++
      leBytes 1 (stackCode a.state) ++ leBytes 1 (stackCode b.state) ++ [0, 0] ++ leInt 2 a.temp ++ leInt 2 b.temp ++
      leBytes 1 mask ++ [0, 0, 0]) s)) ∧
  (∀ (c : Cmd) (s0 : State), Accepts specClSetFreq c s0 → exec (.clSetFreq c) s0 = .next (
    let s := take 0x0402 c s0
    if s.head.cl.op.isSome then { s with head.cl.queued := some (c, fld c.params 0 1) }
    else beginChange (some c) (fld c.params 0 1) s)) ∧
  (∀ (c : Cmd) (s0 : State), Accepts specClTrain c s0 → exec (.clTrain c) s0 = .next (
    let s := take 0x0403 c s0
    stopService { s with
      head.cl.op := some
        { cmd := some c, train := true, point := fld c.params 0 1, running := decide (fld c.params 0 1 = s.head.cl.point)
          back := if fld c.params 0 1 = s.head.cl.point then none else some s.head.cl.point } })) ∧
  (∀ (c : Cmd) (s0 : State), Accepts specClSelfRefresh c s0 → exec (.clSelfRefresh c) s0 = .next (
    let s := take 0x0404 c s0
    let mask := fld c.params 0 1 % 4
    let enter := fld c.params 1 1 = 1
    let go := fun (k : Nat) (t : Stack) =>
      if ¬ bit mask k then t
      else if enter then
        (if t.state = .active then { t with state := .srEntering, auto := false, exitCmd := false } else { t with auto := false })
      else match t.state with
        | .selfRefresh => { t with exitCmd := true }
        | .srEntering => { t with exitCmd := true, auto := false }
        | _ => t
    let s1 := updStack 1 (go 1) (updStack 0 (go 0) s)
    srReplies { s1 with head.cl.srWait := s1.head.cl.srWait ++ [(c, mask, decide enter)] })) ∧
  (∀ (c : Cmd) (s0 : State), Accepts specClGetErrors c s0 → exec (.clGetErrors c) s0 = .next (
    let s := take 0x0405 c s0
    let k := fld c.params 0 1
    let t := stackAt k s
    let s1 := if fld c.params 1 1 = 1 then
        updStack k (fun t => { t with ceCount := 0, ueCount := 0, ceAddr := 0, ueAddr := 0, stalls := 0 }) s
      else s
    ok c 0x0405 (leBytes 4 t.ceCount.toNat ++ leBytes 4 t.ueCount.toNat ++ leBytes 8 t.ceAddr ++ leBytes 8 t.ueAddr ++
      leBytes 4 t.stalls.toNat ++ zeros 4) s1)) ∧
  (∀ (c : Cmd) (s0 : State), Accepts specClSetScrub c s0 → exec (.clSetScrub c) s0 = .next (
    let s := take 0x0406 c s0
    ok c 0x0406 []
      (ceRate 1 (ceRate 0 { s with head.cl.scrubHours := fld c.params 0 1, head.cl.ceThr := fld c.params 2 2 })))) ∧
  (∀ (c : Cmd) (s0 : State), Accepts specClInjectError c s0 → exec (.clInjectError c) s0 = .next (
    let s := take 0x0407 c s0
    ok c 0x0407 [] { s with head.cl.inject := putKey s.head.cl.inject (fld c.params 0 8) (fld c.params 8 1) }))

/-- A request of its requester's class inside Cellar whose stacks serve is served at once, one to a stack that does not serve waits granule by granule, any other changes nothing; a BAR2 access below 0xA_0000_0000 reaches the Cellar as a class 3 request once the endpoint answers, one beyond reads 0; write-back, patrol scrub, a good temperature reading, training, frequency change and the steps of self-refresh each answer the next state written out, under the conditions named. -/
def Obligations.CellarEventsComplete : Prop :=
  (∀ (r : CellarReq) (s : State), inService .head s = true ∧ cellarReqWf r = true ∧ r.write = none ∧ isServed r.addr r.len s = true →
    exec (.cellarRequest r) s = .next (serveReq r s)) ∧
  (∀ (r : CellarReq) (d : List Byte) (s : State), inService .head s = true ∧ cellarReqWf r = true ∧ r.write = some d ∧ isServed r.addr d.length (applyUpsets r.upsets s) = true →
    exec (.cellarRequest r) s = .next (serveWrite r d (applyUpsets r.upsets s))) ∧
  (∀ (r : CellarReq) (s : State), inService .head s = true ∧ cellarReqWf r = false →
    exec (.cellarRequest r) s = .next (s)) ∧
  (∀ (r : CellarReq) (s : State), inService .head s = true ∧ cellarReqWf r = true ∧ r.write = none ∧ isServed r.addr r.len s = false →
    exec (.cellarRequest r) s = .next ((pieces r.addr r.len).foldl (fun t g => if isServing (stackOf g.1 t) t then serveReq (pieceOf r g) t else queueReq (stackOf g.1 t) (pieceOf r g) t) s)) ∧
  (∀ (r : CellarReq) (d : List Byte) (s : State), inService .head s = true ∧ cellarReqWf r = true ∧ r.write = some d ∧ isServed r.addr d.length (applyUpsets r.upsets s) = false →
    exec (.cellarRequest r) s = .next ((pieces r.addr d.length).foldl (fun t g => let q := pieceOf { r with write := some d, upsets := [] } g; if isServing (stackOf g.1 t) t then serveWrite q (q.write.getD []) t else queueReq (stackOf g.1 t) q t) (applyUpsets r.upsets s))) ∧
  (∀ (a : Nat) (s : State), inService .head s = true ∧ s.head.cl.writeBack.contains (wordOf a) = true ∧ isServed (wordOf a) 8 s = true →
    exec (.ceWriteback a) s = .next (injectWord (wordOf a) (setFlips (wordOf a) [] (touch (wordOf a) 8 { s with head.cl.writeBack := s.head.cl.writeBack.filter (· ≠ wordOf a) })))) ∧
  (∀ (a : Nat) (s : State), inService .head s = true ∧ s.head.cl.writeBack.contains (wordOf a) = false →
    exec (.ceWriteback a) s = .next (s)) ∧
  (∀ (w : Nat) (s : State), inService .head s = true ∧ s.head.cl.scrubEn = true ∧ s.head.cl.scrubHours ≠ 0 ∧ isServed s.head.cl.scrubPtr (min (8 * w) (0xC00000000 - s.head.cl.scrubPtr)) s = true →
    exec (.patrolScrub w) s = .next ((let n := min (8 * w) (0xC00000000 - s.head.cl.scrubPtr); { (readNow 4 s.head.cl.scrubPtr n s).2.2 with head.cl.scrubPtr := if 0xC00000000 ≤ s.head.cl.scrubPtr + n then 0 else s.head.cl.scrubPtr + n }))) ∧
  (∀ (k : Nat) (t : Int) (s : State), inService .head s = true ∧ -640 ≤ t ∧ t ≤ 2400 →
    exec (.stackTempRead k (some t)) s = .next ((let band := bandFor (stackAt k s).band t; let s1 := updStack k (fun x => { x with band := band, temp := t }) s; if band ≠ (stackAt k s).band then post .head 0x04 1 0x0003 (BitVec.ofNat 32 (k + 256 * band)) 0 s1 else s1))) ∧
  (∀ (o : ClOp) (s : State), inService .head s = true ∧ s.head.cl.op = some o ∧ o.running = true ∧ o.train = true ∧ o.cmd.isSome = true ∧ o.back = none →
    exec (.trainingComplete none) s = .next ((let r : TrainRec := { temp0 := (stackAt 0 s).temp, temp1 := (stackAt 1 s).temp, serial := s.head.sys.serial }; let s1 := writeSettings .head [(keyTrain, o.point, trainBytes r)] none { s with head.cl.records := upd s.head.cl.records o.point (fun _ => some r) }; endOp (opReply o.cmd 0x0403 (if o.sensor then stFailed else stOk) 0x0003 (post .head 0x04 0 0x0005 (BitVec.ofNat 32 o.point) 0 s1))))) ∧
  (∀ (o : ClOp) (pc : Nat) (s : State), inService .head s = true ∧ s.head.cl.op = some o ∧ o.running = true ∧ o.cmd.isSome = true ∧ o.back = none →
    exec (.trainingComplete (some pc)) s = .next (endOp (opReply o.cmd (if o.train then 0x0403 else 0x0402) stFailed 0x0002 (post .head 0x04 3 0x0006 (BitVec.ofNat 32 (o.point + 256 * pc)) 0 { s with head.cl.usable := s.head.cl.usable &&& ~~~(1#4 <<< o.point) })))) ∧
  (∀ (o : ClOp) (n : Nat) (s : State), inService .head s = true ∧ s.head.cl.op = some o ∧ o.running = false ∧ o.train = false →
    exec (.freqChangeComplete n) s = .next (endOp (opReply o.cmd 0x0402 (if o.sensor then stFailed else stOk) 0x0003 (post .head 0x04 1 0x0007 (BitVec.ofNat 32 (s.head.cl.point + 256 * o.point)) (BitVec.ofNat 64 n) { s with head.cl.point := o.point })))) ∧
  (∀ (k : Nat) (s : State), inService .head s = true ∧ s.head.cl.autoSr = true ∧ ¬ ticksRun s ∧ (stackAt k s).state = .active ∧ (stackAt k s).lastReq + 1000 * s.head.cl.idleUs.toNat ≤ s.now →
    exec (.srAutoEntry k) s = .next (updStack k (fun t => { t with state := .srEntering, auto := true, exitCmd := false }) s)) ∧
  (∀ (k : Nat) (s : State), inService .head s = true ∧ (stackAt k s).state = .srEntering ∧ ((stackAt k s).auto = false ∨ isIdleStack k s = true) →
    exec (.srPointOfNoReturn k) s = .next (srReplies (post .head 0x04 0 0x0008 (BitVec.ofNat 32 k) 0 (updStack k (fun t => { t with state := .selfRefresh, enteredAt := s.now, auto := false, fullPosted := false }) s)))) ∧
  (∀ (k : Nat) (s : State), inService .head s = true ∧ (stackAt k s).state = .srEntering ∧ (stackAt k s).auto = true ∧ isIdleStack k s = false →
    exec (.srPointOfNoReturn k) s = .next (updStack k (fun t => { t with state := if s.head.cl.op.isSome then .training else .active, auto := false }) s)) ∧
  (∀ (k : Nat) (s : State), inService .head s = true ∧ (stackAt k s).state = .selfRefresh ∧ (stackAt k s).enteredAt + 2000 ≤ s.now ∧ ((stackAt k s).exitCmd = true ∨ ¬ (stackAt k s).queue.isEmpty) →
    exec (.srExit k) s = .next (updStack k (fun t => { t with state := .srExiting, forced := !t.queue.isEmpty }) s)) ∧
  (∀ (k : Nat) (s : State), inService .head s = true ∧ (stackAt k s).state = .srExiting →
    exec (.srExitComplete k) s = .next (backInService k (post .head 0x04 0 0x0009 (BitVec.ofNat 32 (k + 256 * b2n (stackAt k s).forced)) 0 (updStack k (fun t => { t with state := if s.head.cl.op.isSome then .training else .active, exitCmd := false, lastReq := s.now }) s)))) ∧
  (∀ (a : Bar2) (s : State), inService .head s = true ∧ configAnswer s = .normal ∧ (match a.write with | some d => d.length | none => a.len) + a.offset ≤ 0xA00000000 ∧ a.offset < 0xA00000000 →
    exec (.bar2Access a) s = .next (submitReq { cls := 3, req := .bar2, addr := a.offset, write := a.write, len := match a.write with | some d => d.length | none => a.len } s)) ∧
  (∀ (a : Bar2) (s : State), inService .head s = true ∧ configAnswer s = .normal ∧ 0xA00000000 ≤ a.offset →
    exec (.bar2Access a) s = .next ((let s2 := post .head 0x04 2 0x000B 0 (BitVec.ofNat 64 a.offset) s; match a.write with | some _ => s2 | none => emit .head (.cellar .bar2 a.offset (zeros a.len) []) s2)))

/-- An accepted composition opcode answers the next state written out: canvas, Tile map, power group and refresh changes are submitted under R216, a PL_COMMIT is submitted or held on its fences, a fence is signalled, a lease guard is set, and the GET and READ opcodes reply with the fields named. -/
def Obligations.ParlourCommandsComplete : Prop :=
  (∀ (c : Cmd) (s0 : State), Accepts specPlSetCanvas c s0 → exec (.plSetCanvas c) s0 = .next (
    let s := take 0x0501 c s0
    submitPlain c 0x0501 (canvasChange c.params) s)) ∧
  (∀ (c : Cmd) (s0 : State), Accepts specPlSetTile c s0 → exec (.plSetTile c) s0 = .next (
    let s := take 0x0502 c s0
    submitPlain c 0x0502 (tileChange c.params) s)) ∧
  (∀ (c : Cmd) (s0 : State), Accepts specPlGetTile c s0 → exec (.plGetTile c) s0 = .next (
    let s := take 0x0503 c s0
    let e := tileMap s.head.pl.shown (tIndex (fld c.params 0 1) (fld c.params 1 1))
    ok c 0x0503 (leBytes 1 (fld c.params 0 1) ++ leBytes 1 (fld c.params 1 1) ++ leBytes 1 e.rot ++ leBytes 1 (b2n e.enable) ++
      leBytes 2 e.x ++ leBytes 2 e.y ++ leInt 1 e.offX ++ leInt 1 e.offY ++ leBytes 1 e.group ++ [0]) s)) ∧
  (∀ (c : Cmd) (s0 : State), Accepts specPlCommit c s0 → exec (.plCommit c) s0 = .next (
    let s := take 0x0504 c s0
    let run := ticksRun s
    let w : Waiting :=
      { cmd := c, id := s.head.pl.commitId + 1, seq := s.head.pl.seq, entries := (parseEntries c.params).map Prod.snd, rel := !run
        limit := if run then frameInView s.head.mt c.arrival + 1024 else 1024 }
    let s1 := nextSeq { s with head.pl.commitId := w.id }
    if fencesReached w.entries s then fixCommit w s1
    else holdLeases w { s1 with head.pl.waiting := s1.head.pl.waiting ++ [w] })) ∧
  (∀ (c : Cmd) (s0 : State), Accepts specPlGetLayer c s0 → exec (.plGetLayer c) s0 = .next (
    let s := take 0x0505 c s0
    let n := fld c.params 0 1
    let sc := if fld c.params 1 1 = 0 then s.head.pl.shown
      else if ticksRun s then sceneFor (nextFrame s.head.mt (wall s.head.mt)) s else s.head.pl.base
    ok c 0x0505 (layerBytes n (sc.layers.getD n {}) ++ leBytes 1 (b2n (isLive n s)) ++
      leBytes 1 ((streamOf n s).getD 0xFF) ++ [0, 0]) s)) ∧
  (∀ (c : Cmd) (s0 : State), Accepts specPlFenceSignal c s0 → exec (.plFenceSignal c) s0 = .next (
    let s := take 0x0506 c s0
    ok c 0x0506 [] (signalFence (fld c.params 0 1) (BitVec.ofNat 32 (fld c.params 4 4)) c.arrival s))) ∧
  (∀ (c : Cmd) (s0 : State), Accepts specPlFenceGet c s0 → exec (.plFenceGet c) s0 = .next (
    let s := take 0x0507 c s0
    let f := fld c.params 0 1
    ok c 0x0507 (leBytes 4 (s.head.pl.fences.getD f 0).toNat ++ leBytes 2 (s.head.pl.waiting.filter (waitsOn f s)).length ++ [0, 0]) s)) ∧
  (∀ (c : Cmd) (s0 : State), Accepts specPlLeaseGuard c s0 → exec (.plLeaseGuard c) s0 = .next (
    let s := take 0x0508 c s0
    ok c 0x0508 [] { s with
      head.fy.surfaces := s.head.fy.surfaces.map (fun x =>
        if x.1 = fld c.params 0 2 then (x.1, { x.2 with guarded := fld c.params 2 1 == 1 }) else x) })) ∧
  (∀ (c : Cmd) (s0 : State), Accepts specPlSetPowerGroup c s0 → exec (.plSetPowerGroup c) s0 = .next (
    let s := take 0x0509 c s0
    submitPlain c 0x0509 (groupChange c.params) s)) ∧
  (∀ (c : Cmd) (s0 : State), Accepts specPlGetPower c s0 → exec (.plGetPower c) s0 = .next (
    let s := take 0x050A c s0
    let g := s.head.pl.govs.getD (fld c.params 0 1) {}
    ok c 0x050A (leBytes 1 g.q ++ zeros 3 ++ leBytes 4 g.dMw ++ leBytes 4 g.predMw ++ leBytes 4 g.fn.toNat) s)) ∧
  (∀ (c : Cmd) (s0 : State), Accepts specPlRefresh c s0 → exec (.plRefresh c) s0 = .next (
    let s := take 0x050B c s0
    submitPlain c 0x050B (refreshChange c.params) s)) ∧
  (∀ (c : Cmd) (s0 : State), Accepts specPlPaneRead c s0 → exec (.plPaneRead c) s0 = .next (
    let s := take 0x050C c s0
    let p := c.params
    let k : PaneKey := { chain := fld p 0 1, position := fld p 1 1, pane := fld p 2 1, slot := fld p 3 1 }
    let h := clRead 3 (headerAddr k (fld p 4 1)) 16 s
    let r := clRead 3 (contentAddr k (fld p 4 1) + 2880 * fld p 5 1) 2880 h.2.2
    ok c 0x050C (h.1 ++ r.1) r.2.2))

/-- A PL_COMMIT held past its limit fails with reason 0x0002 and PL_FENCE_TIMEOUT is posted; a composition and a power pass of a due pane run; leases that are due end; a retirement leaves by the reply ring when it has room. -/
def Obligations.ParlourEventsComplete : Prop :=
  (∀ (id : Word) (w : Waiting) (s : State), inService .head s = true ∧ s.head.pl.waiting.find? (fun w => w.id == id) = some w ∧ limitPassed w (wall s.head.mt) s = true →
    exec (.plFenceTimeout id) s = .next (expireCommit w { s with head.pl.waiting := s.head.pl.waiting.erase w })) ∧
  (∀ (k : PaneKey) (n : Nat) (r : FrameRec) (w : Nat) (s : State), inService .head s = true ∧ s.head.pl.openFrame ≠ some n ∧ recOf n s = some r ∧ passesLeft s = false ∧ nextContent r s = some k ∧ versionFor k r.n s = some w →
    exec (.paneComposeDone k n false) s = .next (compose r.scene k r.n w true (r.live.contains k) s)) ∧
  (∀ (k : PaneKey) (n : Nat) (r : FrameRec) (w : Nat) (s : State), inService .head s = true ∧ s.head.pl.openFrame ≠ some n ∧ recOf n s = some r ∧ nextPass r s = some k ∧ versionFor k r.n s = some w →
    exec (.paneComposeDone k n true) s = .next (powerPass r.scene k r.n w (r.live.contains k) s)) ∧
  (∀ (a b : Nat) (s : State), inService .head s = true →
    exec (.leaseRetire a b) s = .next ((s.head.pl.leases.filter (fun l => (l.surface == a && l.layer == b) && leaseDue l s)).foldl (fun t l => endLease l t) s)) ∧
  (∀ (q : Nat) (r : Retire) (s : State), inService .head s = true ∧ s.head.pl.retires.find? (fun x => x.src == .queue q) = some r ∧ takesRetire (.queue q) s = true ∧ rqFits (queueAt q s) (slotsFor 20) = true →
    exec (.plRetire { src := .queue q }) s = .next (ringWrite q (retireReply r) { s with head.pl.retires := s.head.pl.retires.erase r })) ∧
  (∀ (src : Source) (c : Cmd) (s : State), HeadAccepts { specPlRetire with role := fun _ _ => none } c s →
    exec (.plRetire { src := src, cmd := some c }) s = .next (refuse c 0x050D { status := stDenied } (take 0x050D c s)))

/-- An accepted pixel-path opcode answers the next state written out: coefficients, tone tables and pixel sets go to the staging data, PL_PP_APPLY, the slot map, signature windows and expectations are submitted with a fresh COMMIT_ID, and the reads reply with the shown or staged data. -/
def Obligations.PixelCommandsComplete : Prop :=
  (∀ (c : Cmd) (s0 : State), Accepts specPlSetCoef c s0 → exec (.plSetCoef c) s0 = .next (
    let s := take 0x0601 c s0
    let p := c.params
    let l := signed16s p 4 (if fld p 1 1 = 0 then 512 else 384)
    let put := fun (k : CoefSets) =>
      if fld p 1 1 = 0 then { k with h := upd k.h (fld p 2 1) (fun _ => some l) }
      else { k with v := upd k.v (fld p 2 1) (fun _ => some l) }
    okFwd c 0x0601 [] { s with head.pl.stageCoef := upd s.head.pl.stageCoef (fld p 0 1) put })) ∧
  (∀ (c : Cmd) (s0 : State), Accepts specPlSetTone c s0 → exec (.plSetTone c) s0 = .next (
    let s := take 0x0602 c s0
    let p := c.params
    let new := (List.range 512).map (fun i => fld p (4 + 4 * i) 3)
    let put := fun (k : PixSet) =>
      let old := toneList k (fld p 1 1)
      let t := if fld p 2 1 = 0 then new ++ old.drop 512 else old.take 512 ++ new
      { k with tones := upd k.tones (fld p 1 1) (fun _ => some t) }
    okFwd c 0x0602 [] { s with head.pl.stagePix := upd s.head.pl.stagePix (fld p 0 1) put })) ∧
  (∀ (c : Cmd) (s0 : State), Accepts specPlSetPixset c s0 → exec (.plSetPixset c) s0 = .next (
    let s := take 0x0603 c s0
    let p := c.params
    okFwd c 0x0603 [] { s with
      head.pl.stagePix := upd s.head.pl.stagePix (fld p 0 1) (fun k =>
        { k with knee := fld p 4 4, m709 := signed16s p 8 9, m2020 := signed16s p 26 9 }) })) ∧
  (∀ (c : Cmd) (s0 : State), Accepts specPlPpApply c s0 → exec (.plPpApply c) s0 = .next (
    let s := take 0x0604 c s0
    submitId c 0x0604 (fun _ => applySets c.params s) s)) ∧
  (∀ (c : Cmd) (s0 : State), Accepts specPlGetPixset c s0 → exec (.plGetPixset c) s0 = .next (
    let s := take 0x0605 c s0
    let k := (if fld c.params 1 1 = 0 then s.head.pl.shown.pix else s.head.pl.stagePix).getD (fld c.params 0 1) {}
    ok c 0x0605 (leBytes 4 k.knee ++ k.m709.flatMap (leInt 2) ++ k.m2020.flatMap (leInt 2) ++ zeros 4 ++
      leBytes 4 (toneCrc k 0) ++ leBytes 4 (toneCrc k 1) ++ leBytes 4 (toneCrc k 2)) s)) ∧
  (∀ (c : Cmd) (s0 : State), Accepts specPlSetSlotmap c s0 → exec (.plSetSlotmap c) s0 = .next (
    let s := take 0x0606 c s0
    submitId c 0x0606 (fun _ => slotChange c.params) s)) ∧
  (∀ (c : Cmd) (s0 : State), Accepts specPlSigSet c s0 → exec (.plSigSet c) s0 = .next (
    let s := take 0x0607 c s0
    submitId c 0x0607 (fun _ => sigChange c.params) s)) ∧
  (∀ (c : Cmd) (s0 : State), Accepts specPlSigExpect c s0 → exec (.plSigExpect c) s0 = .next (
    let s := take 0x0608 c s0
    submitId c 0x0608 (fun _ => expectChange c.params) s)) ∧
  (∀ (c : Cmd) (s0 : State), Accepts specPlSigRead c s0 → exec (.plSigRead c) s0 = .next (
    let s := take 0x0609 c s0
    let w := fld c.params 0 1
    let sc := s.head.pl.shown
    let slots := match s.head.mt.lastN with | some n => slotsOf n s | none => 4
    let all := (enabledTiles sc).flatMap (fun x => (List.range 135).flatMap (fun p => (List.range slots).filterMap (fun k =>
      let key : PaneKey := { chain := x.1 / 16, position := x.1 % 16 + 1, pane := p, slot := k }
      if guards sc w key then some key else none)))
    let out := (all.drop (fld c.params 2 2)).take 500
    ok c 0x0609 (leBytes 4 ((s.head.mt.lastN.getD 0)) ++ leBytes 2 all.length ++ leBytes 2 out.length ++
      out.flatMap (fun k => leBytes 1 k.chain ++ leBytes 1 k.position ++ leBytes 1 k.pane ++ leBytes 1 k.slot ++
        leBytes 4 (match shownVer k s with | some v => v.crc.toNat | none => 0))) s))

/-- An accepted GL_GET_PORT, GL_SET_PORT, GL_RETRAIN, GL_TEST or GL_CLEAR_COUNTERS answers the next state written out, at the Head and at the Tile. -/
def Obligations.GraedCommandsComplete : Prop :=
  (∀ (c : Cmd) (s0 : State), Accepts specGlGetPort c s0 → exec (.glGetPort c) s0 = .next (
    let s := take 0x0801 c s0
    let g := portAt c.part (fld c.params 0 1) s
    ok c 0x0801 (leBytes 4 (glCtl g) ++ leBytes 4 (glStatus g) ++ leBytes 4 (glFom g) ++ leBytes 4 (glMap g) ++
      leBytes 4 g.blockErrors.toNat ++ leBytes 4 g.replays.toNat ++ leBytes 4 g.retrains.toNat ++
      leBytes 4 g.abortsRx.toNat ++ leBytes 4 g.discards.toNat ++ leBytes 4 (glSeq g)) s)) ∧
  (∀ (c : Cmd) (s0 : State), Accepts specGlSetPort c s0 → exec (.glSetPort c) s0 = .next (
    let s := take 0x0802 c s0
    let p := c.params
    let k := fld p 0 1
    let s1 := updPort c.part k (fun g =>
      { g with
        eqFixed := bit (fld p 1 1) 1, rateMax := fld p 2 1, laneEn := BitVec.ofNat 4 (fld p 3 1), txPreset := fld p 4 1,
        fomMin := fld p 5 1, replayToUs := fld p 6 1 }) s
    ok c 0x0802 [] (setPortEn c.part k (bit (fld p 1 1) 0) s1))) ∧
  (∀ (c : Cmd) (s0 : State), Accepts specGlRetrain c s0 → exec (.glRetrain c) s0 = .next (
    let s := take 0x0803 c s0
    let k := fld c.params 0 1
    if fld c.params 1 1 = 0 then
      waitRetrain c.part k c (if (portAt c.part k s).state = .active then toRetrain c.part k 3 s else s)
    else
      let s1 := fullBringUp c.part k s
      if (portAt c.part k s1).state = .hold then failed c 0x0803 0x0001 0 s1 else waitRetrain c.part k c s1)) ∧
  (∀ (c : Cmd) (s0 : State), Accepts specGlTest c s0 → exec (.glTest c) s0 = .next (
    let s := take 0x0804 c s0
    let k := fld c.params 0 1
    if fld c.params 2 1 = 0 then stopTests c k (fld c.params 1 1) s
    else
      let t : GlTest :=
        { cmd := c, lane := fld c.params 1 1, mode := fld c.params 2 1, ends := s.now + 1000000 * fld c.params 4 4 }
      setGlWait c.part { glWaitOf c.part s with tests := (glWaitOf c.part s).tests ++ [(k, t)] } s)) ∧
  (∀ (c : Cmd) (s0 : State), Accepts specGlClearCounters c s0 → exec (.glClearCounters c) s0 = .next (
    let s := take 0x0805 c s0
    let k := fld c.params 0 1
    let s1 := if k = 0xFF then (match c.part with
        | .head => { s with head.gl := s.head.gl.map clearCounters }
        | .tile => { s with tile.gl := s.tile.gl.map clearCounters })
      else updPort c.part k clearCounters s
    ok c 0x0805 [] s1))

/-- A port is enabled from DISABLED and disabled from any other state; the eighth training frame that was detected leads from DETECT to TRAIN, TRAIN times out into LOCK on the lanes that are ready and into DETECT when none is, block lock leads from LOCK to CAPS, the first CAPS are counted, the eighth acknowledged ones make the port ACTIVE, a mismatched peer holds it, LOCK and CAPS time out to DETECT, HOLD ends, a figure of merit is taken, and a finished test answers GL_TEST. -/
def Obligations.GraedBringUpEventsComplete : Prop :=
  (∀ (p : Part) (k b e : Nat) (x : Nat × GlTest) (s : State), inService p s = true ∧ (glWaitOf p s).tests.find? (fun e => e.1 == k && e.2.ends ≤ s.now) = some x →
    exec (.glTestDone p k b e) s = .next (ok x.2.cmd 0x0804 (leBytes 8 b ++ leBytes 8 e) (setGlWait p { glWaitOf p s with tests := (glWaitOf p s).tests.erase x } s))) ∧
  (∀ (p : Part) (k : Nat) (s : State), inService p s = true ∧ (portAt p k s).state = .active →
    exec (.glPortCtlRetrain p k) s = .next (toRetrain p k 3 s)) ∧
  (∀ (p : Part) (k : Nat) (s : State), inService p s = true ∧ (portAt p k s).state = .disabled ∧ k < portCount p s →
    exec (.glPortEnable p k) s = .next (updPort p k (fun g => { toDetect s.now g with en := true, fellBack := none, fails := 0 }) s)) ∧
  (∀ (p : Part) (k : Nat) (s : State), inService p s = true ∧ k < portCount p s ∧ (portAt p k s).state ≠ .disabled →
    exec (.glPortDisable p k) s = .next (portDisable p k s)) ∧
  (∀ (p : Part) (k : Nat) (f : TrainFrame) (s : State), inService p s = true ∧ (portAt p k s).state = .detect ∧ f.check = frameCheck f ∧ f.detected = true ∧ f.lane < (portAt p k s).lanes.length ∧ ((portAt p k s).lanes.getD f.lane {}).detFrames = 7 →
    ∃ t, exec (.trainingFrameReceived p k f) s = .next t ∧ (portAt p k t).state = .train ∧ (portAt p k t).since = s.now ∧ (portAt p k t).rate = trainRate (portAt p k s) f.rateMax) ∧
  (∀ (p : Part) (k : Nat) (s : State), inService p s = true ∧ (portAt p k (expireRetrains p s)).state = .train ∧ (portAt p k (expireRetrains p s)).since + 4000000 ≤ (expireRetrains p s).now ∧ (portAt p k (expireRetrains p s)).fails + 1 < 3 ∧ ((laneList (portAt p k (expireRetrains p s)).laneUse).filter (fun i => ((portAt p k (expireRetrains p s)).lanes.getD i {}).readyHere && ((portAt p k (expireRetrains p s)).lanes.getD i {}).readyPeer)) = [] →
    exec (.trainTimeout p k) s = .next ((let s1 := expireRetrains p s; updPort p k (fun g => { toDetect s1.now g with fails := g.fails + 1 }) s1))) ∧
  (∀ (p : Part) (k : Nat) (r : List Nat) (s : State), inService p s = true ∧ (portAt p k (expireRetrains p s)).state = .train ∧ (portAt p k (expireRetrains p s)).since + 4000000 ≤ (expireRetrains p s).now ∧ ((laneList (portAt p k (expireRetrains p s)).laneUse).filter (fun i => ((portAt p k (expireRetrains p s)).lanes.getD i {}).readyHere && ((portAt p k (expireRetrains p s)).lanes.getD i {}).readyPeer)) = r ∧ r ≠ [] →
    exec (.trainTimeout p k) s = .next ((let s1 := expireRetrains p s; updPort p k (fun g => { g with state := .lock, since := s1.now, laneActive := BitVec.ofNat 4 (r.foldl (fun a i => a + 2 ^ i) 0), lanes := g.lanes.mapIdx (fun i l => if r.contains i then l else { l with outSince := some s1.now }) }) s1))) ∧
  (∀ (p : Part) (k : Nat) (l : List (BitVec 64)) (s : State), inService p s = true ∧ (portAt p k s).state = .lock →
    exec (.blockLock p { port := k, last := l }) s = .next (sendCaps p k (updPort p k (fun x => { x with state := .caps, since := s.now, lanes := x.lanes.mapIdx (fun i y => if x.laneActive.getLsbD i then { y with lock := true, descr := (descramble y.descr (l.getD i 0)).2 } else y) }) s))) ∧
  (∀ (p : Part) (k : Nat) (l : List (BitVec 64)) (s : State), inService p s = true ∧ (portAt p k s).state = .retrain ∧ (portAt p k s).sub = 1 →
    exec (.blockLock p { port := k, last := l }) s = .next (sendCaps p k (updPort p k (fun x => { x with sub := 2, lanes := x.lanes.mapIdx (fun i y => if x.laneActive.getLsbD i then { y with lock := true, descr := (descramble y.descr (l.getD i 0)).2 } else y) }) s))) ∧
  (∀ (p : Part) (k : Nat) (s : State), inService p s = true ∧ (portAt p k s).state = .lock ∧ (portAt p k s).since + 1000000 ≤ s.now →
    exec (.lockTimeout p k) s = .next (updPort p k (toDetect s.now) s)) ∧
  (∀ (p : Part) (k : Nat) (c : Caps) (s : State), inService p s = true ∧ (portAt p k s).state = .caps ∧ (portAt p k s).lastCaps = none ∧ pairingValid p k c s = true →
    exec (.capsReceived p k c) s = .next (updPort p k (fun _ => { portAt p k s with lastCaps := some c, capsSame := 1, ackSame := if c.acked then 1 else 0 }) s)) ∧
  (∀ (p : Part) (k : Nat) (c : Caps) (s : State), inService p s = true ∧ (portAt p k s).state = .caps ∧ (portAt p k s).lastCaps = none ∧ pairingValid p k c s = false →
    exec (.capsReceived p k c) s = .next ((let s1 := updPort p k (fun _ => { portAt p k s with lastCaps := some c, capsSame := 1, ackSame := if c.acked then 1 else 0 }) s; endRetrainCmds p k false (post p 0x08 3 0x0007 (portDet k) (BitVec.ofNat 64 (c.version + 16 * b2n c.isTile + 32 * b2n c.headB + 64 * c.pair + 512 * c.port + 32768 * c.rate + 131072 * c.lanes + 524288 * b2n c.acked)) (updPort p k (fun g => { toHold s.now .mismatch g with peer := some c }) s1))))) ∧
  (∀ (k : Nat) (c : Caps) (s : State), inService .tile s = true ∧ (portAt .tile k s).state = .caps ∧ (portAt .tile k s).lastCaps = some c ∧ c.acked = true ∧ 8 ≤ (portAt .tile k s).capsSame ∧ 7 ≤ (portAt .tile k s).ackSame ∧ pairingValid .tile k c s = true →
    exec (.capsReceived .tile k c) s = .next ((let s1 := updPort .tile k (fun _ => { portAt .tile k s with lastCaps := some c, capsSame := (portAt .tile k s).capsSame + 1, ackSame := (portAt .tile k s).ackSame + 1 }) s; let s2 := toActive .tile k (updPort .tile k (fun g => { g with peer := some c }) s1); setMt .tile { mtOf .tile s2 with ports := upd (mtOf .tile s2).ports k (fun t => { t with v1 := decide (c.version = 1) }) } s2))) ∧
  (∀ (p : Part) (k : Nat) (s : State), inService p s = true ∧ (portAt p k s).state = .caps ∧ (portAt p k s).since + 1000000 ≤ s.now →
    exec (.capsTimeout p k) s = .next (updPort p k (toDetect s.now) s)) ∧
  (∀ (p : Part) (k : Nat) (s : State), inService p s = true ∧ (portAt p k s).state = .hold ∧ (portAt p k s).since + (match (portAt p k s).holdCause with | .mismatch => 100000000 | .training => 1000000000 | _ => 10000000000) ≤ s.now →
    exec (.holdExpiry p k) s = .next (updPort p k (fun g => if g.holdCause = .training then { toDetect s.now g with fellBack := none, fails := 0 } else toDetect s.now g) s)) ∧
  (∀ (p : Part) (k l f : Nat) (s : State), inService p s = true ∧ (portAt p k s).fomMin + 16 ≤ f →
    exec (.fomMeasurement p k l f) s = .next (updPort p k (fun g => { g with lanes := upd g.lanes l (fun x => { x with fom := f, fomLowSince := if f + 16 < g.fomMin then some (x.fomLowSince.getD s.now) else none }) }) s)) ∧
  (∀ (p : Part) (k l f : Nat) (s : State), inService p s = true ∧ (portAt p k s).state = .active ∧ (portAt p k s).laneActive.getLsbD l = true ∧ f < (portAt p k s).fomMin + 16 ∧ ((portAt p k s).lanes.getD l {}).fomLowAt = none →
    exec (.fomMeasurement p k l f) s = .next (post p 0x08 2 0x0008 (BitVec.ofNat 32 (k + 256 * l + 65536 * f)) 0 (updPort p k (fun g => { g with lanes := upd g.lanes l (fun x => { x with fom := f, fomLowAt := some s.now, fomLowSince := if f + 16 < g.fomMin then some (x.fomLowSince.getD s.now) else none }) }) s)))

/-- On an ACTIVE port a retrain request enters RETRAIN, a failed lane is dropped or the port retrains when it was the last, a lane set of the far end is taken and answered, a dropped lane comes back after its timer, ACK and NAK move the replay buffer, and credits are taken and lead to sending; a port in RETRAIN times out after 2 ms. -/
def Obligations.GraedLinkEventsComplete : Prop :=
  (∀ (p : Part) (k c : Nat) (s : State), inService p s = true ∧ (portAt p k s).state = .active ∧ c < 4 →
    exec (.retrainReqReceived p k c) s = .next (toRetrain p k 2 s)) ∧
  (∀ (p : Part) (k : Nat) (s : State), inService p s = true ∧ (portAt p k s).state = .retrain ∧ (portAt p k s).since + 2000000 ≤ s.now →
    exec (.retrainTimeout p k) s = .next (linkDown p k 0 s)) ∧
  (∀ (p : Part) (k l c : Nat) (s : State), inService p s = true ∧ (portAt p k s).state = .active ∧ (portAt p k s).laneActive.getLsbD l = true ∧ laneFails s.now c ((portAt p k s).lanes.getD l {}) = true ∧ (portAt p k s).laneActive &&& ~~~(1#4 <<< l) ≠ 0 →
    exec (.laneFail p k l c) s = .next ((let m := (portAt p k s).laneActive &&& ~~~(1#4 <<< l); laneChanged p k (sendLaneSet p k m (nakNow p k (post p 0x08 2 0x0003 (BitVec.ofNat 32 (k + 256 * l)) (BitVec.ofNat 64 c) (updPort p k (fun g => { g with laneActive := m, laneDropped := true, laneReplay := true, lanes := upd g.lanes l (fun x => { x with lock := false, outSince := some s.now }) }) s))))))) ∧
  (∀ (p : Part) (k l c : Nat) (s : State), inService p s = true ∧ (portAt p k s).state = .active ∧ (portAt p k s).laneActive.getLsbD l = true ∧ laneFails s.now c ((portAt p k s).lanes.getD l {}) = true ∧ (portAt p k s).laneActive &&& ~~~(1#4 <<< l) = 0 →
    exec (.laneFail p k l c) s = .next (toRetrain p k 1 s)) ∧
  (∀ (p : Part) (k : Nat) (m : BitVec 4) (c : Nat) (s : State), inService p s = true ∧ (portAt p k s).state = .active ∧ c < 3 ∧ m ≠ (portAt p k s).laneActive ∧ m ≠ 0 →
    exec (.laneSetReceived p k m c) s = .next ((let g := portAt p k s; let added := laneList (m &&& ~~~g.laneActive); let gone := laneList (g.laneActive &&& ~~~m); let s1 := updPort p k (fun x => { x with laneActive := m, laneDropped := x.laneDropped || !gone.isEmpty, laneReplay := true, lanes := x.lanes.mapIdx (fun i l => if added.contains i then { l with outSince := none, lock := true } else if gone.contains i then { l with outSince := some s.now, lock := false } else l) }) s; laneChanged p k (sendLaneSet p k m (added.foldl (fun a i => post p 0x08 1 0x0004 (BitVec.ofNat 32 (k + 256 * i)) 0 a) s1))))) ∧
  (∀ (p : Part) (k l t : Nat) (s : State), inService p s = true ∧ (portAt p k s).state = .active ∧ ((portAt p k s).lanes.getD l {}).outSince = some t ∧ t + 1000000000 ≤ s.now ∧ (portAt p k s).laneActive.getLsbD l = false ∧ addsLane p k s = true →
    exec (.laneRetrainTimer p k l true) s = .next ((let m := (portAt p k s).laneActive ||| (1#4 <<< l); laneChanged p k (sendLaneSet p k m (post p 0x08 1 0x0004 (BitVec.ofNat 32 (k + 256 * l)) 0 (updPort p k (fun g => { g with laneActive := m, laneReplay := true, lanes := upd g.lanes l (fun x => { x with outSince := none, lock := true }) }) s)))))) ∧
  (∀ (p : Part) (k : Nat) (q : BitVec 12) (s : State), inService p s = true ∧ (portAt p k s).state = .active →
    exec (.ackReceived p k q) s = .next (ackUpTo p k q s)) ∧
  (∀ (p : Part) (k : Nat) (q : BitVec 12) (b : Bool) (s : State), inService p s = true ∧ (portAt p k s).state = .active →
    exec (.nakReceived p k { msg := q, inPacket := b }) s = .next (replayAll p k b (ackUpTo p k q s))) ∧
  (∀ (p : Part) (k : Nat) (b : Bool) (s : State), inService p s = true ∧ (portAt p k s).state = .active ∧ ¬ (portAt p k s).replayBuf.isEmpty ∧ (portAt p k s).oldestSince + 1000 * (portAt p k s).replayToUs ≤ s.now →
    exec (.replayTimeout p { msg := k, inPacket := b }) s = .next (replayAll p k b s)) ∧
  (∀ (p : Part) (k ca : Nat) (fa : BitVec 16) (cb : Nat) (fb : BitVec 16) (s : State), inService p s = true ∧ (portAt p k s).state = .active →
    exec (.creditReceived p k ca fa cb fb) s = .next (drainPort p k ((portAt p k s).txq.length + 1) (updPort p k (fun g => creditClass (creditClass g ca fa) cb fb) s))) ∧
  (∀ (p : Part) (k za b zb : Nat) (s : State), inService p s = true ∧ (portAt p k s).state = .active ∧ b ≠ 7 →
    exec (.creditInitReceived p k 7 za b zb) s = .next ((let pad := fun (l : List Nat) => if l.isEmpty then List.replicate 8 0 else l; drainPort p k ((portAt p k s).txq.length + 1) (updPort p k (fun g => { g with credShared := za, cred := upd (pad (pad g.cred)) b (fun _ => zb), credSize := upd (pad (pad g.credSize)) b (fun _ => zb), freedRx := upd (if g.freedRx.isEmpty then List.replicate 8 0 else g.freedRx) b (fun _ => 0) }) s))))

/-- CREDIT, ALIGN and SKIP blocks leave on a port that sends blocks, the latter two scrambled on every active lane, a received ALIGN block sets the physical lane, a received SKIP block changes nothing, an ABORT is counted and relayed behind a packet being forwarded, a block that fails is counted and draws a NAK inside a packet while every block moves its lane's descrambler, and a packet that a Tile accepts and that is not for it goes out of its other port. -/
def Obligations.GraedBlockEventsComplete : Prop :=
  (∀ (p : Part) (k c : Nat) (s : State), inService p s = true ∧ (portAt p k s).state = .active →
    exec (.creditSend p k c) s = .next (emit p (.block k 0x66 [c, ((portAt p k s).freedTx.getD c 0).toNat]) s)) ∧
  (∀ (p : Part) (k : Nat) (s : State), inService p s = true ∧ sendsBlocks (portAt p k s) = true →
    exec (.alignSend p k) s = .next ((let g := portAt p k s; (laneList g.laneActive).foldl (fun a l => sendLine p k l 0x1E (alignContent g l) (emit p (.block k 0x1E [Int.ofNat l, (lanesIn g.laneActive : Int) - 1, g.rate, g.alignCount.toNat]) a)) (updPort p k (fun x => { x with alignCount := x.alignCount + 1 }) s)))) ∧
  (∀ (p : Part) (k : Nat) (s : State), inService p s = true ∧ sendsBlocks (portAt p k s) = true →
    exec (.skipSend p k) s = .next ((laneList (portAt p k s).laneActive).foldl (fun a l => sendLine p k l 0x2D 0 (emit p (.block k 0x2D [Int.ofNat l]) a)) s)) ∧
  (∀ (p : Part) (k ph l n r c : Nat) (s : State), inService p s = true ∧ sendsBlocks (portAt p k s) = true ∧ l < (portAt p k s).lanes.length ∧ n < 4 ∧ r = (portAt p k s).rate ∧ c < 256 →
    exec (.alignReceived p k ph l n r c) s = .next (updPort p k (fun g => { g with lanes := upd g.lanes l (fun x => { x with phys := ph, lock := true }) }) s)) ∧
  (∀ (p : Part) (k : Nat) (s : State), inService p s = true ∧ k < portCount p s →
    exec (.skipReceived p k) s = .next (s)) ∧
  (∀ (p : Part) (k : Nat) (b : Bool) (s : State), inService p s = true ∧ (portAt p k s).state = .active →
    exec (.abortReceived p { msg := k, inPacket := b }) s = .next ((let s1 := updPort p k (fun g => { g with abortsRx := g.abortsRx + 1 }) s; if p = .tile ∧ b ∧ (portAt .tile (1 - k) s1).state = .active then emit .tile (.block (1 - k) 0x4B []) s1 else s1))) ∧
  (∀ (k : Nat) (x : GPkt) (s : State), inService .tile s = true ∧ k < 2 ∧ (portAt .tile k s).state = .active ∧ x.seq = (portAt .tile k s).seqExp ∧ packetBad x = false ∧ forThisTile x s = false →
    exec (.packetForward k x) s = .next (hand .tile (1 - k) x (freeRx .tile k x.cls x.len (emit .tile (.block k 0x55 [(x.seq.toNat : Nat), 0]) (updPort .tile k (fun g => { g with seqExp := g.seqExp + 1, nakAt := none }) s))))) ∧
  (∀ (p : Part) (k : Nat) (e : BlockErr) (s : State), inService p s = true ∧ blockFails e = true ∧ e.inPacket = true ∧ e.timeMsg = false ∧ (portAt p k s).state = .active →
    exec (.blockError p k e) s = .next ((let s0 := updPort p k (fun g => { g with lanes := upd g.lanes e.lane (fun l => { l with descr := (descramble (descramble l.descr e.before).2 e.bits).2 }) }) s; abortDown p k e.forwarding (nakNow p k (updPort p k (fun g => { g with blockErrors := g.blockErrors + 1, lanes := upd g.lanes e.lane (fun l => { l with errTimes := (s.now :: l.errTimes.filter (fun t => decide (s.now ≤ t + 1000000))).take 64 }) }) s0))))) ∧
  (∀ (p : Part) (k : Nat) (e : BlockErr) (s : State), inService p s = true ∧ blockFails e = false →
    exec (.blockError p k e) s = .next (updPort p k (fun g => { g with lanes := upd g.lanes e.lane (fun l => { l with descr := (descramble (descramble l.descr e.before).2 e.bits).2 }) }) s)) ∧
  (∀ (p : Part) (k : Nat) (e : BlockErr) (s : State), inService p s = true ∧ blockFails e = true ∧ (e.inPacket = false ∨ e.timeMsg = true) →
    exec (.blockError p k e) s = .next ((let s0 := updPort p k (fun g => { g with lanes := upd g.lanes e.lane (fun l => { l with descr := (descramble (descramble l.descr e.before).2 e.bits).2 }) }) s; updPort p k (fun g => { g with blockErrors := g.blockErrors + 1, lanes := upd g.lanes e.lane (fun l => { l with errTimes := (s.now :: l.errTimes.filter (fun t => decide (s.now ≤ t + 1000000))).take 64 }) }) s0)))

/-- An accepted LD_GET_STATUS, LD_SET_LIMITS, LD_READ, LR_WRITE, LR_READ, LR_RELOAD or LR_SET_DRIFT answers the next state written out: the reply with its fields, the limits, the working copy and with TARGET 1 the stored golden copy of the Larder, the reload, the drift references. -/
def Obligations.LandingLarderCommandsComplete : Prop :=
  (∀ (c : Cmd) (s0 : State), Accepts specLdGetStatus c s0 → exec (.ldGetStatus c) s0 = .next (
    let s := take 0x0A01 c s0
    let l := s.tile.ld
    ok c 0x0A01 (leBytes 4 (ldStatus s) ++ leBytes 4 l.shownFn.toNat ++ leBytes 1 l.q ++ zeros 3 ++ leBytes 4 l.energyReg ++
      leBytes 4 l.parityErrors.toNat ++ leBytes 4 l.repairReqs.toNat ++ leBytes 4 l.divergence.toNat) s)) ∧
  (∀ (c : Cmd) (s0 : State), Accepts specLdSetLimits c s0 → exec (.ldSetLimits c) s0 = .next (
    let s := take 0x0A02 c s0
    let p := c.params
    ok c 0x0A02 [] (limitsNow (updLd (fun l =>
      { l with lim := { l.lim with budget := fld p 0 2, peaks := [fld p 2 2, fld p 4 2, fld p 6 2] } }) s)))) ∧
  (∀ (c : Cmd) (s0 : State), Accepts specLdRead c s0 → exec (.ldRead c) s0 = .next (
    let s := take 0x0A03 c s0
    let p := c.params
    let l := s.tile.ld
    let v := shownHalf l (fld p 0 1) (fld p 1 1)
    let half := if fld p 2 1 = 0 then v else 1 - v
    ok c 0x0A03 ((List.range (fld p 6 2)).flatMap (fun i =>
      let w := landRead l (fld p 0 1) (fld p 1 1) half (fld p 4 2 + i)
      leBytes 8 (bits w.1 59 0 + 2 ^ 63 * b2n w.2))) s)) ∧
  (∀ (c : Cmd) (s0 : State), Accepts specLrWrite c s0 → exec (.lrWrite c) s0 = .next (
    let s := take 0x0A04 c s0
    let p := c.params
    let first := fld p 0 4
    let s1 := (List.range (fld p 4 2)).foldl (fun a i => updLr (writeRec (first + i) (fld p (8 + 16 * i) 16)) a) s
    if fld p 6 1 = 0 then ok c 0x0A04 [] s1
    else storeWrite .tile 1 [[{ key := keyLarder, index := first, payload := p.drop 8 }]] (some (c, 0x0A04, [])) 1 s1)) ∧
  (∀ (c : Cmd) (s0 : State), Accepts specLrRead c s0 → exec (.lrRead c) s0 = .next (
    let s := take 0x0A05 c s0
    let p := c.params
    let idx := (List.range (fld p 4 2)).map (fun i => fld p 0 4 + i)
    if fld p 6 1 = 0 then ok c 0x0A05 (idx.flatMap (fun i => leBytes 16 (larderRec i s))) s
    else
      let gone := (idx.filter (fun i => (goldenLarder i s).isNone)).length
      if gone = 0 then ok c 0x0A05 (idx.flatMap (fun i => leBytes 16 ((goldenLarder i s).getD 0))) s
      else failed c 0x0A05 2 gone s)) ∧
  (∀ (c : Cmd) (s : State), TileAccepts specLrReload c s ∧ isReloading c s = false →
    exec (.lrReload c) s = .next ((let s1 := take 0x0A06 c s; updLr (fun l => { l with reload := l.reload ++ [c] }) (updLd (fun l => { l with ready := false }) s1)))) ∧
  (∀ (c : Cmd) (s : State), inService .tile s = true ∧ c.part = .tile ∧ isReloading c s = true →
    exec (.lrReload c) s = .next (endReload c s)) ∧
  (∀ (c : Cmd) (s0 : State), Accepts specLrSetDrift c s0 → exec (.lrSetDrift c) s0 = .next (
    let s := take 0x0A07 c s0
    let p := c.params
    ok c 0x0A07 [] (limitsNow (updLr (fun l => { l with driftEn := bit (fld p 0 1) 0 })
      (updLd (fun l => { l with lim := { l.lim with tRef := sfld p 2 2, base := [sfld p 4 2, sfld p 6 2, sfld p 8 2] } }) s)))))

/-- A frame report leaves for every Head that reaches the Tile, a TICK message is noted by a Head of the other ORIGIN and relayed and noted by a Tile, a PANE packet for this Tile is judged and answered by a pane acknowledgement, a bad Larder record is fetched again from the golden copy or marked, and the scrubber walks on. -/
def Obligations.LandingEventsComplete : Prop :=
  (∀ (r : TileReport) (s : State), inService .tile s = true ∧ s.tile.ld.report = some r →
    exec (.frameReportSend r.n) s = .next (updLd (fun l => { l with report := none, parityFrame := 0 }) ((headsReaching s).foldl (fun a b => tileSend 5 1 5 b (reportBytes r b a) a) s))) ∧
  (∀ (k : Nat) (m : TickMsg) (s : State), inService .head s = true ∧ m.headB ≠ s.head.sys.roleB →
    exec (.tickMessageReceived .head k m) s = .next ({ freeRx .head k 0 1 s with head.tw.lastOtherTick := some (wall s.head.mt) })) ∧
  (∀ (k : Nat) (m : TickMsg) (s : State), inService .head s = true ∧ m.headB = s.head.sys.roleB →
    exec (.tickMessageReceived .head k m) s = .next (freeRx .head k 0 1 s)) ∧
  (∀ (k : Nat) (m : TickMsg) (s : State), inService .tile s = true ∧ noFrames s = false ∧ tileView s < tickFrame m s ∧ ownFlip (tickFrame m s).toNat s = some m.tFlip →
    exec (.tickMessageReceived .tile k m) s = .next (updLd (fun l => { l with ticks := l.ticks ++ [m], tickCame := true }) (timeSend .tile (1 - k) 0x87 (tickBlock m) (freeRx .tile k 0 1 s)))) ∧
  (∀ (k : Nat) (x : PanePkt) (s : State), inService .tile s = true ∧ forThisTile x.pkt s = true ∧ x.pkt.typ = 1 ∧ (portAt .tile k s).state = .active ∧ x.pkt.seq = (portAt .tile k s).seqExp ∧ packetBad x.pkt = false →
    exec (.panePacketReceived k x) s = .next ((let s1 := freeRx .tile k x.pkt.cls x.pkt.len (emit .tile (.block k 0x55 [(x.pkt.seq.toNat : Nat), 0]) (updPort .tile k (fun g => { g with seqExp := g.seqExp + 1, nakAt := none }) s)); paneAck k (parsePane x.pkt) (judgePane x (parsePane x.pkt) s1).1 (judgePane x (parsePane x.pkt) s1).2))) ∧
  (∀ (i v : Nat) (s : State), inService .tile s = true ∧ s.tile.lr.bad.contains i = true ∧ goldenLarder i s = some v →
    exec (.larderRefetch i true) s = .next (post .tile 0x0A 1 0x0006 (BitVec.ofNat 32 i) 0 (updLr (fun l => { writeRec i v l with refetches := l.refetches + 1, refetched := true }) s))) ∧
  (∀ (i : Nat) (b : Bool) (s : State), inService .tile s = true ∧ s.tile.lr.bad.contains i = true ∧ (b = false ∨ goldenLarder i s = none) →
    exec (.larderRefetch i b) s = .next (post .tile 0x0A 3 0x0007 (BitVec.ofNat 32 i) 0 (updLr (fun l => { writeRec i identityRec l with goldenBad := true }) s))) ∧
  (∀ (w : Nat) (l : List (Nat × Nat × Nat)) (s : State), inService .tile s = true →
    exec (.larderScrub w l) s = .next ((let s1 := flipLarder l s; updLr (fun x => { x with scrubAt := (s.tile.lr.scrubAt + w) % 259200 }) (noteBadRecords (failingRecords (fun i h => decide ((2 * i + h + 259200 - s.tile.lr.scrubAt) % 259200 < w)) s1) s1))))

/-- An accepted CH_GET_STATUS, CH_SET_LIMITS, CH_SET_VF_CAL, CH_GET_FIELD, CH_GET_TRIM or CH_TRIM_CTL answers the next state written out: the reply with its fields, the limits, the stored calibration, the trim enables and the factory trims. -/
def Obligations.ChimneyCommandsComplete : Prop :=
  (∀ (c : Cmd) (s0 : State), Accepts specChGetStatus c s0 → exec (.chGetStatus c) s0 = .next (
    let s := take 0x0F01 c s0
    let h := chOf c.part s
    ok c 0x0F01 (leBytes 4 (chStatus h) ++ leBytes 4 (chTripLog h s.now) ++ leBytes 1 h.temps.length ++ zeros 3 ++
      (List.range h.temps.length).flatMap (fun k => leBytes 2 (chTemp h k))) s)) ∧
  (∀ (c : Cmd) (s0 : State), Accepts specChSetLimits c s0 → exec (.chSetLimits c) s0 = .next (
    let s := take 0x0F02 c s0
    let s1 := updCh .tile (fun h => { h with hotBudget := fld c.params 0 2, lampHot := fld c.params 2 2 }) s
    ok c 0x0F02 [] (if noFrames s1 then hotCapStep s1 else s1))) ∧
  (∀ (c : Cmd) (s0 : State), Accepts specChSetVfCal c s0 → exec (.chSetVfCal c) s0 = .next (
    let s := take 0x0F03 c s0
    let p := c.params
    let cal : VfCal := { vfRef := fld p 2 2, kt := sfld p 4 2, rs := fld p 6 1, iRef := fld p 8 2, tCal := sfld p 10 2 }
    let s1 := updCh .tile (fun h => { h with vf := upd h.vf (fld p 0 1) (fun _ => cal) }) s
    let s2 := if noFrames s1 then updCh .tile (fun h => { h with vfNow := h.vf }) s1 else s1
    writeSettings .tile [(keyVfCal, fld p 0 1, p)] (some (c, 0x0F03, [])) s2)) ∧
  (∀ (c : Cmd) (s0 : State), Accepts specChGetField c s0 → exec (.chGetField c) s0 = .next (
    let s := take 0x0F04 c s0
    ok c 0x0F04 (leBytes 4 s.tile.ld.shownFn.toNat ++
      (List.range (fld c.params 2 2)).flatMap (fun i => leBytes 2 (chField s.tile.ch (fld c.params 0 2 + i)))) s)) ∧
  (∀ (c : Cmd) (s0 : State), Accepts specChGetTrim c s0 → exec (.chGetTrim c) s0 = .next (
    let s := take 0x0F05 c s0
    let p := c.params
    ok c 0x0F05 ((List.range (fld p 4 2)).flatMap (fun i => leBytes 4 (trimEntry c.part (fld p 0 1) (fld p 2 2 + i) s))) s)) ∧
  (∀ (c : Cmd) (s0 : State), Accepts specChTrimCtl c s0 → exec (.chTrimCtl c) s0 = .next (
    let s := take 0x0F06 c s0
    let f := fld c.params 0 1
    let s1 := updCh c.part (fun h => { h with sinkEn := if c.part = .tile then bit f 0 else h.sinkEn, termEn := bit f 1 }) s
    ok c 0x0F06 [] (if bit f 2 then restoreFactory c.part s1 else s1)))

/-- Sensor readings are converted once a millisecond with the band and cooling steps that follow, a finished sweep whose bank references were on target keeps its measurements and moves the sink trims, a termination measurement sets and moves a lane's codes when both targets are in range, and changed trims are saved after ten minutes. -/
def Obligations.ChimneyEventsComplete : Prop :=
  (∀ (p : Part) (l : List (Option Int)) (s : State), inService p s = true ∧ aonRuns p s = true ∧ (chOf p s).convAt + 1000000 ≤ s.now ∧ inService p (updCh p (fun c => { convert p l c with convAt := s.now }) s) = true →
    exec (.sensorConversion p l) s = .next (noteCool p (dieBandStep p (postBroken p (updCh p (fun c => { convert p l c with convAt := s.now }) s))))) ∧
  (∀ (s : State), inService .tile s = true ∧ s.tile.ch.sweepDone = true ∧ s.tile.ch.sinkEn = false ∧ s.tile.ch.refErr = [0, 0, 0, 0] →
    exec (.trimSweepEval) s = .next (applyIdle (updCh .tile (fun c => { c with sweepDone := false, refErr := [0, 0, 0, 0] }) (updCh .tile (keepSweep (fun _ => false)) s)))) ∧
  (∀ (s : State), inService .tile s = true ∧ s.tile.ch.sweepDone = true ∧ s.tile.ch.sinkEn = true ∧ s.tile.ch.refErr = [0, 0, 0, 0] →
    exec (.trimSweepEval) s = .next (applyIdle (updCh .tile (fun c => { c with sweepDone := false, refErr := [0, 0, 0, 0] }) ((List.range 5760).foldl (fun a k => trimSink k a) (updCh .tile (keepSweep (fun _ => false)) s))))) ∧
  (∀ (p : Part) (k l : Nat) (a b : Int) (s : State), inService p s = true ∧ (chOf p s).termEn = true ∧ l < (portAt p k s).lanes.length ∧ 4 ≤ a ∧ a ≤ 27 ∧ 4 ≤ b ∧ b ≤ 27 ∧ freeToTrim p k (updCh p (setTerm { termOf (chOf p s) k l with wantP := a.toNat, wantN := b.toNat }) s) = true →
    exec (.termTrimMeasure p k l a b) s = .next ((let s1 := updCh p (setTerm { termOf (chOf p s) k l with wantP := a.toNat, wantN := b.toNat }) s; moveTerm p (termOf (chOf p s1) k l) s1))) ∧
  (∀ (p : Part) (s : State), inService p s = true ∧ (chOf p s).savedAt + 600000000000 ≤ s.now ∧ (chOf p s).saveDue = true →
    exec (.trimSave p) s = .next (writeSettings p (trimRecords p s) none (updCh p (fun c => { c with saveDue := false, savedAt := s.now }) s)))

/-- An accepted PP_SET_STATUS_RING, PP_GET_FRAME_STATUS, PP_SET_CHAIN, PP_GET_CHAIN or PP_BLACKOUT answers the next state written out: the ring of frame status records and its reset, a record read back from the Cellar or FAILED 0x0001, the chain's watermark and format policy, the chain's counts, the software blackout. -/
def Obligations.PanePushCommandsComplete : Prop :=
  (∀ (c : Cmd) (s0 : State), Accepts specPpSetStatusRing c s0 → exec (.ppSetStatusRing c) s0 = .next (
    let s := take 0x0701 c s0
    let p := c.params
    ok c 0x0701 [] (updPp (fun q =>
      { q with fsrBase := fld p 0 8, fsrSize := fld p 8 1, recDelayUs := fld p 12 2, fsrCount := 0, fsrs := [] }) s))) ∧
  (∀ (c : Cmd) (s0 : State), Accepts specPpGetFrameStatus c s0 → exec (.ppGetFrameStatus c) s0 = .next (
    let s := take 0x0702 c s0
    let fn := BitVec.ofNat 32 (fld c.params 0 4)
    let a := fsrAddr fn s
    if s.head.pp.fsrs.contains (fn, a) then
      let rd := clRead 3 a 64 s
      ok c 0x0702 rd.1 rd.2.2
    else failed c 0x0702 0x0001 0 s)) ∧
  (∀ (c : Cmd) (s0 : State), Accepts specPpSetChain c s0 → exec (.ppSetChain c) s0 = .next (
    let s := take 0x0703 c s0
    let p := c.params
    okFwd c 0x0703 [] (updChain (fld p 0 1) (fun q => { q with lowWm := fld p 1 1, policy := fld p 2 1 }) s))) ∧
  (∀ (c : Cmd) (s0 : State), Accepts specPpGetChain c s0 → exec (.ppGetChain c) s0 = .next (
    let s := take 0x0704 c s0
    let k := fld c.params 0 1
    ok c 0x0704 (leBytes 4 (ppPort k s) ++ leBytes 4 (chainAt k s).stale.toNat ++ leBytes 4 (chainAt k s).replays.toNat) s)) ∧
  (∀ (c : Cmd) (s0 : State), Accepts specPpBlackout c s0 → exec (.ppBlackout c) s0 = .next (
    let s := take 0x0705 c s0
    ok c 0x0705 [] (noteBlackout (updPp (fun p => { p with swBlackout := decide (fld c.params 0 1 = 1) }) s))))

/-- In the open push window a listed, ready pane that is first of its chain is sent on the port that reaches its Tile; an acknowledgement ends its transaction and leads to a replay, a resend or nothing by its status; a lost transaction needs a replay; a Tile's replay request is served at most twice or counted stale; a frame report is counted once; the record is written when its reports are in or its time has come; a chain's format may return after 1 s; blackout changes are posted and sent, and repeated every 100 µs. -/
def Obligations.PanePushEventsComplete : Prop :=
  (∀ (k : PaneKey) (r : FrameRec) (d : Nat) (v : Ver) (s : State), inService .head s = true ∧ openRec s = some r ∧ (pushList r s).contains k = true ∧ isReady r k s = true ∧ panePath k r s = some d ∧ pushVersion r k s = some v ∧ portTakes r k false d s = true ∧ isFirstReady r k d (fun _ => false) s = true ∧ bufOf d k r.n s = none →
    exec (.panePacketSend k false) s = .next (withPane r k v d (sendBytes r k false d) s)) ∧
  (∀ (k : PaneKey) (r : FrameRec) (d : Nat) (v : Ver) (b : List Byte) (s : State), inService .head s = true ∧ openRec s = some r ∧ (pushList r s).contains k = true ∧ isReady r k s = true ∧ panePath k r s = some d ∧ pushVersion r k s = some v ∧ portTakes r k false d s = true ∧ isFirstReady r k d (fun _ => false) s = true ∧ bufOf d k r.n s = some b →
    exec (.panePacketSend k false) s = .next (sendBytes r k false d b s)) ∧
  (∀ (k : PaneKey) (r : FrameRec) (d : Nat) (v : Ver) (s : State), inService .head s = true ∧ openRec s = some r ∧ (pushList r s).contains k = true ∧ isReady r k s = true ∧ panePath k r s = some d ∧ pushVersion r k s = some v ∧ portTakes r k false d s = false ∧ bufOf d k r.n s = none ∧ bufRoom (chainAt d s) = true ∧ isFirstReady r k d (fun x => (bufOf d x r.n s).isSome) s = true →
    exec (.panePacketSend k false) s = .next (withPane r k v d (fun b => updChain d (fillBuf (k, r.n, b))) s)) ∧
  (∀ (k : PaneKey) (r : FrameRec) (d : Nat) (v : Ver) (s : State), inService .head s = true ∧ s.head.pl.frames.find? (fun r => (r.want.contains k && !r.isClosed) || r.serve.contains k) = some r ∧ panePath k r s = some d ∧ (if r.want.contains k = true ∧ ¬ r.isClosed = true then pushVersion r k s else shownVer k s) = some v ∧ portTakes r k true d s = true →
    exec (.panePacketSend k true) s = .next (withPane r k v d (sendBytes r k true d) s)) ∧
  (∀ (a : PaneAck) (x : Trans) (r : FrameRec) (s : State), inService .head s = true ∧ a.originB = s.head.sys.roleB ∧ s.head.pp.trans.find? (fun y => transKey y == a.key && y.fn == a.fn) = some x ∧ recByFn a.fn (updPp (fun p => { p with trans := p.trans.erase x }) s) = some r →
    exec (.paneAckReceived { msg := a }) s = .next ((let s1 := updPp (fun p => { p with trans := p.trans.erase x }) s; let s2 := updRec r.n (fun r => { r with acks := putKey r.acks a.key a.status }) s1; if a.status = 2 ∨ a.status = 5 then needReplay a.key r s2 else if a.status = 3 then resendNext a.key r.n s2 else if a.status = 4 then resendNext a.key r.n (divergent a.key a.fn s2) else s2))) ∧
  (∀ (k : PaneKey) (x : Trans) (r : FrameRec) (s : State), inService .head s = true ∧ s.head.pp.trans.find? (fun t => transKey t == k && decide (t.sentAt + 50000 ≤ s.now)) = some x ∧ recByFn x.fn (updPp (fun p => { p with trans := p.trans.erase x }) s) = some r →
    exec (.paneTransactionLost k false) s = .next (needReplay k r (updPp (fun p => { p with trans := p.trans.erase x }) s))) ∧
  (∀ (k : PaneKey) (x : Trans) (r : FrameRec) (s : State), inService .head s = true ∧ s.head.pp.trans.find? (fun t => transKey t == k && t.lost) = some x ∧ recByFn x.fn (updPp (fun p => { p with trans := p.trans.erase x }) s) = some r →
    exec (.paneTransactionLost k true) s = .next (needReplay k r (updPp (fun p => { p with trans := p.trans.erase x }) s))) ∧
  (∀ (k : PaneKey) (fn : Word) (r : FrameRec) (s : State), inService .head s = true ∧ recByFn fn s = some r ∧ s.head.mt.lastN = some r.n ∧ (getKey r.served k).getD 0 < 2 ∧ (shownVer k s).isSome = true →
    exec (.replayReqReceived { msg := k } fn) s = .next (updRec r.n (fun x => { x with served := putKey x.served k ((getKey r.served k).getD 0 + 1), serve := addKeys x.serve [k] }) s)) ∧
  (∀ (k : PaneKey) (fn : Word) (r : FrameRec) (s : State), inService .head s = true ∧ recByFn fn s = some r ∧ (s.head.mt.lastN ≠ some r.n ∨ 2 ≤ (getKey r.served k).getD 0 ∨ shownVer k s = none) →
    exec (.replayReqReceived { msg := k } fn) s = .next (staleReplay k r.n s)) ∧
  (∀ (k : PaneKey) (fn : Word) (s : State), inService .head s = true ∧ recByFn fn s = none →
    exec (.replayReqReceived { msg := k } fn) s = .next (staleReplay k fn.toNat s)) ∧
  (∀ (m : FrameReport) (r : FrameRec) (s : State), inService .head s = true ∧ recByFn m.fn s = some r ∧ r.written = false ∧ r.reports.contains (m.chain, m.position) = false →
    exec (.frameReportReceived { msg := m }) s = .next (updRec r.n (fun x => { x with reports := x.reports ++ [(m.chain, m.position)], tileStale := x.tileStale + m.rejected + m.missing, accepted := x.accepted + m.accepted }) ((if m.rejected + m.missing = 0 then [] else unaccepted r m.chain m.position s).foldl (fun t k => resendNext k r.n t) s))) ∧
  (∀ (n : Nat) (r : FrameRec) (s : State), inService .head s = true ∧ recOf n s = some r ∧ r.written = false ∧ r.flipped = true ∧ (noReports r s).isEmpty = true →
    exec (.fsrWrite n) s = .next (whenServed 3 (if s.head.pp.fsrEn then [(fsrAddr (BitVec.ofNat 32 n) s, 64)] else []) (fsrWrite r) s)) ∧
  (∀ (c x : Nat) (s : State), inService .head s = true ∧ (chainAt c s).goodSince = some x ∧ x + 1000000000 ≤ s.now →
    exec (.formatReturnTimer c) s = .next (updChain c (fun q => { q with mayReturn := true }) s)) ∧
  (∀ (s : State), inService .head s = true ∧ blackoutState s.head.pp ≠ s.head.pp.blackout →
    exec (.headBlackoutChange) s = .next (post .head 0x07 1 0x0004 (BitVec.ofNat 32 (b2n (blackoutState s.head.pp))) (BitVec.ofNat 64 (blackoutDetail s.head.pp)) (sendBlackout (updPp (fun p => { p with blackout := blackoutState s.head.pp }) s)))) ∧
  (∀ (s : State), inService .head s = true ∧ s.head.pp.blackoutSent + 100000 ≤ s.now →
    exec (.blackoutBlockRepeat) s = .next (sendBlackout s))

/-- An accepted lamp-drive opcode answers the next state written out: the status and dead-lamp replies, currents, trims, fades, waveforms and scan phase set for the frame they name or at once when no frames run, the dead list cleared, detection set. -/
def Obligations.LampCommandsComplete : Prop :=
  (∀ (c : Cmd) (s0 : State), Accepts specLpGetStatus c s0 → exec (.lpGetStatus c) s0 = .next (
    let s := take 0x0B01 c s0
    ok c 0x0B01 (leBytes 4 (lpStatus s) ++ leBytes 4 (lpSlot s) ++ leBytes 4 (lpFull s) ++ leBytes 4 (lpFade s) ++
      leBytes 4 s.tile.lp.flags.length ++ leBytes 4 s.tile.lp.transitions.toNat) s)) ∧
  (∀ (c : Cmd) (s0 : State), Accepts specLpSetCurrent c s0 → exec (.lpSetCurrent c) s0 = .next (
    let s := take 0x0B02 c s0
    let mask := fld c.params 0 1
    let g := fld c.params 4 3
    let f := tileFrame c s
    let s1 := match f with
      | some (n, _) => updLp (fun l => { l with curPend := l.curPend ++ [(n, mask, g)] }) s
      | none =>
        updLp (fun l =>
          { l with cur := setBanks mask g l.cur, curNow := if noFrames s then setBanks mask g l.curNow else l.curNow }) s
    okTarget c 0x0B02 f s1)) ∧
  (∀ (c : Cmd) (s0 : State), Accepts specLpSetTrim c s0 → exec (.lpSetTrim c) s0 = .next (
    let s := take 0x0B03 c s0
    let p := c.params
    let first := fld p 0 2
    let trim := (List.range (fld p 2 2)).foldl (fun l i => setTrim l (first + i) (sfld p (8 + i) 1)) s.tile.lp.trim
    let s1 := updLp (fun l => { l with trim := trim }) s
    if fld p 4 1 = 0 then ok c 0x0B03 [] s1
    else storeWrite .tile 1 [[{ key := keyTrims, index := first, payload := p.drop 8 }]] (some (c, 0x0B03, [])) 1 s1)) ∧
  (∀ (c : Cmd) (s0 : State), Accepts specLpGetTrim c s0 → exec (.lpGetTrim c) s0 = .next (
    let s := take 0x0B04 c s0
    let p := c.params
    let v := fun (k : Nat) => if fld p 4 1 = 0 then (getKey s.tile.lp.trim k).getD 0 else goldenTrim k s
    ok c 0x0B04 ((List.range (fld p 2 2)).flatMap (fun i => leInt 1 (v (fld p 0 2 + i)))) s)) ∧
  (∀ (c : Cmd) (s0 : State), Accepts specLpFade c s0 → exec (.lpFade c) s0 = .next (
    let s := take 0x0B05 c s0
    let t := fld c.params 0 2
    let ms := fld c.params 2 2
    let f := tileFrame c s
    let s1 := updLp (fun l => { l with fadePend := l.fadePend ++ [(f.map Prod.fst, t, ms)] }) s
    let w : Int := wallOf .tile s
    okTarget c 0x0B05 f (if noFrames s then stepFade w (startFades 0 w s1) else s1))) ∧
  (∀ (c : Cmd) (s0 : State), Accepts specLpSetWaveform c s0 → exec (.lpSetWaveform c) s0 = .next (
    let s := take 0x0B06 c s0
    let p := c.params
    let w : Wave := { tDg := fld p 1 1, tPc := fld p 2 1, vDg := fld p 3 1, vR := fld p 4 1, vG := fld p 5 1, vB := fld p 6 1 }
    ok c 0x0B06 [] (updLp (fun l => { l with waves := upd l.waves (fld p 0 1) (fun _ => w) }) s))) ∧
  (∀ (c : Cmd) (s0 : State), Accepts specLpSetScan c s0 → exec (.lpSetScan c) s0 = .next (
    let s := take 0x0B07 c s0
    let v := fld c.params 0 1
    ok c 0x0B07 [] (updLp (fun l => { l with phase := v, phaseNow := if noFrames s then v else l.phaseNow }) s))) ∧
  (∀ (c : Cmd) (s0 : State), Accepts specLpGetDead c s0 → exec (.lpGetDead c) s0 = .next (
    let s := take 0x0B08 c s0
    let l := (s.tile.lp.flags.drop (fld c.params 0 2)).take 500
    ok c 0x0B08 (leBytes 2 s.tile.lp.flags.length ++ leBytes 2 l.length ++ l.flatMap (fun d => leBytes 4 (deadEntry d))) s)) ∧
  (∀ (c : Cmd) (s0 : State), Accepts specLpClearDead c s0 → exec (.lpClearDead c) s0 = .next (
    let s := take 0x0B09 c s0
    ok c 0x0B09 [] (clearDead s))) ∧
  (∀ (c : Cmd) (s0 : State), Accepts specLpSetDetect c s0 → exec (.lpSetDetect c) s0 = .next (
    let s := take 0x0B0A c s0
    let p := c.params
    ok c 0x0B0A [] (updLp (fun l =>
      { l with openEn := bit (fld p 0 1) 0, shortEn := bit (fld p 0 1) 1, shortV := [fld p 4 1, fld p 5 1, fld p 6 1] }) s)))

/-- At the start of a refresh cycle of the shown frame fades and settings step and the column advances; a row slot is measured, lit and sensed; a BLACKOUT block is relayed and taken; a Head's blackout is released after 1 ms; LP_CTL is written; the blackout pins change with their chatter rules; detection resumes after 10 ms. -/
def Obligations.LampEventsComplete : Prop :=
  (∀ (n j : Nat) (x : TickPar) (s : State), inService .tile s = true ∧ tilePar n s = some x ∧ refreshDue n j s = true →
    exec (.refresh n j) s = .next ((let a := cycleStart x n j; let s1 := noteDetect (relight (noteDetect { s with tile.time.refN := n, tile.time.refJ := j, tile.time.refSeen := true, tile.time.rowSeen := false })); let s2 := takeSettings n (stepFade a (startFades n a (stepFade a s1))); { s2 with tile.lp.column := (s2.tile.lp.column + 1) % 480, tile.ht.hLeadNow := s2.tile.ht.hLead }))) ∧
  (∀ (n j : Nat) (s : State), inService .tile s = true ∧ refreshDue n j s = false →
    exec (.refresh n j) s = .next (s)) ∧
  (∀ (n j : Nat) (o : RowObs) (x : TickPar) (s : State), inService .tile s = true ∧ tilePar n s = some x ∧ rowDue n j 0 s = true →
    exec (.row n j 0 o) s = .next (landingRead (j / (cyclesOf x / x.slots)) 0 o (measureSlot o (convertSamples (updLp (fun l => { l with lit := [], row := none }) (noteDetect { s with tile.time.rowR := 0, tile.time.rowSeen := true })))))) ∧
  (∀ (n j q : Nat) (o : RowObs) (x : TickPar) (s : State), inService .tile s = true ∧ tilePar n s = some x ∧ rowDue n j (q + 1) s = true ∧ q < 67 →
    exec (.row n j (q + 1) o) s = .next ((let s0 := noteDetect { s with tile.time.rowR := q + 1, tile.time.rowSeen := true }; let s2 := updLp (fun l => { l with lit := litSlot x j q s0, row := some q }) s0; landingRead (j / (cyclesOf x / x.slots)) (q + 1) o (senseSlot q o.vf (s2.tile.lp.lit.foldl (openTest o.opens q) s2))))) ∧
  (∀ (n j : Nat) (o : RowObs) (x : TickPar) (s : State), inService .tile s = true ∧ tilePar n s = some x ∧ rowDue n j 68 s = true →
    exec (.row n j 68 o) s = .next ((let s0 := noteDetect { s with tile.time.rowR := 68, tile.time.rowSeen := true }; let s2 := updLp (fun l => { l with lit := litSlot x j 67 s0, row := some 67 }) s0; senseSlot 67 o.vf (s2.tile.lp.lit.foldl (openTest o.opens 67) s2)))) ∧
  (∀ (k : Nat) (a : Bool) (s : State), inService .tile s = true →
    exec (.blackoutBlockReceived k a true) s = .next (headBlackout (updLp (fun l => { l with headB := { active := a, at_ := s.now } }) (timeSend .tile (1 - k) 0x99 [((b2n a : Nat) : Int), 1] (freeRx .tile k 0 1 s))))) ∧
  (∀ (k : Nat) (a : Bool) (s : State), inService .tile s = true →
    exec (.blackoutBlockReceived k a false) s = .next (headBlackout (updLp (fun l => { l with headA := { active := a, at_ := s.now } }) (timeSend .tile (1 - k) 0x99 [((b2n a : Nat) : Int), 0] (freeRx .tile k 0 1 s))))) ∧
  (∀ (s : State), inService .tile s = true ∧ s.tile.lp.headB.active = true ∧ s.tile.lp.headB.at_ + 1000000 ≤ s.now →
    exec (.headBlackoutReleaseTimeout true) s = .next (headBlackout (updLp (fun l => { l with headB := { l.headB with active := false } }) s))) ∧
  (∀ (s : State), inService .tile s = true ∧ s.tile.lp.headA.active = true ∧ s.tile.lp.headA.at_ + 1000000 ≤ s.now →
    exec (.headBlackoutReleaseTimeout false) s = .next (headBlackout (updLp (fun l => { l with headA := { l.headA with active := false } }) s))) ∧
  (∀ (v : Word) (s : State), inService .tile s = true →
    exec (.lpCtlEnWrite v) s = .next (lpEnable (v.getLsbD 0) (updLp (fun l => { l with phase := bits v.toNat 11 8, shortEn := v.getLsbD 2, openEn := v.getLsbD 1 }) s))) ∧
  (∀ (a : Bool) (s : State), aonRuns .head s = true ∧ s.head.pp.pinBlackout ≠ a ∧ (s.head.pp.chatter = true ∨ (noteChange s.head.pp.changes s.now).length ≤ 1000) →
    exec (.blackoutNChange .head a) s = .next (noteBlackout (updPp (fun p => { p with pinBlackout := a, changes := noteChange p.changes s.now, chatterAt := if a then p.chatterAt else s.now }) s))) ∧
  (∀ (a : Bool) (s : State), aonRuns .tile s = true ∧ s.tile.lp.pin ≠ a ∧ (noteChange s.tile.lp.changes s.now).length ≤ 1000 →
    exec (.blackoutNChange .tile a) s = .next (ownBlackout (s.tile.lp.pin || s.tile.lp.chatter) (updLp (fun l => { l with pin := a, changes := noteChange l.changes s.now, transitions := l.transitions + 1, inactiveSince := if a then l.inactiveSince else s.now }) s))) ∧
  (∀ (s : State), aonRuns .head s = true ∧ s.head.pp.chatter = true ∧ s.head.pp.pinBlackout = false ∧ s.head.pp.chatterAt + chatterTime .head s ≤ s.now →
    exec (.chatterClear .head) s = .next (postChatter (updPp (fun q => { q with chatter := false, changes := [] }) s))) ∧
  (∀ (s : State), aonRuns .tile s = true ∧ s.tile.lp.chatter = true ∧ s.tile.lp.pin = false ∧ s.tile.lp.inactiveSince + chatterTime .tile s ≤ s.now →
    exec (.chatterClear .tile) s = .next (ownBlackout true (post .tile 0x0B 2 0x0006 0 (BitVec.ofNat 64 (s.tile.lp.changes.filter (fun t => s.now < t + 1000000000)).length) (updLp (fun l => { l with chatter := false, changes := [] }) s)))) ∧
  (∀ (x : Nat) (s : State), inService .tile s = true ∧ (noteDetect s).tile.lp.okSince = some x ∧ x + 10000000 ≤ (noteDetect s).now →
    exec (.detectResumeTimer) s = .next (updLp (fun l => { l with detecting := true }) (noteDetect s)))

/-- An accepted DW_SET_TABLE, DW_CHANNEL_START, DW_CHANNEL_STOP, DW_CHANNEL_ABORT, DW_CHANNEL_RELOAD or DW_GET_CHANNEL answers the next state written out, at the Head and at the Tile. -/
def Obligations.DumbwaiterCommandsComplete : Prop :=
  (∀ (c : Cmd) (s0 : State), Accepts specDwSetTable c s0 → exec (.dwSetTable c) s0 = .next (
    let s := take 0x0D01 c s0
    ok c 0x0D01 [] (updDw c.part (fun d => { d with base := fld c.params 0 8, space := fld c.params 8 1 }) s))) ∧
  (∀ (c : Cmd) (host : Option (List Byte)) (s0 : State), Accepts (specDwChannelStart host) c s0 → exec (.dwChannelStart c host) s0 = .next (
    let s := take 0x0D02 c s0
    let ch := fld c.params 0 1
    let s1 := startChan c.part ch (bit (fld c.params 1 1) 0) host s
    if (chanAt c.part ch s1).state = .error then failed c 0x0D02 0x0001 0 s1 else ok c 0x0D02 [] s1)) ∧
  (∀ (c : Cmd) (s0 : State), Accepts specDwChannelStop c s0 → exec (.dwChannelStop c) s0 = .next (
    let s := take 0x0D03 c s0
    let ch := fld c.params 0 1
    if (chanAt c.part ch s).state ≠ .running then ok c 0x0D03 [] s else stopChan c.part ch (waitOn c 0x0D03 s))) ∧
  (∀ (c : Cmd) (s0 : State), Accepts specDwChannelAbort c s0 → exec (.dwChannelAbort c) s0 = .next (
    let s := take 0x0D04 c s0
    let ch := fld c.params 0 1
    if (chanAt c.part ch s).state ≠ .running then ok c 0x0D04 [] s else abortChan c.part ch (waitOn c 0x0D04 s))) ∧
  (∀ (c : Cmd) (host : Option (List Byte)) (s0 : State), Accepts (specDwChannelReload host) c s0 → exec (.dwChannelReload c host) s0 = .next (
    let s := take 0x0D05 c s0
    reloadChan c.part (fld c.params 0 1) host (waitOn c 0x0D05 s))) ∧
  (∀ (c : Cmd) (s0 : State), Accepts specDwGetChannel c s0 → exec (.dwGetChannel c) s0 = .next (
    let s := take 0x0D06 c s0
    let x := chanAt c.part (fld c.params 0 1) s
    ok c 0x0D06 (leBytes 4 (dwChStatus x) ++ leBytes 4 x.head.toNat ++ leBytes 4 x.tail.toNat ++ leBytes 4 x.irq.toNat ++
      entryBytes x.entry) s))

/-- A channel's control register starts a stopped channel and stops, aborts or reloads a running one; its TAIL is taken; a descriptor is fetched when the channel may; the next burst in turn is issued; a response, a host time-out and a Tile time-out end a burst; a BULK write within the limits is written at the Tile it names. -/
def Obligations.DumbwaiterEventsComplete : Prop :=
  (∀ (p : Part) (c : Nat) (r : Bool) (h : Option (List Byte)) (s : State), inService p s = true ∧ c < chanCount p ∧ (chanAt p c s).state ≠ .running →
    exec (.dwChCtlStart p c r h) s = .next (startChan p c r h s)) ∧
  (∀ (p : Part) (c : Nat) (s : State), inService p s = true ∧ c < chanCount p ∧ (chanAt p c s).state = .running →
    exec (.dwChCtlStop p c) s = .next (settle p c (updChan p c (fun x => { x with stopping := true }) s))) ∧
  (∀ (p : Part) (c : Nat) (s : State), inService p s = true ∧ c < chanCount p ∧ (chanAt p c s).state = .running ∧ (chanAt p c s).aborting = false →
    exec (.dwChCtlAbort p c) s = .next ((let n := (chanAt p c s).runs.length; settle p c (updChan p c (fun x => { x with aborting := true, runs := x.runs.mapIdx (fun i r => if i + 1 = n ∧ r.err.isNone then { r with abortAt := some r.left } else r) }) s)))) ∧
  (∀ (p : Part) (c : Nat) (h : Option (List Byte)) (s : State), inService p s = true ∧ c < chanCount p ∧ (chanAt p c s).state = .running →
    exec (.dwChCtlReload p c h) s = .next (settle p c (updChan p c (fun x => { x with reload := some h }) s))) ∧
  (∀ (p : Part) (c : Nat) (v : Word) (s : State), inService p s = true ∧ c < chanCount p ∧ ((chanAt p c s).state ≠ .running ∨ tooFarAhead (chanAt p c s) (chanAt p c s).entry v = false) →
    exec (.dwChTail p c v) s = .next (updChan p c (fun x => { x with tail := v }) s)) ∧
  (∀ (p : Part) (c : Nat) (h : Option (List Byte)) (s : State), inService p s = true ∧ c < chanCount p ∧ mayFetch (chanAt p c s) = true →
    exec (.descriptorFetched p c h) s = .next (fetchDesc p c h s)) ∧
  (∀ (p : Part) (c : Nat) (r : DwRun) (s : State), inService p s = true ∧ c < chanCount p ∧ issuing (chanAt p c s) = some r ∧ nextIssuer p s = some c ∧ (asksHost p r = false ∨ porchReady s = false) →
    exec (.burstIssue p c) s = .next (issueBurst p c r (takeTurn p c s))) ∧
  (∀ (p : Part) (c : Nat) (r : BurstResp) (b : DwBurst) (d : DwDesc) (s : State), inService p s = true ∧ findBurst p c r.offset (fun _ _ => true) s = some (b, d) ∧ (burstSpans p d b).all (fun g => isServed g.1 g.2 s) = true →
    exec (.burstResponse p c r) s = .next (burstResponse p c b d r s)) ∧
  (∀ (p : Part) (c : Nat) (r : BurstResp) (b : DwBurst) (d : DwDesc) (s : State), inService p s = true ∧ findBurst p c r.offset (fun _ _ => true) s = some (b, d) ∧ (burstSpans p d b).all (fun g => isServed g.1 g.2 s) = false →
    exec (.burstResponse p c r) s = .next ((burstSpans p d b).foldl (fun t g => awaitRead 4 g.1 g.2 t) s)) ∧
  (∀ (c o : Nat) (b : DwBurst) (d : DwDesc) (s : State), inService .head s = true ∧ findBurst .head c o (fun b d => d.srcSpace == 0 && b.data.isNone && decide (b.at_ + 50000000 ≤ s.now)) s = some (b, d) →
    exec (.hostReadTimeout c o) s = .next (burstError .head c b 3 s)) ∧
  (∀ (c o : Nat) (b : DwBurst) (d : DwDesc) (s : State), inService .head s = true ∧ findBurst .head c o (fun b d => (if b.data.isNone then d.srcSpace == 2 else d.dstSpace == 2) && (decide (b.at_ + 1000000 ≤ s.now) || linkLost d s)) s = some (b, d) →
    exec (.tileBurstTimeout c o) s = .next (burstError .head c b (if b.refused then 6 else 7) s)) ∧
  (∀ (b : BulkPkt) (s : State), inService .tile s = true ∧ (portAt .tile b.port s).state = .active ∧ b.pkt.seq = (portAt .tile b.port s).seqExp ∧ packetBad b.pkt = false ∧ b.pkt.pair = s.tile.sys.pair ∧ b.pkt.chain = s.tile.sys.chain ∧ b.pkt.position = s.tile.sys.position ∧ b.pkt.bcast = false ∧ b.pkt.typ = 9 ∧ bits (fld b.pkt.payload 0 7) 6 4 = 0 ∧ 1 ≤ bits (fld b.pkt.payload 7 7) 42 32 ∧ bits (fld b.pkt.payload 7 7) 42 32 ≤ 1536 →
    exec (.bulkPacketReceived b) s = .next ((let n := bits (fld b.pkt.payload 7 7) 42 32; bulkWrite b.pkt (bits (fld b.pkt.payload 7 7) 31 0) (padTo n (b.pkt.payload.drop 14)) (freeRx .tile b.port b.pkt.cls b.pkt.len (emit .tile (.block b.port 0x55 [(b.pkt.seq.toNat : Nat), 0]) (updPort .tile b.port (fun g => { g with seqExp := g.seqExp + 1, nakAt := none }) s))))))

/-- An accepted Hearth opcode answers the next state written out: the status with its measurements, a rail set for its frame or at once, coefficients written, the bank swap asked for, latched rails cleared, coefficients read, the lead set. -/
def Obligations.HearthCommandsComplete : Prop :=
  (∀ (c : Cmd) (s0 : State), Accepts specHtGetStatus c s0 → exec (.htGetStatus c) s0 = .next (
    let s := take 0x0C01 c s0
    let d := draw s
    let h := s.tile.ht
    ok c 0x0C01 (leBytes 4 (htCtl h) ++ leBytes 4 (htStatus h) ++ leInt 4 (unsigned 16 h.vin) ++ leBytes 4 h.ffLate.toNat ++
      (List.range 4).flatMap (fun n =>
        leBytes 4 (railCtl (railAt n s)) ++ leBytes 4 (railStatus n s) ++ leBytes 4 (railMeas d.1 n s) ++ leBytes 4 (railMean d.1 n s))) d.2)) ∧
  (∀ (c : Cmd) (s0 : State), Accepts specHtSetRail c s0 → exec (.htSetRail c) s0 = .next (
    let s := take 0x0C02 c s0
    let p := c.params
    let n := fld p 0 1
    let en : Option Bool := if fld p 1 1 = 2 then none else some (decide (fld p 1 1 = 1))
    let f := tileFrame c s
    let s1 := match f with
      | some (m, _) => updRail n (fun r => { r with pendV := r.pendV ++ [(m, en, fld p 4 2, fld p 6 1)] }) s
      | none => applyRail n en (fld p 4 2) (fld p 6 1) s
    okTarget c 0x0C02 f s1)) ∧
  (∀ (c : Cmd) (s0 : State), Accepts specHtSetCoef c s0 → exec (.htSetCoef c) s0 = .next (
    let s := take 0x0C03 c s0
    let p := c.params
    ok c 0x0C03 [] ((List.range 5).foldl (fun a w => coefWrite (fld p 0 1) (fld p 1 1) w (BitVec.ofNat 32 (fld p (4 + 4 * w) 4)) a) s))) ∧
  (∀ (c : Cmd) (s0 : State), Accepts specHtSwapBank c s0 → exec (.htSwapBank c) s0 = .next (
    let s := take 0x0C04 c s0
    let b := fld c.params 0 1
    let f := tileFrame c s
    okTarget c 0x0C04 f
      (if b = s.tile.ht.bank then s else updHt (fun h => { h with swap := some (b, f.map Prod.fst) }) s))) ∧
  (∀ (c : Cmd) (s0 : State), Accepts specHtClearFault c s0 → exec (.htClearFault c) s0 = .next (
    let s := take 0x0C05 c s0
    ok c 0x0C05 [] ((List.range 3).foldl (fun a n => if bit (fld c.params 0 1) n then updRail n (unlatch a.now) a else a) s))) ∧
  (∀ (c : Cmd) (s0 : State), Accepts specHtGetCoef c s0 → exec (.htGetCoef c) s0 = .next (
    let s := take 0x0C06 c s0
    let k := (railAt (fld c.params 1 1) s).coef.getD (fld c.params 0 1) {}
    ok c 0x0C06 ((List.range 5).flatMap (fun w => leBytes 4 (coefWord k w))) s)) ∧
  (∀ (c : Cmd) (s0 : State), Accepts specHtSetLead c s0 → exec (.htSetLead c) s0 = .next (
    let s := take 0x0C07 c s0
    ok c 0x0C07 [] (updHt (fun h => { h with hLead := fld c.params 0 2 }) s)))

/-- Before a row slot the load is taken, or zero while dark, or noted late; samples and V_REF steps come at most once per their period; control registers are written; hardware current limits, overvoltage and soft-start time-outs fault a rail; a rail retries after its wait; the input goes low below 4 300 and returns at 4 500; the dark cause ends after 1 ms in RUN. -/
def Obligations.HearthEventsComplete : Prop :=
  (∀ (n j r : Nat) (s : State), inService .tile s = true ∧ hearthDue n j r s = true ∧ r ≠ 0 ∧ s.tile.lp.dark = false →
    exec (.hearth n j r true) s = .next (updHt (fun h => { h with load := s.tile.ld.load, late := false }) { s with tile.time.hearthN := n, tile.time.hearthJ := j, tile.time.hearthR := r, tile.time.hearthSeen := true })) ∧
  (∀ (n j r : Nat) (s : State), inService .tile s = true ∧ hearthDue n j r s = true ∧ r ≠ 0 ∧ s.tile.lp.dark = false →
    exec (.hearth n j r false) s = .next (noteLate { s with tile.time.hearthN := n, tile.time.hearthJ := j, tile.time.hearthR := r, tile.time.hearthSeen := true })) ∧
  (∀ (n j r : Nat) (b : Bool) (s : State), inService .tile s = true ∧ hearthDue n j r s = true ∧ (r = 0 ∨ s.tile.lp.dark = true) →
    exec (.hearth n j r b) s = .next (updHt (fun h => { h with load := [0, 0, 0], late := false }) { s with tile.time.hearthN := n, tile.time.hearthJ := j, tile.time.hearthR := r, tile.time.hearthSeen := true })) ∧
  (∀ (v : Word) (s : State), inService .tile s = true →
    exec (.htCtlBankWrite v) s = .next (updHt (fun h => { h with hLead := bits v.toNat 25 16, retryMax := bits v.toNat 15 12, retryMs := bits v.toNat 11 2, bankWrite := bits v.toNat 0 0 }) s)) ∧
  (∀ (n : Nat) (v : Word) (s : State), inService .tile s = true ∧ n < 3 →
    exec (.htRailCtlEnWrite n v) s = .next (setEn n (v.getLsbD 31) (updRail n (fun r => { r with ssRate := bits v.toNat 23 16, vSet := bits v.toNat 12 0 }) s))) ∧
  (∀ (v : Word) (s : State), inService .tile s = true →
    exec (.htRailCtlEnWrite 3 v) s = .next (s)) ∧
  (∀ (m : HearthMeas) (s : State), inService .tile s = true ∧ s.tile.ht.sampleAt < s.tile.mt.cnt.toNat / 50 →
    ∃ t, exec (.hearthSample m) s = .next t ∧ (let s1 := updHt (fun h => { h with sampleAt := s.tile.mt.cnt.toNat / 50, vin := m.vin, load := if h.late then (if s.tile.lp.dark then [0, 0, 0] else s.tile.ld.load) else h.load, late := false }) s; let s2 := (List.range 4).foldl (fun a n => if inService .tile a then sampleRail m a n else a) (swapBank s1); t = if inService .tile s2 then noteDetect (railDark s2) else s2)) ∧
  (∀ (s : State), inService .tile s = true ∧ s.tile.ht.stepAt < s.tile.mt.cnt.toNat / 1000 →
    exec (.vrefStep) s = .next (updHt (fun h => { h with stepAt := s.tile.mt.cnt.toNat / 1000, rails := h.rails.map stepRef }) s)) ∧
  (∀ (n f : Nat) (s : State), inService .tile s = true ∧ n < 4 ∧ f < railPhases n ∧ isOn (railAt n s) = true ∧ ((railAt n s).ocTimes.filter (fun t => s.now ≤ t + 1000000)).length + 1 < 64 →
    exec (.ilimHwEvent n f) s = .next (updRail n (fun r => { r with blocked := upd r.blocked f (fun _ => true), oc := r.oc + 1, ocTimes := ((railAt n s).ocTimes.filter (fun t => s.now ≤ t + 1000000)) ++ [s.now] }) s)) ∧
  (∀ (n : Nat) (v : Int) (s : State), inService .tile s = true ∧ n < 4 ∧ isOn (railAt n s) = true ∧ overThreshold n (railAt n s) < v →
    exec (.overvoltageFault n v) s = .next (railFault n 2 (updRail n (fun r => { r with v := v }) s))) ∧
  (∀ (n : Nat) (s : State), inService .tile s = true ∧ n < 4 ∧ (railAt n s).state = .softStart ∧ (railAt n s).vSet * 1000 + 1000000 * (railAt n s).ssRate ≤ (s.now - (railAt n s).since) * (railAt n s).ssRate →
    exec (.ssTimeout n) s = .next (railFault n 4 s)) ∧
  (∀ (n : Nat) (v : Int) (s : State), inService .tile s = true ∧ n < 3 ∧ (railAt n s).state = .retryWait ∧ (railAt n s).since + 1000000 * s.tile.ht.retryMs ≤ s.now ∧ s.tile.ht.inputLow = false →
    exec (.retryWaitExpiry n v) s = .next (updRail n (softStart v s.now) s)) ∧
  (∀ (v : Int) (s : State), inService .tile s = true ∧ s.tile.ht.inputLow = false ∧ v < 4300 →
    exec (.htInputLow v) s = .next ((let s1 := (List.range 3).foldl (fun a n => if isOn (railAt n a) then updRail n (stopped .retryWait a.now) (noteFault n 5 a) else a) (updHt (fun h => { h with inputLow := true, vin := v }) s); noteDetect (railDark (post .tile 0x0C 3 0x0009 0 (BitVec.ofInt 64 v) s1))))) ∧
  (∀ (v : Int) (s : State), inService .tile s = true ∧ s.tile.ht.inputLow = true ∧ 4500 ≤ v →
    exec (.htInputOk v) s = .next (nvStart .tile (post .tile 0x0C 1 0x000A 0 (BitVec.ofInt 64 v) (updHt (fun h => { h with inputLow := false, vin := v }) s)))) ∧
  (∀ (x : Nat) (s : State), inService .tile s = true ∧ s.tile.ht.runSince = some x ∧ x + 1000000 ≤ s.now →
    exec (.hearthDarkRelease) s = .next (undark 6 s))

/-- An accepted time opcode answers the next state written out: the time, tick and PTP replies, tick parameters started, switched or stopped with the configurations sent to the Tiles, a step of wall time in manual mode, the next time of day, the PTP settings, the holdover limit. -/
def Obligations.MantelCommandsComplete : Prop :=
  (∀ (c : Cmd) (s0 : State), Accepts specMtGetTime c s0 → exec (.mtGetTime c) s0 = .next (
    let s := take 0x0201 c s0
    let m := mtOf c.part s
    let w := wall m
    ok c 0x0201 (leBytes 6 (w / 1000000000) ++ leBytes 4 (w % 1000000000) ++ [0, 0] ++ leBytes 8 m.cnt.toNat ++
      leInt 4 m.rate) s)) ∧
  (∀ (c : Cmd) (s0 : State), Accepts specMtSetTick c s0 → exec (.mtSetTick c) s0 = .next (
    let s := take 0x0202 c s0
    let mode := fld c.params 0 1
    let n := fld c.params 32 8
    let t := parseTick c.params
    let unack := fun (s : State) =>
      { s with head.en := s.head.en.map (fun e => { e with unacked := e.unacked.filter (fun k => k < n) ++ [n] }) }
    let s1 :=
      if mode = 0 then
        let s1 := startTicks t c.arrival s
        sendConfigs (tickInForce s1) false false s1
      else if mode = 1 then
        sendConfigs (some (tickBytes 1 t false n)) false false
          (unack { s with head.mt := addPending s.head.mt n (some t) })
      else
        sendConfigs (some (tickBytes 2 t false n)) false false
          (unack { s with head.mt := addPending s.head.mt n none })
    okFwd c 0x0202 [] s1)) ∧
  (∀ (c : Cmd) (s0 : State), Accepts specMtGetTick c s0 → exec (.mtGetTick c) s0 = .next (
    let s := take 0x0203 c s0
    let m := mtOf c.part s
    let body := match m.tick with | some t => tickBytes 0 t true t.nO | none => zeros 48
    let n := match m.lastN with | some n => leBytes 8 n | none => List.replicate 8 0xFF
    ok c 0x0203 (body ++ n) s)) ∧
  (∀ (c : Cmd) (s0 : State), Accepts specMtStepTime c s0 → exec (.mtStepTime c) s0 = .next (
    let s := take 0x0204 c s0
    ok c 0x0204 [] (stepWall .head (sfld c.params 0 8) s))) ∧
  (∀ (c : Cmd) (s0 : State), Accepts specMtSetTod c s0 → exec (.mtSetTod c) s0 = .next (
    let s := take 0x0205 c s0
    ok c 0x0205 [] { s with head.time.todSec := BitVec.ofNat 48 (fld c.params 0 6) })) ∧
  (∀ (c : Cmd) (s0 : State), Accepts specMtSetPtp c s0 → exec (.mtSetPtp c) s0 = .next (
    let s := take 0x0206 c s0
    let p := c.params
    let cfg : PtpCfg :=
      { profile := fld p 0 1, role := fld p 1 1, transport := fld p 2 1, flags := BitVec.ofNat 8 (fld p 3 1 % 4),
        domain := fld p 4 1, priority1 := fld p 5 1, priority2 := fld p 6 1,
        portMask := BitVec.ofNat 8 (fld p 7 1 % 64), logAnnounce := sfld p 8 1, logSync := sfld p 9 1,
        logDelayReq := sfld p 10 1, announceTimeout := fld p 11 1, stepThrNs := fld p 12 4, lockThrNs := fld p 16 4 }
    ok c 0x0206 [] (setPtp cfg s))) ∧
  (∀ (c : Cmd) (s0 : State), Accepts specMtGetPtp c s0 → exec (.mtGetPtp c) s0 = .next (
    let s := take 0x0207 c s0
    ok c 0x0207 (ptpInfo s) s)) ∧
  (∀ (c : Cmd) (s0 : State), Accepts specMtSetChainTime c s0 → exec (.mtSetChainTime c) s0 = .next (
    let s := take 0x0208 c s0
    ok c 0x0208 [] (sendConfigs none false true { s with head.time.holdLimitMs := fld c.params 0 4 })))

/-- A read of MT_CNT_LO latches the counter and the wall time; MT_RATE is taken in manual mode; HOLD enters holdover from a tracking servo; manual mode stops the servo; a compare unit is armed, given a target, and fires when wall time has reached it. -/
def Obligations.MantelRegisterEventsComplete : Prop :=
  (∀ (p : Part) (s : State), inService p s = true →
    exec (.mtCntLoRead p) s = .next (setMt p { mtOf p s with latCntHi := BitVec.ofNat 32 ((mtOf p s).cnt.toNat / 4294967296), latNs := BitVec.ofNat 32 (wall (mtOf p s) % 1000000000), latSec := BitVec.ofNat 48 (wall (mtOf p s) / 1000000000) } s)) ∧
  (∀ (p : Part) (v : Word) (s : State), inService p s = true ∧ (mtOf p s).manual = true →
    exec (.mtRateWrite p v) s = .next (setMt p (setRate v.toInt (mtOf p s)) s)) ∧
  (∀ (p : Part) (s : State), inService p s = true →
    exec (.mtHoldSet p) s = .next (enterHoldover p (setMt p { mtOf p s with hold := true } s))) ∧
  (∀ (p : Part) (s : State), inService p s = true →
    exec (.mtServoModeSet p) s = .next (setMt p { mtOf p s with manual := true, servo := .freeRun, srcPort := 15, inCount := 0, outCount := 0 } s)) ∧
  (∀ (p : Part) (u : Nat) (v : Word) (s : State), inService p s = true ∧ u < (mtOf p s).trigs.length →
    exec (.mtTrigArm p u v) s = .next (trigCtlWrite p u v s)) ∧
  (∀ (p : Part) (u : Nat) (hi : Bool) (v : Word) (s : State), inService p s = true ∧ u < (mtOf p s).trigs.length →
    exec (.mtTrigTgtWrite p u hi v) s = .next (trigTgtWrite p u hi v s)) ∧
  (∀ (p : Part) (u : Nat) (s : State), inService p s = true ∧ u < (mtOf p s).trigs.length ∧ ((mtOf p s).trigs.getD u {}).arm = true ∧ trigTarget ((mtOf p s).trigs.getD u {}) ≤ wallOf p s ∧ generatorDue p s = false ∧ (List.range u).any (fun v => trigDue p v s) = false →
    exec (.triggerFire p u) s = .next (fireTrig p u false s))

/-- An Announce is recorded and the master chosen again, a one-step Sync of the master gives a sample, a Sync leaves a master port, a PPS edge names the second, the loss of announcements, of PPS or of TIME messages leads to holdover or the other port, TIME messages leave every 16 µs and give an offset, holdover expires into darkness, and the twin's time offset raises an alarm after 1 s. -/
def Obligations.MantelTimeEventsComplete : Prop :=
  (∀ (k : Nat) (m : PtpMsg) (x : Int) (s : State), inService .head s = true ∧ m.domain = s.head.time.cfg.domain ∧ m.transport = s.head.time.cfg.transport ∧ s.head.time.cfg.portMask.getLsbD k = true ∧ ptpPortOff k s = false ∧ m.kind = .announce ∧ s.head.time.cfg.role ≠ 3 →
    exec (.ptpMessageReceived k m x) s = .next (chooseMaster (addForeign k m s))) ∧
  (∀ (k : Nat) (m : PtpMsg) (x : Int) (s : State), inService .head s = true ∧ m.domain = s.head.time.cfg.domain ∧ m.transport = s.head.time.cfg.transport ∧ s.head.time.cfg.portMask.getLsbD k = true ∧ ptpPortOff k s = false ∧ m.kind = .sync ∧ m.twoStep = false ∧ fromMaster k m s = true ∧ s.head.mt.tsEn = true →
    exec (.ptpMessageReceived k m x) s = .next (syncSample k (256 * m.originTs + m.correction) (rxTs k x s) s)) ∧
  (∀ (k : Nat) (x : Int) (s : State), inService .head s = true ∧ s.head.time.cfg.portMask.getLsbD k = true ∧ ptpPortOff k s = false ∧ s.head.time.cfg.role = 1 ∧ ¬ (s.head.time.masterNow = true ∧ s.head.time.masterPort = k) ∧ s.head.mt.tsEn = true →
    exec (.ptpMessageSend k .sync x) s = .next (emit .head (.eth k (if s.head.time.cfg.flags.getLsbD 0 then 0 else 8) [s.head.time.txSeq, s.head.time.cfg.domain, txTs k x s]) { s with head.time.txSeq := (s.head.time.txSeq + 1) % 65536 })) ∧
  (∀ (s : State), inService .head s = true ∧ s.head.time.cfg.role = 3 →
    exec (.ppsInEdge) s = .next ((let w := wall s.head.mt; let off : Int := 256 * ((s.head.time.todSec.toNat * 1000000000 : Nat) - (w : Int)); let s2 := headSource 7 { s with head.time.ppsLast := w, head.time.ppsSeen := true, head.time.todSec := s.head.time.todSec + 1, head.time.ppsOffset := -off }; if s2.head.mt.srcPort = 7 then offsetSample .head off s2 else s2))) ∧
  (∀ (s : State), inService .head s = true ∧ s.head.time.cfg.role ≠ 3 →
    exec (.ppsInEdge) s = .next (s)) ∧
  (∀ (k : Nat) (s : State), inService .head s = true ∧ s.head.time.masterNow = true ∧ s.head.time.masterPort = k ∧ s.head.time.lastAnnounce + s.head.time.cfg.announceTimeout * logInterval s.head.time.cfg.logAnnounce ≤ wall s.head.mt →
    exec (.announceTimeout k) s = .next (chooseMaster s)) ∧
  (∀ (s : State), inService .head s = true ∧ s.head.mt.srcPort = 7 ∧ s.head.time.ppsLast + 2000000000 ≤ wall s.head.mt →
    exec (.ppsLossTimeout) s = .next (enterHoldover .head s)) ∧
  (∀ (p : Part) (k : Nat) (s : State), inService p s = true ∧ (portAt p k s).state = .active ∧ (portAt p k s).cred.getD 0 0 ≠ 0 ∧ (match (timePort p k s).lastSent with | some n => decide (n + 16000 ≤ s.now) | none => true) = true →
    exec (.timeMessageSend p k) s = .next ((let x := timePort p k s; let w := wallOf p s; let dep : BitVec 40 := BitVec.ofNat 40 (256 * w); let sec := if x.sentCount % 64 = Config.secPhase % 64 then some (w / 1000000000) else none; let echo := match x.last with | some m => (m.seq, x.lastArr) | none => (0, 0); timeSend p k 0x78 [x.nextSeq.toNat, dep.toNat, echo.1.toNat, echo.2.toNat, servoCode (mtOf p s).servo, hopsOut p s, b2n (pathOut p k s), (sec.getD 0 : Nat), b2n sec.isSome] (updTimePort p k (fun x => { x with nextSeq := x.nextSeq + 1, sentCount := x.sentCount + 1, sent := (x.nextSeq, dep) :: x.sent.take 255, lastSent := some s.now }) s)))) ∧
  (∀ (k : Nat) (m : TimeMsg) (a : BitVec 40) (s : State), inService .tile s = true →
    exec (.timeMessageReceived .tile k m a) s = .next ((let d := draw s; let e := draw d.2; let x := recordTime d.1 s.now m a (timePort .tile k s); tileTime k (timeOffset (wallOf .tile s) m a (meanDelay e.1 x.dHist)) (freeRx .tile k 0 1 (updTimePort .tile k (fun _ => x) e.2))))) ∧
  (∀ (m : TimeMsg) (a : BitVec 40) (s : State), inService .head s = true →
    exec (.timeMessageReceived .head 32 m a) s = .next ((let d := draw s; let e := draw d.2; let x := recordTime d.1 s.now m a (timePort .head 32 s); twinTime (timeOffset (wallOf .head s) m a (meanDelay e.1 x.dHist)) m (freeRx .head 32 0 1 (updTimePort .head 32 (fun _ => x) e.2))))) ∧
  (∀ (k : Nat) (m : TimeMsg) (a : BitVec 40) (s : State), inService .head s = true ∧ k ≠ 32 →
    exec (.timeMessageReceived .head k m a) s = .next ((let d := draw s; let e := draw d.2; freeRx .head k 0 1 (updTimePort .head k (fun _ => recordTime d.1 s.now m a (timePort .head k s)) e.2)))) ∧
  (∀ (k : Nat) (s : State), inService .tile s = true ∧ timeValid s.now (timePort .tile k s) = false →
    exec (.timeSourceInvalid .tile k) s = .next (tileHops (tileReselect (updTimePort .tile k (fun x => { x with validSince := none }) s)))) ∧
  (∀ (s : State), inService .head s = true ∧ timeValid s.now (timePort .head 32 s) = false ∧ (updTimePort .head 32 (fun x => { x with validSince := none }) s).head.mt.srcPort = 6 →
    exec (.timeSourceInvalid .head 32) s = .next (enterHoldover .head (updTimePort .head 32 (fun x => { x with validSince := none }) s))) ∧
  (∀ (s : State), inService .tile s = true ∧ s.tile.mt.srcPort = 1 ∧ validSecond 0 s = true →
    exec (.timeSourceReturn) s = .next (tileHops { s with tile.mt.srcPort := 0, tile.time.changed := true })) ∧
  (∀ (s : State), inService .tile s = true ∧ s.tile.mt.servo = .holdover ∧ s.tile.mt.holdSince + 1000000 * s.tile.time.holdLimitMs ≤ wall s.tile.mt →
    exec (.holdoverExpired) s = .next (post .tile 0x02 3 0x0005 0 (BitVec.ofNat 64 (wall s.tile.mt - s.tile.mt.holdSince)) (darken 4 { s with tile.mt.servo := .expired }))) ∧
  (∀ (x : Nat) (s : State), inService .head s = true ∧ s.head.time.twinOverSince = some x ∧ s.head.time.twinAlarm = false ∧ x + 1000000000 ≤ s.now →
    exec (.twinTimeAlarm) s = .next (post .head 0x02 2 0x0006 1 (s.head.time.twinOffset.signExtend 64) { s with head.time.twinAlarm := true })) ∧
  (∀ (s : State), inService .head s = true ∧ s.head.time.twinOverSince = none ∧ s.head.time.twinAlarm = true →
    exec (.twinTimeAlarm) s = .next (post .head 0x02 2 0x0006 0 (s.head.time.twinOffset.signExtend 64) { s with head.time.twinAlarm := false }))

/-- An accepted audio opcode answers the next state written out: port, group and slot settings, status and statistics. A boundary that a running group has not taken yet, a TDM frame that a sending port has not sent, once the boundary before it is taken, the tail of the host ring and the PLL's unlock and relock take their effect. -/
def Obligations.AudioComplete : Prop :=
  (∀ (c : Cmd) (s0 : State), Accepts specAuSetPort c s0 → exec (.auSetPort c) s0 = .next (
    let s := take 0x0E01 c s0
    let p := c.params
    ok c 0x0E01 [] (updAuPort (fld p 0 1) (fun q =>
      { q with
        group := fld p 1 1, slots := fld p 2 1, fsMode := fld p 3 1, pack4 := fld p 4 1 == 1, en := bit (fld p 5 1) 0
        hostBase := fld p 8 8, hostFrames := fld p 16 4
        ahead := [], sentN := if bit (fld p 5 1) 0 then none else q.sentN }) s))) ∧
  (∀ (c : Cmd) (s0 : State), Accepts specAuSetGroup c s0 → exec (.auSetGroup c) s0 = .next (
    let s := take 0x0E02 c s0
    let p := c.params
    let new : AuGroupCfg := { mode := fld p 2 1, video := fld p 3 1, mute := fld p 6 2, offset := sfld p 8 4 }
    let on := groupRuns (fld p 0 1) s
    let s1 := updAuGroup (fld p 0 1) (fun q =>
      if on then { q with pend := some new } else { q with rate := fld p 1 1, la := fld p 4 2, cfg := new, pend := none, hasD := false }) s
    ok c 0x0E02 [] s1)) ∧
  (∀ (c : Cmd) (s0 : State), Accepts specAuSetSlots c s0 → exec (.auSetSlots c) s0 = .next (
    let s := take 0x0E03 c s0
    let p := c.params
    let pn := fld p 0 1
    let g := auGroup (auPort pn s).group s
    let go := fun (t : Nat) (s : State) =>
      let z := switchFrame g t
      (z, updAuPort pn (fun q => { q with pend := some (z, BitVec.ofNat 32 (fld p 4 4), parseSlots p) }) s)
    match (if flFrame c.flags then frameOf c s else .noTicks) with
    | .onFrame n late =>
      let r := go ((tickOf s.head.mt n).getD c.arrival).toNat s
      okFrame c 0x0E03 (leBytes 4 r.1) n late r.2
    | _ =>
      let r := go c.arrival s
      ok c 0x0E03 (leBytes 4 r.1) r.2)) ∧
  (∀ (c : Cmd) (s0 : State), Accepts specAuGetStatus c s0 → exec (.auGetStatus c) s0 = .next (
    let s := take 0x0E04 c s0
    let p := auPort (fld c.params 0 1) s
    let g := auGroup p.group s
    ok c 0x0E04 (leBytes 4 (auPortStatus p s) ++ leBytes 4 (auDiv p s) ++ leBytes 4 p.mask.toNat ++
      leBytes 4 (tdmFrameAt g.rate (wall s.head.mt)) ++ leBytes 4 g.ds ++ leBytes 4 (auGroupWall g)) s)) ∧
  (∀ (c : Cmd) (s0 : State), Accepts specAuGetStreamStats c s0 → exec (.auGetStreamStats c) s0 = .next (
    let s := take 0x0E05 c s0
    let k := statIndex (fld c.params 0 1)
    let x := s.head.au.stats.getD k {}
    let s1 := if bit (fld c.params 1 1) 0 then
        updAu (fun a => { a with stats := upd a.stats k (fun y =>
          { y with underSamples := 0, underRuns := 0, overSamples := 0, discardedOld := 0 }) }) s
      else s
    ok c 0x0E05 (leBytes 4 x.underSamples.toNat ++ leBytes 4 x.underRuns.toNat ++ leBytes 4 x.overSamples.toNat ++
      leBytes 4 x.discardedOld.toNat) s1)) ∧
  (∀ (g : Nat) (s : State), inService .head s = true ∧ g < 8 ∧ audioDue g s = true →
    exec (.audio g (audioFrameNow g s)) s = .next (audioBoundary g (audioFrameNow g s) s)) ∧
  (∀ (p : Nat) (v : Word) (s : State), inService .head s = true →
    exec (.auHostTail p v) s = .next (updAuPort p (fun q => { q with tail := v }) s)) ∧
  (∀ (p n : Nat) (s : State), inService .head s = true ∧ p < 8 ∧ audioDue (auPort p s).group s = false ∧ isSending (auPort p s) = true ∧ (auPort p s).sentN = none ∧ n = tdmFrameAt (auGroup (auPort p s).group s).rate (wall s.head.mt) →
    exec (.tdmFrame p n) s = .next (tdmFrame p n s)) ∧
  (∀ (p n m : Nat) (s : State), inService .head s = true ∧ p < 8 ∧ audioDue (auPort p s).group s = false ∧ isSending (auPort p s) = true ∧ (auPort p s).sentN = some m ∧ m < n ∧ n = tdmFrameAt (auGroup (auPort p s).group s).rate (wall s.head.mt) →
    exec (.tdmFrame p n) s = .next (tdmFrame p n s)) ∧
  (∀ (p n : Nat) (s : State), inService .head s = true ∧ p < 8 ∧ audioDue (auPort p s).group s = true →
    exec (.tdmFrame p n) s = .next (tdmDue p n (audioBoundary (auPort p s).group (audioFrameNow (auPort p s).group s) s))) ∧
  (∀ (s : State), inService .head s = true ∧ s.head.au.pllLock = true →
    exec (.auPllUnlock) s = .next (post .head 0x0E 3 0x0005 0 0 (updAu (fun a => { a with pllLock := false, ports := a.ports.map (fun p => { p with held := true }) }) s))) ∧
  (∀ (s : State), inService .head s = true ∧ s.head.au.pllLock = false →
    exec (.auPllRelock) s = .next (updAu (fun a => { a with pllLock := true, lockSince := s.now }) s))

/-- An accepted Foyer opcode answers the next state written out: the port mode with its dropped links, sub-port addresses, stream settings and buffers, stream control and counters, surfaces created under the lowest free handle and destroyed. -/
def Obligations.FoyerCommandsComplete : Prop :=
  (∀ (c : Cmd) (s0 : State), Accepts specFySetPort c s0 → exec (.fySetPort c) s0 = .next (
    let s := take 0x0301 c s0
    let p := fld c.params 0 1
    let m := fld c.params 1 1
    if m = (fyPort p s).mode then ok c 0x0301 [] s
    else
      let s1 := ((List.range 4).filter (fun k => subLink (4 * p + k) s)).foldl (fun t k => dropLink (4 * p + k) t) s
      ok c 0x0301 [] (stopPtp p (loadLatency p m (updFyPort p (fun q => { q with mode := m, linkUp := 0, held := [] }) s1))))) ∧
  (∀ (c : Cmd) (s0 : State), Accepts specFySetSubport c s0 → exec (.fySetSubport c) s0 = .next (
    let s := take 0x0302 c s0
    let p := c.params
    let v : SubPort := { vlan := fld p 2 2, ipv4 := fld p 4 4, prefix4 := fld p 8 1, prefix6 := fld p 9 1, ipv6 := fld p 12 16 }
    ok c 0x0302 [] (updFy (fun y => { y with subs := upd y.subs (fld p 0 1) (fun _ => v) }) s))) ∧
  (∀ (c : Cmd) (s0 : State), Accepts specFyGetPort c s0 → exec (.fyGetPort c) s0 = .next (
    let s := take 0x0303 c s0
    let p := fyPort (fld c.params 0 1) s
    ok c 0x0303 (leBytes 1 p.mode ++ zeros 3 ++ leBytes 4 (fyStatus p) ++ leBytes 4 p.rxBad.toNat ++ leBytes 4 p.overflow.toNat) s)) ∧
  (∀ (c : Cmd) (s0 : State), Accepts specFySetVideoStream c s0 → exec (.fySetVideoStream c) s0 = .next (
    let s := take 0x0304 c s0
    let p := c.params
    let k := fld p 0 1
    let mine := fun (h : Nat) => decide (3584 + 8 * k ≤ h ∧ h < 3584 + 8 * k + 8)
    let new := (List.range (fld p 11 1)).map (fun b => (3584 + 8 * k + b, bufferSurface p b))
    let s1 := updFy (fun y => { y with surfaces := y.surfaces.filter (fun x => ¬ mine x.1) ++ new }) s
    let s2 := updStream 0 k (fun x => { x with cfg := p }) s1
    ok c 0x0304 [] (updVideo k (fun _ => { bound := if fld p 12 1 ≤ 31 then some (fld p 12 1) else none }) s2))) ∧
  (∀ (c : Cmd) (s0 : State), Accepts specFySetAudioStream c s0 → exec (.fySetAudioStream c) s0 = .next (
    let s := take 0x0305 c s0
    ok c 0x0305 [] (updStream 1 (fld c.params 0 1) (fun x => { x with cfg := c.params, seqs := [] }) s))) ∧
  (∀ (c : Cmd) (s0 : State), Accepts specFySetAncStream c s0 → exec (.fySetAncStream c) s0 = .next (
    let s := take 0x0306 c s0
    ok c 0x0306 [] (updStream 2 (fld c.params 0 1) (fun x => { x with cfg := c.params, seqs := [] }) s))) ∧
  (∀ (c : Cmd) (s0 : State), Accepts specFyStreamCtl c s0 → exec (.fyStreamCtl c) s0 = .next (
    let s := take 0x0307 c s0
    let k := fld c.params 0 1
    let kind := fld c.params 1 1
    let on := fld c.params 2 1 = 1
    let was := (streamAt kind k s).en
    ok c 0x0307 [] (if on ∧ ¬ was then enableStream kind k s else if ¬ on ∧ was then disableStream kind k s else s))) ∧
  (∀ (c : Cmd) (s0 : State), Accepts specFyGetStreamStats c s0 → exec (.fyGetStreamStats c) s0 = .next (
    let s := take 0x0308 c s0
    let k := fld c.params 0 1
    let kind := fld c.params 1 1
    let x := (streamAt kind k s).stats
    let w := fun (v : BitVec 32) => leBytes 4 v.toNat
    let s1 := if bit (fld c.params 2 1) 0 then updStats kind k (fun y => { lastCommit := y.lastCommit }) s else s
    ok c 0x0308 (w x.committed ++ w x.incomplete ++ w x.noBuffer ++ w x.late ++ w x.formatErrors ++ w x.model ++ w x.discarded ++
      w x.path0 ++ w x.path1 ++ w x.duplicates ++ leBytes 8 x.lastCommit) s1)) ∧
  (∀ (c : Cmd) (s0 : State), Accepts specFySurfaceCreate c s0 → exec (.fySurfaceCreate c) s0 = .next (
    let s := take 0x0309 c s0
    let h := (freeHandle s).getD 0
    finishFwd c 0x0309 (replyTo c 0x0309 stOk (leBytes 2 h)) h (BitVec.ofNat 32 c.tag) 0 (updFy (fun y => { y with surfaces := y.surfaces ++ [(h, parseSurface c.params)] }) s))) ∧
  (∀ (c : Cmd) (s0 : State), Accepts specFySurfaceDestroy c s0 → exec (.fySurfaceDestroy c) s0 = .next (
    let s := take 0x030A c s0
    okFwd c 0x030A [] (updFy (fun y => { y with surfaces := delKey y.surfaces (fld c.params 0 2) }) s)))

/-- A bad frame is counted, an ARP request of an addressed sub-port is answered, a packet of a stream enters the ingress buffer; packets that their stream takes are counted on their path and processed; an incomplete video frame closes after its time; a lost stream or path is posted once; a link comes up and goes down. -/
def Obligations.FoyerEventsComplete : Prop :=
  (∀ (k : Nat) (f : EthFrame) (s : State), inService .head s = true ∧ subLink k s = true ∧ (f.fcsOk = false ∨ f.bytes < 64 ∨ 9216 < f.bytes) →
    exec (.ethFrameReceived k f) s = .next (updFyPort (k / 4) (fun p => { p with rxBad := p.rxBad + 1 }) s)) ∧
  (∀ (k : Nat) (f : EthFrame) (s : State), inService .head s = true ∧ subLink k s = true ∧ f.fcsOk = true ∧ 64 ≤ f.bytes ∧ f.bytes ≤ 9216 ∧ f.vlan = (if (s.head.fy.subs.getD k {}).vlan = 0 then none else some (s.head.fy.subs.getD k {}).vlan) ∧ f.kind = .arp ∧ (s.head.fy.subs.getD k {}).ipv4 ≠ 0 ∧ firmwareGone s = false →
    exec (.ethFrameReceived k f) s = .next (emit .head (.eth k 1 [subMac k s]) s)) ∧
  (∀ (k : Nat) (f : EthFrame) (a b p : Nat) (s : State), inService .head s = true ∧ subLink k s = true ∧ f.fcsOk = true ∧ 64 ≤ f.bytes ∧ f.bytes ≤ 9216 ∧ f.vlan = (if (s.head.fy.subs.getD k {}).vlan = 0 then none else some (s.head.fy.subs.getD k {}).vlan) ∧ f.kind = .stream a b p ∧ takesPacket a b p s = true ∧ pathSub a p (streamAt a b s) = k →
    exec (.ethFrameReceived k f) s = .next (ingress (k / 4) { kind := a, stream := b, path := p, bytes := f.bytes } s)) ∧
  (∀ (k p : Nat) (v : VideoPkt) (s : State), inService .head s = true ∧ takesPacket 0 k p s = true →
    exec (.videoPacketReceived k p v) s = .next (videoPacket k p { v with rxTime := packetTime 0 k p v.rxTime s } (packetOn 0 k p v.bytes s))) ∧
  (∀ (k : Nat) (r : Word) (f : OpenFrame) (x : Nat) (s : State), inService .head s = true ∧ (videoAt k s).frames.find? (fun f => f.rtp == r) = some f ∧ f.laterAt = some x ∧ x + diffMax 0 (streamAt 0 k s) ≤ wall s.head.mt →
    exec (.videoFrameCloseTimeout k r) s = .next (closeIncomplete k f s)) ∧
  (∀ (k p : Nat) (a : AudioPkt) (s : State), inService .head s = true ∧ takesPacket 1 k p s = true ∧ a.pt = fld (streamAt 1 k (packetOn 1 k p a.bytes s)).cfg 4 1 ∧ (streamAt 1 k (packetOn 1 k p a.bytes s)).seqs.contains a.seq.toNat = false →
    exec (.audioPacketReceived k p a) s = .next ((let s1 := packetOn 1 k p a.bytes s; let m := mediaIndex (fld (streamAt 1 k s1).cfg 2 1) a.rtp.toNat s1; (List.range a.frames.length).foldl (fun b (i : Nat) => audioFrame k (m + (i : Int)) (a.frames.getD i []) b) (noteSeq 1 k a.seq.toNat s1)))) ∧
  (∀ (k p : Nat) (a : AncPkt) (s : State), inService .head s = true ∧ takesPacket 2 k p s = true ∧ a.pt = fld (streamAt 2 k (packetOn 2 k p a.bytes s)).cfg 2 1 ∧ (streamAt 2 k (packetOn 2 k p a.bytes s)).seqs.contains a.seq.toNat = false →
    exec (.ancPacketReceived k p a) s = .next (a.anc.foldl (ancData k a.rtp) (noteSeq 2 k a.seq.toNat (packetOn 2 k p a.bytes s)))) ∧
  (∀ (k n : Nat) (s : State), inService .head s = true ∧ k < 64 ∧ (streamAt 0 k s).en = true ∧ (videoAt k s).lost = false ∧ ticksRun s = true ∧ s.head.mt.lastN = some n ∧ (videoAt k s).fromTick + fld (streamAt 0 k s).cfg 10 1 ≤ n + 1 ∧ (videoAt k s).bound = none →
    exec (.fyStreamLost k) s = .next (post .head 0x03 2 0x0003 (streamDet 0 k 0) 0 (updVideo k (fun v => { v with lost := true }) s))) ∧
  (∀ (a k : Nat) (s : State), inService .head s = true ∧ a < 3 ∧ k < 64 ∧ (streamAt a k s).en = true ∧ hasPath a 0 (streamAt a k s) = true ∧ hasPath a 1 (streamAt a k s) = true ∧ (streamAt a k s).lost1 = false ∧ (streamAt a k s).seen1 = some 0 ∧ 100000000 ≤ wall s.head.mt ∧ (streamAt a k s).seen0 = some (wall s.head.mt) →
    exec (.fyPathLost a k 1) s = .next (post .head 0x03 2 0x0005 (streamDet a k 1) 0 (updStream a k (fun x => { x with lost1 := true }) s))) ∧
  (∀ (a k : Nat) (s : State), inService .head s = true ∧ a < 3 ∧ k < 64 ∧ (streamAt a k s).en = true ∧ hasPath a 0 (streamAt a k s) = true ∧ hasPath a 1 (streamAt a k s) = true ∧ (streamAt a k s).lost0 = false ∧ (streamAt a k s).seen0 = some 0 ∧ 100000000 ≤ wall s.head.mt ∧ (streamAt a k s).seen1 = some (wall s.head.mt) →
    exec (.fyPathLost a k 0) s = .next (post .head 0x03 2 0x0005 (streamDet a k 0) 0 (updStream a k (fun x => { x with lost0 := true }) s))) ∧
  (∀ (k : Nat) (s : State), inService .head s = true ∧ isProvided k s = true ∧ subLink k s = false →
    exec (.fyLinkUp k) s = .next (post .head 0x03 1 0x0001 (BitVec.ofNat 32 k) 0 (updFyPort (k / 4) (fun p => { p with linkUp := p.linkUp ||| (1#4 <<< (k % 4)) }) s))) ∧
  (∀ (k : Nat) (s : State), inService .head s = true ∧ subLink k s = true →
    exec (.fyLinkDown k) s = .next (post .head 0x03 3 0x0002 (BitVec.ofNat 32 k) 0 (updFyPort (k / 4) (fun p => { p with linkUp := p.linkUp &&& ~~~(1#4 <<< (k % 4)), dropped := p.dropped ||| (1#4 <<< (k % 4)), held := p.held.filter (fun h => ¬ (pathSub h.kind h.path (streamAt h.kind h.stream s) == k)) }) s)))

/-- An accepted PO_NOP, PO_GET_INFO, PO_EVENT_READ, PO_EVENT_SUBSCRIBE, PO_ABORT, PO_TILE_CONFIG, PO_REG_READ, PO_REG_WRITE or PO_RESTART answers the next state written out: the reply, the records from a SEQ on, the subscription kept or dropped, the abort taken or refused, the configuration of the Tile, the registers read or written in ascending order, the reply that leaves before the restart. PO_PAD changes nothing. -/
def Obligations.PorchCommandsComplete : Prop :=
  (∀ (c : Cmd) (s0 : State), Accepts specPoNop c s0 → exec (.poNop c) s0 = .next (
    let s := take 0x0101 c s0
    ok c 0x0101 c.params s)) ∧
  (∀ (c : Cmd) (s0 : State), Accepts specPoGetInfo c s0 → exec (.poGetInfo c) s0 = .next (
    let s := take 0x0102 c s0
    ok c 0x0102 (infoBytes c.part s) s)) ∧
  (∀ (c : Cmd) (s0 : State), Accepts specPoEventRead c s0 → exec (.poEventRead c) s0 = .next (
    let s := take 0x0105 c s0
    let l := (recordsFrom (BitVec.ofNat 32 (fld c.params 0 4)) (fld c.params 6 1) s).take (fld c.params 4 2)
    ok c 0x0105 (l.flatMap eventBytes) s)) ∧
  (∀ (c : Cmd) (s0 : State), Accepts specPoEventSubscribe c s0 → exec (.poEventSubscribe c) s0 = .next (
    let s := take 0x0106 c s0
    let m := fld c.params 0 1
    ok c 0x0106 []
      { s with head.po.subs := if m = 0xFF then delKey s.head.po.subs c.src else putKey s.head.po.subs c.src m })) ∧
  (∀ (c : Cmd) (s0 : State), Accepts specPoAbort c s0 → exec (.poAbort c) s0 = .next (
    let s := take 0x0107 c s0
    match c.part with
    | .head => abortHere c s
    | .tile =>
      let tag := fld c.params 0 2
      if s.tile.po.outst.any (fun e => sameHead e.src c.src && e.tag == tag && e.final.isNone &&
          !(e.opcode == 0x0107 && e.tag == c.tag)) then
        refuse c 0x0107 { status := stBusy } s
      else refuse c 0x0107 { status := stBadParam, field := 0 } s)) ∧
  (∀ (c : Cmd) (s0 : State), Accepts specPoTileConfig c s0 → exec (.poTileConfig c) s0 = .next (
    let s := take 0x0109 c s0
    let p := c.params
    let f := fld p 1 1
    let mode := fld p 0 1 = 1
    let s1 := if s.tile.po.claimMode = decide mode then s
      else { s with tile.po.claimMode := mode, tile.ld.claim := 0, tile.ld.held := [] }
    let s2 := if bit f 2 then { s1 with tile.time.holdLimitMs := fld p 2 2 } else s1
    let s3 := if bit f 1 then { s2 with tile.po.routeA := fld p 4 1, tile.po.routeB := fld p 5 1 } else s2
    let s4 := if bit f 0 then takeTick p s3 else s3
    ok c 0x0109 [] s4)) ∧
  (∀ (c : Cmd) (s0 : State), Accepts specPoRegRead c s0 → exec (.poRegRead c) s0 = .next (
    let s := take 0x0103 c s0
    let r := readRegs c.part (fld c.params 0 4) (fld c.params 4 2) s
    ok c 0x0103 r.1 r.2)) ∧
  (∀ (c : Cmd) (s0 : State), Accepts specPoRegWrite c s0 → exec (.poRegWrite c) s0 = .next (
    let s := take 0x0104 c s0
    let l := (List.range (fld c.params 4 2)).map (fun i => BitVec.ofNat 32 (fld c.params (8 + 4 * i) 4))
    ok c 0x0104 [] (writeRegs c.part (fld c.params 0 4) l s))) ∧
  (∀ (c : Cmd) (s0 : State), Accepts specPoRestart c s0 → exec (.poRestart c) s0 = .next (
    let s := take 0x0108 c s0
    let s1 := sendNow c 0x0108 s
    if fld c.params 0 1 = 0 then scope0Restart c.part s1 else fullReset c.part (endOperations c.part s1))) ∧
  (∀ (c : Cmd) (s : State), inService c.part s = true →
    exec (.poPad c) s = .next (touchSession c s))

/-- Once the endpoint answers the host, a command doorbell that claims more slots than the ring has halts an enabled queue and signals vector 16, any other fetches the packets in order and writes the consumer count back, or leaves them unfetched while the firmware is gone; a reply doorbell frees slots of an enabled queue; EN set and EN cleared write the queue's control; a waiting reply is written when the ring has room and waits otherwise; a signal leaves once its delay or its count is reached, with IRQ_EN; packets that waited are taken once a place is free; a partial write has no effect but its event. A doorbell of a queue that is disabled or halted, an event that is not due and an access before the endpoint answers change nothing. -/
def Obligations.PorchQueueEventsComplete : Prop :=
  (∀ (q : Nat) (count : Word) (packets : List (List Byte)) (s : State), inService .head s = true ∧ configAnswer s = .normal ∧ q < 16 ∧ (queueAt q s).en = true ∧ (queueAt q s).halted = false ∧ 2 ^ (queueAt q s).cqSize < (count - (queueAt q s).cqHead).toNat →
    exec (.poCqTail q count packets) s = .next (emit .head (.msix 16) (post .head 0x01 3 0x0001 (BitVec.ofNat 32 q) (count.zeroExtend 64) (updQueue q (fun k => { k with ringError := true, halted := true }) s)))) ∧
  (∀ (q : Nat) (count : Word) (packets : List (List Byte)) (s : State), inService .head s = true ∧ configAnswer s = .normal ∧ ((queueAt q s).en = false ∨ (queueAt q s).halted = true ∨ 16 ≤ q) →
    exec (.poCqTail q count packets) s = .next (s)) ∧
  (∀ (q : Nat) (count : Word) (packets : List (List Byte)) (s : State), inService .head s = true ∧ configAnswer s = .normal ∧ q < 16 ∧ (queueAt q s).en = true ∧ (queueAt q s).halted = false ∧ (count - (queueAt q s).cqHead).toNat ≤ 2 ^ (queueAt q s).cqSize ∧ firmwareGone s = true →
    exec (.poCqTail q count packets) s = .next (updQueue q (fun k => { k with unfetched := k.unfetched ++ packets.map (fun b => ({ arrival := wall s.head.mt, bytes := b } : RingPkt)) }) (updQueue q (fun k => { k with cqTail := count }) s))) ∧
  (∀ (q : Nat) (count : Word) (packets : List (List Byte)) (s : State), inService .head s = true ∧ configAnswer s = .normal ∧ q < 16 ∧ (queueAt q s).en = true ∧ (queueAt q s).halted = false ∧ (count - (queueAt q s).cqHead).toNat ≤ 2 ^ (queueAt q s).cqSize ∧ firmwareGone s = false →
    exec (.poCqTail q count packets) s = .next (writeConsumer q (fetchAll q ((queueAt q s).unfetched ++ packets.map (fun b => ({ arrival := wall s.head.mt, bytes := b } : RingPkt))) (updQueue q (fun k => { k with cqTail := count }) s)))) ∧
  (∀ (q : Nat) (count : Word) (s : State), inService .head s = true ∧ configAnswer s = .normal ∧ (queueAt q s).en = true →
    exec (.poRqHead q count) s = .next (noteRoom q (updQueue q (fun k => { k with rqHead := count }) s))) ∧
  (∀ (q : Nat) (count : Word) (s : State), inService .head s = true ∧ configAnswer s = .normal ∧ (queueAt q s).en = false →
    exec (.poRqHead q count) s = .next (s)) ∧
  (∀ (q : Nat) (n : Word) (l : List (List Byte)) (s : State), inService .head s = true ∧ configAnswer s ≠ .normal →
    exec (.poCqTail q n l) s = .next (s)) ∧
  (∀ (q : Nat) (n : Word) (s : State), inService .head s = true ∧ configAnswer s ≠ .normal →
    exec (.poRqHead q n) s = .next (s)) ∧
  (∀ (q : Nat) (v : Word) (s : State), inService .head s = true ∧ configAnswer s = .normal ∧ q < 16 →
    exec (.poQEnable q v) s = .next (qCtlWrite q (v ||| 1#32) s)) ∧
  (∀ (q : Nat) (v : Word) (s : State), inService .head s = true ∧ configAnswer s ≠ .normal →
    exec (.poQEnable q v) s = .next (s)) ∧
  (∀ (q : Nat) (v : Word) (s : State), inService .head s = true ∧ configAnswer s = .normal ∧ q < 16 →
    exec (.poQDisable q v) s = .next (qCtlWrite q (v &&& ~~~1#32) s)) ∧
  (∀ (q : Nat) (v : Word) (s : State), inService .head s = true ∧ configAnswer s ≠ .normal →
    exec (.poQDisable q v) s = .next (s)) ∧
  (∀ (q : Nat) (r : Reply) (l : List Reply) (s : State), inService .head s = true ∧ (queueAt q s).replies = r :: l ∧ (queueAt q s).en = true ∧ rqFits (queueAt q s) (slotsFor r.params.length) = true →
    exec (.replyWrite q) s = .next (noteRoom q (ringWrite q r (updQueue q (fun k => { k with replies := l }) s)))) ∧
  (∀ (q : Nat) (r : Reply) (l : List Reply) (s : State), inService .head s = true ∧ (queueAt q s).replies = r :: l ∧ ((queueAt q s).en = false ∨ rqFits (queueAt q s) (slotsFor r.params.length) = false) →
    exec (.replyWrite q) s = .next (s)) ∧
  (∀ (q : Nat) (s : State), inService .head s = true ∧ (queueAt q s).replies = [] →
    exec (.replyWrite q) s = .next (s)) ∧
  (∀ (q : Nat) (s : State), inService .head s = true ∧ 0 < (queueAt q s).unsignalled ∧ ((queueAt q s).firstUnsig + 1000 * (queueAt q s).coalUs.toNat ≤ wall s.head.mt ∨ max 1 (queueAt q s).coalCnt.toNat ≤ (queueAt q s).unsignalled) ∧ (queueAt q s).irqEn = true →
    exec (.msixCoalesceExpiry q) s = .next (emit .head (.msix q) (updQueue q (fun k => { k with unsignalled := 0 }) s))) ∧
  (∀ (q : Nat) (s : State), inService .head s = true ∧ 0 < (queueAt q s).unsignalled ∧ ((queueAt q s).firstUnsig + 1000 * (queueAt q s).coalUs.toNat ≤ wall s.head.mt ∨ max 1 (queueAt q s).coalCnt.toNat ≤ (queueAt q s).unsignalled) ∧ (queueAt q s).irqEn = false →
    exec (.msixCoalesceExpiry q) s = .next (updQueue q (fun k => { k with unsignalled := 0 }) s)) ∧
  (∀ (q : Nat) (s : State), inService .head s = true ∧ ((queueAt q s).unsignalled = 0 ∨ (wall s.head.mt < (queueAt q s).firstUnsig + 1000 * (queueAt q s).coalUs.toNat ∧ (queueAt q s).unsignalled < max 1 (queueAt q s).coalCnt.toNat)) →
    exec (.msixCoalesceExpiry q) s = .next (s)) ∧
  (∀ (q : Nat) (s : State), inService .head s = true ∧ (queueAt q s).en = true ∧ (queueAt q s).halted = false ∧ (queueAt q s).unfetched.isEmpty = false ∧ atLimit (.queue q) s = false ∧ firmwareGone s = false →
    exec (.porchResumeTaking (.queue q)) s = .next (writeConsumer q (fetchAll q (queueAt q s).unfetched s))) ∧
  (∀ (src : Source) (s : State), inService .head s = true ∧ (match src with | .queue q => (queueAt q s).unfetched = [] ∨ atLimit src s = true ∨ (queueAt q s).en = false ∨ (queueAt q s).halted = true ∨ firmwareGone s = true | _ => True) →
    exec (.porchResumeTaking src) s = .next (s)) ∧
  (∀ (w : RegAccess) (v : Word) (e : BitVec 4) (s : State), inService .head s = true ∧ configAnswer s = .normal ∧ e ≠ 0xF ∧ w.space ≠ .tileLocal →
    exec (.barPartialWrite w v e) s = .next (post .head 0x01 2 0x0002 0 (BitVec.ofNat 64 w.addr) s)) ∧
  (∀ (w : RegAccess) (v : Word) (e : BitVec 4) (s : State), inService .head s = true ∧ (configAnswer s ≠ .normal ∨ e = 0xF ∨ w.space = .tileLocal) →
    exec (.barPartialWrite w v e) s = .next (s))

/-- A Tile's reply to this Head is taken by tileReply, which matches it with its command, and one for the partner is passed over the twin port; a command to a Tile without a reply for 250 ms ends for that Tile with TIMEOUT and PO_TILE_TIMEOUT; a command that has had no reply for its time reports progress; a session opens at the lowest free number, or is reset, or ends with the handshake; a session closes, ends after 600 s idle and on a packet that is too long; a record of a Tile enters the log; a new second clears the limits of R134. A close, an idle limit or a long packet of a session that is not open, and a Tile's time-out that no command has reached, change nothing. -/
def Obligations.PorchTransportEventsComplete : Prop :=
  (∀ (r : TileReply) (s : State), inService .head s = true ∧ r.headB = s.head.sys.roleB →
    exec (.tileReplyReceived { msg := r }) s = .next (tileReply r.reply s)) ∧
  (∀ (r : TileReply) (s : State), inService .head s = true ∧ r.headB ≠ s.head.sys.roleB →
    exec (.tileReplyReceived { msg := r }) s = .next (passOver (replyPacket r) s)) ∧
  (∀ (ch po tag : Nat) (e : Outst) (s : State), inService .head s = true ∧ s.head.po.outst.find? (fun e => e.tag == tag && e.final.isNone && e.legs.any (fun l => atTile ch po l && decide (l.sentAt.getD 0 + 250000000 ≤ wall s.head.mt))) = some e →
    exec (.tileCommandTimeout ch po tag) s = .next (endLeg e ch po stTimeout (replyTo (entryCmd e) e.opcode stTimeout ({ status := stTimeout } : Err).params) (post .head 0x01 2 0x0006 (BitVec.ofNat 32 (e.opcode + 65536 * tag)) 0 s))) ∧
  (∀ (ch po tag : Nat) (s : State), inService .head s = true ∧ s.head.po.outst.find? (fun e => e.tag == tag && e.final.isNone && e.legs.any (fun l => atTile ch po l && decide (l.sentAt.getD 0 + 250000000 ≤ wall s.head.mt))) = none →
    exec (.tileCommandTimeout ch po tag) s = .next (s)) ∧
  (∀ (p : Part) (src : Source) (tag : Nat) (e : Outst) (s : State), inService p s = true ∧ (outstOf p (expireRetrains p s)).find? (fun e => e.src == src && e.tag == tag && e.final.isNone && decide (e.lastReply + (match p with | .head => if e.replied then 1000000000 else 2000000000 | .tile => 200000000) ≤ replyClock p src (expireRetrains p s))) = some e →
    exec (.progressReply p src tag) s = .next ((let s1 := expireRetrains p s; let n := progressTotal p e s1; let d := progressDone e n s1; let s2 := setOutst p (putFirst e { e with lastReply := wallOf p s1, replied := true } (outstOf p s1)) d.2; if e.discard then s2 else deliver p src { opcode := e.opcode, tag := e.tag, status := stProgress, flags := 9, pair := e.pair, chain := e.chain, position := e.position, params := leBytes 4 d.1 ++ leBytes 4 n } s2))) ∧
  (∀ (p : Part) (src : Source) (tag : Nat) (s : State), inService p s = true ∧ (outstOf p (expireRetrains p s)).find? (fun e => e.src == src && e.tag == tag && e.final.isNone && decide (e.lastReply + (match p with | .head => if e.replied then 1000000000 else 2000000000 | .tile => 200000000) ≤ replyClock p src (expireRetrains p s))) = none →
    exec (.progressReply p src tag) s = .next (expireRetrains p s)) ∧
  (∀ (n : Nat) (b : Bool) (s : State), inService .head s = true ∧ (sessionAt n s).isOpen = true →
    exec (.mgmtSessionClose n b) s = .next (closeSession n (if b then 2 else 0) s)) ∧
  (∀ (n : Nat) (b : Bool) (s : State), inService .head s = true ∧ (sessionAt n s).isOpen = false →
    exec (.mgmtSessionClose n b) s = .next (s)) ∧
  (∀ (n : Nat) (s : State), inService .head s = true ∧ (sessionAt n s).isOpen = true ∧ (sessionAt n s).last + 600000000000 ≤ wall s.head.mt →
    exec (.mgmtSessionIdleTimeout n) s = .next (closeSession n 1 s)) ∧
  (∀ (n : Nat) (s : State), inService .head s = true ∧ ((sessionAt n s).isOpen = false ∨ wall s.head.mt < (sessionAt n s).last + 600000000000) →
    exec (.mgmtSessionIdleTimeout n) s = .next (s)) ∧
  (∀ (n l : Nat) (s : State), inService .head s = true ∧ (sessionAt n s).isOpen = true ∧ 4080 < l →
    exec (.poFramingError n l) s = .next (closeSession n 3 (post .head 0x01 2 0x0003 (BitVec.ofNat 32 n) 0 (emit .head (.tlsAlert n) s)))) ∧
  (∀ (n l : Nat) (s : State), inService .head s = true ∧ ((sessionAt n s).isOpen = false ∨ l ≤ 4080) →
    exec (.poFramingError n l) s = .next (s)) ∧
  (∀ (e : EventRec) (s : State), inService .head s = true ∧ ¬ (e.chain = s.tile.sys.chain ∧ e.position = s.tile.sys.position) →
    exec (.tileEventReceived { msg := e }) s = .next (insertEvent { e with fromTile := true } s)) ∧
  (∀ (e : EventRec) (s : State), inService .head s = true ∧ e.chain = s.tile.sys.chain ∧ e.position = s.tile.sys.position →
    exec (.tileEventReceived { msg := e }) s = .next (forwardEvent e s)) ∧
  (∀ (s : State), inService .head s = true →
    exec (.eventsSuppressed) s = .next (rollSecond s)) ∧
  (∀ (h : TlsHello) (n : Nat) (s : State), inService .head s = true ∧ firmwareGone s = false ∧ h.port = 4720 ∧ (List.range 8).find? (fun n => !(sessionAt n s).isOpen) = some n ∧ tlsAgrees h = true →
    exec (.mgmtSessionOpen h) s = .next ((let anchors := s.head.at_.anchors.filterMap id; let s1 := emit .head (.tlsCert (s.head.at_.ident.operational.getD s.head.at_.ident.device)) s; if anchors.isEmpty ∨ ¬ Config.chains anchors h.cert then s1 else post .head 0x01 1 0x0004 (BitVec.ofNat 32 n) (Config.fingerprint h.cert) { s1 with head.po.sessions := upd s1.head.po.sessions n (fun _ => { isOpen := true, last := wall s.head.mt, fingerprint := Config.fingerprint h.cert }) }))) ∧
  (∀ (h : TlsHello) (n : Nat) (s : State), inService .head s = true ∧ firmwareGone s = false ∧ h.port = 4720 ∧ (List.range 8).find? (fun n => !(sessionAt n s).isOpen) = some n ∧ tlsAgrees h = false →
    exec (.mgmtSessionOpen h) s = .next (s)) ∧
  (∀ (h : TlsHello) (s : State), inService .head s = true ∧ (firmwareGone s = true ∨ h.port ≠ 4720) →
    exec (.mgmtSessionOpen h) s = .next (s)) ∧
  (∀ (h : TlsHello) (s : State), inService .head s = true ∧ firmwareGone s = false ∧ h.port = 4720 ∧ (List.range 8).find? (fun n => !(sessionAt n s).isOpen) = none →
    exec (.mgmtSessionOpen h) s = .next (emit .head .tcpReset s))

/-- An accepted TW_GET_STATUS, TW_SET_MODE, TW_HANDOVER or TW_RESYNC answers the next state written out: the status with the partner's HELLO, the settings and the mode, the handover named to the mirror or the takeover at once, the snapshot asked for again. -/
def Obligations.TwinCommandsComplete : Prop :=
  (∀ (c : Cmd) (s0 : State), Accepts specTwGetStatus c s0 → exec (.twGetStatus c) s0 = .next (
    let s := take 0x0901 c s0
    let t := s.head.tw
    let h := t.peer
    ok c 0x0901 (leBytes 4 (twStatus s) ++ leBytes 4 (twCtl s) ++ leBytes 1 ((h.map (fun h => h.pair)).getD 0) ++
      leBytes 1 ((h.map (fun h => b2n h.claimMode)).getD 0) ++ [0, 0] ++ leBytes 4 ((h.map (fun h => h.fwVersion.toNat)).getD 0) ++
      leBytes 4 t.fwdCount.toNat ++ leBytes 4 t.liveMiss.toNat ++ leBytes 4 t.qMismatch.toNat ++ leBytes 4 t.tileDivergent.toNat) s)) ∧
  (∀ (c : Cmd) (s0 : State), Accepts specTwSetMode c s0 → exec (.twSetMode c) s0 = .next (
    let s := take 0x0902 c s0
    let p := c.params
    let s1 := updTw (fun t =>
      { t with
        autoTakeover := bit (fld p 1 1) 0, digestLimit := fld p 2 1, cutWaitUs := fld p 4 2
        claimPend := some (BitVec.ofNat 16 (fld p 6 2), BitVec.ofNat 16 (fld p 8 2)) }) s
    ok c 0x0902 [] (setMode (fld p 0 1 = 1) (twinEval s1)))) ∧
  (∀ (c : Cmd) (s0 : State), Accepts specTwHandover c s0 → exec (.twHandover c) s0 = .next (
    let s := take 0x0903 c s0
    if fld c.params 0 1 = 0 then handOver c s else takeOver c s)) ∧
  (∀ (c : Cmd) (s0 : State), Accepts specTwResync c s0 → exec (.twResync c) s0 = .next (
    let s := take 0x0904 c s0
    requestSnapshot false (updTw (fun t => { t with resync := t.resync ++ [c] }) s)))

/-- The beat toggles every 10 µs; a change of the partner's claim, the loss and the return of its beat, a split that lasted 20 µs and the watchdog lead to the roles of R375 and R376; HELLO and ROLE leave at their intervals and are taken; a snapshot is asked for, chosen, and taken in. -/
def Obligations.TwinPairEventsComplete : Prop :=
  (∀ (s : State), inService .head s = true ∧ ownBeat s = true ∧ s.head.tw.beatAt + 10000 ≤ s.now →
    exec (.dbBeatToggle) s = .next (emit .head (.pin .dbBeat (!s.head.tw.beatOut)) (updTw (fun t => { t with beatOut := !t.beatOut, beatAt := s.now }) s))) ∧
  (∀ (b : Bool) (s : State), inService .head s = true →
    exec (.dbPeerClaimChange b) s = .next (twinEval (updTw (fun t => { t with peerLine := b }) s))) ∧
  (∀ (s : State), inService .head s = true ∧ s.head.tw.lastRoleBeat = none ∧ s.head.tw.beat = true →
    exec (.peerBeatLost) s = .next (beatLost s)) ∧
  (∀ (x : Nat) (s : State), inService .head s = true ∧ s.head.tw.lastRoleBeat = some x ∧ s.now < x + 50000 ∧ s.head.tw.dbFaultBeat = false →
    exec (.peerBeatLost) s = .next (twinEval (post .head 0x09 2 0x000D 0 0 (updTw (fun t => { t with dbFaultBeat := true }) s)))) ∧
  (∀ (s : State), inService .head s = true →
    exec (.peerBeatRegained) s = .next (twinEval (updTw (fun t => { t with beat := true, dbFaultBeat := false }) s))) ∧
  (∀ (s : State), inService .head s = true →
    exec (.twinWatchdogExpiry) s = .next (noteBoth (updTw (fun t => { t with wdExpired := true }) s))) ∧
  (∀ (x : Nat) (s : State), inService .head s = true ∧ s.head.tw.bothSince = some x ∧ x + 20000 ≤ s.now ∧ s.head.sys.roleB = true →
    exec (.twSplit) s = .next (pairEval (setRole .alone (post .head 0x09 3 0x000C 0 0 (noteBoth (setClaim false (updTw (fun t => { t with split := true }) s))))))) ∧
  (∀ (x : Nat) (s : State), inService .head s = true ∧ s.head.tw.bothSince = some x ∧ x + 20000 ≤ s.now ∧ s.head.sys.roleB = false →
    exec (.twSplit) s = .next (updTw (fun t => { t with split := true }) s)) ∧
  (∀ (s : State), inService .head s = true ∧ twinUpNow s = true ∧ s.head.tw.lastHello = none →
    exec (.helloSend) s = .next (twinSend 0x01 (helloBytes (helloNow s)) (updTw (fun t => { t with lastHello := some (helloNow s), sentHello := s.now }) s))) ∧
  (∀ (h : Hello) (s : State), inService .head s = true ∧ twinUpNow s = true ∧ helloFault h s = 0 ∧ h.fwVersion = s.head.sys.fwVersion ∧ ticksRun s = true →
    exec (.helloReceived { msg := h }) s = .next (pairEval (twinEval (updTw (fun t => { t with paired := true, fault := 0, peer := some h, peerRoleClaim := h.claim }) s)))) ∧
  (∀ (h : Hello) (k : Nat) (s : State), inService .head s = true ∧ twinUpNow s = true ∧ helloFault h s = k + 1 →
    exec (.helloReceived { msg := h }) s = .next (helloFailed (k + 1) h s)) ∧
  (∀ (s : State), inService .head s = true ∧ twinUpNow s = true ∧ s.head.tw.sentRole + 10000 ≤ s.now →
    exec (.roleSend) s = .next (twinSend 0x07 (leBytes 1 (b2n s.head.tw.dbClaim + 2 * b2n (ownBeat s) + 4 * roleCode s.head.tw.role)) (updTw (fun t => { t with sentRole := s.now }) s))) ∧
  (∀ (c b : Bool) (r : Nat) (s : State), inService .head s = true ∧ twinUpNow s = true ∧ r ≠ 0 →
    exec (.roleReceived c b { msg := r }) s = .next (twinEval (claimWire c (updTw (fun t => { t with peerRoleClaim := c, peerRole := r, beat := t.beat || b, lastRoleBeat := if b then some s.now else t.lastRoleBeat }) s)))) ∧
  (∀ (s : State), inService .head s = true ∧ s.head.tw.claimMode = false ∧ s.head.tw.dbClaim = true ∧ ticksRun s = true ∧ twinUpNow s = true ∧ ¬ s.head.tw.role = .alone →
    exec (.snapshotRequestReceived) s = .next ((let t := afterPacket .head 32 (requestVia s).pkt s; updTw (fun x => { x with snapFor := some (cutAhead 4 (wall t.head.mt) t) }) t))) ∧
  (∀ (sn : Snapshot) (s : State), inService .head s = true ∧ s.head.tw.role = .joining ∧ s.head.tw.claimMode = false ∧ s.head.tw.joinFrame = none ∧ twinUpNow s = true ∧ ¬ frameNamed sn.m s < nextToClose s →
    ∃ t, exec (.snapshotReceived { msg := sn }) s = .next t ∧ (t.head.tw.joinFrame = some (frameNamed sn.m s) ∧ t.head.tw.live = sn.live)) ∧
  (∀ (sn : Snapshot) (s : State), inService .head s = true ∧ s.head.tw.role = .joining ∧ s.head.tw.claimMode = false ∧ s.head.tw.joinFrame = none ∧ twinUpNow s = true ∧ frameNamed sn.m s < nextToClose s →
    exec (.snapshotReceived { msg := sn }) s = .next (requestSnapshot s.head.tw.keeps s))

/-- A follower that holds the state acknowledges and takes a forwarded command, one before its snapshot only acknowledges it; an acknowledgement releases the reply, and after 1 ms without one the publisher goes on alone; CUT, or the end of its wait, closes the frame; a DIGEST is kept or compared; a passed packet is taken; a standby Head goes active after a tick without its partner. -/
def Obligations.TwinForwardEventsComplete : Prop :=
  (∀ (f : FwdCmd) (s : State), inService .head s = true ∧ isFollower s = true ∧ twinUpNow s = true ∧ takesForwarded s = true →
    exec (.fwdCmdReceived { msg := f }) s = .next (fwdTaken f (updTw (fun t => { t with fwdCount := t.fwdCount + 1 }) (match f.body with | .cmd _ _ => twinSend 0x03 (leBytes 4 f.id.toNat) s | _ => s)))) ∧
  (∀ (id : Word) (w : FwdWait) (s : State), inService .head s = true ∧ s.head.tw.fwdWait.find? (fun w => w.id == id) = some w →
    exec (.fwdAckReceived { msg := id }) s = .next (finish w.cmd w.opcode w.reply (updTw (fun t => { t with fwdWait := t.fwdWait.erase w }) s))) ∧
  (∀ (id : Word) (w : FwdWait) (s : State), inService .head s = true ∧ s.head.tw.fwdWait.find? (fun w => w.id == id && decide (w.sentAt + 1000000 ≤ s.now)) = some w ∧ s.head.tw.role = .publisher →
    exec (.fwdAckTimeout id) s = .next (evalClaim (setRole .alone (post .head 0x09 3 0x000A w.id 0 s)))) ∧
  (∀ (fn : Word) (count : Nat) (s : State), inService .head s = true ∧ count < 4294967296 ∧ frameNamed fn s = nextToClose s ∧ waitsForCut (frameNamed fn s) s = true ∧ twinUpNow s = true →
    exec (.cutReceived { msg := fn } count) s = .next (twinEval (closeTwin (frameNamed fn s) s))) ∧
  (∀ (n : Nat) (c : Int) (s : State), inService .head s = true ∧ ticksRun s = true ∧ n = nextToClose s ∧ waitsForCut n s = true ∧ cutoffOf s.head.mt n = some c ∧ c + 1000 * s.head.tw.cutWaitUs ≤ (wall s.head.mt : Int) →
    exec (.cutWaitExpiry n) s = .next (twinEval (closeTwin n (post .head 0x09 2 0x0009 0 (BitVec.ofNat 64 (n % 4294967296)) s)))) ∧
  (∀ (d : Digest) (s : State), inService .head s = true ∧ s.head.tw.claimMode = false ∧ twinUpNow s = true ∧ s.head.tw.role = .mirror ∧ s.head.tw.own.find? (fun x => x.fn == d.fn) = none →
    exec (.digestReceived { msg := d }) s = .next (updTw (fun t => { t with theirs := d :: t.theirs.take 7 }) s)) ∧
  (∀ (d x : Digest) (s : State), inService .head s = true ∧ s.head.tw.claimMode = false ∧ twinUpNow s = true ∧ s.head.tw.role = .publisher ∧ s.head.tw.own.find? (fun x => x.fn == d.fn) = some x →
    exec (.digestReceived { msg := d }) s = .next (compareDigest x d s)) ∧
  (∀ (k : GPkt) (s : State), inService .head s = true ∧ twinUpNow s = true →
    exec (.passedReceived { msg := k }) s = .next (passedTaken k s)) ∧
  (∀ (p : TickPar) (w : Nat) (s : State), inService .head s = true ∧ s.head.mt.tick = some p ∧ s.head.tw.claimMode = true ∧ s.head.tw.role = .standby ∧ s.head.tw.autoTakeover = true ∧ s.head.tw.goActive = false ∧ s.head.tw.lastOtherTick = some w ∧ p.pNum + ((w : Int) + 50000) * p.pDen ≤ (wall s.head.mt : Int) * p.pDen →
    exec (.claimTakeoverTimeout) s = .next (postTakeover (updTw (fun t => { t with goActive := true }) s)))

/-- A write to BAR0 or BAR4 at an aligned address takes effect once the endpoint answers the host, one to a Tile local address while the Tile is in service: each 32-bit word in ascending order writes its own register, of the Head, of a queue below 0x10000 of BAR4, or of the Tile; an unaligned write and one before the endpoint answers change nothing. -/
def Obligations.RegisterWriteCompletes : Prop :=
  (∀ (a : Nat) (v : Word) (s : State), inService .head s = true ∧ configAnswer s = .normal ∧ a % 4 = 0 →
    exec (.registerWrite { space := .bar0, addr := a } v) s = .next (headWrite a v s)) ∧
  (∀ (w : RegAccess) (v : Word) (s : State), inService .head s = true ∧ configAnswer s = .normal ∧ w.space ≠ .tileLocal ∧ w.addr % 4 = 0 →
    exec (.registerWrite w v) s = .next (spaceWords w.space w.addr (v :: w.more) s)) ∧
  (∀ (w : RegAccess) (v : Word) (s : State), inService .head s = true ∧ configAnswer s ≠ .normal ∧ w.space ≠ .tileLocal →
    exec (.registerWrite w v) s = .next (s)) ∧
  (∀ (a : Nat) (v : Word) (s : State), inService .head s = true ∧ configAnswer s = .normal ∧ a % 4 = 0 ∧ a < 0x10000 →
    exec (.registerWrite { space := .bar4, addr := a } v) s = .next (queueWrite (a / 0x1000) (a % 0x1000) v s)) ∧
  (∀ (a : Nat) (v : Word) (s : State), inService .tile s = true ∧ a % 4 = 0 →
    exec (.registerWrite { space := .tileLocal, addr := a } v) s = .next (tileWrite a v s)) ∧
  (∀ (a : Nat) (l : List Word) (v : Word) (s : State), inService .tile s = true ∧ a % 4 = 0 →
    exec (.registerWrite { space := .tileLocal, addr := a, more := l } v) s = .next (spaceWords .tileLocal a (v :: l) s)) ∧
  (∀ (w : RegAccess) (v : Word) (s : State), w.addr % 4 ≠ 0 →
    exec (.registerWrite w v) s = .next (s))

/-- An accepted Attic opcode answers the next state written out: the identity, certificate, request and challenge replies, the writes queued for certificates, anchors and slots, the staging session opened, written, verified or dropped, the enrolment, the activation, rollback and confirmation, the reload of Tiles, and at the Tile the load lock, the boot of an image and the release of the lock. -/
def Obligations.AtticCommandsComplete : Prop :=
  (∀ (c : Cmd) (s0 : State), Accepts specAtGetInfo c s0 → exec (.atGetInfo c) s0 = .next (
    let s := take 0x1001 c s0
    let slots := match c.part with
      | .head =>
        leBytes 4 (atBoot s) ++ leBytes 4 (slotInfo 0 s).fwVersion.toNat ++ leBytes 4 (slotInfo 1 s).fwVersion.toNat ++
          leBytes 4 (windowLeft s)
      | .tile => zeros 16
    let epoch := match c.part with | .head => s.head.at_.epochFused | .tile => 0
    ok c 0x1001 (leBytes 4 (atStatus c.part s) ++ slots ++ leBytes 4 (storeFreeKib c.part s) ++ leBytes 1 epoch ++ zeros 3) s)) ∧
  (∀ (c : Cmd) (s0 : State), Accepts specAtGetCert c s0 → exec (.atGetCert c) s0 = .next (
    let s := take 0x1002 c s0
    ok c 0x1002 (((certOf (identOf c.part s) (fld c.params 0 1)).drop (2048 * fld c.params 2 2)).take 2048) s)) ∧
  (∀ (c : Cmd) (s0 : State), Accepts specAtGetCsr c s0 → exec (.atGetCsr c) s0 = .next (
    let s := take 0x1003 c s0
    ok c 0x1003 Config.certRequest s)) ∧
  (∀ (c : Cmd) (s : State), HeadAccepts { specAtSetCert with state := fun _ _ => none } c s →
    exec (.atSetCert c) s = .next ((let s1 := take 0x1004 c s; if Config.keyMatches (c.params.drop 4) then nvPush .head [{ kind := .cert (c.params.drop 4), cmd := some (c, 0x1004, []) }] s1 else refuse c 0x1004 { status := stFailed, reason := 0x0003 } s1))) ∧
  (∀ (c : Cmd) (s0 : State), Accepts specAtSetTrust c s0 → exec (.atSetTrust c) s0 = .next (
    let s := take 0x1005 c s0
    let der := if fld c.params 1 1 = 0 then none else some (c.params.drop 4)
    nvPush .head [{ kind := .trust (fld c.params 0 1) der, cmd := some (c, 0x1005, []) }] s)) ∧
  (∀ (c : Cmd) (s0 : State), Accepts specAtChallenge c s0 → exec (.atChallenge c) s0 = .next (
    let s := take 0x1006 c s0
    let own := challengeFields c.part s
    let text := challengeText (c.params.take 67) own
    ok c 0x1006 ((c.params.drop 64).take 3 ++ own ++ padTo 96 (Config.signature c.part (sha384 text))) s)) ∧
  (∀ (c : Cmd) (s0 : State), Accepts specAtEnrol c s0 → exec (.atEnrol c) s0 = .next (
    let s := take 0x1007 c s0
    let ch := fld c.params 0 1
    let po := fld c.params 1 1
    match fld c.params 2 1 with
    | 0 => setEnrolled ch po none (some (c, 0x1007, [])) s
    | 1 => setEnrolled ch po ((tileEnt ch po s).map (fun e => e.serial)) (some (c, 0x1007, [])) s
    | _ => ok c 0x1007 [] { s with head.at_.enrolPolicy := decide (fld c.params 3 1 = 1) })) ∧
  (∀ (c : Cmd) (s0 : State), Accepts specAtStageBegin c s0 → exec (.atStageBegin c) s0 = .next (
    let s := take 0x1008 c s0
    let k := idleSlot s
    let cmd := some (c, 0x1008, ([] : List Byte))
    nvPush .head [{ kind := .boot (withSlot k 1 (bootNext s)), cmd := cmd }, { kind := .eraseSlot k, cmd := cmd }]
      { s with head.at_.staging := some { src := c.src, slot := k, total := fld c.params 0 4 } })) ∧
  (∀ (c : Cmd) (s0 : State), Accepts specAtStageData c s0 → exec (.atStageData c) s0 = .next (
    let s := take 0x1009 c s0
    let p := c.params
    let off := fld p 0 4
    let n := fld p 4 4
    let r := if fld p 8 1 = 0 then (p.drop 20, [], s) else clRead 4 (fld p 12 8) n s
    if ¬ r.2.1.isEmpty then failed c 0x1009 0x0007 0 r.2.2
    else match s.head.at_.staging with
      | none => s
      | some g =>
        nvPush .head [{ kind := .image g.slot off r.1, cmd := some (c, 0x1009, []) }]
          { r.2.2 with head.at_.staging := some { g with written := g.written ++ [(off, n)] } })) ∧
  (∀ (c : Cmd) (s0 : State), Accepts specAtStageVerify c s0 → exec (.atStageVerify c) s0 = .next (
    let s := take 0x100A c s0
    match s.head.at_.staging with
    | none => failed c 0x100A 0x0006 0 s
    | some g =>
      let s1 := { s with head.at_.staging := none }
      let b := slotBytes g.slot s
      match (if stagedWhole g then bundleReason b s else some 6) with
      | some r => failed c 0x100A r 0 (bootWrite g.slot 5 none s1)
      | none =>
        let i := infoOf b
        bootWrite g.slot 2 (some (c, 0x100A, leBytes 4 i.fwVersion.toNat))
          { s1 with head.at_.info := upd s1.head.at_.info g.slot (fun _ => i) })) ∧
  (∀ (c : Cmd) (s0 : State), Accepts specAtStageAbort c s0 → exec (.atStageAbort c) s0 = .next (
    let s := take 0x100B c s0
    match s.head.at_.staging with
    | none => ok c 0x100B [] s
    | some g => bootWrite g.slot 0 (some (c, 0x100B, [])) { s with head.at_.staging := none })) ∧
  (∀ (c : Cmd) (s0 : State), Accepts specAtActivate c s0 → exec (.atActivate c) s0 = .next (
    let s := take 0x100C c s0
    schedule c 0x100C s)) ∧
  (∀ (c : Cmd) (s0 : State), Accepts specAtConfirm c s0 → exec (.atConfirm c) s0 = .next (
    let s := take 0x100D c s0
    ok c 0x100D [] (if slotState s.head.at_.running s = 3 then { s with head.at_.confirmed := true } else s))) ∧
  (∀ (c : Cmd) (s0 : State), Accepts specAtRollback c s0 → exec (.atRollback c) s0 = .next (
    let s := take 0x100E c s0
    schedule c 0x100E s)) ∧
  (∀ (c : Cmd) (s0 : State), Accepts specAtTileReload c s0 → exec (.atTileReload c) s0 = .next (
    let s := take 0x100F c s0
    let l := reloadTiles c s
    l.foldl (fun a e => beginLoad e a)
      { s with head.at_.reloads := s.head.at_.reloads ++ [(c, l.map (fun e => (e.chain, e.position)))] })) ∧
  (∀ (c : Cmd) (s0 : State), Accepts specAtTileStageBegin c s0 → exec (.atTileStageBegin c) s0 = .next (
    let s := take 0x1010 c s0
    let s1 := if s.tile.sys.loaded then unload s else s
    ok c 0x1010 [] { s1 with tile.at_.lock := some (headOf c, s.now) })) ∧
  (∀ (c : Cmd) (s0 : State), Accepts specAtTileBoot c s0 → exec (.atTileBoot c) s0 = .next (
    let s := take 0x1011 c s0
    match bootReason c.params s with
    | some r =>
      failed c 0x1011 r 0
        (post .tile 0x10 3 0x0007 (addrDet s.tile.sys.chain s.tile.sys.position) (BitVec.ofNat 64 r) s)
    | none => ok c 0x1011 [] (startImage c.params s))) ∧
  (∀ (c : Cmd) (s0 : State), Accepts specAtTileStageAbort c s0 → exec (.atTileStageAbort c) s0 = .next (
    let s := take 0x1012 c s0
    ok c 0x1012 [] { s with tile.at_.lock := none }))

/-- At C_N the boot record is written and at T_N the cores are reset, the image then starts; a trial slot is confirmed once healthy and falls back when its window ends; the end of a program or an erase is taken; a page of the log is written when it is full or due; a write held during a low input fails after 1 s; a link's state enters the enumeration; the settings of a loaded Tile's rails are enabled in order. -/
def Obligations.AtticEventsComplete : Prop :=
  (∀ (s : State), inService .head s = true ∧ (127 ≤ s.head.po.logPending.length ∨ logDue s = true) →
    exec (.logPageWrite) s = .next (nvPush .head [{ kind := .log (s.head.po.logPending.take 127) }] { s with head.po.logPending := s.head.po.logPending.drop 127 })) ∧
  (∀ (m : LinkState) (s : State), inService .head s = true →
    exec (.linkStateReceived { msg := m }) s = .next (linkStateReceived m s)) ∧
  (∀ (b : Bool) (s : State), inService .head s = true →
    exec (.nvProgramDone .head b) s = .next (headProgramDone b s)) ∧
  (∀ (b : Bool) (s : State), inService .tile s = true →
    exec (.nvProgramDone .tile b) s = .next (nvProgramDone .tile b s)) ∧
  (∀ (p : Part) (s : State), inService p s = true →
    exec (.nvEraseDone p) s = .next (nvEraseDone p s)) ∧
  (∀ (a : Activation) (s : State), inService .head s = true ∧ s.head.at_.act = some a ∧ a.phase = 0 ∧ cutoffOf s.head.mt a.n = none →
    exec (.activateRestart a.n) s = .next (atCutoff a s)) ∧
  (∀ (a : Activation) (c : Int) (s : State), inService .head s = true ∧ s.head.at_.act = some a ∧ a.phase = 1 ∧ tickOf s.head.mt a.n = some c ∧ c ≤ (wall s.head.mt : Int) →
    exec (.activateRestart a.n) s = .next (atRestart a s)) ∧
  (∀ (a : Activation) (s : State), inService .head s = true ∧ s.head.at_.act = some a ∧ 2 ≤ a.phase ∧ a.fallback = false →
    exec (.activateResume) s = .next (fetchWaiting (resumeFrames (startFirmware (countStart .head 0x09 { s with head.at_.act := none }))))) ∧
  (∀ (s : State), inService .head s = true ∧ slotState s.head.at_.running s = 3 ∧ s.head.at_.confirming = false ∧ s.head.at_.act = none ∧ healthGood s = true →
    exec (.healthConfirm) s = .next (bootWrite s.head.at_.running 4 none { s with head.at_.confirming := true })) ∧
  (∀ (s : State), inService .head s = true ∧ slotState s.head.at_.running s = 3 ∧ s.head.at_.act = none ∧ s.head.at_.trialSince + 1000000000 * s.head.at_.healthWindow ≤ s.now ∧ s.head.mt.tick = none →
    exec (.healthWindowExpiry) s = .next (post .head 0x10 3 0x0006 (slotInfo s.head.at_.running s).fwVersion 0 { s with head.at_.act := some { n := 0, slot := idleSlot s, fallback := true } })) ∧
  (∀ (t : Nat) (o : NvOp) (l : List NvOp) (s : State), inService .tile s = true ∧ (nvOf .tile s).heldSince = some t ∧ (nvOf .tile s).ops = o :: l ∧ (nvOf .tile s).busy = false ∧ s.tile.ht.inputLow = true ∧ t + 1000000000 ≤ s.now →
    exec (.inputLowWriteTimeout) s = .next (nvStart .tile (nvFail { o with reason := 7 } .tile (setNv .tile { nvOf .tile s with ops := l, heldSince := none } s)))) ∧
  (∀ (x : Bool × Nat) (s : State), inService .tile s = true ∧ s.tile.at_.lock = some x ∧ x.2 + 2000000000 ≤ s.now →
    exec (.tileLoadLockTimeout) s = .next ({ s with tile.at_.lock := none })) ∧
  (∀ (ch po : Nat) (r : ChallengeReply) (e : TileEnt) (s : State), inService .head s = true ∧ tileEnt ch po s = some e ∧ present e = true ∧ e.reversed = false ∧ s.head.at_.recovery = false ∧ firmwareGone s = false →
    exec (.tileEnrolAndLoad ch po r) s = .next (challengeTile e r s)) ∧
  (∀ (k : Nat) (s : State), inService .tile s = true ∧ k < 3 ∧ s.tile.at_.railStep = k + 1 ∧ s.tile.at_.railAt ≤ s.now ∧ s.tile.sys.loaded = true ∧ s.tile.ht.inputLow = false →
    exec (.ledRailEnableSequence k) s = .next (setEn ([1, 2, 0].getD k 0) true { s with tile.at_.railStep := if k = 2 then 0 else k + 2, tile.at_.railAt := s.now + 100000 }))

/-- SPEC opens the next frame to speculation (or passes it over once its cutoff is past), CUTOFF decides the formats, closes it and sends CUT, PUSH_OPEN opens its push window after the governors' step, PUSH_CLOSE ends it and sends DIGEST, and TICK flips each part or takes a STOP. -/
def Obligations.FrameEventsComplete : Prop :=
  (∀ (n : Nat) (s : State), inService .head s = true ∧ specDue n s = true →
    exec (.spec n) s = .next ((if s.head.time.cutN = n then openSpec n s else { s with head.time.specN := n + 1 }))) ∧
  (∀ (n : Nat) (s : State), inService .head s = true ∧ cutDue n s = true →
    exec (.cutoff n) s = .next (twinEval (handOff n (sendCut n (decideFormats n (closeTwin n s)))))) ∧
  (∀ (n : Nat) (r : FrameRec) (s : State), inService .head s = true ∧ openDue n s = true ∧ recOf n s = some r →
    exec (.pushOpen n) s = .next (sendSnapshot (n + 1) (openPush n (powerLate n (governorPoint n (joinAt n s)))))) ∧
  (∀ (n : Nat) (s : State), inService .head s = true ∧ openDue n s = true ∧ recOf n s = none →
    exec (.pushOpen n) s = .next ({ joinAt n s with head.time.openN := n + 1 })) ∧
  (∀ (n : Nat) (s : State), inService .head s = true ∧ closeDue n s = true →
    exec (.pushClose n) s = .next (sendDigest n (closePush n s))) ∧
  (∀ (n : Nat) (x : TickPar) (s : State), inService .head s = true ∧ n = nextTick s.head.mt ∧ parFor s.head.mt n = some x ∧ tickAt x n ≤ (wall s.head.mt : Int) ∧ n < s.head.time.closeN →
    exec (.tick .head n) s = .next (headFlip n (tickAt x n) s)) ∧
  (∀ (n : Nat) (x : TickPar) (s : State), inService .tile s = true ∧ n = nextTick s.tile.mt ∧ parFor s.tile.mt n = some x ∧ tickAt x n ≤ (wall s.tile.mt : Int) →
    exec (.tick .tile n) s = .next (tileFlip n x s)) ∧
  (∀ (n : Nat) (t : Int) (s : State), inService .tile s = true ∧ n = nextTick s.tile.mt ∧ parFor s.tile.mt n = none ∧ edgeOf s.tile.mt n = some t ∧ t ≤ (wall s.tile.mt : Int) →
    exec (.tick .tile n) s = .next (tileStop n t s)) ∧
  (∀ (n : Nat) (t : Int) (s : State), inService .head s = true ∧ n = nextTick s.head.mt ∧ parFor s.head.mt n = none ∧ edgeOf s.head.mt n = some t ∧ t ≤ (wall s.head.mt : Int) →
    exec (.tick .head n) s = .next (headStop n s))

/-- POR_N (which also ends the hold after a third trip) and a supply monitor hold the Head in reset and let it start; PERST#, at an endpoint in service, disables every queue and aborts the channels that name HOST space; a Tile starts when VIN comes, stops when it goes, and restarts 100 ms after a VCORE fault; its ports are enabled once the synthesiser has locked; a trip halts its part, which restarts after 10 s cool; a watchdog restarts the firmware. -/
def Obligations.ResetEventsComplete : Prop :=
  (∀ (s : State), s.head.sys.por = false →
    exec (.porNAssert) s = .next ((let s1 := haltHead 0x02 (endThirdTrip s); { s1 with head.sys.por := true }))) ∧
  (∀ (b : BootInput) (s : State), s.head.sys.por = true →
    exec (.porNRelease b) s = .next (releaseHead b { s with head.sys.por := false })) ∧
  (∀ (k : Nat) (s : State), k < 3 ∧ s.head.sys.supplyBad = false →
    exec (.supplyMonitorTrip k) s = .next ((let s1 := haltHead 0x06 s; { s1 with head.sys.supplyBad := true }))) ∧
  (∀ (b : BootInput) (s : State), s.head.sys.supplyBad = true →
    exec (.supplyReturn b) s = .next (releaseHead b { s with head.sys.supplyBad := false })) ∧
  (∀ (s : State), s.head.sys.perst = false →
    exec (.perstAssert) s = .next ((let s1 := if inService .head s then resetEndpoint s else s; { s1 with head.sys.perst := true, head.sys.perstFree := none }))) ∧
  (∀ (s : State), s.head.sys.perst = true →
    exec (.perstRelease) s = .next ({ s with head.sys.perst := false, head.sys.perstFree := some s.now })) ∧
  (∀ (b : BootInput) (s : State), s.tile.sys.vinOn = false →
    exec (.vinPowerOn b) s = .next ((let s1 := startTile b 0x01 { s with tile.sys.vinOn := true }; { s1 with tile.sys.starts := 0 }))) ∧
  (∀ (s : State), s.tile.sys.vinOn = true →
    exec (.vinPowerOff) s = .next ((let s1 := resetTile true (nvCut .tile s); { s1 with tile.sys.phase := .off, tile.sys.vinOn := false, tile.ht.coreFails := [], tile.ht.coreCause := 0, tile.ht.rails := s1.tile.ht.rails.map (stopped .off s.now) }))) ∧
  (∀ (x : Nat) (s : State), s.tile.sys.vcoreFaultAt = some x ∧ x + 100000000 ≤ s.now ∧ s.tile.sys.vinOn = true →
    exec (.vcoreRestart) s = .next ((let s1 := startTile (sameInput .tile s) 0x07 (resetTile true s); { s1 with tile.ht.coreRestarted := true }))) ∧
  (∀ (k : Nat) (s : State), inService .tile s = true ∧ k < 2 ∧ s.tile.gl.all (fun g => g.state == .disabled) = true →
    exec (.clockSynthLock k) s = .next ({ s with tile.gl := s.tile.gl.map (fun g => { toDetect s.now g with en := true, fellBack := none, fails := 0 }) })) ∧
  (∀ (c n : Nat) (s : State), aonRuns .head s = true ∧ (chOf .head s).tripped = false ∧ tripCauseHolds .head c n s = true →
    exec (.thermalTrip .head c n) s = .next (haltHead 0x05 (emit .head (.pin .thermTrip false) (latchTrip .head c n s)))) ∧
  (∀ (c n : Nat) (s : State), aonRuns .tile s = true ∧ (chOf .tile s).tripped = false ∧ tripCauseHolds .tile c n s = true →
    exec (.thermalTrip .tile c n) s = .next ((let s2 := resetTile false (nvStop .tile (latchTrip .tile c n s)); { s2 with tile.sys.cause := 0x05, tile.lp.causes := 0x81, tile.ht.rails := s2.tile.ht.rails.map (stopped .off s.now) }))) ∧
  (∀ (x : Nat) (s : State), (chOf .head s).coolSince = some x ∧ (chOf .head s).tripped = true ∧ x + 10000000000 ≤ s.now ∧ tripsAtLast (chOf .head s) < 3 →
    exec (.tripCoolRestart .head) s = .next (releaseHead (sameInput .head s) (emit .head (.pin .thermTrip true) (let s1 := updCh .head (fun c => { c with tripped := false, coolSince := none }) s; { s1 with head.sys.cause := 0x05 })))) ∧
  (∀ (x : Nat) (s : State), (chOf .tile s).coolSince = some x ∧ (chOf .tile s).tripped = true ∧ x + 10000000000 ≤ s.now ∧ tripsAtLast (chOf .tile s) < 3 ∧ s.tile.sys.vinOn = true →
    exec (.tripCoolRestart .tile) s = .next (startTile (sameInput .tile s) 0x05 (resetTile false (updCh .tile (fun c => { c with tripped := false, coolSince := none }) s)))) ∧
  (∀ (p : Part) (s : State), inService p s = true →
    exec (.watchdogExpiry p) s = .next (fwRestart p 0x08 s))

/-- For every command and state, a step with the command at the front of the queue is exec of that command on the state with the queue's rest. The queue is the model's form of what the spec calls a command from outside. -/
def Obligations.StepRunsFront : Prop :=
  ∀ (s : State) (c : Instr), step { s with pending := c :: s.pending } = exec c s

/-- With no command waiting a step answers the state one nanosecond later: the reference clock and the Mantel counter of each part in service advance by one, and nothing else changes. That an empty queue counts the clock is the model's choice (log entry 2); that a part's counter advances by one per cycle and is never written is R42's. -/
def Obligations.StepIdle : Prop :=
  ∀ (s : State), s.pending = [] → ∃ t, step s = .next t ∧ t.now = s.now + 1 ∧
    t.head.mt.cnt = (if inService .head s then s.head.mt.cnt + 1 else s.head.mt.cnt) ∧
    t.tile.mt.cnt = (if inService .tile s then s.tile.mt.cnt + 1 else s.tile.mt.cnt) ∧
    t = { s with now := t.now, head.mt := { s.head.mt with cnt := t.head.mt.cnt }, tile.mt := { s.tile.mt with cnt := t.tile.mt.cnt } }

/-- Inv holds right after reset: both memories in canonical form, the log within 65 536 records, the Tile's records within 64, and every waiting command well formed. -/
def Obligations.ResetMeetsInv : Prop :=
  Inv State.reset

/-- Every state has a next state: no command of the table faults or is refused. The next state's queue is the old one without its front; the reference clock moves only when the queue is empty (log entry 2); the counter of free values never falls (log entry 3). -/
def Obligations.StepAnswers : Prop :=
  ∀ (s : State), ∃ t, step s = .next t ∧ t.pending = s.pending.tail ∧ s.freeCtr ≤ t.freeCtr ∧
    t.now = (if s.pending = [] then s.now + 1 else s.now)

/-- For every state that meets Inv, whatever command is at the front, the next state meets Inv: the Head's and the Tile's memories stay in canonical form, the event log holds at most 65 536 records and the Tile at most 64 awaiting forwarding, and the waiting commands stay well formed. -/
def Obligations.StepKeepsInv : Prop :=
  ∀ (s t : State), Inv s → step s = .next t → Inv t

/-- Wall time at counter value c is, as a 64-bit count, W_B + (c − c_B) + floor((c − c_B) × RATE / 2^40) with the difference taken modulo 2^64, for every base pair and rate. A read of MT_CNT_LO answers a next state that holds W divided by 10^9 and its remainder, changes nothing outside the part's Mantel, and leaves counter, base pair and rate. -/
def Obligations.WallTimeFormula : Prop :=
  (∀ (m : Mantel) (c : BitVec 64),
    (wallAt m c : Int) =
      ((m.wB.toNat : Int) + ((c.toNat : Int) - m.cB.toNat) % 2 ^ 64 +
        ⌊(((((c.toNat : Int) - m.cB.toNat) % 2 ^ 64) * m.rate : Int) : ℚ) / 2 ^ 40⌋) % 2 ^ 64) ∧
  (∀ (p : Part) (s : State), inService p s = true → ∃ t, exec (.mtCntLoRead p) s = .next t ∧
    (mtOf p t).latSec.toNat = wallOf p s / 10 ^ 9 ∧ (mtOf p t).latNs.toNat = wallOf p s % 10 ^ 9 ∧
    t = setMt p { mtOf p s with latCntHi := (mtOf p t).latCntHi, latSec := (mtOf p t).latSec, latNs := (mtOf p t).latNs } s)

/-- A write of MT_RATE in manual mode answers a next state in which RATE is the value clamped to ±549 755 813, c_B the counter and W_B the wall time under the old RATE; wall time is the same before and after, the counter too, and nothing outside the part's Mantel changes. The same holds of every value that a servo computes. -/
def Obligations.RateKeepsWallTime : Prop :=
  (∀ (p : Part) (v : Word) (s : State), inService p s = true ∧ (mtOf p s).manual = true → ∃ t,
    exec (.mtRateWrite p v) s = .next t ∧ (mtOf p t).rate = max (-549755813) (min 549755813 v.toInt) ∧
    (mtOf p t).cB = (mtOf p s).cnt ∧ (mtOf p t).wB.toNat = wallOf p s ∧ wallOf p t = wallOf p s ∧
    t = setMt p { mtOf p s with rate := (mtOf p t).rate, cB := (mtOf p s).cnt, wB := (mtOf p t).wB, rateHist := (mtOf p t).rateHist } s) ∧
  (∀ (m : Mantel) (r : Int), (setRate r m).rate = max (-549755813) (min 549755813 r) ∧ wall (setRate r m) = wall m ∧
    (setRate r m).cB = m.cnt ∧ (setRate r m).wB.toNat = wall m)

/-- The instant of tick N is the whole nanosecond O + floor((N − N_O) × P_NUM / P_DEN) for every frame, before N_O too, and lies less than 1 ns before the exact rational instant. On each part, a TICK whose instant has not come changes nothing. -/
def Obligations.TickInstants : Prop :=
  (∀ (x : TickPar) (n : Nat), 0 < x.pDen →
    tickAt x n = x.origin + ⌊(((n : ℚ) - x.nO) * x.pNum) / x.pDen⌋ ∧
    (tickAt x n : ℚ) ≤ x.origin + (((n : ℚ) - x.nO) * x.pNum) / x.pDen ∧
    x.origin + (((n : ℚ) - x.nO) * x.pNum) / x.pDen < (tickAt x n : ℚ) + 1) ∧
  (∀ (p : Part) (n : Nat) (x : TickPar) (s : State), inService p s = true ∧ parFor (mtOf p s) n = some x ∧ (wallOf p s : Int) < tickAt x n →
    exec (.tick p n) s = .next s)

/-- The number of refresh cycles per frame is S × floor(class × P / S + 1/2), with the class 3 840 × 2^REFRESH Hz and P in seconds, so a multiple of S with halves rounded up; cycle j of frame N starts at the whole nanosecond of R39. -/
def Obligations.RefreshCycles : Prop :=
  (∀ (x : TickPar), 0 < x.pDen ∧ 0 < x.slots →
    (cyclesOf x : Int) = x.slots * ⌊(3840 * 2 ^ x.refresh * ((x.pNum : ℚ) / x.pDen / 10 ^ 9)) / x.slots + 1 / 2⌋) ∧
  (∀ (x : TickPar) (n j : Nat), 0 < x.pDen ∧ 0 < cyclesOf x →
    cycleStart x n j = x.origin + ⌊((((n : ℚ) - x.nO) * cyclesOf x + j) * x.pNum) / (cyclesOf x * x.pDen)⌋)

/-- A write that sets EN of a disabled queue answers a next state with the queue enabled and all four counts 0. A write that clears EN of an enabled queue answers a next state in which it is disabled and holds no reply and no packet to fetch. A doorbell of a disabled queue changes nothing. The other queues are unchanged, and so is everything but the outstanding commands, the subscriptions, the retirements and the staging session of that queue. -/
def Obligations.QueueEnable : Prop :=
  (∀ (q : Nat) (v : Word) (s : State),
    inService .head s = true ∧ configAnswer s = .normal ∧ q < 16 ∧ q < s.head.po.queues.length ∧ (queueAt q s).en = false → ∃ t,
    exec (.poQEnable q v) s = .next t ∧ (queueAt q t).en = true ∧ (queueAt q t).cqTail = 0 ∧ (queueAt q t).cqHead = 0 ∧
    (queueAt q t).rqTail = 0 ∧ (queueAt q t).rqHead = 0 ∧ (∀ k, k ≠ q → queueAt k t = queueAt k s) ∧
    t = { s with head.po.queues := t.head.po.queues }) ∧
  (∀ (q : Nat) (v : Word) (s : State), inService .head s = true ∧ configAnswer s = .normal ∧ q < 16 ∧ (queueAt q s).en = true → ∃ t,
    exec (.poQDisable q v) s = .next t ∧ (queueAt q t).en = false ∧ (queueAt q t).replies = [] ∧ (queueAt q t).unfetched = [] ∧
    (∀ k, k ≠ q → queueAt k t = queueAt k s) ∧ t = { s with
      head.po := { s.head.po with queues := t.head.po.queues, outst := t.head.po.outst, subs := t.head.po.subs }
      head.pl := { s.head.pl with leases := t.head.pl.leases, retires := t.head.pl.retires }
      head.at_.staging := t.head.at_.staging }) ∧
  (∀ (q : Nat) (count : Word) (packets : List (List Byte)) (s : State), (queueAt q s).en = false → exec (.poCqTail q count packets) s = .next s)

/-- A packet with n parameter bytes occupies ceil((16 + n) / 64) slots. Whatever the free-running 32-bit count, a packet that starts after its padding ends at the ring's end or before it; padding is used only when the packet would wrap, it then starts at slot 0, and the padding is shorter than the ring. -/
def Obligations.RingPadding : Prop :=
  (∀ n, (slotsFor n : Int) = ⌈((16 + n : Nat) : ℚ) / 64⌉) ∧
  (∀ (size n : Nat) (tail : BitVec 32), size ≤ 14 ∧ n ≤ 2 ^ size →
    (tail + BitVec.ofNat 32 (padSlots size tail n)).toNat % 2 ^ size + n ≤ 2 ^ size ∧ padSlots size tail n < 2 ^ size ∧
    (padSlots size tail n ≠ 0 ↔ 2 ^ size < tail.toNat % 2 ^ size + n) ∧
    (padSlots size tail n ≠ 0 → (tail + BitVec.ofNat 32 (padSlots size tail n)).toNat % 2 ^ size = 0))

/-- The Head finds an error in a command addressed to itself exactly when one of its ten checks fails and none before it does: header, target, role, recovery, the opcode's role, transport, form, frame, parameters, state. Such a command, with the arrival time of the packet it was fetched as, is taken and answered with that error, and has no other effect, and the reply's parameter area holds REASON, FIELD and DETAIL in 8 bytes. -/
def Obligations.FirstFailureIsRefused : Prop :=
  (∀ (o : OpSpec) (c : Cmd) (s : State) (e : Err), headErr o c s = some e ↔
    ∃ k, k < 10 ∧ (fun l : List (Option Err) => l.getD k none = some e ∧ ∀ j, j < k → l.getD j none = none)
      [headerErr c, targetErr c s, if o.onHead then none else errSt stNotInRole, recoveryErr o.opcode s, o.role c s, transportErr o c s,
        formErr o c, frameErr o c s.head.mt, o.params c s, o.state c s]) ∧
  (∀ (o : OpSpec) (c : Cmd) (s : State) (e : Err), c.part = .head ∧ inService .head s = true ∧ firmwareGone s = false ∧
      mustWait o.opcode (stamped o.opcode c s) s = false ∧ toHead (stamped o.opcode c s) = true ∧ headErr o (stamped o.opcode c s) s = some e →
    let k := stamped o.opcode c s
    runCmd o c s = .next (finish k o.opcode (replyTo k o.opcode e.status e.params) (take o.opcode k s)) ∧
    still (finish k o.opcode (replyTo k o.opcode e.status e.params) (take o.opcode k s)) = still s) ∧
  (∀ e : Err, e.params.length = 8 ∧ fld e.params 0 2 = e.reason % 65536 ∧ fld e.params 2 2 = e.field % 65536 ∧
    fld e.params 4 4 = e.detail % 4294967296)

/-- When final replies are released, a command stays outstanding exactly when it has no final reply yet, or an earlier outstanding one of its source, opcode range and target has none; those that stay keep their order, and the final replies of the others leave in the order of submission, but for those that are discarded. -/
def Obligations.RepliesKeepOrder : Prop :=
  ∀ (p : Part) (l : List Outst) (s : State),
    let stays := fun (x : Outst × Nat) => x.1.final.isNone || (l.take x.2).any (fun b => b.final.isNone && sameGroup x.1 b)
    (flushReplies p l [] s).1 = (l.zipIdx.filter stays).map Prod.fst ∧
    (flushReplies p l [] s).2 = ((l.zipIdx.filter (fun x => !stays x)).filterMap (fun x => if x.1.discard then none else x.1.final.map (fun r => (x.1.src, r)))).foldl
      (fun s r => deliver p r.1 r.2 s) s

/-- Within one whole second of wall time, a record enters the log with the next SEQ while fewer than 100 of its source, BLOCK and CODE have come, and later ones change neither log nor SEQ; each is counted. The log then holds the newest 65 536. A Tile's record enters its buffer of 64 or is counted as lost. Nothing but traffic changes. -/
def Obligations.EventRecords : Prop :=
  (∀ (e : EventRec) (s : State) (n : Nat), ¬ (e.block = 0x01 ∧ e.code = 0x0008) ∧ s.head.po.rateSec = wall s.head.mt / 10 ^ 9 ∧
      (getKey s.head.po.rates (rateKey e)).getD 0 = n →
    getKey (insertEvent e s).head.po.rates (rateKey e) = some (n + 1) ∧
    (n < 100 → (insertEvent e s).head.po.log = { e with seq := s.head.po.nextSeq } :: s.head.po.log.take 65535 ∧
      (insertEvent e s).head.po.nextSeq = s.head.po.nextSeq + 1) ∧
    (100 ≤ n → (insertEvent e s).head.po.log = s.head.po.log ∧ (insertEvent e s).head.po.nextSeq = s.head.po.nextSeq) ∧
    still (insertEvent e s) = still s) ∧
  (∀ (b v c : Nat) (x : BitVec 32) (y : BitVec 64) (s : State),
    (s.tile.po.events.length < 64 → post .tile b v c x y s = { s with tile.po.events := s.tile.po.events ++ [mkEvent .tile b v c x y s] }) ∧
    (64 ≤ s.tile.po.events.length → post .tile b v c x y s = { s with tile.po.lost := s.tile.po.lost + 1 }))

/-- When credits and replay buffer allow a packet, sending it leaves the reserved and shared credits of its class together smaller by LEN, the reserved ones drawn first and those of every other class as they were; the packet carries the port's SEQ, which rises by one and wraps at 4 096, and stands last in the replay buffer, which then holds at most 2 047. Everything but the port's transmitter and what was sent is unchanged. -/
def Obligations.CreditsAndReplay : Prop :=
  ∀ (p : Part) (k : Nat) (x : GPkt) (s : State), k < (portsOf p s).length ∧ x.cls < (portAt p k s).cred.length ∧ canStart (portAt p k s) x = true →
    let g := portAt p k s
    let g' := portAt p k (transmit p k x s)
    g'.cred.getD x.cls 0 + g'.credShared + x.len = g.cred.getD x.cls 0 + g.credShared ∧
    (g'.credShared < g.credShared → g'.cred.getD x.cls 0 = 0) ∧ (∀ c, c ≠ x.cls → g'.cred.getD c 0 = g.cred.getD c 0) ∧
    g'.seqNext.toNat = (g.seqNext.toNat + 1) % 4096 ∧ g'.replayBuf = g.replayBuf ++ [{ x with seq := g.seqNext }] ∧
    g'.replayBuf.length ≤ 2047 ∧ still (transmit p k x s) = still s ∧ (∀ j, j ≠ k → portAt p j (transmit p k x s) = portAt p j s)

/-- Evaluating the claim deasserts DB_CLAIM when no ticks run, asserts it when ticks run and a condition of R375 holds, and keeps it otherwise, sending the level when it changes; nothing else changes but the note of both claims. A Head is publisher exactly while its own claim is asserted and the partner's is deasserted or its beat is lost. -/
def Obligations.ClaimRules : Prop :=
  (∀ s : State, (evalClaim s).head.tw.dbClaim = (ticksRun s && (mayClaim s || s.head.tw.dbClaim)) ∧
    evalClaim s = { s with
      head.tw := { s.head.tw with dbClaim := (evalClaim s).head.tw.dbClaim, bothSince := (evalClaim s).head.tw.bothSince }
      head.out := if (evalClaim s).head.tw.dbClaim = s.head.tw.dbClaim then s.head.out
        else .pin .dbClaim (evalClaim s).head.tw.dbClaim :: s.head.out }) ∧
  (∀ s : State, isPublisher s = true ↔ s.head.tw.dbClaim = true ∧ (peerClaim s = false ∨ s.head.tw.beat = false))

/-- Entering a change keeps the list of accepted changes ordered by frame, effective timestamp, kind of source, number of source and order of submission, and adds exactly that change: the others keep their places among themselves. -/
def Obligations.ChangesKeepOrder : Prop :=
  (∀ (x : Pend) (l : List Pend), l.Pairwise (fun a b => pendBefore b a = false) →
    (insertPend x l).Pairwise (fun a b => pendBefore b a = false) ∧ (insertPend x l).Perm (x :: l) ∧ l.Sublist (insertPend x l)) ∧
  (∀ a b : Pend, pendBefore a b = true ↔ Prod.Lex (· < ·) (Prod.Lex (· < ·) (Prod.Lex (· < ·) (Prod.Lex (· < ·) (· < ·))))
    (a.frame, a.eff, a.rank, a.sub, a.seq) (b.frame, b.eff, b.rank, b.sub, b.seq))

/-- A well-formed write request whose stacks all serve requests answers a next state in which each byte of the request is stored as written, and every byte outside the words that the request touches is stored as before; when none of those words is in error, so is every byte outside the request's own bytes (a word in uncorrectable error that a partial write meets keeps its bits as they stand, R187). Nothing but Cellar, the note of a lease violation and traffic changes; the memory keeps its canonical form. -/
def Obligations.CellarWrites : Prop :=
  ∀ (r : CellarReq) (d : List Byte) (s : State),
    inService .head s = true ∧ cellarReqWf r = true ∧ r.write = some d ∧ isServed r.addr d.length s = true ∧ Memory.wf s.head.cl.mem = true → ∃ t,
    exec (.cellarRequest r) s = .next t ∧
    (∀ i (h : i < d.length), memGet t.head.cl.mem (r.addr + i) = d[i]) ∧
    (∀ a, wordOf a ∉ wordsOf r.addr d.length → memGet t.head.cl.mem a = memGet s.head.cl.mem a) ∧
    (badWords r.addr d.length (applyUpsets r.upsets s) = [] → ∀ a, a < r.addr ∨ r.addr + d.length ≤ a →
      memGet t.head.cl.mem a = memGet s.head.cl.mem a) ∧
    Memory.wf t.head.cl.mem = true ∧
    still t = still { s with head.cl := t.head.cl, head.pl.leaseViolated := t.head.pl.leaseViolated }

/-- PO_NOP, PO_GET_INFO, PO_EVENT_READ, MT_GET_TIME, MT_GET_TICK, MT_GET_PTP, FY_GET_PORT, CL_GET_INFO, PL_GET_TILE, PL_GET_LAYER, PL_GET_POWER, PL_GET_PIXSET, PL_FENCE_GET, PL_SIG_READ, PP_GET_CHAIN, GL_GET_PORT, TW_GET_STATUS, LD_GET_STATUS, LD_READ, LR_READ, LP_GET_STATUS, LP_GET_TRIM, LP_GET_DEAD, HT_GET_COEF, DW_GET_CHANNEL, AU_GET_STATUS, CH_GET_STATUS, CH_GET_FIELD, CH_GET_TRIM, AT_GET_INFO, AT_GET_CERT, AT_GET_CSR and AT_CHALLENGE, accepted, refused or forwarded, change no register, no memory and no setting of either part: only outstanding commands, replies, the event log, the ports' transmitters and what was sent. -/
def Obligations.ReadCommandsFrame : Prop :=
  ∀ (i : Instr) (s t : State), isReport i = true ∧ exec i s = .next t → still t = still s

/-- The settings of lamp drive, of Landing and Larder, of Hearth, of audio, of Foyer, of Mantel's time of day and PTP, of Cellar, of the status ring, of Dumbwaiter's table and of Attic's confirmation change the state of their own block on their own part, and otherwise traffic alone, whether accepted, refused or forwarded. -/
def Obligations.SettingFrames : Prop :=
  (∀ (c : Cmd) (s t : State), exec (.lpSetCurrent c) s = .next t ∨ exec (.lpFade c) s = .next t ∨ exec (.lpSetWaveform c) s = .next t ∨
      exec (.lpSetScan c) s = .next t ∨ exec (.lpSetDetect c) s = .next t → still t = still { s with tile.lp := t.tile.lp }) ∧
  (∀ (c : Cmd) (s t : State), exec (.ldSetLimits c) s = .next t ∨ exec (.lrSetDrift c) s = .next t →
    still t = still { s with tile.ld := t.tile.ld, tile.lr := t.tile.lr }) ∧
  (∀ (c : Cmd) (s t : State), exec (.htSetCoef c) s = .next t ∨ exec (.htSwapBank c) s = .next t ∨ exec (.htClearFault c) s = .next t ∨
      exec (.htSetLead c) s = .next t → still t = still { s with tile.ht := t.tile.ht }) ∧
  (∀ (c : Cmd) (s t : State), exec (.auSetPort c) s = .next t ∨ exec (.auSetGroup c) s = .next t → still t = still { s with head.au := t.head.au }) ∧
  (∀ (c : Cmd) (s t : State), exec (.fySetSubport c) s = .next t ∨ exec (.fySetVideoStream c) s = .next t ∨ exec (.fySetAudioStream c) s = .next t ∨
      exec (.fySetAncStream c) s = .next t ∨ exec (.plLeaseGuard c) s = .next t → still t = still { s with head.fy := t.head.fy }) ∧
  (∀ (c : Cmd) (s t : State), exec (.mtSetTod c) s = .next t → still t = still { s with head.time := t.head.time }) ∧
  (∀ (c : Cmd) (s t : State), exec (.mtSetPtp c) s = .next t →
    still t = still { s with head.time := t.head.time, head.mt := t.head.mt, freeCtr := t.freeCtr }) ∧
  (∀ (c : Cmd) (s t : State), exec (.clSetScrub c) s = .next t ∨ exec (.clInjectError c) s = .next t ∨ exec (.clGetErrors c) s = .next t →
    still t = still { s with head.cl := t.head.cl }) ∧
  (∀ (c : Cmd) (s t : State), exec (.ppSetStatusRing c) s = .next t → still t = still { s with head.pp := t.head.pp }) ∧
  (∀ (c : Cmd) (s t : State), exec (.dwSetTable c) s = .next t → still t = still { s with head.dw := t.head.dw, tile.dw := t.tile.dw }) ∧
  (∀ (c : Cmd) (s t : State), exec (.atConfirm c) s = .next t → still t = still { s with head.at_ := t.head.at_ })

/-- Right after reset both Mantel counters are 0; the holdover limit is 2 s; SCRUB_HOURS is 12 and CE_THR 256; the canvas is 65 536 by 16 384 and black, every layer is invisible and names no surface, and every fence is 0; LOW_WM is 32 KiB and REC_DELAY 1 000 µs; REPLAY_TO is 20 µs on every port of both parts; CUT_WAIT is 50 µs; PHASE_STEP is 8 ns; each audio port is in the group of its number and L_A is 48; no command waits. -/
def Obligations.ResetValues : Prop :=
  (State.reset.head.mt.cnt = 0 ∧ State.reset.tile.mt.cnt = 0 ∧ State.reset.head.time.holdLimitMs = 2000 ∧ State.reset.tile.time.holdLimitMs = 2000) ∧
  (State.reset.head.cl.scrubHours = 12 ∧ State.reset.head.cl.ceThr = 256) ∧
  (State.reset.head.pl.shown.width = 65536 ∧ State.reset.head.pl.shown.height = 16384 ∧ State.reset.head.pl.shown.bgR = 0 ∧
    State.reset.head.pl.shown.bgG = 0 ∧ State.reset.head.pl.shown.bgB = 0 ∧ State.reset.head.pl.shown.layers.length = 32 ∧
    (∀ l ∈ State.reset.head.pl.shown.layers, l.visible = false ∧ l.surface = 0xFFFF) ∧
    State.reset.head.pl.fences = List.replicate 256 0) ∧
  ((∀ p ∈ State.reset.head.pp.ports, p.lowWm = 32) ∧ State.reset.head.pp.recDelayUs = 1000) ∧
  (State.reset.head.gl.length = 33 ∧ State.reset.tile.gl.length = 2 ∧
    (∀ g ∈ State.reset.head.gl, g.replayToUs = 20) ∧ (∀ g ∈ State.reset.tile.gl, g.replayToUs = 20)) ∧
  State.reset.head.tw.cutWaitUs = 50 ∧ (State.reset.tile.lp.phase = 8 ∧ State.reset.tile.lp.phaseNow = 8) ∧
  (State.reset.head.au.ports.map (fun p => p.group) = List.range 8 ∧ (∀ g ∈ State.reset.head.au.groups, g.la = 48)) ∧
  State.reset.pending = []

/-- At a Head in service whose port is ACTIVE, a packet with the expected SEQ whose class, type and LEN agree and whose HEAD bit names this Head has the effect of its command after the receiver expects the next SEQ, has sent ACK and has freed its words. One that names the partner is passed across the twin port; one whose class, type or LEN do not agree is counted and discarded. A packet with an earlier SEQ is discarded, one with a later SEQ is discarded with a NAK, and one on a port that is not ACTIVE does nothing. A command that a link brings to the Tile runs once its packet is accepted in the same way, and a packet that is broadcast or names another Tile goes on out of the other port. -/
def Obligations.LinkAcceptsOnce : Prop :=
  (∀ (i : Instr) (f : Option Via → Instr) (v : Via) (s : State), carried i = some f ∧ inService .head s = true ∧
      (portAt .head v.port s).state = .active ∧ v.pkt.seq = (portAt .head v.port s).seqExp ∧ packetBad v.pkt = false ∧
      (v.port = 32 ∨ v.pkt.headB = s.head.sys.roleB) →
    exec (f (some v)) s = exec (f none) (afterPacket .head v.port v.pkt s) ∧ still (afterPacket .head v.port v.pkt s) = still s) ∧
  (∀ (i : Instr) (f : Option Via → Instr) (v : Via) (s : State), carried i = some f ∧ inService .head s = true ∧
      (portAt .head v.port s).state = .active ∧ v.pkt.seq = (portAt .head v.port s).seqExp ∧ packetBad v.pkt = false ∧
      v.port ≠ 32 ∧ v.pkt.headB ≠ s.head.sys.roleB →
    exec (f (some v)) s = .next (passOver v.pkt (afterPacket .head v.port v.pkt s))) ∧
  (∀ (i : Instr) (f : Option Via → Instr) (v : Via) (s : State), carried i = some f ∧ inService .head s = true ∧
      (portAt .head v.port s).state = .active ∧ v.pkt.seq = (portAt .head v.port s).seqExp ∧ packetBad v.pkt = true ∧
      ¬ (v.port = 32 ∧ v.pkt.cls = 5) →
    exec (f (some v)) s = .next (updPort .head v.port (fun g => { g with discards := g.discards + 1 }) (afterPacket .head v.port v.pkt s))) ∧
  (∀ (i : Instr) (f : Option Via → Instr) (v : Via) (s : State), carried i = some f ∧ inService .head s = true ∧
      ((portAt .head v.port s).state ≠ .active ∨ seqDiff v.pkt.seq (portAt .head v.port s).seqExp < 0) →
    exec (f (some v)) s = .next s) ∧
  (∀ (i : Instr) (f : Option Via → Instr) (v : Via) (s : State), carried i = some f ∧ inService .head s = true ∧
      (portAt .head v.port s).state = .active ∧ 0 < seqDiff v.pkt.seq (portAt .head v.port s).seqExp →
    exec (f (some v)) s = .next (nakNow .head v.port s) ∧ still (nakNow .head v.port s) = still s) ∧
  (∀ (o : OpSpec) (c : Cmd) (b : Bool) (port : Nat) (q : BitVec 12) (s : State), c.part = .tile ∧ inService .tile s = true ∧
      c.link = some q ∧ c.src = .chain b port ∧ (portAt .tile port s).state = .active ∧ q = (portAt .tile port s).seqExp ∧
      packetBad (cmdPacket o c q b) = false →
    let k := cmdPacket o c q b
    let t := afterPacket .tile port k s
    runCmd o c s = .next (tileRun o c (if k.bcast ∨ ¬ toThisTile c t then hand .tile (1 - port) k t else t)))
end

