-- ==== Sys2Proof/Laws/Memory.lean ====
section
/-!
SUPPORT. The two byte memories: a read after a write, and that every write keeps the canonical form.
-/
namespace Sys2Proof.Laws

open Sys2Proof.Machine

/-- Raising the bound less keeps the form. -/
theorem wfFrom_mono {lo lo' : Nat} (hle : lo ≤ lo') : ∀ {m : List Host.Cell}, Memory.wfFrom lo' m = true → Memory.wfFrom lo m = true
  | [], _ => rfl
  | (k, v) :: r, h => by
    simp only [Memory.wfFrom, Bool.and_eq_true, decide_eq_true_eq] at h ⊢
    exact ⟨⟨Nat.le_trans hle h.1.1, h.1.2⟩, h.2⟩

theorem memPut_wfFrom {lo a : Nat} (b : Byte) (hle : lo ≤ a) :
    ∀ {m : List Host.Cell}, Memory.wfFrom lo m = true → Memory.wfFrom lo (memPut m a b) = true
  | [], _ => by
    unfold memPut
    split
    · rfl
    · simp_all [Memory.wfFrom]
  | (k, v) :: r, h => by
    have hr := fun hk => memPut_wfFrom (lo := k + 1) (a := a) b hk (m := r)
    simp only [Memory.wfFrom, Bool.and_eq_true, decide_eq_true_eq, bne_iff_ne] at h
    unfold memPut
    split
    · rename_i hk
      split
      · simp_all [Memory.wfFrom]
      · simp_all [Memory.wfFrom]
    · split
      · rename_i _ hk
        subst hk
        split
        · exact wfFrom_mono (by omega) h.2
        · simp_all [Memory.wfFrom]
      · simp only [Memory.wfFrom, Bool.and_eq_true, decide_eq_true_eq, bne_iff_ne]
        exact ⟨h.1, hr (by omega) h.2⟩

/-- Writing one byte keeps the canonical form. -/
theorem memPut_wf {m : List Host.Cell} (a : Nat) (b : Byte) (h : Memory.wf m = true) : Memory.wf (memPut m a b) = true :=
  memPut_wfFrom b (Nat.zero_le a) h

/-- Writing bytes keeps the canonical form. -/
theorem memPutAll_wf : ∀ {m : List Host.Cell} (a : Nat) (l : List Byte), Memory.wf m = true → Memory.wf (memPutAll m a l) = true
  | _, _, [], h => h
  | _, a, b :: r, h => memPutAll_wf (a + 1) r (memPut_wf a b h)

/-- Writing listed bytes at addresses of their own keeps the canonical form. -/
theorem memMove_wf (f : Nat → Nat) :
    ∀ (l : List Host.Cell) {m : List Host.Cell}, Memory.wf m = true → Memory.wf (l.foldl (fun m c => memPut m (f c.1) c.2) m) = true
  | [], _, h => h
  | c :: r, _, h => memMove_wf f r (memPut_wf (f c.1) c.2 h)

theorem memGet_of_wfFrom {lo a : Nat} (hlt : a < lo) : ∀ {m : List Host.Cell}, Memory.wfFrom lo m = true → memGet m a = 0
  | [], _ => rfl
  | (k, v) :: r, h => by
    simp only [Memory.wfFrom, Bool.and_eq_true, decide_eq_true_eq, bne_iff_ne] at h
    have hk : ¬ k = a := by omega
    simp only [memGet, hk, if_false]
    exact memGet_of_wfFrom (by omega) h.2

/-- A read after a write of the same byte gives the value written. -/
theorem memGet_memPut_same_from {lo a : Nat} (b : Byte) :
    ∀ {m : List Host.Cell}, Memory.wfFrom lo m = true → memGet (memPut m a b) a = b
  | [], _ => by unfold memPut; split <;> simp_all [memGet]
  | (k, v) :: r, h => by
    have h' := h
    simp only [Memory.wfFrom, Bool.and_eq_true, decide_eq_true_eq, bne_iff_ne] at h
    unfold memPut
    split
    · rename_i hk
      split
      · rename_i hb
        rw [hb]
        exact memGet_of_wfFrom (lo := k) hk (by simpa [Memory.wfFrom] using h.imp_left And.right)
      · simp [memGet]
    · split
      · rename_i _ hk
        subst hk
        split
        · rename_i hb
          rw [hb]
          exact memGet_of_wfFrom (Nat.lt_succ_self a) h.2
        · simp [memGet]
      · rename_i h1 h2
        have hk : ¬ k = a := by omega
        simp only [memGet, hk, if_false]
        exact memGet_memPut_same_from b h.2

theorem memGet_memPut_same {m : List Host.Cell} (a : Nat) (b : Byte) (h : Memory.wf m = true) : memGet (memPut m a b) a = b :=
  memGet_memPut_same_from b h

/-- A write of one byte leaves every other byte. -/
theorem memGet_memPut_other {a c : Nat} (b : Byte) (hne : c ≠ a) :
    ∀ (m : List Host.Cell), memGet (memPut m a b) c = memGet m c
  | [] => by
    unfold memPut
    have : ¬ a = c := fun e => hne e.symm
    split <;> simp_all [memGet]
  | (k, v) :: r => by
    have hr := memGet_memPut_other b hne r
    have hac : ¬ a = c := fun e => hne e.symm
    unfold memPut
    split
    · split
      · rfl
      · simp [memGet, hac]
    · split
      · rename_i _ hk
        subst hk
        split <;> simp [memGet, hac]
      · simp [memGet, hr]

/-- Writing bytes leaves every byte outside them. -/
theorem memGet_memPutAll_other : ∀ (l : List Byte) (a : Nat) {c : Nat} (m : List Host.Cell), (c < a ∨ a + l.length ≤ c) →
    memGet (memPutAll m a l) c = memGet m c
  | [], _, _, _, _ => rfl
  | b :: r, a, c, m, h => by
    simp only [List.length_cons] at h
    unfold memPutAll
    rw [memGet_memPutAll_other r (a + 1) _ (by omega), memGet_memPut_other b (by omega)]

/-- Each byte written reads back. -/
theorem memGet_memPutAll : ∀ (l : List Byte) (a : Nat) {m : List Host.Cell} (i : Nat) (hi : i < l.length),
    Memory.wf m = true → memGet (memPutAll m a l) (a + i) = l[i]
  | b :: r, a, m, i, hi, h => by
    unfold memPutAll
    cases i with
    | zero =>
      rw [memGet_memPutAll_other r (a + 1) _ (by omega)]
      exact memGet_memPut_same a b h
    | succ i =>
      have := memGet_memPutAll r (a + 1) i (by simpa using hi) (memPut_wf a b h)
      rw [Nat.add_right_comm] at this
      simpa [Nat.add_assoc] using this

end Sys2Proof.Laws
end

