-- ==== Sys2Proof/Laws/Keeps.lean ====
section
/-!
SUPPORT. What every operation keeps: the relation `Keeps` between the state before and the state after, and how it passes
through sequences, choices and lists.
-/
namespace Sys2Proof.Laws

open Sys2Proof.Machine

/-- The canonical form of both memories and the bounds of both event stores are kept, the queue and the clock stand, and the
counter of free values does not fall. -/
structure Keeps (s t : State) : Prop where
  mem : Memory.wf s.head.cl.mem = true → Memory.wf t.head.cl.mem = true
  tmem : Memory.wf s.tile.at_.mem = true → Memory.wf t.tile.at_.mem = true
  log : s.head.po.log.length ≤ 65536 → t.head.po.log.length ≤ 65536
  ev : s.tile.po.events.length ≤ 64 → t.tile.po.events.length ≤ 64
  pend : t.pending = s.pending
  now : t.now = s.now
  free : s.freeCtr ≤ t.freeCtr

theorem Keeps.refl (s : State) : Keeps s s := ⟨id, id, id, id, rfl, rfl, Nat.le_refl _⟩

theorem Keeps.trans {s t u : State} (a : Keeps s t) (b : Keeps t u) : Keeps s u :=
  ⟨fun h => b.mem (a.mem h), fun h => b.tmem (a.tmem h), fun h => b.log (a.log h), fun h => b.ev (a.ev h),
    b.pend.trans a.pend, b.now.trans a.now, Nat.le_trans a.free b.free⟩

/-- An update that touches none of the fields. -/
theorem Keeps.same {s t u : State} (h : Keeps s t) (e1 : u.pending = t.pending) (e2 : u.head.cl.mem = t.head.cl.mem)
    (e3 : u.tile.at_.mem = t.tile.at_.mem) (e4 : u.head.po.log = t.head.po.log) (e5 : u.tile.po.events = t.tile.po.events)
    (e6 : u.now = t.now) (e7 : u.freeCtr = t.freeCtr) : Keeps s u :=
  h.trans ⟨fun h => e2 ▸ h, fun h => e3 ▸ h, fun h => e4 ▸ h, fun h => e5 ▸ h, e1, e6, Nat.le_of_eq e7.symm⟩

/-- The same for a literal. -/
theorem Keeps.upd {s t : State} {hd : HeadSt} {tl : TileSt} {n fc : Nat} (h : Keeps s t) (e2 : hd.cl.mem = t.head.cl.mem)
    (e3 : tl.at_.mem = t.tile.at_.mem) (e4 : hd.po.log = t.head.po.log) (e5 : tl.po.events = t.tile.po.events) (e6 : n = t.now)
    (e7 : fc = t.freeCtr) : Keeps s ⟨hd, tl, n, fc, t.pending⟩ :=
  Keeps.same h rfl e2 e3 e4 e5 e6 e7

/-- An update that writes the Cellar's bytes and keeps their form. -/
theorem Keeps.updMem {s t : State} {hd : HeadSt} {tl : TileSt} {n fc : Nat} (h : Keeps s t)
    (e2 : Memory.wf t.head.cl.mem = true → Memory.wf hd.cl.mem = true)
    (e3 : tl.at_.mem = t.tile.at_.mem) (e4 : hd.po.log = t.head.po.log) (e5 : tl.po.events = t.tile.po.events) (e6 : n = t.now)
    (e7 : fc = t.freeCtr) : Keeps s ⟨hd, tl, n, fc, t.pending⟩ :=
  h.trans ⟨e2, fun h => e3 ▸ h, fun h => e4 ▸ h, fun h => e5 ▸ h, rfl, e6, Nat.le_of_eq e7.symm⟩

theorem Keeps.cut {s x : State} {P : Prop} (h : Keeps s x) (k : Keeps s x → P) : P := k h

theorem Keeps.ite {s a b : State} {c : Prop} [Decidable c] (ha : Keeps s a) (hb : Keeps s b) : Keeps s (if c then a else b) := by
  split <;> assumption

theorem Keeps.foldl {α : Type} {s0 : State} (f : State → α → State) (hf : ∀ s x, Keeps s0 s → Keeps s0 (f s x)) :
    ∀ (l : List α) {s : State}, Keeps s0 s → Keeps s0 (l.foldl f s)
  | [], _, h => h
  | x :: l, _, h => Keeps.foldl f hf l (hf _ x h)

/-- A command answers a next state that keeps them. -/
def Goes (s : State) (o : Host.Outcome State Fault Refusal) : Prop := ∃ t, o = .next t ∧ Keeps s t

theorem Goes.next {s t : State} (h : Keeps s t) : Goes s (.next t) := ⟨t, rfl, h⟩

end Sys2Proof.Laws
end

