-- ==== Sys2Proof/Laws/KeepsOps.lean ====
section
/-!
SUPPORT. The operations and commands of Machine/Ops.lean keep what `Keeps` names.
-/
set_option linter.unusedTactic false
set_option linter.unreachableTactic false
set_option linter.unusedVariables false
namespace Sys2Proof.Laws

open Sys2Proof.Machine

variable {s0 : State}

theorem draw_keeps {s} (h : Keeps s0 s) : Keeps s0 (draw s).2 :=
  h.trans ⟨id, id, id, id, rfl, rfl, Nat.le_succ _⟩

theorem setMt_keeps (a1) (a2) {s} (h : Keeps s0 s) : Keeps s0 (setMt a1 a2 s) := by
  unfold setMt
  repeat' (first | with_reducible assumption | ((try lift_lets -underBinder); intro _) | split | (fail_if_no_progress refine Keeps.upd ?_ rfl rfl rfl rfl rfl rfl))

theorem emit_keeps (a1) (a2) {s} (h : Keeps s0 s) : Keeps s0 (emit a1 a2 s) := by
  unfold emit
  repeat' (first | with_reducible assumption | ((try lift_lets -underBinder); intro _) | split | (fail_if_no_progress refine Keeps.upd ?_ rfl rfl rfl rfl rfl rfl))

theorem fromHost_keeps (f : State → State) {s} (hf : ∀ {t}, Keeps s0 t → Keeps s0 (f t)) (h : Keeps s0 s) :
    Keeps s0 (fromHost f s) := Keeps.ite (hf h) h



theorem updPort_keeps (a1) (a2) (a3) {s} (h : Keeps s0 s) : Keeps s0 (updPort a1 a2 a3 s) := by
  unfold updPort
  repeat' (first | with_reducible assumption | ((try lift_lets -underBinder); intro _) | split | (fail_if_no_progress refine Keeps.upd ?_ rfl rfl rfl rfl rfl rfl))

theorem transmit_keeps (a1) (a2) (a3) {s} (h : Keeps s0 s) : Keeps s0 (transmit a1 a2 a3 s) := by
  unfold transmit
  repeat' (first | with_reducible assumption | ((try lift_lets -underBinder); intro _) | with_reducible apply emit_keeps | with_reducible apply updPort_keeps)

theorem drainPort_keeps (p port) : ∀ (n : Nat) {s : State}, Keeps s0 s → Keeps s0 (drainPort p port n s)
  | 0, _, h => h
  | n + 1, s, h => by
    unfold drainPort
    lift_lets; intro g
    refine Keeps.ite h ?_
    split
    · exact drainPort_keeps p port n (transmit_keeps p port _ (updPort_keeps p port _ h))
    · exact h

theorem hand_keeps (a1) (a2) (a3) {s} (h : Keeps s0 s) : Keeps s0 (hand a1 a2 a3 s) := by
  unfold hand
  repeat' (first | with_reducible assumption | ((try lift_lets -underBinder); intro _) | with_reducible apply drainPort_keeps | with_reducible apply updPort_keeps | split)

theorem nakNow_keeps (a1) (a2) {s} (h : Keeps s0 s) : Keeps s0 (nakNow a1 a2 s) := by
  unfold nakNow
  repeat' (first | with_reducible assumption | ((try lift_lets -underBinder); intro _) | with_reducible apply emit_keeps | with_reducible apply updPort_keeps | (with_reducible apply Keeps.ite))

theorem linkAccept_keeps (a1) (a2) (a3) {s} (h : Keeps s0 s) : Keeps s0 (linkAccept a1 a2 a3 s).2 := by
  unfold linkAccept
  repeat' (first | with_reducible assumption | ((try lift_lets -underBinder); intro _) | with_reducible apply emit_keeps | with_reducible apply updPort_keeps | with_reducible apply nakNow_keeps | split)

theorem freeRx_keeps (a1) (a2) (a3) (a4) {s} (h : Keeps s0 s) : Keeps s0 (freeRx a1 a2 a3 a4 s) := by
  unfold freeRx
  repeat' (first | with_reducible assumption | with_reducible apply updPort_keeps)

theorem passOver_keeps (a1) {s} (h : Keeps s0 s) : Keeps s0 (passOver a1 s) := by
  unfold passOver
  repeat' (first | with_reducible assumption | with_reducible apply hand_keeps)

theorem overLink_keeps (a1) (a2) (a3) {s} (hf : ∀ {t}, Keeps s0 t → Keeps s0 (a3 t)) (h : Keeps s0 s) : Keeps s0 (overLink a1 a2 a3 s) := by
  unfold overLink
  repeat' (first | with_reducible assumption | ((try lift_lets -underBinder); intro x; refine Keeps.cut (s := s0) (x := x) ?_ (fun _ => ?_); (on_goal 2 => (try clear_value x)); (on_goal 1 => unfold x)) | ((try lift_lets -underBinder); intro _) | with_reducible apply hf | with_reducible apply linkAccept_keeps | with_reducible apply freeRx_keeps | with_reducible apply updPort_keeps | with_reducible apply passOver_keeps | (with_reducible apply Keeps.ite) | split)

theorem timeSend_keeps (a1) (a2) (a3) (a4) {s} (h : Keeps s0 s) : Keeps s0 (timeSend a1 a2 a3 a4 s) := by
  unfold timeSend
  repeat' (first | with_reducible assumption | with_reducible apply emit_keeps | with_reducible apply updPort_keeps | (with_reducible apply Keeps.ite))

theorem timeTaken_keeps (a1) (a2) {s} (h : Keeps s0 s) : Keeps s0 (timeTaken a1 a2 s) := by
  unfold timeTaken
  repeat' (first | with_reducible assumption | with_reducible apply freeRx_keeps)

theorem updQueue_keeps (a1) (a2) {s} (h : Keeps s0 s) : Keeps s0 (updQueue a1 a2 s) :=
  Keeps.upd h rfl rfl rfl rfl rfl rfl

theorem noteFull_keeps (a1) {s} (h : Keeps s0 s) : Keeps s0 (noteFull a1 s) := by
  unfold noteFull
  repeat' (first | with_reducible assumption | with_reducible apply updQueue_keeps)

theorem signalReply_keeps (a1) {s} (h : Keeps s0 s) : Keeps s0 (signalReply a1 s) := by
  unfold signalReply
  repeat' (first | with_reducible assumption | ((try lift_lets -underBinder); intro x; refine Keeps.cut (s := s0) (x := x) ?_ (fun _ => ?_); (on_goal 2 => (try clear_value x)); (on_goal 1 => unfold x)) | ((try lift_lets -underBinder); intro _) | with_reducible apply updQueue_keeps | with_reducible apply emit_keeps | (with_reducible apply Keeps.ite))

theorem ringWrite_keeps (a1) (a2) {s} (h : Keeps s0 s) : Keeps s0 (ringWrite a1 a2 s) := by
  unfold ringWrite
  repeat' (first | with_reducible assumption | ((try lift_lets -underBinder); intro x; refine Keeps.cut (s := s0) (x := x) ?_ (fun _ => ?_); (on_goal 2 => (try clear_value x)); (on_goal 1 => unfold x)) | ((try lift_lets -underBinder); intro _) | with_reducible apply emit_keeps | with_reducible apply updQueue_keeps | with_reducible apply noteFull_keeps | with_reducible apply signalReply_keeps | (with_reducible apply Keeps.ite))

theorem deliver_keeps (a1) (a2) (a3) {s} (h : Keeps s0 s) : Keeps s0 (deliver a1 a2 a3 s) := by
  unfold deliver
  repeat' (first | with_reducible assumption | ((try lift_lets -underBinder); intro _) | with_reducible apply noteFull_keeps | with_reducible apply updQueue_keeps | with_reducible apply emit_keeps | with_reducible apply hand_keeps | (with_reducible apply Keeps.ite) | split | (fail_if_no_progress refine Keeps.upd ?_ rfl rfl rfl rfl rfl rfl))

theorem notify_keeps (a1) (a2) {s} (h : Keeps s0 s) : Keeps s0 (notify a1 a2 s) := by
  unfold notify
  repeat' (first | with_reducible assumption | with_reducible apply ringWrite_keeps | with_reducible apply deliver_keeps | (with_reducible apply Keeps.ite) | split)

theorem logRecord_keeps (e) {s} (h : Keeps s0 s) : Keeps s0 (logRecord e s) := by
  unfold logRecord
  refine Keeps.foldl _ (fun _ _ _ => Keeps.ite ?_ ?_) _ (h.trans ⟨id, id, fun _ => ?_, id, rfl, rfl, Nat.le_refl _⟩)
  · apply notify_keeps; assumption
  · assumption
  · simp only [List.length_cons, List.length_take]; omega

theorem rollSecond_keeps {s} (h : Keeps s0 s) : Keeps s0 (rollSecond s) := by
  unfold rollSecond
  repeat' (first | with_reducible assumption | ((try lift_lets -underBinder); intro x; refine Keeps.cut (s := s0) (x := x) ?_ (fun _ => ?_); (on_goal 2 => (try clear_value x)); (on_goal 1 => unfold x)) | ((try lift_lets -underBinder); intro _) | with_reducible apply logRecord_keeps | (with_reducible refine Keeps.foldl _ (fun _ _ _ => ?_) _ ?_) | (with_reducible apply Keeps.ite) | (fail_if_no_progress refine Keeps.upd ?_ rfl rfl rfl rfl rfl rfl))

theorem insertEvent_keeps (a1) {s} (h : Keeps s0 s) : Keeps s0 (insertEvent a1 s) := by
  unfold insertEvent
  repeat' (first | with_reducible assumption | ((try lift_lets -underBinder); intro x; refine Keeps.cut (s := s0) (x := x) ?_ (fun _ => ?_); (on_goal 2 => (try clear_value x)); (on_goal 1 => unfold x)) | ((try lift_lets -underBinder); intro _) | with_reducible apply rollSecond_keeps | with_reducible apply logRecord_keeps | (with_reducible apply Keeps.ite) | (fail_if_no_progress refine Keeps.upd ?_ rfl rfl rfl rfl rfl rfl))

theorem post_keeps (p) (block) (sev) (code) (a) (b) {s} (h : Keeps s0 s) : Keeps s0 (post p block sev code a b s) := by
  cases p with
  | head => exact insertEvent_keeps _ h
  | tile =>
    unfold post
    dsimp only
    split
    · rename_i hl
      exact h.trans ⟨id, id, id, fun _ => by simp only [List.length_append, List.length_singleton]; omega, rfl, rfl, Nat.le_refl _⟩
    · exact Keeps.upd h rfl rfl rfl rfl rfl rfl

theorem setOutst_keeps (a1) (a2) {s} (h : Keeps s0 s) : Keeps s0 (setOutst a1 a2 s) := by
  unfold setOutst
  repeat' (first | with_reducible assumption | ((try lift_lets -underBinder); intro _) | split | (fail_if_no_progress refine Keeps.upd ?_ rfl rfl rfl rfl rfl rfl))

theorem putEntry_keeps (a1) (a2) {s} (h : Keeps s0 s) : Keeps s0 (putEntry a1 a2 s) := by
  unfold putEntry
  repeat' (first | with_reducible assumption | with_reducible apply setOutst_keeps)

theorem flushReplies_keeps (p) : ∀ (l kept : List Outst) {s : State}, Keeps s0 s → Keeps s0 (flushReplies p l kept s).2
  | [], _, _, h => h
  | e :: r, kept, s, h => by
    unfold flushReplies
    split
    · split
      · exact flushReplies_keeps p r _ h
      · refine flushReplies_keeps p r _ (Keeps.ite h (deliver_keeps _ _ _ h))
    · exact flushReplies_keeps p r _ h

theorem finish_keeps (a1) (a2) (a3) {s} (h : Keeps s0 s) : Keeps s0 (finish a1 a2 a3 s) := by
  unfold finish
  repeat' (first | with_reducible assumption | ((try lift_lets -underBinder); intro _) | with_reducible apply flushReplies_keeps | with_reducible apply setOutst_keeps | with_reducible apply deliver_keeps | (with_reducible apply Keeps.ite))

theorem ok_keeps (a1) (a2) (a3) {s} (h : Keeps s0 s) : Keeps s0 (ok a1 a2 a3 s) := by
  unfold ok
  repeat' (first | with_reducible assumption | with_reducible apply finish_keeps)

theorem okFrame_keeps (a1) (a2) (a3) (a4) (a5) {s} (h : Keeps s0 s) : Keeps s0 (okFrame a1 a2 a3 a4 a5 s) := by
  unfold okFrame
  repeat' (first | with_reducible assumption | with_reducible apply finish_keeps)

theorem refuse_keeps (a1) (a2) (a3) {s} (h : Keeps s0 s) : Keeps s0 (refuse a1 a2 a3 s) := by
  unfold refuse
  repeat' (first | with_reducible assumption | with_reducible apply finish_keeps)

theorem failed_keeps (a1) (a2) (a3) (a4) {s} (h : Keeps s0 s) : Keeps s0 (failed a1 a2 a3 a4 s) := by
  unfold failed
  repeat' (first | with_reducible assumption | with_reducible apply refuse_keeps)

theorem OpSpec_run_keeps (a1) (a2) {s} (ho : ∀ c {t}, Keeps s0 t → Keeps s0 (a1.run c t)) (h : Keeps s0 s) : Keeps s0 (OpSpec.run a1 a2 s) := by
  unfold OpSpec.run
  repeat' (first | with_reducible assumption | with_reducible apply ho)

theorem touchSession_keeps (a1) {s} (h : Keeps s0 s) : Keeps s0 (touchSession a1 s) := by
  unfold touchSession
  repeat' (first | with_reducible assumption | ((try lift_lets -underBinder); intro _) | split | (fail_if_no_progress refine Keeps.upd ?_ rfl rfl rfl rfl rfl rfl))

theorem take_keeps (a1) (a2) {s} (h : Keeps s0 s) : Keeps s0 (take a1 a2 s) := by
  unfold take
  repeat' (first | with_reducible assumption | with_reducible apply setOutst_keeps | with_reducible apply touchSession_keeps)

theorem holdCmd_keeps (a1) (a2) {s} (h : Keeps s0 s) : Keeps s0 (holdCmd a1 a2 s) := by
  unfold holdCmd
  repeat' (first | with_reducible assumption | ((try lift_lets -underBinder); intro _) | with_reducible apply setOutst_keeps | with_reducible apply touchSession_keeps | (with_reducible apply Keeps.ite))

theorem sendToTile_keeps (a1) (a2) (a3) (a4) (a5) (a6) {s} (h : Keeps s0 s) : Keeps s0 (sendToTile a1 a2 a3 a4 a5 a6 s) := by
  unfold sendToTile
  repeat' (first | with_reducible assumption | ((try lift_lets -underBinder); intro _) | with_reducible apply hand_keeps | with_reducible apply passOver_keeps | (with_reducible apply Keeps.ite))

theorem settleBcast_keeps (a1) {s} (h : Keeps s0 s) : Keeps s0 (settleBcast a1 s) := by
  unfold settleBcast
  repeat' (first | with_reducible assumption | with_reducible apply finish_keeps | (with_reducible apply Keeps.ite))

theorem sendLeg_keeps (p : Outst × State) (l) (h : Keeps s0 p.2) : Keeps s0 (sendLeg p l).2 := by
  unfold sendLeg
  split
  · split
    · exact sendToTile_keeps _ _ _ _ _ _ (putEntry_keeps _ _ h)
    · exact h
  · exact h

theorem sendLegs_fold_keeps : ∀ (l : List TileLeg) (p : Outst × State), Keeps s0 p.2 → Keeps s0 (l.foldl sendLeg p).2
  | [], _, h => h
  | x :: r, p, h => sendLegs_fold_keeps r _ (sendLeg_keeps p x h)

theorem sendLegs_keeps (e) {s} (h : Keeps s0 s) : Keeps s0 (sendLegs e s) := sendLegs_fold_keeps _ (e, s) h

theorem tileGone_keeps (a1) (a2) {s} (h : Keeps s0 s) : Keeps s0 (tileGone a1 a2 s) := by
  unfold tileGone
  repeat' (first | with_reducible assumption | ((try lift_lets -underBinder); intro _) | with_reducible apply settleBcast_keeps | with_reducible apply putEntry_keeps | with_reducible apply finish_keeps | (with_reducible refine Keeps.foldl _ (fun _ _ _ => ?_) _ ?_) | (with_reducible apply Keeps.ite))

theorem forward_keeps (a1) (a2) {s} (ho : ∀ c {t}, Keeps s0 t → Keeps s0 (a1.run c t)) (h : Keeps s0 s) : Keeps s0 (forward a1 a2 s) := by
  unfold forward
  repeat' (first | with_reducible assumption | ((try lift_lets -underBinder); intro x; refine Keeps.cut (s := s0) (x := x) ?_ (fun _ => ?_); (on_goal 2 => (try clear_value x)); (on_goal 1 => unfold x)) | ((try lift_lets -underBinder); intro _) | with_reducible apply take_keeps | with_reducible apply settleBcast_keeps | with_reducible apply sendLegs_keeps | with_reducible apply putEntry_keeps | split)

theorem headRun_keeps (a1) (a2) {s} (ho : ∀ c {t}, Keeps s0 t → Keeps s0 (a1.run c t)) (h : Keeps s0 s) : Keeps s0 (headRun a1 a2 s) := by
  unfold headRun
  repeat' (first | with_reducible assumption | with_reducible apply ho | with_reducible apply holdCmd_keeps | with_reducible apply refuse_keeps | with_reducible apply take_keeps | with_reducible apply forward_keeps | (with_reducible apply Keeps.ite) | split)

theorem tileRun_keeps (a1) (a2) {s} (ho : ∀ c {t}, Keeps s0 t → Keeps s0 (a1.run c t)) (h : Keeps s0 s) : Keeps s0 (tileRun a1 a2 s) := by
  unfold tileRun
  repeat' (first | with_reducible assumption | with_reducible apply ho | with_reducible apply deliver_keeps | with_reducible apply refuse_keeps | with_reducible apply take_keeps | (with_reducible apply Keeps.ite) | split)

theorem tileArrive_keeps (a1) (a2) {s} (ho : ∀ c {t}, Keeps s0 t → Keeps s0 (a1.run c t)) (h : Keeps s0 s) : Keeps s0 (tileArrive a1 a2 s) := by
  unfold tileArrive
  repeat' (first | with_reducible assumption | (intro t (_ : Keeps s0 t)) | ((try lift_lets -underBinder); intro _) | with_reducible apply overLink_keeps | with_reducible apply tileRun_keeps | with_reducible apply hand_keeps | (with_reducible apply Keeps.ite) | split)

theorem runCmd_keeps (o : OpSpec) (c : Cmd) {s} (ho : ∀ c {t}, Keeps s0 t → Keeps s0 (o.run c t)) (h : Keeps s0 s) :
    Goes s0 (runCmd o c s) := by
  unfold runCmd
  refine Goes.next (Keeps.ite h ?_)
  split
  · exact headRun_keeps o _ ho h
  · exact tileArrive_keeps o c ho h

theorem onPart_keeps (p) (f : State → State) {s} (hf : ∀ {t}, Keeps s0 t → Keeps s0 (f t)) (h : Keeps s0 s) : Goes s0 (onPart p f s) :=
  Goes.next (Keeps.ite (hf h) h)

theorem endLease_keeps (a1) {s} (h : Keeps s0 s) : Keeps s0 (endLease a1 s) := by
  unfold endLease
  repeat' (first | with_reducible assumption | ((try lift_lets -underBinder); intro x; refine Keeps.cut (s := s0) (x := x) ?_ (fun _ => ?_); (on_goal 2 => (try clear_value x)); (on_goal 1 => unfold x)) | ((try lift_lets -underBinder); intro _) | (with_reducible apply Keeps.ite) | split | (fail_if_no_progress refine Keeps.upd ?_ rfl rfl rfl rfl rfl rfl))

theorem endHeld_keeps (a1) {s} (h : Keeps s0 s) : Keeps s0 (endHeld a1 s) := by
  unfold endHeld
  repeat' (first | with_reducible assumption | with_reducible apply endLease_keeps | (with_reducible refine Keeps.foldl _ (fun _ _ _ => ?_) _ ?_))

theorem sourceGone_keeps (a1) {s} (h : Keeps s0 s) : Keeps s0 (sourceGone a1 s) :=
  Keeps.upd h rfl rfl rfl rfl rfl rfl

end Sys2Proof.Laws
end

