-- ==== Sys2Proof/Laws/KeepsTwinOps.lean ====
section
/-!
SUPPORT. The operations and commands of Machine/TwinOps.lean keep what `Keeps` names.
-/
set_option linter.unusedTactic false
set_option linter.unreachableTactic false
set_option linter.unusedVariables false
namespace Sys2Proof.Laws

open Sys2Proof.Machine

variable {s0 : State}

theorem updTw_keeps (a1) {s} (h : Keeps s0 s) : Keeps s0 (updTw a1 s) :=
  Keeps.upd h rfl rfl rfl rfl rfl rfl

theorem setClaim_keeps (a1) {s} (h : Keeps s0 s) : Keeps s0 (setClaim a1 s) := by
  unfold setClaim
  repeat' (first | with_reducible assumption | with_reducible apply emit_keeps | with_reducible apply updTw_keeps | (with_reducible apply Keeps.ite))

theorem noteBoth_keeps {s} (h : Keeps s0 s) : Keeps s0 (noteBoth s) := by
  unfold noteBoth
  repeat' (first | with_reducible assumption | ((try lift_lets -underBinder); intro _) | with_reducible apply updTw_keeps | (with_reducible apply Keeps.ite))

theorem evalClaim_keeps {s} (h : Keeps s0 s) : Keeps s0 (evalClaim s) := by
  unfold evalClaim
  repeat' (first | with_reducible assumption | with_reducible apply noteBoth_keeps | with_reducible apply setClaim_keeps | (with_reducible apply Keeps.ite))

theorem replyWaiting_keeps {s} (h : Keeps s0 s) : Keeps s0 (replyWaiting s) := by
  unfold replyWaiting
  repeat' (first | with_reducible assumption | with_reducible apply finish_keeps | with_reducible apply updTw_keeps | (with_reducible refine Keeps.foldl _ (fun _ _ _ => ?_) _ ?_))

theorem dropSnapshot_keeps {s} (h : Keeps s0 s) : Keeps s0 (dropSnapshot s) := by
  unfold dropSnapshot
  repeat' (first | with_reducible assumption | ((try lift_lets -underBinder); intro _) | split | (fail_if_no_progress refine Keeps.upd ?_ rfl rfl rfl rfl rfl rfl))

theorem setRole_keeps (a1) {s} (h : Keeps s0 s) : Keeps s0 (setRole a1 s) := by
  unfold setRole
  repeat' (first | with_reducible assumption | ((try lift_lets -underBinder); intro x; refine Keeps.cut (s := s0) (x := x) ?_ (fun _ => ?_); (on_goal 2 => (try clear_value x)); (on_goal 1 => unfold x)) | ((try lift_lets -underBinder); intro _) | with_reducible apply updTw_keeps | with_reducible apply replyWaiting_keeps | with_reducible apply failed_keeps | with_reducible apply dropSnapshot_keeps | (with_reducible refine Keeps.foldl _ (fun _ _ _ => ?_) _ ?_) | (with_reducible apply Keeps.ite))

theorem twinDown_keeps {s} (h : Keeps s0 s) : Keeps s0 (twinDown s) := by
  unfold twinDown
  repeat' (first | with_reducible assumption | ((try lift_lets -underBinder); intro x; refine Keeps.cut (s := s0) (x := x) ?_ (fun _ => ?_); (on_goal 2 => (try clear_value x)); (on_goal 1 => unfold x)) | with_reducible apply updTw_keeps | with_reducible apply evalClaim_keeps | with_reducible apply setRole_keeps | with_reducible apply post_keeps | (with_reducible apply Keeps.ite) | split)

theorem twinSend_keeps (a1) (a2) {s} (h : Keeps s0 s) : Keeps s0 (twinSend a1 a2 s) := by
  unfold twinSend
  repeat' (first | with_reducible assumption | with_reducible apply hand_keeps)

theorem requestSnapshot_keeps (a1) {s} (h : Keeps s0 s) : Keeps s0 (requestSnapshot a1 s) := by
  unfold requestSnapshot
  repeat' (first | with_reducible assumption | with_reducible apply twinSend_keeps | with_reducible apply updTw_keeps | with_reducible apply setRole_keeps)

theorem finishFwd_keeps (a1) (a2) (a3) (a4) (a5) (a6) {s} (a8) (h : Keeps s0 s) : Keeps s0 (finishFwd a1 a2 a3 a4 a5 a6 s a8) := by
  unfold finishFwd
  repeat' (first | with_reducible assumption | ((try lift_lets -underBinder); intro x; refine Keeps.cut (s := s0) (x := x) ?_ (fun _ => ?_); (on_goal 2 => (try clear_value x)); (on_goal 1 => unfold x)) | ((try lift_lets -underBinder); intro _) | with_reducible apply twinSend_keeps | with_reducible apply updTw_keeps | with_reducible apply finish_keeps | (with_reducible apply Keeps.ite))

theorem okFwd_keeps (a1) (a2) (a3) {s} (h : Keeps s0 s) : Keeps s0 (okFwd a1 a2 a3 s) := by
  unfold okFwd
  repeat' (first | with_reducible assumption | with_reducible apply finishFwd_keeps)

theorem okFwdFrame_keeps (a1) (a2) (a3) (a4) (a5) {s} (h : Keeps s0 s) : Keeps s0 (okFwdFrame a1 a2 a3 a4 a5 s) := by
  unfold okFwdFrame
  repeat' (first | with_reducible assumption | with_reducible apply finishFwd_keeps)

theorem updTileEnt_keeps (a1) (a2) (a3) {s} (h : Keeps s0 s) : Keeps s0 (updTileEnt a1 a2 a3 s) :=
  Keeps.upd h rfl rfl rfl rfl rfl rfl

theorem sendTileConfig_keeps (a1) (a2) (a3) (a4) {s} (h : Keeps s0 s) : Keeps s0 (sendTileConfig a1 a2 a3 a4 s) := by
  unfold sendTileConfig
  repeat' (first | with_reducible assumption | ((try lift_lets -underBinder); intro x; refine Keeps.cut (s := s0) (x := x) ?_ (fun _ => ?_); (on_goal 2 => (try clear_value x)); (on_goal 1 => unfold x)) | ((try lift_lets -underBinder); intro _) | with_reducible apply updTileEnt_keeps | with_reducible apply sendToTile_keeps | (fail_if_no_progress refine Keeps.upd ?_ rfl rfl rfl rfl rfl rfl))

theorem configLoaded_keeps (a1) {s} (h : Keeps s0 s) : Keeps s0 (configLoaded a1 s) := by
  unfold configLoaded
  repeat' (first | with_reducible assumption | with_reducible apply sendTileConfig_keeps | with_reducible apply updTileEnt_keeps | (with_reducible refine Keeps.foldl _ (fun _ _ _ => ?_) _ ?_))

theorem configReply_keeps (a1) {s} (h : Keeps s0 s) : Keeps s0 (configReply a1 s) := by
  unfold configReply
  repeat' (first | with_reducible assumption | ((try lift_lets -underBinder); intro _) | with_reducible apply updTileEnt_keeps)

theorem sendConfigs_keeps (a1) (a2) (a3) {s} (h : Keeps s0 s) : Keeps s0 (sendConfigs a1 a2 a3 s) := by
  unfold sendConfigs
  repeat' (first | with_reducible assumption | with_reducible apply sendTileConfig_keeps | (with_reducible refine Keeps.foldl _ (fun _ _ _ => ?_) _ ?_))

theorem darken_keeps (a1) {s} (h : Keeps s0 s) : Keeps s0 (darken a1 s) :=
  Keeps.upd h rfl rfl rfl rfl rfl rfl

theorem undark_keeps (a1) {s} (h : Keeps s0 s) : Keeps s0 (undark a1 s) :=
  Keeps.upd h rfl rfl rfl rfl rfl rfl

theorem relight_keeps {s} (h : Keeps s0 s) : Keeps s0 (relight s) := by
  unfold relight
  repeat' (first | with_reducible assumption | ((try lift_lets -underBinder); intro _) | (with_reducible apply Keeps.ite) | (fail_if_no_progress refine Keeps.upd ?_ rfl rfl rfl rfl rfl rfl))

end Sys2Proof.Laws
end

