-- ==== Sys2Proof/Laws/KeepsCellarOps.lean ====
section
/-!
SUPPORT. The operations and commands of Machine/CellarOps.lean keep what `Keeps` names.
-/
set_option linter.unusedTactic false
set_option linter.unreachableTactic false
set_option linter.unusedVariables false
namespace Sys2Proof.Laws

open Sys2Proof.Machine

variable {s0 : State}

theorem updStack_keeps (a1) (a2) {s} (h : Keeps s0 s) : Keeps s0 (updStack a1 a2 s) :=
  Keeps.upd h rfl rfl rfl rfl rfl rfl

theorem setFlips_keeps (a1) (a2) {s} (h : Keeps s0 s) : Keeps s0 (setFlips a1 a2 s) := by
  unfold setFlips
  repeat' (first | with_reducible assumption | ((try lift_lets -underBinder); intro _) | split | (fail_if_no_progress refine Keeps.upd ?_ rfl rfl rfl rfl rfl rfl))

theorem ceRate_keeps (a1) {s} (h : Keeps s0 s) : Keeps s0 (ceRate a1 s) := by
  unfold ceRate
  repeat' (first | with_reducible assumption | ((try lift_lets -underBinder); intro _) | with_reducible apply post_keeps | with_reducible apply updStack_keeps | (with_reducible apply Keeps.ite))

theorem ceHit_keeps (a1) {s} (h : Keeps s0 s) : Keeps s0 (ceHit a1 s) := by
  unfold ceHit
  repeat' (first | with_reducible assumption | ((try lift_lets -underBinder); intro x; refine Keeps.cut (s := s0) (x := x) ?_ (fun _ => ?_); (on_goal 2 => (try clear_value x)); (on_goal 1 => unfold x)) | ((try lift_lets -underBinder); intro _) | with_reducible apply updStack_keeps | with_reducible apply ceRate_keeps | split | (fail_if_no_progress refine Keeps.upd ?_ rfl rfl rfl rfl rfl rfl))

theorem ueHit_keeps (a1) (a2) {s} (h : Keeps s0 s) : Keeps s0 (ueHit a1 a2 s) := by
  unfold ueHit
  repeat' (first | with_reducible assumption | ((try lift_lets -underBinder); intro x; refine Keeps.cut (s := s0) (x := x) ?_ (fun _ => ?_); (on_goal 2 => (try clear_value x)); (on_goal 1 => unfold x)) | ((try lift_lets -underBinder); intro _) | with_reducible apply updStack_keeps | with_reducible apply post_keeps | (fail_if_no_progress refine Keeps.upd ?_ rfl rfl rfl rfl rfl rfl))

theorem touch_keeps (a1) (a2) {s} (h : Keeps s0 s) : Keeps s0 (touch a1 a2 s) := by
  unfold touch
  repeat' (first | with_reducible assumption | with_reducible apply updStack_keeps | (with_reducible refine Keeps.foldl _ (fun _ _ _ => ?_) _ ?_))

theorem readNow_keeps (a1) (a2) (a3) {s} (h : Keeps s0 s) : Keeps s0 (readNow a1 a2 a3 s).2.2 := by
  unfold readNow
  repeat' (first | with_reducible assumption | ((try lift_lets -underBinder); intro x; refine Keeps.cut (s := s0) (x := x) ?_ (fun _ => ?_); (on_goal 2 => (try clear_value x)); (on_goal 1 => unfold x)) | ((try lift_lets -underBinder); intro _) | with_reducible apply ueHit_keeps | with_reducible apply ceHit_keeps | with_reducible apply touch_keeps | (with_reducible refine Keeps.foldl _ (fun _ _ _ => ?_) _ ?_) | (with_reducible apply Keeps.ite))

theorem mergeWord_keeps (a1) (a2) (a3) (a4) {s} (h : Keeps s0 s) : Keeps s0 (mergeWord a1 a2 a3 a4 s) := by
  unfold mergeWord
  repeat' (first | with_reducible assumption | ((try lift_lets -underBinder); intro x; refine Keeps.cut (s := s0) (x := x) ?_ (fun _ => ?_); (on_goal 2 => (try clear_value x)); (on_goal 1 => unfold x)) | ((try lift_lets -underBinder); intro _) | with_reducible apply setFlips_keeps | with_reducible apply ueHit_keeps | with_reducible apply ceHit_keeps | (with_reducible apply Keeps.ite) | (refine Keeps.updMem ?_ (fun h => memPutAll_wf _ _ h) rfl rfl rfl rfl rfl))

theorem injectWord_keeps (a1) {s} (h : Keeps s0 s) : Keeps s0 (injectWord a1 s) := by
  unfold injectWord
  repeat' (first | with_reducible assumption | ((try lift_lets -underBinder); intro x; refine Keeps.cut (s := s0) (x := x) ?_ (fun _ => ?_); (on_goal 2 => (try clear_value x)); (on_goal 1 => unfold x)) | ((try lift_lets -underBinder); intro _) | with_reducible apply setFlips_keeps | split | (fail_if_no_progress refine Keeps.upd ?_ rfl rfl rfl rfl rfl rfl))

theorem writeNow_keeps (a1) (a2) (a3) {s} (h : Keeps s0 s) : Keeps s0 (writeNow a1 a2 a3 s) := by
  unfold writeNow
  repeat' (first | with_reducible assumption | ((try lift_lets -underBinder); intro x; refine Keeps.cut (s := s0) (x := x) ?_ (fun _ => ?_); (on_goal 2 => (try clear_value x)); (on_goal 1 => unfold x)) | ((try lift_lets -underBinder); intro _) | with_reducible apply mergeWord_keeps | with_reducible apply touch_keeps | with_reducible apply injectWord_keeps | (with_reducible refine Keeps.foldl _ (fun _ _ _ => ?_) _ ?_) | (refine Keeps.updMem ?_ (fun h => memPutAll_wf _ _ h) rfl rfl rfl rfl rfl))

theorem leaseCheck_keeps (a1) (a2) (a3) {s} (h : Keeps s0 s) : Keeps s0 (leaseCheck a1 a2 a3 s) := by
  unfold leaseCheck
  repeat' (first | with_reducible assumption | ((try lift_lets -underBinder); intro _) | with_reducible apply post_keeps | (with_reducible refine Keeps.foldl _ (fun _ _ _ => ?_) _ ?_) | (with_reducible apply Keeps.ite) | split | (fail_if_no_progress refine Keeps.upd ?_ rfl rfl rfl rfl rfl rfl))

theorem queueReq_keeps (a1) (a2) {s} (h : Keeps s0 s) : Keeps s0 (queueReq a1 a2 s) := by
  unfold queueReq
  repeat' (first | with_reducible assumption | ((try lift_lets -underBinder); intro x; refine Keeps.cut (s := s0) (x := x) ?_ (fun _ => ?_); (on_goal 2 => (try clear_value x)); (on_goal 1 => unfold x)) | ((try lift_lets -underBinder); intro _) | with_reducible apply updStack_keeps | with_reducible apply post_keeps | (with_reducible apply Keeps.ite))

theorem serveWrite_keeps (a1) (a2) {s} (h : Keeps s0 s) : Keeps s0 (serveWrite a1 a2 s) := by
  unfold serveWrite
  repeat' (first | with_reducible assumption | ((try lift_lets -underBinder); intro x; refine Keeps.cut (s := s0) (x := x) ?_ (fun _ => ?_); (on_goal 2 => (try clear_value x)); (on_goal 1 => unfold x)) | with_reducible apply writeNow_keeps | with_reducible apply leaseCheck_keeps | (with_reducible apply Keeps.ite))

theorem submitWrite_keeps (a1) (a2) {s} (h : Keeps s0 s) : Keeps s0 (submitWrite a1 a2 s) := by
  unfold submitWrite
  repeat' (first | with_reducible assumption | ((try lift_lets -underBinder); intro _) | with_reducible apply serveWrite_keeps | with_reducible apply queueReq_keeps | (with_reducible refine Keeps.foldl _ (fun _ _ _ => ?_) _ ?_) | (with_reducible apply Keeps.ite))

theorem clWrite_keeps (a1) (a2) (a3) {s} (h : Keeps s0 s) : Keeps s0 (clWrite a1 a2 a3 s) := by
  unfold clWrite
  repeat' (first | with_reducible assumption | with_reducible apply submitWrite_keeps)

theorem awaitRead_keeps (a1) (a2) (a3) {s} (h : Keeps s0 s) : Keeps s0 (awaitRead a1 a2 a3 s) := by
  unfold awaitRead
  repeat' (first | with_reducible assumption | ((try lift_lets -underBinder); intro _) | with_reducible apply queueReq_keeps | (with_reducible refine Keeps.foldl _ (fun _ _ _ => ?_) _ ?_) | (with_reducible apply Keeps.ite))

theorem settled_keeps {s} (h : Keeps s0 s) : Keeps s0 (settled s) := by
  unfold settled
  repeat' (first | with_reducible assumption | with_reducible apply writeNow_keeps | (with_reducible refine Keeps.foldl _ (fun _ _ _ => ?_) _ ?_) | split)

theorem clRead_keeps (a1) (a2) (a3) {s} (h : Keeps s0 s) : Keeps s0 (clRead a1 a2 a3 s).2.2 := by
  unfold clRead
  repeat' (first | with_reducible assumption | ((try lift_lets -underBinder); intro _) | with_reducible apply readNow_keeps | with_reducible apply awaitRead_keeps | split)

theorem whenServed_keeps (a1) (a2) (a3) {s} (hf : ∀ {t}, Keeps s0 t → Keeps s0 (a3 t)) (h : Keeps s0 s) : Keeps s0 (whenServed a1 a2 a3 s) := by
  unfold whenServed
  repeat' (first | with_reducible assumption | with_reducible apply hf | with_reducible apply awaitRead_keeps | (with_reducible refine Keeps.foldl _ (fun _ _ _ => ?_) _ ?_) | (with_reducible apply Keeps.ite))

end Sys2Proof.Laws
end

