-- ==== Sys2Proof/Laws/KeepsPaneCache.lean ====
section
/-!
SUPPORT. The operations and commands of Machine/PaneCache.lean keep what `Keeps` names.
-/
set_option linter.unusedTactic false
set_option linter.unreachableTactic false
set_option linter.unusedVariables false
namespace Sys2Proof.Laws

open Sys2Proof.Machine

variable {s0 : State}

theorem storeHeader_keeps (a1) (a2) (a3) {s} (h : Keeps s0 s) : Keeps s0 (storeHeader a1 a2 a3 s) := by
  unfold storeHeader
  repeat' (first | with_reducible assumption | with_reducible apply clWrite_keeps)

theorem putVer_keeps (a1) {s} (h : Keeps s0 s) : Keeps s0 (putVer a1 s) := by
  unfold putVer
  repeat' (first | with_reducible assumption | ((try lift_lets -underBinder); intro _) | with_reducible apply storeHeader_keeps | (fail_if_no_progress refine Keeps.upd ?_ rfl rfl rfl rfl rfl rfl))

theorem reviseVers_keeps (a1) {s} (h : Keeps s0 s) : Keeps s0 (reviseVers a1 s) := by
  unfold reviseVers
  repeat' (first | with_reducible assumption | ((try lift_lets -underBinder); intro _) | with_reducible apply storeHeader_keeps | (with_reducible refine Keeps.foldl _ (fun _ _ _ => ?_) _ ?_) | (fail_if_no_progress refine Keeps.upd ?_ rfl rfl rfl rfl rfl rfl))

theorem mapVers_keeps (a1) (a2) {s} (h : Keeps s0 s) : Keeps s0 (mapVers a1 a2 s) := by
  unfold mapVers
  repeat' (first | with_reducible assumption | with_reducible apply reviseVers_keeps)

theorem updRec_keeps (a1) (a2) {s} (h : Keeps s0 s) : Keeps s0 (updRec a1 a2 s) :=
  Keeps.upd h rfl rfl rfl rfl rfl rfl

theorem postStale_keeps (a1) (a2) {s} (h : Keeps s0 s) : Keeps s0 (postStale a1 a2 s) := by
  unfold postStale
  repeat' (first | with_reducible assumption | ((try lift_lets -underBinder); intro x; refine Keeps.cut (s := s0) (x := x) ?_ (fun _ => ?_); (on_goal 2 => (try clear_value x)); (on_goal 1 => unfold x)) | ((try lift_lets -underBinder); intro _) | with_reducible apply post_keeps | (with_reducible apply Keeps.ite) | (fail_if_no_progress refine Keeps.upd ?_ rfl rfl rfl rfl rfl rfl))

theorem countStale_keeps (a1) (a2) {s} (h : Keeps s0 s) : Keeps s0 (countStale a1 a2 s) := by
  unfold countStale
  repeat' (first | with_reducible assumption | ((try lift_lets -underBinder); intro _) | with_reducible apply postStale_keeps | with_reducible apply updRec_keeps | (with_reducible apply Keeps.ite))

theorem paneLost_keeps (a1) {s} (h : Keeps s0 s) : Keeps s0 (paneLost a1 s) := by
  unfold paneLost
  repeat' (first | with_reducible assumption | with_reducible apply countStale_keeps | with_reducible apply mapVers_keeps | with_reducible apply postStale_keeps | (with_reducible apply Keeps.ite) | split)

end Sys2Proof.Laws
end

