-- ==== Sys2Proof/Laws/KeepsParlour.lean ====
section
/-!
SUPPORT. The operations and commands of Machine/Parlour.lean keep what `Keeps` names.
-/
set_option linter.unusedTactic false
set_option linter.unreachableTactic false
set_option linter.unusedVariables false
namespace Sys2Proof.Laws

open Sys2Proof.Machine

variable {s0 : State}

theorem endLeases_keeps (a1) {s} (h : Keeps s0 s) : Keeps s0 (endLeases a1 s) := by
  unfold endLeases
  repeat' (first | with_reducible assumption | with_reducible apply endLease_keeps | (with_reducible refine Keeps.foldl _ (fun _ _ _ => ?_) _ ?_))

theorem setLease_keeps (a1) (a2) (a3) (a4) (a5) (a6) {s} (h : Keeps s0 s) : Keeps s0 (setLease a1 a2 a3 a4 a5 a6 s) := by
  unfold setLease
  repeat' (first | with_reducible assumption | ((try lift_lets -underBinder); intro _) | (with_reducible apply Keeps.ite) | split | (fail_if_no_progress refine Keeps.upd ?_ rfl rfl rfl rfl rfl rfl))

theorem changeLeases_keeps (a1) (a2) (a3) (a4) {s} (h : Keeps s0 s) : Keeps s0 (changeLeases a1 a2 a3 a4 s) := by
  unfold changeLeases
  repeat' (first | with_reducible assumption | ((try lift_lets -underBinder); intro _) | with_reducible apply setLease_keeps | (with_reducible refine Keeps.foldl _ (fun _ _ _ => ?_) _ ?_) | (with_reducible apply Keeps.ite) | split)

theorem holdLeases_keeps (a1) {s} (h : Keeps s0 s) : Keeps s0 (holdLeases a1 s) :=
  Keeps.upd h rfl rfl rfl rfl rfl rfl

theorem dropHeld_keeps (a1) {s} (h : Keeps s0 s) : Keeps s0 (dropHeld a1 s) :=
  Keeps.upd h rfl rfl rfl rfl rfl rfl

theorem invalidate_keeps (a1) (a2) {s} (h : Keeps s0 s) : Keeps s0 (invalidate a1 a2 s) := by
  unfold invalidate
  repeat' (first | with_reducible assumption | ((try lift_lets -underBinder); intro _) | with_reducible apply mapVers_keeps | (fail_if_no_progress refine Keeps.upd ?_ rfl rfl rfl rfl rfl rfl))

theorem postApplied_keeps (a1) (a2) {s} (h : Keeps s0 s) : Keeps s0 (postApplied a1 a2 s) := by
  unfold postApplied
  repeat' (first | with_reducible assumption | with_reducible apply post_keeps | split)

theorem install_keeps (a1) (a2) {s} (h : Keeps s0 s) : Keeps s0 (install a1 a2 s) := by
  unfold install
  repeat' (first | with_reducible assumption | ((try lift_lets -underBinder); intro x; refine Keeps.cut (s := s0) (x := x) ?_ (fun _ => ?_); (on_goal 2 => (try clear_value x)); (on_goal 1 => unfold x)) | ((try lift_lets -underBinder); intro _) | with_reducible apply changeLeases_keeps | with_reducible apply invalidate_keeps | (with_reducible apply Keeps.ite) | (fail_if_no_progress refine Keeps.upd ?_ rfl rfl rfl rfl rfl rfl))

theorem nextSeq_keeps {s} (h : Keeps s0 s) : Keeps s0 (nextSeq s) :=
  Keeps.upd h rfl rfl rfl rfl rfl rfl

theorem applyNow_keeps (a1) (a2) {s} (h : Keeps s0 s) : Keeps s0 (applyNow a1 a2 s) := by
  unfold applyNow
  repeat' (first | with_reducible assumption | ((try lift_lets -underBinder); intro x; refine Keeps.cut (s := s0) (x := x) ?_ (fun _ => ?_); (on_goal 2 => (try clear_value x)); (on_goal 1 => unfold x)) | ((try lift_lets -underBinder); intro _) | with_reducible apply endLeases_keeps | with_reducible apply postApplied_keeps | with_reducible apply changeLeases_keeps | (fail_if_no_progress refine Keeps.upd ?_ rfl rfl rfl rfl rfl rfl))

theorem submit_keeps (a1) (a2) (a3) (a4) (a5) (a6) (a7) {s} (h : Keeps s0 s) : Keeps s0 (submit a1 a2 a3 a4 a5 a6 a7 s) := by
  unfold submit
  repeat' (first | with_reducible assumption | ((try lift_lets -underBinder); intro x; refine Keeps.cut (s := s0) (x := x) ?_ (fun _ => ?_); (on_goal 2 => (try clear_value x)); (on_goal 1 => unfold x)) | ((try lift_lets -underBinder); intro _) | with_reducible apply install_keeps | with_reducible apply finishFwd_keeps | with_reducible apply applyNow_keeps | split)

theorem submitId_keeps (a1) (a2) (a3) {s} (h : Keeps s0 s) : Keeps s0 (submitId a1 a2 a3 s) := by
  unfold submitId
  repeat' (first | with_reducible assumption | ((try lift_lets -underBinder); intro _) | with_reducible apply submit_keeps | with_reducible apply nextSeq_keeps | (fail_if_no_progress refine Keeps.upd ?_ rfl rfl rfl rfl rfl rfl))

theorem submitPlain_keeps (a1) (a2) (a3) {s} (h : Keeps s0 s) : Keeps s0 (submitPlain a1 a2 a3 s) := by
  unfold submitPlain
  repeat' (first | with_reducible assumption | with_reducible apply submit_keeps | with_reducible apply nextSeq_keeps)

theorem expireCommit_keeps (a1) {s} (h : Keeps s0 s) : Keeps s0 (expireCommit a1 s) := by
  unfold expireCommit
  repeat' (first | with_reducible assumption | ((try lift_lets -underBinder); intro _) | with_reducible apply post_keeps | with_reducible apply failed_keeps | with_reducible apply endHeld_keeps)

theorem markGone_keeps (a1) {s} (h : Keeps s0 s) : Keeps s0 (markGone a1 s) :=
  Keeps.upd h rfl rfl rfl rfl rfl rfl

theorem fixCommit_keeps (a1) {s} (h : Keeps s0 s) : Keeps s0 (fixCommit a1 s) := by
  unfold fixCommit
  repeat' (first | with_reducible assumption | ((try lift_lets -underBinder); intro x; refine Keeps.cut (s := s0) (x := x) ?_ (fun _ => ?_); (on_goal 2 => (try clear_value x)); (on_goal 1 => unfold x)) | ((try lift_lets -underBinder); intro _) | with_reducible apply expireCommit_keeps | with_reducible apply submit_keeps | with_reducible apply dropHeld_keeps | with_reducible apply markGone_keeps | (with_reducible apply Keeps.ite))

theorem specPlCommit_keeps (c) {s} (h : Keeps s0 s) : Keeps s0 (specPlCommit.run c s) := by
  unfold specPlCommit; dsimp -zeta only
  repeat' (first | with_reducible assumption | ((try lift_lets -underBinder); intro x; refine Keeps.cut (s := s0) (x := x) ?_ (fun _ => ?_); (on_goal 2 => (try clear_value x)); (on_goal 1 => unfold x)) | ((try lift_lets -underBinder); intro _) | with_reducible apply nextSeq_keeps | with_reducible apply fixCommit_keeps | with_reducible apply holdLeases_keeps | (with_reducible apply Keeps.ite) | (fail_if_no_progress refine Keeps.upd ?_ rfl rfl rfl rfl rfl rfl))

theorem execPlCommit_keeps (a1) {s} (h : Keeps s0 s) : Goes s0 (execPlCommit a1 s) := runCmd_keeps specPlCommit a1 (fun c _ h => specPlCommit_keeps c h) h

theorem releaseWaiting_keeps {s} (h : Keeps s0 s) : Keeps s0 (releaseWaiting s) := by
  unfold releaseWaiting
  repeat' (first | with_reducible assumption | ((try lift_lets -underBinder); intro x; refine Keeps.cut (s := s0) (x := x) ?_ (fun _ => ?_); (on_goal 2 => (try clear_value x)); (on_goal 1 => unfold x)) | ((try lift_lets -underBinder); intro _) | with_reducible apply fixCommit_keeps | (with_reducible refine Keeps.foldl _ (fun _ _ _ => ?_) _ ?_) | (fail_if_no_progress refine Keeps.upd ?_ rfl rfl rfl rfl rfl rfl))

theorem signalFence_keeps (a1) (a2) (a3) {s} (h : Keeps s0 s) : Keeps s0 (signalFence a1 a2 a3 s) := by
  unfold signalFence
  repeat' (first | with_reducible assumption | ((try lift_lets -underBinder); intro _) | with_reducible apply releaseWaiting_keeps | (fail_if_no_progress refine Keeps.upd ?_ rfl rfl rfl rfl rfl rfl))

theorem specPlFenceSignal_keeps (c) {s} (h : Keeps s0 s) : Keeps s0 (specPlFenceSignal.run c s) := by
  unfold specPlFenceSignal; dsimp -zeta only
  repeat' (first | with_reducible assumption | with_reducible apply ok_keeps | with_reducible apply signalFence_keeps)

theorem execPlFenceSignal_keeps (a1) {s} (h : Keeps s0 s) : Goes s0 (execPlFenceSignal a1 s) := runCmd_keeps specPlFenceSignal a1 (fun c _ h => specPlFenceSignal_keeps c h) h

theorem specPlFenceGet_keeps (c) {s} (h : Keeps s0 s) : Keeps s0 (specPlFenceGet.run c s) := by
  unfold specPlFenceGet; dsimp -zeta only
  repeat' (first | with_reducible assumption | ((try lift_lets -underBinder); intro _) | with_reducible apply ok_keeps)

theorem execPlFenceGet_keeps (a1) {s} (h : Keeps s0 s) : Goes s0 (execPlFenceGet a1 s) := runCmd_keeps specPlFenceGet a1 (fun c _ h => specPlFenceGet_keeps c h) h

theorem execPlFenceTimeout_keeps (a1) {s} (h : Keeps s0 s) : Goes s0 (execPlFenceTimeout a1 s) := by
  unfold execPlFenceTimeout
  first | refine onPart_keeps _ _ (fun h => ?_) h | refine Goes.next ?_
  try dsimp -zeta only
  repeat' (first | with_reducible assumption | ((try lift_lets -underBinder); intro _) | with_reducible apply expireCommit_keeps | (with_reducible apply Keeps.ite) | split | (fail_if_no_progress refine Keeps.upd ?_ rfl rfl rfl rfl rfl rfl))

theorem specPlSetCanvas_keeps (c) {s} (h : Keeps s0 s) : Keeps s0 (specPlSetCanvas.run c s) := by
  unfold specPlSetCanvas; dsimp -zeta only
  repeat' (first | with_reducible assumption | with_reducible apply submitPlain_keeps)

theorem execPlSetCanvas_keeps (a1) {s} (h : Keeps s0 s) : Goes s0 (execPlSetCanvas a1 s) := runCmd_keeps specPlSetCanvas a1 (fun c _ h => specPlSetCanvas_keeps c h) h

theorem specPlSetTile_keeps (c) {s} (h : Keeps s0 s) : Keeps s0 (specPlSetTile.run c s) := by
  unfold specPlSetTile; dsimp -zeta only
  repeat' (first | with_reducible assumption | with_reducible apply submitPlain_keeps)

theorem execPlSetTile_keeps (a1) {s} (h : Keeps s0 s) : Goes s0 (execPlSetTile a1 s) := runCmd_keeps specPlSetTile a1 (fun c _ h => specPlSetTile_keeps c h) h

theorem specPlSetPowerGroup_keeps (c) {s} (h : Keeps s0 s) : Keeps s0 (specPlSetPowerGroup.run c s) := by
  unfold specPlSetPowerGroup; dsimp -zeta only
  repeat' (first | with_reducible assumption | with_reducible apply submitPlain_keeps)

theorem execPlSetPowerGroup_keeps (a1) {s} (h : Keeps s0 s) : Goes s0 (execPlSetPowerGroup a1 s) := runCmd_keeps specPlSetPowerGroup a1 (fun c _ h => specPlSetPowerGroup_keeps c h) h

theorem specPlRefresh_keeps (c) {s} (h : Keeps s0 s) : Keeps s0 (specPlRefresh.run c s) := by
  unfold specPlRefresh; dsimp -zeta only
  repeat' (first | with_reducible assumption | with_reducible apply submitPlain_keeps)

theorem execPlRefresh_keeps (a1) {s} (h : Keeps s0 s) : Goes s0 (execPlRefresh a1 s) := runCmd_keeps specPlRefresh a1 (fun c _ h => specPlRefresh_keeps c h) h

theorem specPlPpApply_keeps (c) {s} (h : Keeps s0 s) : Keeps s0 (specPlPpApply.run c s) := by
  unfold specPlPpApply; dsimp -zeta only
  repeat' (first | with_reducible assumption | with_reducible apply submitId_keeps)

theorem execPlPpApply_keeps (a1) {s} (h : Keeps s0 s) : Goes s0 (execPlPpApply a1 s) := runCmd_keeps specPlPpApply a1 (fun c _ h => specPlPpApply_keeps c h) h

theorem specPlSetSlotmap_keeps (c) {s} (h : Keeps s0 s) : Keeps s0 (specPlSetSlotmap.run c s) := by
  unfold specPlSetSlotmap; dsimp -zeta only
  repeat' (first | with_reducible assumption | with_reducible apply submitId_keeps)

theorem execPlSetSlotmap_keeps (a1) {s} (h : Keeps s0 s) : Goes s0 (execPlSetSlotmap a1 s) := runCmd_keeps specPlSetSlotmap a1 (fun c _ h => specPlSetSlotmap_keeps c h) h

theorem specPlSigSet_keeps (c) {s} (h : Keeps s0 s) : Keeps s0 (specPlSigSet.run c s) := by
  unfold specPlSigSet; dsimp -zeta only
  repeat' (first | with_reducible assumption | with_reducible apply submitId_keeps)

theorem execPlSigSet_keeps (a1) {s} (h : Keeps s0 s) : Goes s0 (execPlSigSet a1 s) := runCmd_keeps specPlSigSet a1 (fun c _ h => specPlSigSet_keeps c h) h

theorem specPlSigExpect_keeps (c) {s} (h : Keeps s0 s) : Keeps s0 (specPlSigExpect.run c s) := by
  unfold specPlSigExpect; dsimp -zeta only
  repeat' (first | with_reducible assumption | with_reducible apply submitId_keeps)

theorem execPlSigExpect_keeps (a1) {s} (h : Keeps s0 s) : Goes s0 (execPlSigExpect a1 s) := runCmd_keeps specPlSigExpect a1 (fun c _ h => specPlSigExpect_keeps c h) h

theorem specPlSetCoef_keeps (c) {s} (h : Keeps s0 s) : Keeps s0 (specPlSetCoef.run c s) := by
  unfold specPlSetCoef; dsimp -zeta only
  repeat' (first | with_reducible assumption | ((try lift_lets -underBinder); intro _) | with_reducible apply okFwd_keeps | (fail_if_no_progress refine Keeps.upd ?_ rfl rfl rfl rfl rfl rfl))

theorem execPlSetCoef_keeps (a1) {s} (h : Keeps s0 s) : Goes s0 (execPlSetCoef a1 s) := runCmd_keeps specPlSetCoef a1 (fun c _ h => specPlSetCoef_keeps c h) h

theorem specPlSetTone_keeps (c) {s} (h : Keeps s0 s) : Keeps s0 (specPlSetTone.run c s) := by
  unfold specPlSetTone; dsimp -zeta only
  repeat' (first | with_reducible assumption | ((try lift_lets -underBinder); intro _) | with_reducible apply okFwd_keeps | (fail_if_no_progress refine Keeps.upd ?_ rfl rfl rfl rfl rfl rfl))

theorem execPlSetTone_keeps (a1) {s} (h : Keeps s0 s) : Goes s0 (execPlSetTone a1 s) := runCmd_keeps specPlSetTone a1 (fun c _ h => specPlSetTone_keeps c h) h

theorem specPlSetPixset_keeps (c) {s} (h : Keeps s0 s) : Keeps s0 (specPlSetPixset.run c s) := by
  unfold specPlSetPixset; dsimp -zeta only
  repeat' (first | with_reducible assumption | ((try lift_lets -underBinder); intro _) | with_reducible apply okFwd_keeps | (fail_if_no_progress refine Keeps.upd ?_ rfl rfl rfl rfl rfl rfl))

theorem execPlSetPixset_keeps (a1) {s} (h : Keeps s0 s) : Goes s0 (execPlSetPixset a1 s) := runCmd_keeps specPlSetPixset a1 (fun c _ h => specPlSetPixset_keeps c h) h

theorem specPlGetPixset_keeps (c) {s} (h : Keeps s0 s) : Keeps s0 (specPlGetPixset.run c s) := by
  unfold specPlGetPixset; dsimp -zeta only
  repeat' (first | with_reducible assumption | ((try lift_lets -underBinder); intro _) | with_reducible apply ok_keeps)

theorem execPlGetPixset_keeps (a1) {s} (h : Keeps s0 s) : Goes s0 (execPlGetPixset a1 s) := runCmd_keeps specPlGetPixset a1 (fun c _ h => specPlGetPixset_keeps c h) h

theorem specPlGetTile_keeps (c) {s} (h : Keeps s0 s) : Keeps s0 (specPlGetTile.run c s) := by
  unfold specPlGetTile; dsimp -zeta only
  repeat' (first | with_reducible assumption | ((try lift_lets -underBinder); intro _) | with_reducible apply ok_keeps)

theorem execPlGetTile_keeps (a1) {s} (h : Keeps s0 s) : Goes s0 (execPlGetTile a1 s) := runCmd_keeps specPlGetTile a1 (fun c _ h => specPlGetTile_keeps c h) h

theorem specPlGetLayer_keeps (c) {s} (h : Keeps s0 s) : Keeps s0 (specPlGetLayer.run c s) := by
  unfold specPlGetLayer; dsimp -zeta only
  repeat' (first | with_reducible assumption | ((try lift_lets -underBinder); intro _) | with_reducible apply ok_keeps)

theorem execPlGetLayer_keeps (a1) {s} (h : Keeps s0 s) : Goes s0 (execPlGetLayer a1 s) := runCmd_keeps specPlGetLayer a1 (fun c _ h => specPlGetLayer_keeps c h) h

theorem specPlLeaseGuard_keeps (c) {s} (h : Keeps s0 s) : Keeps s0 (specPlLeaseGuard.run c s) := by
  unfold specPlLeaseGuard; dsimp -zeta only
  repeat' (first | with_reducible assumption | ((try lift_lets -underBinder); intro _) | with_reducible apply ok_keeps | (fail_if_no_progress refine Keeps.upd ?_ rfl rfl rfl rfl rfl rfl))

theorem execPlLeaseGuard_keeps (a1) {s} (h : Keeps s0 s) : Goes s0 (execPlLeaseGuard a1 s) := runCmd_keeps specPlLeaseGuard a1 (fun c _ h => specPlLeaseGuard_keeps c h) h

theorem specPlGetPower_keeps (c) {s} (h : Keeps s0 s) : Keeps s0 (specPlGetPower.run c s) := by
  unfold specPlGetPower; dsimp -zeta only
  repeat' (first | with_reducible assumption | ((try lift_lets -underBinder); intro _) | with_reducible apply ok_keeps)

theorem execPlGetPower_keeps (a1) {s} (h : Keeps s0 s) : Goes s0 (execPlGetPower a1 s) := runCmd_keeps specPlGetPower a1 (fun c _ h => specPlGetPower_keeps c h) h

theorem specPlPaneRead_keeps (c) {s} (h : Keeps s0 s) : Keeps s0 (specPlPaneRead.run c s) := by
  unfold specPlPaneRead; dsimp -zeta only
  repeat' (first | with_reducible assumption | ((try lift_lets -underBinder); intro _) | with_reducible apply clRead_keeps | with_reducible apply ok_keeps)

theorem execPlPaneRead_keeps (a1) {s} (h : Keeps s0 s) : Goes s0 (execPlPaneRead a1 s) := runCmd_keeps specPlPaneRead a1 (fun c _ h => specPlPaneRead_keeps c h) h

theorem specPlSigRead_keeps (c) {s} (h : Keeps s0 s) : Keeps s0 (specPlSigRead.run c s) := by
  unfold specPlSigRead; dsimp -zeta only
  repeat' (first | with_reducible assumption | ((try lift_lets -underBinder); intro _) | with_reducible apply ok_keeps)

theorem execPlSigRead_keeps (a1) {s} (h : Keeps s0 s) : Goes s0 (execPlSigRead a1 s) := runCmd_keeps specPlSigRead a1 (fun c _ h => specPlSigRead_keeps c h) h

theorem sigMismatch_keeps (a1) (a2) (a3) (a4) {s} (h : Keeps s0 s) : Keeps s0 (sigMismatch a1 a2 a3 a4 s) := by
  unfold sigMismatch
  repeat' (first | with_reducible assumption | ((try lift_lets -underBinder); intro _) | with_reducible apply post_keeps | (fail_if_no_progress refine Keeps.upd ?_ rfl rfl rfl rfl rfl rfl))

theorem makeComposed_keeps (a1) (a2) {s} (h : Keeps s0 s) : Keeps s0 (makeComposed a1 a2 s) := by
  unfold makeComposed
  repeat' (first | with_reducible assumption | ((try lift_lets -underBinder); intro x; refine Keeps.cut (s := s0) (x := x) ?_ (fun _ => ?_); (on_goal 2 => (try clear_value x)); (on_goal 1 => unfold x)) | ((try lift_lets -underBinder); intro _) | with_reducible apply sigMismatch_keeps | with_reducible apply updRec_keeps | with_reducible apply putVer_keeps | with_reducible apply clWrite_keeps | (with_reducible refine Keeps.foldl _ (fun _ _ _ => ?_) _ ?_) | (with_reducible apply Keeps.ite) | (fail_if_no_progress refine Keeps.upd ?_ rfl rfl rfl rfl rfl rfl))

theorem composeReads_keeps (a1) (a2) (a3) (a4) {s} (h : Keeps s0 s) : Keeps s0 (composeReads a1 a2 a3 a4 s) := by
  unfold composeReads
  repeat' (first | with_reducible assumption | ((try lift_lets -underBinder); intro x; refine Keeps.cut (s := s0) (x := x) ?_ (fun _ => ?_); (on_goal 2 => (try clear_value x)); (on_goal 1 => unfold x)) | ((try lift_lets -underBinder); intro _) | with_reducible apply touch_keeps | with_reducible apply ueHit_keeps | with_reducible apply ceHit_keeps | with_reducible apply post_keeps | (with_reducible refine Keeps.foldl _ (fun _ _ _ => ?_) _ ?_) | (with_reducible apply Keeps.ite) | (fail_if_no_progress refine Keeps.upd ?_ rfl rfl rfl rfl rfl rfl))

theorem noteReads_keeps (a1) (a2) (a3) {s} (h : Keeps s0 s) : Keeps s0 (noteReads a1 a2 a3 s) :=
  Keeps.upd h rfl rfl rfl rfl rfl rfl

theorem compose_keeps (a1) (a2) (a3) (a4) (a5) (a6) {s} (h : Keeps s0 s) : Keeps s0 (compose a1 a2 a3 a4 a5 a6 s) := by
  unfold compose
  repeat' (first | with_reducible assumption | (intro t (_ : Keeps s0 t)) | ((try lift_lets -underBinder); intro x; refine Keeps.cut (s := s0) (x := x) ?_ (fun _ => ?_); (on_goal 2 => (try clear_value x)); (on_goal 1 => unfold x)) | ((try lift_lets -underBinder); intro _) | with_reducible apply whenServed_keeps | with_reducible apply noteReads_keeps | with_reducible apply composeReads_keeps | with_reducible apply clWrite_keeps | with_reducible apply makeComposed_keeps | with_reducible apply putVer_keeps | (with_reducible apply Keeps.ite))

theorem powerPass_keeps (a1) (a2) (a3) (a4) (a5) {s} (h : Keeps s0 s) : Keeps s0 (powerPass a1 a2 a3 a4 a5 s) := by
  unfold powerPass
  repeat' (first | with_reducible assumption | (intro t (_ : Keeps s0 t)) | ((try lift_lets -underBinder); intro _) | with_reducible apply whenServed_keeps | with_reducible apply putVer_keeps | with_reducible apply composeReads_keeps | split)

theorem composeClosed_keeps (a1) (a2) (a3) {s} (h : Keeps s0 s) : Keeps s0 (composeClosed a1 a2 a3 s) := by
  unfold composeClosed
  repeat' (first | with_reducible assumption | with_reducible apply countStale_keeps | with_reducible apply powerPass_keeps | with_reducible apply compose_keeps | (with_reducible apply Keeps.ite) | split)

theorem composeDone_keeps (a1) (a2) (a3) {s} (h : Keeps s0 s) : Keeps s0 (composeDone a1 a2 a3 s) := by
  unfold composeDone
  repeat' (first | with_reducible assumption | ((try lift_lets -underBinder); intro _) | with_reducible apply compose_keeps | with_reducible apply composeClosed_keeps | (with_reducible apply Keeps.ite) | split)

theorem execPaneComposeDone_keeps (a1) (a2) (a3) {s} (h : Keeps s0 s) : Goes s0 (execPaneComposeDone a1 a2 a3 s) := by
  unfold execPaneComposeDone
  first | refine onPart_keeps _ _ (fun h => ?_) h | refine Goes.next ?_
  try dsimp -zeta only
  repeat' (first | with_reducible assumption | with_reducible apply composeDone_keeps)

theorem execLeaseRetire_keeps (a1) (a2) {s} (h : Keeps s0 s) : Goes s0 (execLeaseRetire a1 a2 s) := by
  unfold execLeaseRetire
  first | refine onPart_keeps _ _ (fun h => ?_) h | refine Goes.next ?_
  try dsimp -zeta only
  repeat' (first | with_reducible assumption | with_reducible apply endLeases_keeps)

theorem specPlRetire_keeps (c) {s} (h : Keeps s0 s) : Keeps s0 (specPlRetire.run c s) := by
  unfold specPlRetire; dsimp -zeta only
  repeat' (first | with_reducible assumption)

theorem sendRetire_keeps (a1) {s} (h : Keeps s0 s) : Keeps s0 (sendRetire a1 s) := by
  unfold sendRetire
  repeat' (first | with_reducible assumption | ((try lift_lets -underBinder); intro x; refine Keeps.cut (s := s0) (x := x) ?_ (fun _ => ?_); (on_goal 2 => (try clear_value x)); (on_goal 1 => unfold x)) | ((try lift_lets -underBinder); intro _) | with_reducible apply ringWrite_keeps | with_reducible apply deliver_keeps | (with_reducible apply Keeps.ite) | split | (fail_if_no_progress refine Keeps.upd ?_ rfl rfl rfl rfl rfl rfl))

theorem execPlRetire_keeps (src) {s} (h : Keeps s0 s) : Goes s0 (execPlRetire src s) := by
  unfold execPlRetire
  split
  · exact onPart_keeps _ _ (fun h => sendRetire_keeps _ h) h
  · exact runCmd_keeps _ _ (fun c _ h => specPlRetire_keeps c h) h

theorem closeFrame_keeps (a1) {s} (h : Keeps s0 s) : Keeps s0 (closeFrame a1 s) := by
  unfold closeFrame
  repeat' (first | with_reducible assumption | ((try lift_lets -underBinder); intro x; refine Keeps.cut (s := s0) (x := x) ?_ (fun _ => ?_); (on_goal 2 => (try clear_value x)); (on_goal 1 => unfold x)) | ((try lift_lets -underBinder); intro _) | with_reducible apply postApplied_keeps | with_reducible apply makeComposed_keeps | (with_reducible refine Keeps.foldl _ (fun _ _ _ => ?_) _ ?_) | split | (fail_if_no_progress refine Keeps.upd ?_ rfl rfl rfl rfl rfl rfl))

theorem openSpec_keeps (a1) {s} (h : Keeps s0 s) : Keeps s0 (openSpec a1 s) :=
  Keeps.upd h rfl rfl rfl rfl rfl rfl

theorem governorPoint_keeps (a1) {s} (h : Keeps s0 s) : Keeps s0 (governorPoint a1 s) := by
  unfold governorPoint
  repeat' (first | with_reducible assumption | ((try lift_lets -underBinder); intro x; refine Keeps.cut (s := s0) (x := x) ?_ (fun _ => ?_); (on_goal 2 => (try clear_value x)); (on_goal 1 => unfold x)) | ((try lift_lets -underBinder); intro _) | with_reducible apply post_keeps | with_reducible apply mapVers_keeps | with_reducible apply updRec_keeps | (with_reducible refine Keeps.foldl _ (fun _ _ _ => ?_) _ ?_) | (with_reducible apply Keeps.ite) | split | (fail_if_no_progress refine Keeps.upd ?_ rfl rfl rfl rfl rfl rfl))

theorem powerLate_keeps (a1) {s} (h : Keeps s0 s) : Keeps s0 (powerLate a1 s) := by
  unfold powerLate
  repeat' (first | with_reducible assumption | ((try lift_lets -underBinder); intro _) | with_reducible apply post_keeps | with_reducible apply countStale_keeps | (with_reducible apply Keeps.ite) | split)

theorem plCtlWrite_keeps (a1) {s} (h : Keeps s0 s) : Keeps s0 (plCtlWrite a1 s) :=
  Keeps.upd h rfl rfl rfl rfl rfl rfl

theorem plStatusWrite_keeps (a1) {s} (h : Keeps s0 s) : Keeps s0 (plStatusWrite a1 s) :=
  Keeps.upd h rfl rfl rfl rfl rfl rfl

end Sys2Proof.Laws
end

