-- ==== Sys2Proof/Laws/KeepsNv.lean ====
section
/-!
SUPPORT. The operations and commands of Machine/Nv.lean keep what `Keeps` names.
-/
set_option linter.unusedTactic false
set_option linter.unreachableTactic false
set_option linter.unusedVariables false
namespace Sys2Proof.Laws

open Sys2Proof.Machine

variable {s0 : State}

theorem setNv_keeps (a1) (a2) {s} (h : Keeps s0 s) : Keeps s0 (setNv a1 a2 s) := by
  unfold setNv
  repeat' (first | with_reducible assumption | ((try lift_lets -underBinder); intro _) | split | (fail_if_no_progress refine Keeps.upd ?_ rfl rfl rfl rfl rfl rfl))

theorem nvStart_keeps (a1) {s} (h : Keeps s0 s) : Keeps s0 (nvStart a1 s) := by
  unfold nvStart
  repeat' (first | with_reducible assumption | ((try lift_lets -underBinder); intro _) | with_reducible apply setNv_keeps | (with_reducible apply Keeps.ite))

theorem nvPush_keeps (a1) (a2) {s} (h : Keeps s0 s) : Keeps s0 (nvPush a1 a2 s) := by
  unfold nvPush
  repeat' (first | with_reducible assumption | ((try lift_lets -underBinder); intro _) | with_reducible apply nvStart_keeps | with_reducible apply setNv_keeps)

theorem storeWrite_keeps (a1) (a2) (a3) (a4) (a5) {s} (h : Keeps s0 s) : Keeps s0 (storeWrite a1 a2 a3 a4 a5 s) := by
  unfold storeWrite
  repeat' (first | with_reducible assumption | ((try lift_lets -underBinder); intro x; refine Keeps.cut (s := s0) (x := x) ?_ (fun _ => ?_); (on_goal 2 => (try clear_value x)); (on_goal 1 => unfold x)) | ((try lift_lets -underBinder); intro _) | with_reducible apply post_keeps | with_reducible apply failed_keeps | with_reducible apply nvPush_keeps | (with_reducible apply Keeps.ite) | split)

theorem writeBoot_keeps (a1) {s} (h : Keeps s0 s) : Keeps s0 (writeBoot a1 s) :=
  Keeps.upd h rfl rfl rfl rfl rfl rfl

theorem nvApply_keeps (a1) (a2) {s} (h : Keeps s0 s) : Keeps s0 (nvApply a1 a2 s) := by
  unfold nvApply
  repeat' (first | with_reducible assumption | ((try lift_lets -underBinder); intro _) | with_reducible apply setNv_keeps | with_reducible apply writeBoot_keeps | split | (fail_if_no_progress refine Keeps.upd ?_ rfl rfl rfl rfl rfl rfl))

theorem nvPop_keeps (a1) {s} (h : Keeps s0 s) : Keeps s0 (nvPop a1 s) := by
  unfold nvPop
  repeat' (first | with_reducible assumption | ((try lift_lets -underBinder); intro _) | with_reducible apply setNv_keeps)

theorem nvAnswer_keeps (a1) (a2) {s} (h : Keeps s0 s) : Keeps s0 (nvAnswer a1 a2 s) := by
  unfold nvAnswer
  repeat' (first | with_reducible assumption | with_reducible apply ok_keeps | (with_reducible apply Keeps.ite) | split)

theorem nvFail_keeps (a1) (a2) {s} (h : Keeps s0 s) : Keeps s0 (nvFail a1 a2 s) := by
  unfold nvFail
  repeat' (first | with_reducible assumption | ((try lift_lets -underBinder); intro _) | with_reducible apply failed_keeps | with_reducible apply setNv_keeps | split)

theorem nvEnd_keeps (a1) (a2) {s} (h : Keeps s0 s) : Keeps s0 (nvEnd a1 a2 s) := by
  unfold nvEnd
  repeat' (first | with_reducible assumption | ((try lift_lets -underBinder); intro x; refine Keeps.cut (s := s0) (x := x) ?_ (fun _ => ?_); (on_goal 2 => (try clear_value x)); (on_goal 1 => unfold x)) | ((try lift_lets -underBinder); intro _) | with_reducible apply nvPop_keeps | with_reducible apply nvApply_keeps | with_reducible apply setNv_keeps | with_reducible apply nvStart_keeps | with_reducible apply nvAnswer_keeps | with_reducible apply nvFail_keeps | (with_reducible apply Keeps.ite) | split | (fail_if_no_progress refine Keeps.upd ?_ rfl rfl rfl rfl rfl rfl))

theorem nvStop_keeps (a1) {s} (h : Keeps s0 s) : Keeps s0 (nvStop a1 s) := by
  unfold nvStop
  repeat' (first | with_reducible assumption | ((try lift_lets -underBinder); intro x; refine Keeps.cut (s := s0) (x := x) ?_ (fun _ => ?_); (on_goal 2 => (try clear_value x)); (on_goal 1 => unfold x)) | ((try lift_lets -underBinder); intro _) | with_reducible apply setNv_keeps | with_reducible apply nvApply_keeps | split | (fail_if_no_progress refine Keeps.upd ?_ rfl rfl rfl rfl rfl rfl))

theorem nvCut_keeps (a1) {s} (h : Keeps s0 s) : Keeps s0 (nvCut a1 s) := by
  unfold nvCut
  repeat' (first | with_reducible assumption | ((try lift_lets -underBinder); intro _) | with_reducible apply setNv_keeps | with_reducible apply nvStop_keeps | split)

theorem recoverStore_keeps (a1) {s} (h : Keeps s0 s) : Keeps s0 (recoverStore a1 s) := by
  unfold recoverStore
  repeat' (first | with_reducible assumption | ((try lift_lets -underBinder); intro x; refine Keeps.cut (s := s0) (x := x) ?_ (fun _ => ?_); (on_goal 2 => (try clear_value x)); (on_goal 1 => unfold x)) | ((try lift_lets -underBinder); intro _) | with_reducible apply setNv_keeps | with_reducible apply post_keeps | (with_reducible apply Keeps.ite) | split | (fail_if_no_progress refine Keeps.upd ?_ rfl rfl rfl rfl rfl rfl))

theorem nvDrain_keeps (p) : ∀ (n : Nat) {s : State}, Keeps s0 s → Keeps s0 (nvDrain p n s)
  | 0, _, h => h
  | n + 1, _, h => Keeps.ite (nvDrain_keeps p n (nvEnd_keeps p true h)) h

theorem nvProgramDone_keeps (a1) (a2) {s} (h : Keeps s0 s) : Keeps s0 (nvProgramDone a1 a2 s) := by
  unfold nvProgramDone
  repeat' (first | with_reducible assumption | with_reducible apply nvEnd_keeps | (with_reducible apply Keeps.ite) | split)

theorem nvEraseDone_keeps (a1) {s} (h : Keeps s0 s) : Keeps s0 (nvEraseDone a1 s) := by
  unfold nvEraseDone
  repeat' (first | with_reducible assumption | with_reducible apply nvEnd_keeps | (with_reducible apply Keeps.ite) | split)

theorem execInputLowWriteTimeout_keeps {s} (h : Keeps s0 s) : Goes s0 (execInputLowWriteTimeout s) := by
  unfold execInputLowWriteTimeout
  first | refine onPart_keeps _ _ (fun h => ?_) h | refine Goes.next ?_
  try dsimp -zeta only
  repeat' (first | with_reducible assumption | ((try lift_lets -underBinder); intro _) | with_reducible apply nvStart_keeps | with_reducible apply nvFail_keeps | with_reducible apply setNv_keeps | (with_reducible apply Keeps.ite) | split)

end Sys2Proof.Laws
end

