-- ==== Sys2Proof/Laws/KeepsSettings.lean ====
section
/-!
SUPPORT. The operations and commands of Machine/Settings.lean keep what `Keeps` names.
-/
set_option linter.unusedTactic false
set_option linter.unreachableTactic false
set_option linter.unusedVariables false
namespace Sys2Proof.Laws

open Sys2Proof.Machine

variable {s0 : State}

theorem writeSettings_keeps (a1) (a2) (a3) {s} (h : Keeps s0 s) : Keeps s0 (writeSettings a1 a2 a3 s) := by
  unfold writeSettings
  repeat' (first | with_reducible assumption | ((try lift_lets -underBinder); intro _) | with_reducible apply ok_keeps | with_reducible apply storeWrite_keeps | with_reducible apply setNv_keeps | (with_reducible apply Keeps.ite) | split)

theorem startSettings_keeps (a1) {s} (h : Keeps s0 s) : Keeps s0 (startSettings a1 s) := by
  unfold startSettings
  repeat' (first | with_reducible assumption | ((try lift_lets -underBinder); intro x; refine Keeps.cut (s := s0) (x := x) ?_ (fun _ => ?_); (on_goal 2 => (try clear_value x)); (on_goal 1 => unfold x)) | ((try lift_lets -underBinder); intro _) | with_reducible apply post_keeps | with_reducible apply writeSettings_keeps | (with_reducible refine Keeps.foldl _ (fun _ _ _ => ?_) _ ?_) | (with_reducible apply Keeps.ite) | split | (fail_if_no_progress refine Keeps.upd ?_ rfl rfl rfl rfl rfl rfl))

theorem readStored_keeps {s} (h : Keeps s0 s) : Keeps s0 (readStored s) := by
  unfold readStored
  extract_lets e
  clear_value e
  exact Keeps.upd h rfl rfl rfl rfl rfl rfl

end Sys2Proof.Laws
end

