-- ==== Sys2Proof/Laws/KeepsBundle.lean ====
section
/-!
SUPPORT. The operations and commands of Machine/Bundle.lean keep what `Keeps` names.
-/
set_option linter.unusedTactic false
set_option linter.unreachableTactic false
set_option linter.unusedVariables false
namespace Sys2Proof.Laws

open Sys2Proof.Machine

variable {s0 : State}

theorem slotBad_keeps (a1) (a2) {s} (h : Keeps s0 s) : Keeps s0 (slotBad a1 a2 s) := by
  unfold slotBad
  repeat' (first | with_reducible assumption | with_reducible apply post_keeps | with_reducible apply writeBoot_keeps)

theorem runSlot_keeps (a1) {s} (h : Keeps s0 s) : Keeps s0 (runSlot a1 s) := by
  unfold runSlot
  repeat' (first | with_reducible assumption | ((try lift_lets -underBinder); intro x; refine Keeps.cut (s := s0) (x := x) ?_ (fun _ => ?_); (on_goal 2 => (try clear_value x)); (on_goal 1 => unfold x)) | ((try lift_lets -underBinder); intro _) | with_reducible apply writeBoot_keeps | with_reducible apply post_keeps | (with_reducible apply Keeps.ite) | (fail_if_no_progress refine Keeps.upd ?_ rfl rfl rfl rfl rfl rfl))

theorem romRecovery_keeps {s} (h : Keeps s0 s) : Keeps s0 (romRecovery s) :=
  Keeps.upd h rfl rfl rfl rfl rfl rfl

theorem fallBack_keeps (a1) {s} (h : Keeps s0 s) : Keeps s0 (fallBack a1 s) := by
  unfold fallBack
  repeat' (first | with_reducible assumption | ((try lift_lets -underBinder); intro x; refine Keeps.cut (s := s0) (x := x) ?_ (fun _ => ?_); (on_goal 2 => (try clear_value x)); (on_goal 1 => unfold x)) | ((try lift_lets -underBinder); intro _) | with_reducible apply post_keeps | with_reducible apply writeBoot_keeps | (fail_if_no_progress refine Keeps.upd ?_ rfl rfl rfl rfl rfl rfl))

theorem bootSlot_keeps {s} (h : Keeps s0 s) : Keeps s0 (bootSlot s) := by
  unfold bootSlot
  repeat' (first | with_reducible assumption | ((try lift_lets -underBinder); intro x; refine Keeps.cut (s := s0) (x := x) ?_ (fun _ => ?_); (on_goal 2 => (try clear_value x)); (on_goal 1 => unfold x)) | ((try lift_lets -underBinder); intro _) | with_reducible apply fallBack_keeps | with_reducible apply runSlot_keeps | with_reducible apply slotBad_keeps | with_reducible apply romRecovery_keeps | (with_reducible apply Keeps.ite) | split | (fail_if_no_progress refine Keeps.upd ?_ rfl rfl rfl rfl rfl rfl))

end Sys2Proof.Laws
end

