-- ==== Sys2Proof/Laws/KeepsLoadOps.lean ====
section
/-!
SUPPORT. The operations and commands of Machine/LoadOps.lean keep what `Keeps` names.
-/
set_option linter.unusedTactic false
set_option linter.unreachableTactic false
set_option linter.unusedVariables false
namespace Sys2Proof.Laws

open Sys2Proof.Machine

variable {s0 : State}

theorem sendBulk_keeps (a1) (a2) {s} (h : Keeps s0 s) : Keeps s0 (sendBulk a1 a2 s) := by
  unfold sendBulk
  repeat' (first | with_reducible assumption | ((try lift_lets -underBinder); intro x; refine Keeps.cut (s := s0) (x := x) ?_ (fun _ => ?_); (on_goal 2 => (try clear_value x)); (on_goal 1 => unfold x)) | ((try lift_lets -underBinder); intro _) | with_reducible apply hand_keeps | (with_reducible refine Keeps.foldl _ (fun _ _ _ => ?_) _ ?_) | (with_reducible apply Keeps.ite))

theorem reloadStep_keeps (a1) (a2) (a3) {s} (h : Keeps s0 s) : Keeps s0 (reloadStep a1 a2 a3 s) := by
  unfold reloadStep
  repeat' (first | with_reducible assumption | ((try lift_lets -underBinder); intro _) | with_reducible apply failed_keeps | with_reducible apply ok_keeps | (with_reducible refine Keeps.foldl _ (fun _ _ _ => ?_) _ ?_) | split | (fail_if_no_progress refine Keeps.upd ?_ rfl rfl rfl rfl rfl rfl))

theorem sendSections_keeps (a1) (a2) (a3) {s} (h : Keeps s0 s) : Keeps s0 (sendSections a1 a2 a3 s) := by
  unfold sendSections
  repeat' (first | with_reducible assumption | ((try lift_lets -underBinder); intro _) | with_reducible apply sendBulk_keeps | (with_reducible refine Keeps.foldl _ (fun _ _ _ => ?_) _ ?_))

theorem bootTiles_keeps (a1) {s} (h : Keeps s0 s) : Keeps s0 (bootTiles a1 s) := by
  unfold bootTiles
  repeat' (first | with_reducible assumption | with_reducible apply sendToTile_keeps | with_reducible apply updTileEnt_keeps | (with_reducible refine Keeps.foldl _ (fun _ _ _ => ?_) _ ?_))

theorem imageStep_keeps (a1) {s} (h : Keeps s0 s) : Keeps s0 (imageStep a1 s) := by
  unfold imageStep
  repeat' (first | with_reducible assumption | ((try lift_lets -underBinder); intro _) | with_reducible apply bootTiles_keeps | with_reducible apply sendSections_keeps | (with_reducible refine Keeps.foldl _ (fun _ _ _ => ?_) _ ?_) | (with_reducible apply Keeps.ite))

theorem tileRuns_keeps (a1) (a2) {s} (h : Keeps s0 s) : Keeps s0 (tileRuns a1 a2 s) := by
  unfold tileRuns
  repeat' (first | with_reducible assumption | ((try lift_lets -underBinder); intro x; refine Keeps.cut (s := s0) (x := x) ?_ (fun _ => ?_); (on_goal 2 => (try clear_value x)); (on_goal 1 => unfold x)) | ((try lift_lets -underBinder); intro _) | with_reducible apply updTileEnt_keeps | with_reducible apply imageStep_keeps | with_reducible apply reloadStep_keeps | with_reducible apply configLoaded_keeps | split | (fail_if_no_progress refine Keeps.upd ?_ rfl rfl rfl rfl rfl rfl))

theorem beginLoad_keeps (a1) {s} (h : Keeps s0 s) : Keeps s0 (beginLoad a1 s) := by
  unfold beginLoad
  repeat' (first | with_reducible assumption | with_reducible apply sendToTile_keeps | with_reducible apply updTileEnt_keeps)

theorem endLoad_keeps (a1) (a2) (a3) {s} (h : Keeps s0 s) : Keeps s0 (endLoad a1 a2 a3 s) := by
  unfold endLoad
  repeat' (first | with_reducible assumption | with_reducible apply imageStep_keeps | with_reducible apply reloadStep_keeps | with_reducible apply updTileEnt_keeps)

theorem loadReply_keeps (a1) {s} (h : Keeps s0 s) : Keeps s0 (loadReply a1 s) := by
  unfold loadReply
  repeat' (first | with_reducible assumption | with_reducible apply endLoad_keeps | with_reducible apply imageStep_keeps | with_reducible apply updTileEnt_keeps | with_reducible apply tileRuns_keeps | (with_reducible apply Keeps.ite) | split)

end Sys2Proof.Laws
end

