-- ==== Sys2Proof/Laws/KeepsGraed.lean ====
section
/-!
SUPPORT. The operations and commands of Machine/Graed.lean keep what `Keeps` names.
-/
set_option linter.unusedTactic false
set_option linter.unreachableTactic false
set_option linter.unusedVariables false
namespace Sys2Proof.Laws

open Sys2Proof.Machine

variable {s0 : State}

theorem loseTrans_keeps (a1) (a2) {s} (h : Keeps s0 s) : Keeps s0 (loseTrans a1 a2 s) := by
  unfold loseTrans
  repeat' (first | with_reducible assumption | ((try lift_lets -underBinder); intro _) | split | (fail_if_no_progress refine Keeps.upd ?_ rfl rfl rfl rfl rfl rfl))

theorem reachTiles_keeps {s} (h : Keeps s0 s) : Keeps s0 (reachTiles s) := by
  unfold reachTiles
  repeat' (first | with_reducible assumption | ((try lift_lets -underBinder); intro x; refine Keeps.cut (s := s0) (x := x) ?_ (fun _ => ?_); (on_goal 2 => (try clear_value x)); (on_goal 1 => unfold x)) | ((try lift_lets -underBinder); intro _) | with_reducible apply tileGone_keeps | with_reducible apply endLoad_keeps | with_reducible apply sendTileConfig_keeps | (with_reducible refine Keeps.foldl _ (fun _ _ _ => ?_) _ ?_) | (with_reducible apply Keeps.ite) | (fail_if_no_progress refine Keeps.upd ?_ rfl rfl rfl rfl rfl rfl))

theorem loseReach_keeps (a1) (a2) {s} (h : Keeps s0 s) : Keeps s0 (loseReach a1 a2 s) := by
  unfold loseReach
  repeat' (first | with_reducible assumption | with_reducible apply reachTiles_keeps | with_reducible apply twinDown_keeps | (with_reducible apply Keeps.ite) | split)

theorem setGlWait_keeps (a1) (a2) {s} (h : Keeps s0 s) : Keeps s0 (setGlWait a1 a2 s) := by
  unfold setGlWait
  repeat' (first | with_reducible assumption | ((try lift_lets -underBinder); intro _) | split | (fail_if_no_progress refine Keeps.upd ?_ rfl rfl rfl rfl rfl rfl))

theorem endRetrainCmds_keeps (a1) (a2) (a3) {s} (h : Keeps s0 s) : Keeps s0 (endRetrainCmds a1 a2 a3 s) := by
  unfold endRetrainCmds
  repeat' (first | with_reducible assumption | ((try lift_lets -underBinder); intro _) | with_reducible apply ok_keeps | with_reducible apply failed_keeps | with_reducible apply setGlWait_keeps | (with_reducible refine Keeps.foldl _ (fun _ _ _ => ?_) _ ?_) | (with_reducible apply Keeps.ite))

theorem expireRetrains_keeps (a1) {s} (h : Keeps s0 s) : Keeps s0 (expireRetrains a1 s) := by
  unfold expireRetrains
  repeat' (first | with_reducible assumption | ((try lift_lets -underBinder); intro _) | with_reducible apply failed_keeps | with_reducible apply setGlWait_keeps | (with_reducible refine Keeps.foldl _ (fun _ _ _ => ?_) _ ?_))

theorem sendLinkState_keeps (a1) {s} (h : Keeps s0 s) : Keeps s0 (sendLinkState a1 s) := by
  unfold sendLinkState
  repeat' (first | with_reducible assumption | ((try lift_lets -underBinder); intro _) | with_reducible apply hand_keeps)

theorem noteLanes_keeps {s} (h : Keeps s0 s) : Keeps s0 (noteLanes s) :=
  Keeps.upd h rfl rfl rfl rfl rfl rfl

theorem laneChanged_keeps (a1) (a2) {s} (h : Keeps s0 s) : Keeps s0 (laneChanged a1 a2 s) := by
  unfold laneChanged
  repeat' (first | with_reducible assumption | with_reducible apply sendLinkState_keeps | with_reducible apply noteLanes_keeps | (with_reducible apply Keeps.ite))

theorem linkDown_keeps (a1) (a2) (a3) {s} (h : Keeps s0 s) : Keeps s0 (linkDown a1 a2 a3 s) := by
  unfold linkDown
  repeat' (first | with_reducible assumption | ((try lift_lets -underBinder); intro x; refine Keeps.cut (s := s0) (x := x) ?_ (fun _ => ?_); (on_goal 2 => (try clear_value x)); (on_goal 1 => unfold x)) | ((try lift_lets -underBinder); intro _) | with_reducible apply updPort_keeps | with_reducible apply loseReach_keeps | with_reducible apply loseTrans_keeps | with_reducible apply laneChanged_keeps | with_reducible apply post_keeps | with_reducible apply endRetrainCmds_keeps | (with_reducible apply Keeps.ite))

theorem toRetrain_keeps (a1) (a2) (a3) {s} (h : Keeps s0 s) : Keeps s0 (toRetrain a1 a2 a3 s) := by
  unfold toRetrain
  repeat' (first | with_reducible assumption | ((try lift_lets -underBinder); intro x; refine Keeps.cut (s := s0) (x := x) ?_ (fun _ => ?_); (on_goal 2 => (try clear_value x)); (on_goal 1 => unfold x)) | with_reducible apply updPort_keeps | with_reducible apply post_keeps | with_reducible apply emit_keeps)

theorem toActive_keeps (a1) (a2) {s} (h : Keeps s0 s) : Keeps s0 (toActive a1 a2 s) := by
  unfold toActive
  repeat' (first | with_reducible assumption | ((try lift_lets -underBinder); intro x; refine Keeps.cut (s := s0) (x := x) ?_ (fun _ => ?_); (on_goal 2 => (try clear_value x)); (on_goal 1 => unfold x)) | ((try lift_lets -underBinder); intro _) | with_reducible apply updPort_keeps | with_reducible apply emit_keeps | with_reducible apply laneChanged_keeps | with_reducible apply loseReach_keeps | with_reducible apply post_keeps | with_reducible apply endRetrainCmds_keeps | (with_reducible refine Keeps.foldl _ (fun _ _ _ => ?_) _ ?_) | (with_reducible apply Keeps.ite))

theorem enumerate_keeps (a1) {s} (h : Keeps s0 s) : Keeps s0 (enumerate a1 s) := by
  unfold enumerate
  repeat' (first | with_reducible assumption | ((try lift_lets -underBinder); intro x; refine Keeps.cut (s := s0) (x := x) ?_ (fun _ => ?_); (on_goal 2 => (try clear_value x)); (on_goal 1 => unfold x)) | ((try lift_lets -underBinder); intro _) | with_reducible apply updTileEnt_keeps | with_reducible apply post_keeps | (with_reducible apply Keeps.ite) | split | (fail_if_no_progress refine Keeps.upd ?_ rfl rfl rfl rfl rfl rfl))

theorem closeRing_keeps (a1) (a2) {s} (h : Keeps s0 s) : Keeps s0 (closeRing a1 a2 s) :=
  Keeps.upd h rfl rfl rfl rfl rfl rfl

theorem ringFromB_keeps (a1) {s} (h : Keeps s0 s) : Keeps s0 (ringFromB a1 s) :=
  Keeps.upd h rfl rfl rfl rfl rfl rfl

theorem meetTile_keeps (a1) (a2) {s} (h : Keeps s0 s) : Keeps s0 (meetTile a1 a2 s) := by
  unfold meetTile
  repeat' (first | with_reducible assumption | ((try lift_lets -underBinder); intro x; refine Keeps.cut (s := s0) (x := x) ?_ (fun _ => ?_); (on_goal 2 => (try clear_value x)); (on_goal 1 => unfold x)) | ((try lift_lets -underBinder); intro _) | with_reducible apply updTileEnt_keeps | with_reducible apply enumerate_keeps | with_reducible apply ringFromB_keeps | with_reducible apply closeRing_keeps | (with_reducible apply Keeps.ite) | split)

theorem joinLoop_keeps (a1) (a2) {s} (h : Keeps s0 s) : Keeps s0 (joinLoop a1 a2 s) :=
  Keeps.upd h rfl rfl rfl rfl rfl rfl

theorem learnNext_keeps (a1) (a2) (a3) {s} (h : Keeps s0 s) : Keeps s0 (learnNext a1 a2 a3 s) := by
  unfold learnNext
  repeat' (first | with_reducible assumption | ((try lift_lets -underBinder); intro x; refine Keeps.cut (s := s0) (x := x) ?_ (fun _ => ?_); (on_goal 2 => (try clear_value x)); (on_goal 1 => unfold x)) | ((try lift_lets -underBinder); intro _) | with_reducible apply updTileEnt_keeps | with_reducible apply closeRing_keeps | with_reducible apply joinLoop_keeps | with_reducible apply enumerate_keeps | (with_reducible apply Keeps.ite) | split | (fail_if_no_progress refine Keeps.upd ?_ rfl rfl rfl rfl rfl rfl))

theorem twinUp_keeps {s} (h : Keeps s0 s) : Keeps s0 (twinUp s) := by
  unfold twinUp
  repeat' (first | with_reducible assumption | ((try lift_lets -underBinder); intro x; refine Keeps.cut (s := s0) (x := x) ?_ (fun _ => ?_); (on_goal 2 => (try clear_value x)); (on_goal 1 => unfold x)) | with_reducible apply evalClaim_keeps | with_reducible apply updTw_keeps | with_reducible apply requestSnapshot_keeps | (with_reducible apply Keeps.ite))

theorem sendCaps_keeps (a1) (a2) {s} (h : Keeps s0 s) : Keeps s0 (sendCaps a1 a2 s) := by
  unfold sendCaps
  repeat' (first | with_reducible assumption | ((try lift_lets -underBinder); intro _) | with_reducible apply emit_keeps)

theorem capsReceived_keeps (a1) (a2) (a3) {s} (h : Keeps s0 s) : Keeps s0 (capsReceived a1 a2 a3 s) := by
  unfold capsReceived
  repeat' (first | with_reducible assumption | ((try lift_lets -underBinder); intro x; refine Keeps.cut (s := s0) (x := x) ?_ (fun _ => ?_); (on_goal 2 => (try clear_value x)); (on_goal 1 => unfold x)) | ((try lift_lets -underBinder); intro _) | with_reducible apply updPort_keeps | with_reducible apply sendCaps_keeps | with_reducible apply linkDown_keeps | with_reducible apply endRetrainCmds_keeps | with_reducible apply post_keeps | with_reducible apply toActive_keeps | with_reducible apply twinUp_keeps | with_reducible apply meetTile_keeps | (with_reducible apply Keeps.ite) | split | (fail_if_no_progress refine Keeps.upd ?_ rfl rfl rfl rfl rfl rfl))

theorem capsReceived_updTimePort'_keeps (a1) (a2) (a3) {s} (h : Keeps s0 s) : Keeps s0 (capsReceived.updTimePort' a1 a2 a3 s) := by
  unfold capsReceived.updTimePort'
  repeat' (first | with_reducible assumption | ((try lift_lets -underBinder); intro _) | with_reducible apply setMt_keeps)

theorem trainFailed_keeps (a1) (a2) {s} (h : Keeps s0 s) : Keeps s0 (trainFailed a1 a2 s) := by
  unfold trainFailed
  repeat' (first | with_reducible assumption | ((try lift_lets -underBinder); intro _) | with_reducible apply post_keeps | with_reducible apply updPort_keeps | with_reducible apply endRetrainCmds_keeps | (with_reducible apply Keeps.ite))

theorem trainingFrame_keeps (a1) (a2) (a3) {s} (h : Keeps s0 s) : Keeps s0 (trainingFrame a1 a2 a3 s) := by
  unfold trainingFrame
  repeat' (first | with_reducible assumption | ((try lift_lets -underBinder); intro x; refine Keeps.cut (s := s0) (x := x) ?_ (fun _ => ?_); (on_goal 2 => (try clear_value x)); (on_goal 1 => unfold x)) | ((try lift_lets -underBinder); intro _) | with_reducible apply updPort_keeps | with_reducible apply trainFailed_keeps | (with_reducible apply Keeps.ite) | split)

theorem trainTimeout_keeps (a1) (a2) {s} (h : Keeps s0 s) : Keeps s0 (trainTimeout a1 a2 s) := by
  unfold trainTimeout
  repeat' (first | with_reducible assumption | ((try lift_lets -underBinder); intro _) | with_reducible apply updPort_keeps | with_reducible apply trainFailed_keeps | (with_reducible apply Keeps.ite))

theorem sendLaneSet_keeps (a1) (a2) (a3) {s} (h : Keeps s0 s) : Keeps s0 (sendLaneSet a1 a2 a3 s) := by
  unfold sendLaneSet
  repeat' (first | with_reducible assumption | with_reducible apply emit_keeps)

theorem laneFail_keeps (a1) (a2) (a3) (a4) {s} (h : Keeps s0 s) : Keeps s0 (laneFail a1 a2 a3 a4 s) := by
  unfold laneFail
  repeat' (first | with_reducible assumption | ((try lift_lets -underBinder); intro x; refine Keeps.cut (s := s0) (x := x) ?_ (fun _ => ?_); (on_goal 2 => (try clear_value x)); (on_goal 1 => unfold x)) | ((try lift_lets -underBinder); intro _) | with_reducible apply toRetrain_keeps | with_reducible apply updPort_keeps | with_reducible apply post_keeps | with_reducible apply laneChanged_keeps | with_reducible apply sendLaneSet_keeps | with_reducible apply nakNow_keeps | (with_reducible apply Keeps.ite))

theorem laneSetReceived_keeps (a1) (a2) (a3) {s} (h : Keeps s0 s) : Keeps s0 (laneSetReceived a1 a2 a3 s) := by
  unfold laneSetReceived
  repeat' (first | with_reducible assumption | ((try lift_lets -underBinder); intro x; refine Keeps.cut (s := s0) (x := x) ?_ (fun _ => ?_); (on_goal 2 => (try clear_value x)); (on_goal 1 => unfold x)) | ((try lift_lets -underBinder); intro _) | with_reducible apply updPort_keeps | with_reducible apply post_keeps | with_reducible apply laneChanged_keeps | with_reducible apply sendLaneSet_keeps | (with_reducible refine Keeps.foldl _ (fun _ _ _ => ?_) _ ?_) | (with_reducible apply Keeps.ite))

theorem laneRetrain_keeps (a1) (a2) (a3) (a4) {s} (h : Keeps s0 s) : Keeps s0 (laneRetrain a1 a2 a3 a4 s) := by
  unfold laneRetrain
  repeat' (first | with_reducible assumption | ((try lift_lets -underBinder); intro x; refine Keeps.cut (s := s0) (x := x) ?_ (fun _ => ?_); (on_goal 2 => (try clear_value x)); (on_goal 1 => unfold x)) | ((try lift_lets -underBinder); intro _) | with_reducible apply updPort_keeps | with_reducible apply post_keeps | with_reducible apply laneChanged_keeps | with_reducible apply sendLaneSet_keeps | (with_reducible apply Keeps.ite) | split)

theorem ackUpTo_keeps (a1) (a2) (a3) {s} (h : Keeps s0 s) : Keeps s0 (ackUpTo a1 a2 a3 s) := by
  unfold ackUpTo
  repeat' (first | with_reducible assumption | ((try lift_lets -underBinder); intro _) | with_reducible apply drainPort_keeps | with_reducible apply updPort_keeps | (with_reducible apply Keeps.ite))

theorem replayAll_keeps (a1) (a2) (a3) {s} (h : Keeps s0 s) : Keeps s0 (replayAll a1 a2 a3 s) := by
  unfold replayAll
  repeat' (first | with_reducible assumption | ((try lift_lets -underBinder); intro x; refine Keeps.cut (s := s0) (x := x) ?_ (fun _ => ?_); (on_goal 2 => (try clear_value x)); (on_goal 1 => unfold x)) | ((try lift_lets -underBinder); intro _) | with_reducible apply toRetrain_keeps | with_reducible apply updPort_keeps | with_reducible apply emit_keeps | (with_reducible refine Keeps.foldl _ (fun _ _ _ => ?_) _ ?_) | (with_reducible apply Keeps.ite))

theorem packetForward_keeps (a1) (a2) {s} (h : Keeps s0 s) : Keeps s0 (packetForward a1 a2 s) := by
  unfold packetForward
  repeat' (first | with_reducible assumption | ((try lift_lets -underBinder); intro x; refine Keeps.cut (s := s0) (x := x) ?_ (fun _ => ?_); (on_goal 2 => (try clear_value x)); (on_goal 1 => unfold x)) | ((try lift_lets -underBinder); intro _) | with_reducible apply linkAccept_keeps | with_reducible apply freeRx_keeps | with_reducible apply updPort_keeps | with_reducible apply hand_keeps | (with_reducible apply Keeps.ite))

theorem execGlPortEnable_keeps (a1) (a2) {s} (h : Keeps s0 s) : Goes s0 (execGlPortEnable a1 a2 s) := by
  unfold execGlPortEnable
  first | refine onPart_keeps _ _ (fun h => ?_) h | refine Goes.next ?_
  try dsimp -zeta only
  repeat' (first | with_reducible assumption | with_reducible apply updPort_keeps | (with_reducible apply Keeps.ite))

theorem portDisable_keeps (a1) (a2) {s} (h : Keeps s0 s) : Keeps s0 (portDisable a1 a2 s) := by
  unfold portDisable
  repeat' (first | with_reducible assumption | ((try lift_lets -underBinder); intro x; refine Keeps.cut (s := s0) (x := x) ?_ (fun _ => ?_); (on_goal 2 => (try clear_value x)); (on_goal 1 => unfold x)) | ((try lift_lets -underBinder); intro _) | with_reducible apply updPort_keeps | with_reducible apply laneChanged_keeps | with_reducible apply loseReach_keeps | with_reducible apply loseTrans_keeps | with_reducible apply endRetrainCmds_keeps | with_reducible apply post_keeps | (with_reducible apply Keeps.ite))

theorem execGlPortDisable_keeps (a1) (a2) {s} (h : Keeps s0 s) : Goes s0 (execGlPortDisable a1 a2 s) := by
  unfold execGlPortDisable
  first | refine onPart_keeps _ _ (fun h => ?_) h | refine Goes.next ?_
  try dsimp -zeta only
  repeat' (first | with_reducible assumption | with_reducible apply portDisable_keeps | (with_reducible apply Keeps.ite))

theorem execTrainingFrameReceived_keeps (a1) (a2) (a3) {s} (h : Keeps s0 s) : Goes s0 (execTrainingFrameReceived a1 a2 a3 s) := by
  unfold execTrainingFrameReceived
  first | refine onPart_keeps _ _ (fun h => ?_) h | refine Goes.next ?_
  try dsimp -zeta only
  repeat' (first | with_reducible assumption | with_reducible apply trainingFrame_keeps)

theorem execTrainTimeout_keeps (a1) (a2) {s} (h : Keeps s0 s) : Goes s0 (execTrainTimeout a1 a2 s) := by
  unfold execTrainTimeout
  first | refine onPart_keeps _ _ (fun h => ?_) h | refine Goes.next ?_
  try dsimp -zeta only
  repeat' (first | with_reducible assumption | with_reducible apply trainTimeout_keeps | with_reducible apply expireRetrains_keeps)

theorem execBlockLock_keeps (a1) (a2) {s} (h : Keeps s0 s) : Goes s0 (execBlockLock a1 a2 s) := by
  unfold execBlockLock
  first | refine onPart_keeps _ _ (fun h => ?_) h | refine Goes.next ?_
  try dsimp -zeta only
  repeat' (first | with_reducible assumption | ((try lift_lets -underBinder); intro _) | with_reducible apply sendCaps_keeps | with_reducible apply updPort_keeps | (with_reducible apply Keeps.ite))

theorem execLockTimeout_keeps (a1) (a2) {s} (h : Keeps s0 s) : Goes s0 (execLockTimeout a1 a2 s) := by
  unfold execLockTimeout
  first | refine onPart_keeps _ _ (fun h => ?_) h | refine Goes.next ?_
  try dsimp -zeta only
  repeat' (first | with_reducible assumption | with_reducible apply updPort_keeps | (with_reducible apply Keeps.ite))

theorem execCapsReceived_keeps (a1) (a2) (a3) {s} (h : Keeps s0 s) : Goes s0 (execCapsReceived a1 a2 a3 s) := by
  unfold execCapsReceived
  first | refine onPart_keeps _ _ (fun h => ?_) h | refine Goes.next ?_
  try dsimp -zeta only
  repeat' (first | with_reducible assumption | with_reducible apply capsReceived_keeps)

theorem execCapsTimeout_keeps (a1) (a2) {s} (h : Keeps s0 s) : Goes s0 (execCapsTimeout a1 a2 s) := by
  unfold execCapsTimeout
  first | refine onPart_keeps _ _ (fun h => ?_) h | refine Goes.next ?_
  try dsimp -zeta only
  repeat' (first | with_reducible assumption | with_reducible apply updPort_keeps | (with_reducible apply Keeps.ite))

theorem execRetrainReqReceived_keeps (a1) (a2) (a3) {s} (h : Keeps s0 s) : Goes s0 (execRetrainReqReceived a1 a2 a3 s) := by
  unfold execRetrainReqReceived
  first | refine onPart_keeps _ _ (fun h => ?_) h | refine Goes.next ?_
  try dsimp -zeta only
  repeat' (first | with_reducible assumption | with_reducible apply toRetrain_keeps | (with_reducible apply Keeps.ite))

theorem execRetrainTimeout_keeps (a1) (a2) {s} (h : Keeps s0 s) : Goes s0 (execRetrainTimeout a1 a2 s) := by
  unfold execRetrainTimeout
  first | refine onPart_keeps _ _ (fun h => ?_) h | refine Goes.next ?_
  try dsimp -zeta only
  repeat' (first | with_reducible assumption | with_reducible apply linkDown_keeps | (with_reducible apply Keeps.ite))

theorem execHoldExpiry_keeps (a1) (a2) {s} (h : Keeps s0 s) : Goes s0 (execHoldExpiry a1 a2 s) := by
  unfold execHoldExpiry
  first | refine onPart_keeps _ _ (fun h => ?_) h | refine Goes.next ?_
  try dsimp -zeta only
  repeat' (first | with_reducible assumption | ((try lift_lets -underBinder); intro _) | with_reducible apply updPort_keeps | (with_reducible apply Keeps.ite))

theorem execLaneFail_keeps (a1) (a2) (a3) (a4) {s} (h : Keeps s0 s) : Goes s0 (execLaneFail a1 a2 a3 a4 s) := by
  unfold execLaneFail
  first | refine onPart_keeps _ _ (fun h => ?_) h | refine Goes.next ?_
  try dsimp -zeta only
  repeat' (first | with_reducible assumption | with_reducible apply laneFail_keeps)

theorem execLaneSetReceived_keeps (a1) (a2) (a3) (a4) {s} (h : Keeps s0 s) : Goes s0 (execLaneSetReceived a1 a2 a3 a4 s) := by
  unfold execLaneSetReceived
  first | refine onPart_keeps _ _ (fun h => ?_) h | refine Goes.next ?_
  try dsimp -zeta only
  repeat' (first | with_reducible assumption | with_reducible apply laneSetReceived_keeps | (with_reducible apply Keeps.ite))

theorem execLaneRetrainTimer_keeps (a1) (a2) (a3) (a4) {s} (h : Keeps s0 s) : Goes s0 (execLaneRetrainTimer a1 a2 a3 a4 s) := by
  unfold execLaneRetrainTimer
  first | refine onPart_keeps _ _ (fun h => ?_) h | refine Goes.next ?_
  try dsimp -zeta only
  repeat' (first | with_reducible assumption | with_reducible apply laneRetrain_keeps)

theorem execAckReceived_keeps (a1) (a2) (a3) {s} (h : Keeps s0 s) : Goes s0 (execAckReceived a1 a2 a3 s) := by
  unfold execAckReceived
  first | refine onPart_keeps _ _ (fun h => ?_) h | refine Goes.next ?_
  try dsimp -zeta only
  repeat' (first | with_reducible assumption | with_reducible apply ackUpTo_keeps | (with_reducible apply Keeps.ite))

theorem execNakReceived_keeps (a1) (a2) (a3) {s} (h : Keeps s0 s) : Goes s0 (execNakReceived a1 a2 a3 s) := by
  unfold execNakReceived
  first | refine onPart_keeps _ _ (fun h => ?_) h | refine Goes.next ?_
  try dsimp -zeta only
  repeat' (first | with_reducible assumption | with_reducible apply replayAll_keeps | with_reducible apply ackUpTo_keeps | (with_reducible apply Keeps.ite))

theorem execReplayTimeout_keeps (a1) (a2) {s} (h : Keeps s0 s) : Goes s0 (execReplayTimeout a1 a2 s) := by
  unfold execReplayTimeout
  first | refine onPart_keeps _ _ (fun h => ?_) h | refine Goes.next ?_
  try dsimp -zeta only
  repeat' (first | with_reducible assumption | ((try lift_lets -underBinder); intro _) | with_reducible apply replayAll_keeps | (with_reducible apply Keeps.ite))

theorem execCreditReceived_keeps (a1) (a2) (a3) (a4) (a5) (a6) {s} (h : Keeps s0 s) : Goes s0 (execCreditReceived a1 a2 a3 a4 a5 a6 s) := by
  unfold execCreditReceived
  first | refine onPart_keeps _ _ (fun h => ?_) h | refine Goes.next ?_
  try dsimp -zeta only
  repeat' (first | with_reducible assumption | with_reducible apply drainPort_keeps | with_reducible apply updPort_keeps | (with_reducible apply Keeps.ite))

theorem execCreditInitReceived_keeps (a1) (a2) (a3) (a4) (a5) (a6) {s} (h : Keeps s0 s) : Goes s0 (execCreditInitReceived a1 a2 a3 a4 a5 a6 s) := by
  unfold execCreditInitReceived
  first | refine onPart_keeps _ _ (fun h => ?_) h | refine Goes.next ?_
  try dsimp -zeta only
  repeat' (first | with_reducible assumption | ((try lift_lets -underBinder); intro _) | with_reducible apply drainPort_keeps | with_reducible apply updPort_keeps | (with_reducible apply Keeps.ite))

theorem execCreditSend_keeps (a1) (a2) (a3) {s} (h : Keeps s0 s) : Goes s0 (execCreditSend a1 a2 a3 s) := by
  unfold execCreditSend
  first | refine onPart_keeps _ _ (fun h => ?_) h | refine Goes.next ?_
  try dsimp -zeta only
  repeat' (first | with_reducible assumption | ((try lift_lets -underBinder); intro _) | with_reducible apply emit_keeps | (with_reducible apply Keeps.ite))

theorem sendLine_keeps (a1) (a2) (a3) (a4) (a5) {s} (h : Keeps s0 s) : Keeps s0 (sendLine a1 a2 a3 a4 a5 s) := by
  unfold sendLine
  repeat' (first | with_reducible assumption | ((try lift_lets -underBinder); intro _) | with_reducible apply draw_keeps | with_reducible apply emit_keeps | with_reducible apply updPort_keeps)

theorem execAlignSend_keeps (a1) (a2) {s} (h : Keeps s0 s) : Goes s0 (execAlignSend a1 a2 s) := by
  unfold execAlignSend
  first | refine onPart_keeps _ _ (fun h => ?_) h | refine Goes.next ?_
  try dsimp -zeta only
  repeat' (first | with_reducible assumption | ((try lift_lets -underBinder); intro _) | with_reducible apply sendLine_keeps | with_reducible apply emit_keeps | with_reducible apply updPort_keeps | (with_reducible refine Keeps.foldl _ (fun _ _ _ => ?_) _ ?_) | (with_reducible apply Keeps.ite))

theorem execSkipSend_keeps (a1) (a2) {s} (h : Keeps s0 s) : Goes s0 (execSkipSend a1 a2 s) := by
  unfold execSkipSend
  first | refine onPart_keeps _ _ (fun h => ?_) h | refine Goes.next ?_
  try dsimp -zeta only
  repeat' (first | with_reducible assumption | ((try lift_lets -underBinder); intro _) | with_reducible apply sendLine_keeps | with_reducible apply emit_keeps | (with_reducible refine Keeps.foldl _ (fun _ _ _ => ?_) _ ?_) | (with_reducible apply Keeps.ite))

theorem execAlignReceived_keeps (a1) (a2) (a3) (a4) (a5) (a6) (a7) {s} (h : Keeps s0 s) : Goes s0 (execAlignReceived a1 a2 a3 a4 a5 a6 a7 s) := by
  unfold execAlignReceived
  first | refine onPart_keeps _ _ (fun h => ?_) h | refine Goes.next ?_
  try dsimp -zeta only
  repeat' (first | with_reducible assumption | ((try lift_lets -underBinder); intro _) | with_reducible apply updPort_keeps | (with_reducible apply Keeps.ite))

theorem execSkipReceived_keeps (a1) (a2) {s} (h : Keeps s0 s) : Goes s0 (execSkipReceived a1 a2 s) := by
  unfold execSkipReceived
  first | refine onPart_keeps _ _ (fun h => ?_) h | refine Goes.next ?_
  try dsimp -zeta only
  repeat' (first | with_reducible assumption | (with_reducible apply Keeps.ite))

theorem abortDown_keeps (a1) (a2) (a3) {s} (h : Keeps s0 s) : Keeps s0 (abortDown a1 a2 a3 s) := by
  unfold abortDown
  repeat' (first | with_reducible assumption | with_reducible apply emit_keeps | (with_reducible apply Keeps.ite))

theorem execAbortReceived_keeps (a1) (a2) {s} (h : Keeps s0 s) : Goes s0 (execAbortReceived a1 a2 s) := by
  unfold execAbortReceived
  first | refine onPart_keeps _ _ (fun h => ?_) h | refine Goes.next ?_
  try dsimp -zeta only
  repeat' (first | with_reducible assumption | with_reducible apply abortDown_keeps | with_reducible apply updPort_keeps | (with_reducible apply Keeps.ite))

theorem execPacketForward_keeps (a1) (a2) {s} (h : Keeps s0 s) : Goes s0 (execPacketForward a1 a2 s) := by
  unfold execPacketForward
  first | refine onPart_keeps _ _ (fun h => ?_) h | refine Goes.next ?_
  try dsimp -zeta only
  repeat' (first | with_reducible assumption | with_reducible apply packetForward_keeps | (with_reducible apply Keeps.ite))

theorem execBlockError_keeps (a1) (a2) (a3) {s} (h : Keeps s0 s) : Goes s0 (execBlockError a1 a2 a3 s) := by
  unfold execBlockError
  first | refine onPart_keeps _ _ (fun h => ?_) h | refine Goes.next ?_
  try dsimp -zeta only
  repeat' (first | with_reducible assumption | ((try lift_lets -underBinder); intro x; refine Keeps.cut (s := s0) (x := x) ?_ (fun _ => ?_); (on_goal 2 => (try clear_value x)); (on_goal 1 => unfold x)) | with_reducible apply updPort_keeps | with_reducible apply abortDown_keeps | with_reducible apply nakNow_keeps | (with_reducible apply Keeps.ite))

theorem execFomMeasurement_keeps (a1) (a2) (a3) (a4) {s} (h : Keeps s0 s) : Goes s0 (execFomMeasurement a1 a2 a3 a4 s) := by
  unfold execFomMeasurement
  first | refine onPart_keeps _ _ (fun h => ?_) h | refine Goes.next ?_
  try dsimp -zeta only
  repeat' (first | with_reducible assumption | ((try lift_lets -underBinder); intro x; refine Keeps.cut (s := s0) (x := x) ?_ (fun _ => ?_); (on_goal 2 => (try clear_value x)); (on_goal 1 => unfold x)) | ((try lift_lets -underBinder); intro _) | with_reducible apply updPort_keeps | with_reducible apply post_keeps | (with_reducible apply Keeps.ite))

theorem linkStateReceived_keeps (a1) {s} (h : Keeps s0 s) : Keeps s0 (linkStateReceived a1 s) := by
  unfold linkStateReceived
  repeat' (first | with_reducible assumption | ((try lift_lets -underBinder); intro x; refine Keeps.cut (s := s0) (x := x) ?_ (fun _ => ?_); (on_goal 2 => (try clear_value x)); (on_goal 1 => unfold x)) | ((try lift_lets -underBinder); intro _) | with_reducible apply learnNext_keeps | with_reducible apply noteLanes_keeps | with_reducible apply reachTiles_keeps | (with_reducible apply Keeps.ite) | split | (fail_if_no_progress refine Keeps.upd ?_ rfl rfl rfl rfl rfl rfl))

theorem execLinkStateReceived_keeps (a1) {s} (h : Keeps s0 s) : Goes s0 (execLinkStateReceived a1 s) := by
  unfold execLinkStateReceived
  first | refine onPart_keeps _ _ (fun h => ?_) h | refine Goes.next ?_
  try dsimp -zeta only
  repeat' (first | with_reducible assumption | (intro t (_ : Keeps s0 t)) | with_reducible apply overLink_keeps | with_reducible apply linkStateReceived_keeps)

theorem specGlGetPort_keeps (c) {s} (h : Keeps s0 s) : Keeps s0 (specGlGetPort.run c s) := by
  unfold specGlGetPort; dsimp -zeta only
  repeat' (first | with_reducible assumption | ((try lift_lets -underBinder); intro _) | with_reducible apply ok_keeps)

theorem execGlGetPort_keeps (a1) {s} (h : Keeps s0 s) : Goes s0 (execGlGetPort a1 s) := runCmd_keeps specGlGetPort a1 (fun c _ h => specGlGetPort_keeps c h) h

theorem setPortEn_keeps (a1) (a2) (a3) {s} (h : Keeps s0 s) : Keeps s0 (setPortEn a1 a2 a3 s) := by
  unfold setPortEn
  repeat' (first | with_reducible assumption | ((try lift_lets -underBinder); intro _) | with_reducible apply updPort_keeps | with_reducible apply portDisable_keeps | (with_reducible apply Keeps.ite))

theorem specGlSetPort_keeps (c) {s} (h : Keeps s0 s) : Keeps s0 (specGlSetPort.run c s) := by
  unfold specGlSetPort; dsimp -zeta only
  repeat' (first | with_reducible assumption | ((try lift_lets -underBinder); intro x; refine Keeps.cut (s := s0) (x := x) ?_ (fun _ => ?_); (on_goal 2 => (try clear_value x)); (on_goal 1 => unfold x)) | ((try lift_lets -underBinder); intro _) | with_reducible apply updPort_keeps | with_reducible apply ok_keeps | with_reducible apply setPortEn_keeps)

theorem execGlSetPort_keeps (a1) {s} (h : Keeps s0 s) : Goes s0 (execGlSetPort a1 s) := runCmd_keeps specGlSetPort a1 (fun c _ h => specGlSetPort_keeps c h) h

theorem waitRetrain_keeps (a1) (a2) (a3) {s} (h : Keeps s0 s) : Keeps s0 (waitRetrain a1 a2 a3 s) := by
  unfold waitRetrain
  repeat' (first | with_reducible assumption | ((try lift_lets -underBinder); intro _) | with_reducible apply setGlWait_keeps)

theorem fullBringUp_keeps (a1) (a2) {s} (h : Keeps s0 s) : Keeps s0 (fullBringUp a1 a2 s) := by
  unfold fullBringUp
  repeat' (first | with_reducible assumption | ((try lift_lets -underBinder); intro _) | with_reducible apply updPort_keeps | with_reducible apply linkDown_keeps | (with_reducible apply Keeps.ite))

theorem specGlRetrain_keeps (c) {s} (h : Keeps s0 s) : Keeps s0 (specGlRetrain.run c s) := by
  unfold specGlRetrain; dsimp -zeta only
  repeat' (first | with_reducible assumption | ((try lift_lets -underBinder); intro x; refine Keeps.cut (s := s0) (x := x) ?_ (fun _ => ?_); (on_goal 2 => (try clear_value x)); (on_goal 1 => unfold x)) | ((try lift_lets -underBinder); intro _) | with_reducible apply waitRetrain_keeps | with_reducible apply toRetrain_keeps | with_reducible apply fullBringUp_keeps | with_reducible apply failed_keeps | (with_reducible apply Keeps.ite))

theorem execGlRetrain_keeps (a1) {s} (h : Keeps s0 s) : Goes s0 (execGlRetrain a1 s) := runCmd_keeps specGlRetrain a1 (fun c _ h => specGlRetrain_keeps c h) h

theorem execGlPortCtlRetrain_keeps (a1) (a2) {s} (h : Keeps s0 s) : Goes s0 (execGlPortCtlRetrain a1 a2 s) := by
  unfold execGlPortCtlRetrain
  first | refine onPart_keeps _ _ (fun h => ?_) h | refine Goes.next ?_
  try dsimp -zeta only
  repeat' (first | with_reducible assumption | with_reducible apply toRetrain_keeps | (with_reducible apply Keeps.ite))

theorem stopTests_keeps (a1) (a2) (a3) {s} (h : Keeps s0 s) : Keeps s0 (stopTests a1 a2 a3 s) := by
  unfold stopTests
  repeat' (first | with_reducible assumption | ((try lift_lets -underBinder); intro _) | with_reducible apply draw_keeps | with_reducible apply ok_keeps | with_reducible apply setGlWait_keeps | (with_reducible refine Keeps.foldl _ (fun _ _ _ => ?_) _ ?_))

theorem specGlTest_keeps (c) {s} (h : Keeps s0 s) : Keeps s0 (specGlTest.run c s) := by
  unfold specGlTest; dsimp -zeta only
  repeat' (first | with_reducible assumption | ((try lift_lets -underBinder); intro _) | with_reducible apply stopTests_keeps | with_reducible apply setGlWait_keeps | (with_reducible apply Keeps.ite))

theorem execGlTest_keeps (a1) {s} (h : Keeps s0 s) : Goes s0 (execGlTest a1 s) := runCmd_keeps specGlTest a1 (fun c _ h => specGlTest_keeps c h) h

theorem execGlTestDone_keeps (a1) (a2) (a3) (a4) {s} (h : Keeps s0 s) : Goes s0 (execGlTestDone a1 a2 a3 a4 s) := by
  unfold execGlTestDone
  first | refine onPart_keeps _ _ (fun h => ?_) h | refine Goes.next ?_
  try dsimp -zeta only
  repeat' (first | with_reducible assumption | ((try lift_lets -underBinder); intro _) | with_reducible apply ok_keeps | with_reducible apply setGlWait_keeps | split)

theorem specGlClearCounters_keeps (c) {s} (h : Keeps s0 s) : Keeps s0 (specGlClearCounters.run c s) := by
  unfold specGlClearCounters; dsimp -zeta only
  repeat' (first | with_reducible assumption | ((try lift_lets -underBinder); intro x; refine Keeps.cut (s := s0) (x := x) ?_ (fun _ => ?_); (on_goal 2 => (try clear_value x)); (on_goal 1 => unfold x)) | ((try lift_lets -underBinder); intro _) | with_reducible apply updPort_keeps | with_reducible apply ok_keeps | (with_reducible apply Keeps.ite) | split | (fail_if_no_progress refine Keeps.upd ?_ rfl rfl rfl rfl rfl rfl))

theorem execGlClearCounters_keeps (a1) {s} (h : Keeps s0 s) : Goes s0 (execGlClearCounters a1 s) := runCmd_keeps specGlClearCounters a1 (fun c _ h => specGlClearCounters_keeps c h) h

theorem glCtlWrite_keeps (a1) (a2) (a3) {s} (h : Keeps s0 s) : Keeps s0 (glCtlWrite a1 a2 a3 s) := by
  unfold glCtlWrite
  repeat' (first | with_reducible assumption | ((try lift_lets -underBinder); intro x; refine Keeps.cut (s := s0) (x := x) ?_ (fun _ => ?_); (on_goal 2 => (try clear_value x)); (on_goal 1 => unfold x)) | ((try lift_lets -underBinder); intro _) | with_reducible apply updPort_keeps | with_reducible apply setPortEn_keeps | with_reducible apply toRetrain_keeps | (with_reducible apply Keeps.ite))

end Sys2Proof.Laws
end

