-- ==== Sys2Proof/Laws/KeepsTileOps.lean ====
section
/-!
SUPPORT. The operations and commands of Machine/TileOps.lean keep what `Keeps` names.
-/
set_option linter.unusedTactic false
set_option linter.unreachableTactic false
set_option linter.unusedVariables false
namespace Sys2Proof.Laws

open Sys2Proof.Machine

variable {s0 : State}

theorem updLd_keeps (a1) {s} (h : Keeps s0 s) : Keeps s0 (updLd a1 s) :=
  Keeps.upd h rfl rfl rfl rfl rfl rfl

theorem updLr_keeps (a1) {s} (h : Keeps s0 s) : Keeps s0 (updLr a1 s) :=
  Keeps.upd h rfl rfl rfl rfl rfl rfl

theorem updLp_keeps (a1) {s} (h : Keeps s0 s) : Keeps s0 (updLp a1 s) :=
  Keeps.upd h rfl rfl rfl rfl rfl rfl

theorem tileSend_keeps (a1) (a2) (a3) (a4) (a5) {s} (h : Keeps s0 s) : Keeps s0 (tileSend a1 a2 a3 a4 a5 s) := by
  unfold tileSend
  repeat' (first | with_reducible assumption | with_reducible apply hand_keeps)

theorem postOnce_keeps (a1) (a2) (a3) (a4) (a5) {s} (h : Keeps s0 s) : Keeps s0 (postOnce a1 a2 a3 a4 a5 s) := by
  unfold postOnce
  repeat' (first | with_reducible assumption | with_reducible apply post_keeps | with_reducible apply updLd_keeps | (with_reducible apply Keeps.ite))

end Sys2Proof.Laws
end

