-- ==== Sys2Proof/Laws/KeepsLanding.lean ====
section
/-!
SUPPORT. The operations and commands of Machine/Landing.lean keep what `Keeps` names.
-/
set_option linter.unusedTactic false
set_option linter.unreachableTactic false
set_option linter.unusedVariables false
namespace Sys2Proof.Laws

open Sys2Proof.Machine

variable {s0 : State}

theorem fillLarder_keeps {s} (h : Keeps s0 s) : Keeps s0 (fillLarder s) := by
  unfold fillLarder
  repeat' (first | with_reducible assumption | ((try lift_lets -underBinder); intro _) | with_reducible apply updLr_keeps | with_reducible apply post_keeps | (with_reducible apply Keeps.ite))

theorem commitPane_keeps (a1) (a2) (a3) (a4) {s} (h : Keeps s0 s) : Keeps s0 (commitPane a1 a2 a3 a4 s) := by
  unfold commitPane
  repeat' (first | with_reducible assumption | with_reducible apply updLd_keeps)

theorem paneAck_keeps (a1) (a2) (a3) {s} (h : Keeps s0 s) : Keeps s0 (paneAck a1 a2 a3 s) := by
  unfold paneAck
  repeat' (first | with_reducible assumption | ((try lift_lets -underBinder); intro _) | with_reducible apply hand_keeps)

theorem noteDivergence_keeps {s} (h : Keeps s0 s) : Keeps s0 (noteDivergence s) := by
  unfold noteDivergence
  repeat' (first | with_reducible assumption | with_reducible apply updLd_keeps)

theorem storeCopy_keeps (a1) {s} (h : Keeps s0 s) : Keeps s0 (storeCopy a1 s) := by
  unfold storeCopy
  repeat' (first | with_reducible assumption | ((try lift_lets -underBinder); intro x; refine Keeps.cut (s := s0) (x := x) ?_ (fun _ => ?_); (on_goal 2 => (try clear_value x)); (on_goal 1 => unfold x)) | ((try lift_lets -underBinder); intro _) | with_reducible apply updLd_keeps | with_reducible apply commitPane_keeps)

theorem nativeRule_keeps (a1) {s} (h : Keeps s0 s) : Keeps s0 (nativeRule a1 s).2 := by
  unfold nativeRule
  repeat' (first | with_reducible assumption | with_reducible apply storeCopy_keeps | with_reducible apply noteDivergence_keeps | split)

theorem claimRule_keeps (a1) {s} (h : Keeps s0 s) : Keeps s0 (claimRule a1 s).2 := by
  unfold claimRule
  repeat' (first | with_reducible assumption | ((try lift_lets -underBinder); intro _) | with_reducible apply storeCopy_keeps | with_reducible apply updLd_keeps | split)

theorem noteSeen_keeps (a1) {s} (h : Keeps s0 s) : Keeps s0 (noteSeen a1 s) := by
  unfold noteSeen
  repeat' (first | with_reducible assumption | with_reducible apply updLd_keeps | (with_reducible apply Keeps.ite))

theorem noteBadRecords_keeps (a1) {s} (h : Keeps s0 s) : Keeps s0 (noteBadRecords a1 s) := by
  unfold noteBadRecords
  repeat' (first | with_reducible assumption | with_reducible apply updLr_keeps | (with_reducible refine Keeps.foldl _ (fun _ _ _ => ?_) _ ?_))

theorem flipLarder_keeps (a1) {s} (h : Keeps s0 s) : Keeps s0 (flipLarder a1 s) := by
  unfold flipLarder
  repeat' (first | with_reducible assumption | with_reducible apply updLr_keeps | (with_reducible refine Keeps.foldl _ (fun _ _ _ => ?_) _ ?_) | (with_reducible apply Keeps.ite))

theorem judgePane_keeps (a1) (a2) {s} (h : Keeps s0 s) : Keeps s0 (judgePane a1 a2 s).2 := by
  unfold judgePane
  repeat' (first | with_reducible assumption | ((try lift_lets -underBinder); intro x; refine Keeps.cut (s := s0) (x := x) ?_ (fun _ => ?_); (on_goal 2 => (try clear_value x)); (on_goal 1 => unfold x)) | ((try lift_lets -underBinder); intro _) | with_reducible apply flipLarder_keeps | with_reducible apply noteBadRecords_keeps | with_reducible apply noteSeen_keeps | with_reducible apply updLd_keeps | with_reducible apply commitPane_keeps | with_reducible apply claimRule_keeps | with_reducible apply nativeRule_keeps | (with_reducible apply Keeps.ite) | split)

theorem panePacketReceived_keeps (a1) (a2) {s} (h : Keeps s0 s) : Keeps s0 (panePacketReceived a1 a2 s) := by
  unfold panePacketReceived
  repeat' (first | with_reducible assumption | ((try lift_lets -underBinder); intro x; refine Keeps.cut (s := s0) (x := x) ?_ (fun _ => ?_); (on_goal 2 => (try clear_value x)); (on_goal 1 => unfold x)) | ((try lift_lets -underBinder); intro _) | with_reducible apply packetForward_keeps | with_reducible apply linkAccept_keeps | with_reducible apply freeRx_keeps | with_reducible apply updPort_keeps | with_reducible apply judgePane_keeps | with_reducible apply paneAck_keeps | (with_reducible apply Keeps.ite))

theorem execPanePacketReceived_keeps (a1) (a2) {s} (h : Keeps s0 s) : Goes s0 (execPanePacketReceived a1 a2 s) := by
  unfold execPanePacketReceived
  first | refine onPart_keeps _ _ (fun h => ?_) h | refine Goes.next ?_
  try dsimp -zeta only
  repeat' (first | with_reducible assumption | with_reducible apply panePacketReceived_keeps)

theorem tickMismatch_keeps (a1) (a2) (a3) {s} (h : Keeps s0 s) : Keeps s0 (tickMismatch a1 a2 a3 s) := by
  unfold tickMismatch
  repeat' (first | with_reducible assumption | with_reducible apply postOnce_keeps | with_reducible apply updLd_keeps)

theorem tickMessageReceived_keeps (a1) (a2) (a3) {s} (h : Keeps s0 s) : Keeps s0 (tickMessageReceived a1 a2 a3 s) := by
  unfold tickMessageReceived
  repeat' (first | with_reducible assumption | ((try lift_lets -underBinder); intro x; refine Keeps.cut (s := s0) (x := x) ?_ (fun _ => ?_); (on_goal 2 => (try clear_value x)); (on_goal 1 => unfold x)) | ((try lift_lets -underBinder); intro _) | with_reducible apply timeTaken_keeps | with_reducible apply timeSend_keeps | with_reducible apply updLd_keeps | with_reducible apply tickMismatch_keeps | (with_reducible apply Keeps.ite) | split | (fail_if_no_progress refine Keeps.upd ?_ rfl rfl rfl rfl rfl rfl))

theorem execTickMessageReceived_keeps (a1) (a2) (a3) {s} (h : Keeps s0 s) : Goes s0 (execTickMessageReceived a1 a2 a3 s) := by
  unfold execTickMessageReceived
  first | refine onPart_keeps _ _ (fun h => ?_) h | refine Goes.next ?_
  try dsimp -zeta only
  repeat' (first | with_reducible assumption | with_reducible apply tickMessageReceived_keeps)

theorem railLimit_keeps (a1) {s} (h : Keeps s0 s) : Keeps s0 (railLimit a1 s) := by
  unfold railLimit
  repeat' (first | with_reducible assumption | ((try lift_lets -underBinder); intro _) | with_reducible apply postOnce_keeps | with_reducible apply updLd_keeps)

theorem budgetStep_keeps (a1) {s} (h : Keeps s0 s) : Keeps s0 (budgetStep a1 s) := by
  unfold budgetStep
  repeat' (first | with_reducible assumption | ((try lift_lets -underBinder); intro x; refine Keeps.cut (s := s0) (x := x) ?_ (fun _ => ?_); (on_goal 2 => (try clear_value x)); (on_goal 1 => unfold x)) | ((try lift_lets -underBinder); intro _) | with_reducible apply draw_keeps | with_reducible apply updLd_keeps | with_reducible apply railLimit_keeps | (with_reducible apply Keeps.ite))

theorem driftStep_keeps {s} (h : Keeps s0 s) : Keeps s0 (driftStep s) := by
  unfold driftStep
  repeat' (first | with_reducible assumption | ((try lift_lets -underBinder); intro x; refine Keeps.cut (s := s0) (x := x) ?_ (fun _ => ?_); (on_goal 2 => (try clear_value x)); (on_goal 1 => unfold x)) | with_reducible apply noteBadRecords_keeps | with_reducible apply updLr_keeps | with_reducible apply updLd_keeps)

theorem landFlip_keeps (a1) {s} (h : Keeps s0 s) : Keeps s0 (landFlip a1 s) := by
  unfold landFlip
  repeat' (first | with_reducible assumption | ((try lift_lets -underBinder); intro x; refine Keeps.cut (s := s0) (x := x) ?_ (fun _ => ?_); (on_goal 2 => (try clear_value x)); (on_goal 1 => unfold x)) | ((try lift_lets -underBinder); intro _) | with_reducible apply postOnce_keeps | with_reducible apply updLd_keeps | with_reducible apply tickMismatch_keeps | with_reducible apply driftStep_keeps | with_reducible apply budgetStep_keeps | (with_reducible apply Keeps.ite))

theorem execFrameReportSend_keeps (a1) {s} (h : Keeps s0 s) : Goes s0 (execFrameReportSend a1 s) := by
  unfold execFrameReportSend
  first | refine onPart_keeps _ _ (fun h => ?_) h | refine Goes.next ?_
  try dsimp -zeta only
  repeat' (first | with_reducible assumption | with_reducible apply updLd_keeps | with_reducible apply tileSend_keeps | (with_reducible refine Keeps.foldl _ (fun _ _ _ => ?_) _ ?_) | (with_reducible apply Keeps.ite) | split)

theorem repairPane_keeps (a1) (a2) (a3) (a4) {s} (h : Keeps s0 s) : Keeps s0 (repairPane a1 a2 a3 a4 s) := by
  unfold repairPane
  repeat' (first | with_reducible assumption | ((try lift_lets -underBinder); intro _) | with_reducible apply updLd_keeps | with_reducible apply tileSend_keeps | with_reducible apply post_keeps | (with_reducible refine Keeps.foldl _ (fun _ _ _ => ?_) _ ?_) | (with_reducible apply Keeps.ite))

theorem parityFailure_keeps (a1) (a2) (a3) (a4) {s} (h : Keeps s0 s) : Keeps s0 (parityFailure a1 a2 a3 a4 s) := by
  unfold parityFailure
  repeat' (first | with_reducible assumption | ((try lift_lets -underBinder); intro x; refine Keeps.cut (s := s0) (x := x) ?_ (fun _ => ?_); (on_goal 2 => (try clear_value x)); (on_goal 1 => unfold x)) | with_reducible apply updLd_keeps | with_reducible apply postOnce_keeps | with_reducible apply repairPane_keeps)

theorem recomputeSum_keeps (a1) (a2) (a3) (a4) (a5) {s} (h : Keeps s0 s) : Keeps s0 (recomputeSum a1 a2 a3 a4 a5 s) := by
  unfold recomputeSum
  repeat' (first | with_reducible assumption | with_reducible apply updLd_keeps)

theorem readSlot_keeps (a1) (a2) (a3) {s} (h : Keeps s0 s) : Keeps s0 (readSlot a1 a2 a3 s) := by
  unfold readSlot
  repeat' (first | with_reducible assumption | ((try lift_lets -underBinder); intro x; refine Keeps.cut (s := s0) (x := x) ?_ (fun _ => ?_); (on_goal 2 => (try clear_value x)); (on_goal 1 => unfold x)) | ((try lift_lets -underBinder); intro _) | with_reducible apply updLd_keeps | with_reducible apply parityFailure_keeps | with_reducible apply recomputeSum_keeps | (with_reducible refine Keeps.foldl _ (fun _ _ _ => ?_) _ ?_))

theorem predictSlot_keeps (a1) (a2) {s} (h : Keeps s0 s) : Keeps s0 (predictSlot a1 a2 s) := by
  unfold predictSlot
  repeat' (first | with_reducible assumption | ((try lift_lets -underBinder); intro x; refine Keeps.cut (s := s0) (x := x) ?_ (fun _ => ?_); (on_goal 2 => (try clear_value x)); (on_goal 1 => unfold x)) | ((try lift_lets -underBinder); intro _) | with_reducible apply updLd_keeps | with_reducible apply railLimit_keeps | split)

theorem execLarderRefetch_keeps (a1) (a2) {s} (h : Keeps s0 s) : Goes s0 (execLarderRefetch a1 a2 s) := by
  unfold execLarderRefetch
  first | refine onPart_keeps _ _ (fun h => ?_) h | refine Goes.next ?_
  try dsimp -zeta only
  repeat' (first | with_reducible assumption | with_reducible apply post_keeps | with_reducible apply updLr_keeps | (with_reducible apply Keeps.ite) | split)

theorem execLarderScrub_keeps (a1) (a2) {s} (h : Keeps s0 s) : Goes s0 (execLarderScrub a1 a2 s) := by
  unfold execLarderScrub
  first | refine onPart_keeps _ _ (fun h => ?_) h | refine Goes.next ?_
  try dsimp -zeta only
  repeat' (first | with_reducible assumption | ((try lift_lets -underBinder); intro x; refine Keeps.cut (s := s0) (x := x) ?_ (fun _ => ?_); (on_goal 2 => (try clear_value x)); (on_goal 1 => unfold x)) | ((try lift_lets -underBinder); intro _) | with_reducible apply flipLarder_keeps | with_reducible apply updLr_keeps | with_reducible apply noteBadRecords_keeps)

theorem specLdGetStatus_keeps (c) {s} (h : Keeps s0 s) : Keeps s0 (specLdGetStatus.run c s) := by
  unfold specLdGetStatus; dsimp -zeta only
  repeat' (first | with_reducible assumption | ((try lift_lets -underBinder); intro _) | with_reducible apply ok_keeps)

theorem execLdGetStatus_keeps (a1) {s} (h : Keeps s0 s) : Goes s0 (execLdGetStatus a1 s) := runCmd_keeps specLdGetStatus a1 (fun c _ h => specLdGetStatus_keeps c h) h

theorem limitsNow_keeps {s} (h : Keeps s0 s) : Keeps s0 (limitsNow s) := by
  unfold limitsNow
  repeat' (first | with_reducible assumption | with_reducible apply updLr_keeps | with_reducible apply updLd_keeps | (with_reducible apply Keeps.ite))

theorem specLdSetLimits_keeps (c) {s} (h : Keeps s0 s) : Keeps s0 (specLdSetLimits.run c s) := by
  unfold specLdSetLimits; dsimp -zeta only
  repeat' (first | with_reducible assumption | ((try lift_lets -underBinder); intro _) | with_reducible apply ok_keeps | with_reducible apply limitsNow_keeps | with_reducible apply updLd_keeps)

theorem execLdSetLimits_keeps (a1) {s} (h : Keeps s0 s) : Goes s0 (execLdSetLimits a1 s) := runCmd_keeps specLdSetLimits a1 (fun c _ h => specLdSetLimits_keeps c h) h

theorem specLdRead_keeps (c) {s} (h : Keeps s0 s) : Keeps s0 (specLdRead.run c s) := by
  unfold specLdRead; dsimp -zeta only
  repeat' (first | with_reducible assumption | ((try lift_lets -underBinder); intro _) | with_reducible apply ok_keeps)

theorem execLdRead_keeps (a1) {s} (h : Keeps s0 s) : Goes s0 (execLdRead a1 s) := runCmd_keeps specLdRead a1 (fun c _ h => specLdRead_keeps c h) h

theorem specLrWrite_keeps (c) {s} (h : Keeps s0 s) : Keeps s0 (specLrWrite.run c s) := by
  unfold specLrWrite; dsimp -zeta only
  repeat' (first | with_reducible assumption | ((try lift_lets -underBinder); intro x; refine Keeps.cut (s := s0) (x := x) ?_ (fun _ => ?_); (on_goal 2 => (try clear_value x)); (on_goal 1 => unfold x)) | ((try lift_lets -underBinder); intro _) | with_reducible apply updLr_keeps | with_reducible apply ok_keeps | with_reducible apply storeWrite_keeps | (with_reducible refine Keeps.foldl _ (fun _ _ _ => ?_) _ ?_) | (with_reducible apply Keeps.ite))

theorem execLrWrite_keeps (a1) {s} (h : Keeps s0 s) : Goes s0 (execLrWrite a1 s) := runCmd_keeps specLrWrite a1 (fun c _ h => specLrWrite_keeps c h) h

theorem specLrRead_keeps (c) {s} (h : Keeps s0 s) : Keeps s0 (specLrRead.run c s) := by
  unfold specLrRead; dsimp -zeta only
  repeat' (first | with_reducible assumption | ((try lift_lets -underBinder); intro _) | with_reducible apply ok_keeps | with_reducible apply failed_keeps | (with_reducible apply Keeps.ite))

theorem execLrRead_keeps (a1) {s} (h : Keeps s0 s) : Goes s0 (execLrRead a1 s) := runCmd_keeps specLrRead a1 (fun c _ h => specLrRead_keeps c h) h

theorem specLrReload_keeps (c) {s} (h : Keeps s0 s) : Keeps s0 (specLrReload.run c s) := by
  unfold specLrReload; dsimp -zeta only
  repeat' (first | with_reducible assumption | with_reducible apply updLr_keeps | with_reducible apply updLd_keeps)

theorem endReload_keeps (a1) {s} (h : Keeps s0 s) : Keeps s0 (endReload a1 s) := by
  unfold endReload
  repeat' (first | with_reducible assumption | ((try lift_lets -underBinder); intro x; refine Keeps.cut (s := s0) (x := x) ?_ (fun _ => ?_); (on_goal 2 => (try clear_value x)); (on_goal 1 => unfold x)) | ((try lift_lets -underBinder); intro _) | with_reducible apply updLr_keeps | with_reducible apply fillLarder_keeps | with_reducible apply updLd_keeps | with_reducible apply ok_keeps | with_reducible apply failed_keeps | (with_reducible apply Keeps.ite))

theorem execLrReload_keeps (c) {s} (h : Keeps s0 s) : Goes s0 (execLrReload c s) := by
  unfold execLrReload
  split
  · exact Goes.next (endReload_keeps c h)
  · exact runCmd_keeps _ c (fun c _ h => specLrReload_keeps c h) h

theorem specLrSetDrift_keeps (c) {s} (h : Keeps s0 s) : Keeps s0 (specLrSetDrift.run c s) := by
  unfold specLrSetDrift; dsimp -zeta only
  repeat' (first | with_reducible assumption | ((try lift_lets -underBinder); intro _) | with_reducible apply ok_keeps | with_reducible apply limitsNow_keeps | with_reducible apply updLr_keeps | with_reducible apply updLd_keeps)

theorem execLrSetDrift_keeps (a1) {s} (h : Keeps s0 s) : Goes s0 (execLrSetDrift a1 s) := runCmd_keeps specLrSetDrift a1 (fun c _ h => specLrSetDrift_keeps c h) h

end Sys2Proof.Laws
end

