-- ==== Sys2Proof/Laws/KeepsChimney.lean ====
section
/-!
SUPPORT. The operations and commands of Machine/Chimney.lean keep what `Keeps` names.
-/
set_option linter.unusedTactic false
set_option linter.unreachableTactic false
set_option linter.unusedVariables false
namespace Sys2Proof.Laws

open Sys2Proof.Machine

variable {s0 : State}

theorem updCh_keeps (a1) (a2) {s} (h : Keeps s0 s) : Keeps s0 (updCh a1 a2 s) := by
  unfold updCh
  repeat' (first | with_reducible assumption | ((try lift_lets -underBinder); intro _) | split | (fail_if_no_progress refine Keeps.upd ?_ rfl rfl rfl rfl rfl rfl))

theorem postBroken_keeps (a1) {s} (h : Keeps s0 s) : Keeps s0 (postBroken a1 s) := by
  unfold postBroken
  repeat' (first | with_reducible assumption | with_reducible apply post_keeps | with_reducible apply updCh_keeps | (with_reducible refine Keeps.foldl _ (fun _ _ _ => ?_) _ ?_) | (with_reducible apply Keeps.ite))

theorem dieBandStep_keeps (a1) {s} (h : Keeps s0 s) : Keeps s0 (dieBandStep a1 s) := by
  unfold dieBandStep
  repeat' (first | with_reducible assumption | ((try lift_lets -underBinder); intro x; refine Keeps.cut (s := s0) (x := x) ?_ (fun _ => ?_); (on_goal 2 => (try clear_value x)); (on_goal 1 => unfold x)) | ((try lift_lets -underBinder); intro _) | with_reducible apply post_keeps | with_reducible apply updCh_keeps | with_reducible apply emit_keeps | (with_reducible apply Keeps.ite))

theorem noteCool_keeps (a1) {s} (h : Keeps s0 s) : Keeps s0 (noteCool a1 s) := by
  unfold noteCool
  repeat' (first | with_reducible assumption | with_reducible apply updCh_keeps)

theorem execSensorConversion_keeps (a1) (a2) {s} (h : Keeps s0 s) : Goes s0 (execSensorConversion a1 a2 s) := by
  unfold execSensorConversion
  first | refine onPart_keeps _ _ (fun h => ?_) h | refine Goes.next ?_
  try dsimp -zeta only
  repeat' (first | with_reducible assumption | ((try lift_lets -underBinder); intro x; refine Keeps.cut (s := s0) (x := x) ?_ (fun _ => ?_); (on_goal 2 => (try clear_value x)); (on_goal 1 => unfold x)) | with_reducible apply updCh_keeps | with_reducible apply noteCool_keeps | with_reducible apply dieBandStep_keeps | with_reducible apply postBroken_keeps | (with_reducible apply Keeps.ite))

theorem fieldSample_keeps (a1) (a2) (a3) (a4) {s} (h : Keeps s0 s) : Keeps s0 (fieldSample a1 a2 a3 a4 s) := by
  unfold fieldSample
  repeat' (first | with_reducible assumption | ((try lift_lets -underBinder); intro _) | with_reducible apply updCh_keeps | (with_reducible apply Keeps.ite))

theorem bandStep_keeps {s} (h : Keeps s0 s) : Keeps s0 (bandStep s) := by
  unfold bandStep
  repeat' (first | with_reducible assumption | ((try lift_lets -underBinder); intro _) | with_reducible apply updCh_keeps)

theorem setHotLimits_keeps {s} (h : Keeps s0 s) : Keeps s0 (setHotLimits s) := by
  unfold setHotLimits
  repeat' (first | with_reducible assumption | with_reducible apply updCh_keeps)

theorem hotCapStep_keeps {s} (h : Keeps s0 s) : Keeps s0 (hotCapStep s) := by
  unfold hotCapStep
  repeat' (first | with_reducible assumption | ((try lift_lets -underBinder); intro x; refine Keeps.cut (s := s0) (x := x) ?_ (fun _ => ?_); (on_goal 2 => (try clear_value x)); (on_goal 1 => unfold x)) | ((try lift_lets -underBinder); intro _) | with_reducible apply setHotLimits_keeps | with_reducible apply updCh_keeps | with_reducible apply post_keeps | (with_reducible apply Keeps.ite))

theorem measureSegment_keeps (a1) (a2) {s} (h : Keeps s0 s) : Keeps s0 (measureSegment a1 a2 s) := by
  unfold measureSegment
  repeat' (first | with_reducible assumption | ((try lift_lets -underBinder); intro x; refine Keeps.cut (s := s0) (x := x) ?_ (fun _ => ?_); (on_goal 2 => (try clear_value x)); (on_goal 1 => unfold x)) | ((try lift_lets -underBinder); intro _) | with_reducible apply updCh_keeps | with_reducible apply post_keeps | (with_reducible apply Keeps.ite) | split)

theorem measureSlot_keeps (a1) {s} (h : Keeps s0 s) : Keeps s0 (measureSlot a1 s) := by
  unfold measureSlot
  repeat' (first | with_reducible assumption | ((try lift_lets -underBinder); intro x; refine Keeps.cut (s := s0) (x := x) ?_ (fun _ => ?_); (on_goal 2 => (try clear_value x)); (on_goal 1 => unfold x)) | ((try lift_lets -underBinder); intro _) | with_reducible apply measureSegment_keeps | with_reducible apply updCh_keeps | (with_reducible refine Keeps.foldl _ (fun _ _ _ => ?_) _ ?_) | split)

theorem trimSink_keeps (a1) {s} (h : Keeps s0 s) : Keeps s0 (trimSink a1 s) := by
  unfold trimSink
  repeat' (first | with_reducible assumption | ((try lift_lets -underBinder); intro x; refine Keeps.cut (s := s0) (x := x) ?_ (fun _ => ?_); (on_goal 2 => (try clear_value x)); (on_goal 1 => unfold x)) | ((try lift_lets -underBinder); intro _) | with_reducible apply draw_keeps | with_reducible apply updCh_keeps | with_reducible apply post_keeps | (with_reducible apply Keeps.ite))

theorem applySels_keeps {s} (h : Keeps s0 s) : Keeps s0 (applySels s) := by
  unfold applySels
  repeat' (first | with_reducible assumption | with_reducible apply updCh_keeps)

theorem applyIdle_keeps {s} (h : Keeps s0 s) : Keeps s0 (applyIdle s) := by
  unfold applyIdle
  repeat' (first | with_reducible assumption | with_reducible apply applySels_keeps | (with_reducible apply Keeps.ite))

theorem execTrimSweepEval_keeps {s} (h : Keeps s0 s) : Goes s0 (execTrimSweepEval s) := by
  unfold execTrimSweepEval
  first | refine onPart_keeps _ _ (fun h => ?_) h | refine Goes.next ?_
  try dsimp -zeta only
  repeat' (first | with_reducible assumption | ((try lift_lets -underBinder); intro x; refine Keeps.cut (s := s0) (x := x) ?_ (fun _ => ?_); (on_goal 2 => (try clear_value x)); (on_goal 1 => unfold x)) | ((try lift_lets -underBinder); intro _) | with_reducible apply post_keeps | with_reducible apply updCh_keeps | with_reducible apply trimSink_keeps | with_reducible apply applyIdle_keeps | (with_reducible refine Keeps.foldl _ (fun _ _ _ => ?_) _ ?_) | (with_reducible apply Keeps.ite))

theorem moveTerm_keeps (a1) (a2) {s} (h : Keeps s0 s) : Keeps s0 (moveTerm a1 a2 s) := by
  unfold moveTerm
  repeat' (first | with_reducible assumption | ((try lift_lets -underBinder); intro _) | with_reducible apply updCh_keeps | (with_reducible apply Keeps.ite))

theorem stepTerms_keeps (a1) {s} (h : Keeps s0 s) : Keeps s0 (stepTerms a1 s) := by
  unfold stepTerms
  repeat' (first | with_reducible assumption | with_reducible apply moveTerm_keeps | (with_reducible refine Keeps.foldl _ (fun _ _ _ => ?_) _ ?_))

theorem execTermTrimMeasure_keeps (a1) (a2) (a3) (a4) (a5) {s} (h : Keeps s0 s) : Goes s0 (execTermTrimMeasure a1 a2 a3 a4 a5 s) := by
  unfold execTermTrimMeasure
  first | refine onPart_keeps _ _ (fun h => ?_) h | refine Goes.next ?_
  try dsimp -zeta only
  repeat' (first | with_reducible assumption | ((try lift_lets -underBinder); intro x; refine Keeps.cut (s := s0) (x := x) ?_ (fun _ => ?_); (on_goal 2 => (try clear_value x)); (on_goal 1 => unfold x)) | ((try lift_lets -underBinder); intro _) | with_reducible apply post_keeps | with_reducible apply updCh_keeps | with_reducible apply moveTerm_keeps | (with_reducible apply Keeps.ite))

theorem saveTrims_keeps (a1) {s} (h : Keeps s0 s) : Keeps s0 (saveTrims a1 s) := by
  unfold saveTrims
  repeat' (first | with_reducible assumption | with_reducible apply writeSettings_keeps | with_reducible apply updCh_keeps | (with_reducible apply Keeps.ite))

theorem execTrimSave_keeps (a1) {s} (h : Keeps s0 s) : Goes s0 (execTrimSave a1 s) := by
  unfold execTrimSave
  first | refine onPart_keeps _ _ (fun h => ?_) h | refine Goes.next ?_
  try dsimp -zeta only
  repeat' (first | with_reducible assumption | with_reducible apply saveTrims_keeps | (with_reducible apply Keeps.ite))

theorem restoreTrims_keeps (a1) {s} (h : Keeps s0 s) : Keeps s0 (restoreTrims a1 s) := by
  unfold restoreTrims
  repeat' (first | with_reducible assumption | ((try lift_lets -underBinder); intro _) | with_reducible apply updCh_keeps | with_reducible apply post_keeps | (with_reducible apply Keeps.ite))

theorem specChGetStatus_keeps (c) {s} (h : Keeps s0 s) : Keeps s0 (specChGetStatus.run c s) := by
  unfold specChGetStatus; dsimp -zeta only
  repeat' (first | with_reducible assumption | ((try lift_lets -underBinder); intro _) | with_reducible apply ok_keeps)

theorem execChGetStatus_keeps (a1) {s} (h : Keeps s0 s) : Goes s0 (execChGetStatus a1 s) := runCmd_keeps specChGetStatus a1 (fun c _ h => specChGetStatus_keeps c h) h

theorem specChSetLimits_keeps (c) {s} (h : Keeps s0 s) : Keeps s0 (specChSetLimits.run c s) := by
  unfold specChSetLimits; dsimp -zeta only
  repeat' (first | with_reducible assumption | ((try lift_lets -underBinder); intro x; refine Keeps.cut (s := s0) (x := x) ?_ (fun _ => ?_); (on_goal 2 => (try clear_value x)); (on_goal 1 => unfold x)) | with_reducible apply updCh_keeps | with_reducible apply ok_keeps | with_reducible apply hotCapStep_keeps | (with_reducible apply Keeps.ite))

theorem execChSetLimits_keeps (a1) {s} (h : Keeps s0 s) : Goes s0 (execChSetLimits a1 s) := runCmd_keeps specChSetLimits a1 (fun c _ h => specChSetLimits_keeps c h) h

theorem specChSetVfCal_keeps (c) {s} (h : Keeps s0 s) : Keeps s0 (specChSetVfCal.run c s) := by
  unfold specChSetVfCal; dsimp -zeta only
  repeat' (first | with_reducible assumption | ((try lift_lets -underBinder); intro x; refine Keeps.cut (s := s0) (x := x) ?_ (fun _ => ?_); (on_goal 2 => (try clear_value x)); (on_goal 1 => unfold x)) | ((try lift_lets -underBinder); intro _) | with_reducible apply updCh_keeps | with_reducible apply writeSettings_keeps | (with_reducible apply Keeps.ite))

theorem execChSetVfCal_keeps (a1) {s} (h : Keeps s0 s) : Goes s0 (execChSetVfCal a1 s) := runCmd_keeps specChSetVfCal a1 (fun c _ h => specChSetVfCal_keeps c h) h

theorem specChGetField_keeps (c) {s} (h : Keeps s0 s) : Keeps s0 (specChGetField.run c s) := by
  unfold specChGetField; dsimp -zeta only
  repeat' (first | with_reducible assumption | with_reducible apply ok_keeps)

theorem execChGetField_keeps (a1) {s} (h : Keeps s0 s) : Goes s0 (execChGetField a1 s) := runCmd_keeps specChGetField a1 (fun c _ h => specChGetField_keeps c h) h

theorem specChGetTrim_keeps (c) {s} (h : Keeps s0 s) : Keeps s0 (specChGetTrim.run c s) := by
  unfold specChGetTrim; dsimp -zeta only
  repeat' (first | with_reducible assumption | ((try lift_lets -underBinder); intro _) | with_reducible apply ok_keeps)

theorem execChGetTrim_keeps (a1) {s} (h : Keeps s0 s) : Goes s0 (execChGetTrim a1 s) := runCmd_keeps specChGetTrim a1 (fun c _ h => specChGetTrim_keeps c h) h

theorem restoreFactory_keeps (a1) {s} (h : Keeps s0 s) : Keeps s0 (restoreFactory a1 s) := by
  unfold restoreFactory
  repeat' (first | with_reducible assumption | ((try lift_lets -underBinder); intro x; refine Keeps.cut (s := s0) (x := x) ?_ (fun _ => ?_); (on_goal 2 => (try clear_value x)); (on_goal 1 => unfold x)) | with_reducible apply updCh_keeps | with_reducible apply applyIdle_keeps | with_reducible apply moveTerm_keeps | (with_reducible refine Keeps.foldl _ (fun _ _ _ => ?_) _ ?_) | (with_reducible apply Keeps.ite))

theorem specChTrimCtl_keeps (c) {s} (h : Keeps s0 s) : Keeps s0 (specChTrimCtl.run c s) := by
  unfold specChTrimCtl; dsimp -zeta only
  repeat' (first | with_reducible assumption | ((try lift_lets -underBinder); intro x; refine Keeps.cut (s := s0) (x := x) ?_ (fun _ => ?_); (on_goal 2 => (try clear_value x)); (on_goal 1 => unfold x)) | ((try lift_lets -underBinder); intro _) | with_reducible apply updCh_keeps | with_reducible apply ok_keeps | with_reducible apply restoreFactory_keeps | (with_reducible apply Keeps.ite))

theorem execChTrimCtl_keeps (a1) {s} (h : Keeps s0 s) : Goes s0 (execChTrimCtl a1 s) := runCmd_keeps specChTrimCtl a1 (fun c _ h => specChTrimCtl_keeps c h) h

theorem chimneyFlip_keeps (a1) {s} (h : Keeps s0 s) : Keeps s0 (chimneyFlip a1 s) := by
  unfold chimneyFlip
  repeat' (first | with_reducible assumption | ((try lift_lets -underBinder); intro x; refine Keeps.cut (s := s0) (x := x) ?_ (fun _ => ?_); (on_goal 2 => (try clear_value x)); (on_goal 1 => unfold x)) | with_reducible apply updCh_keeps | with_reducible apply stepTerms_keeps | with_reducible apply applySels_keeps | with_reducible apply hotCapStep_keeps | with_reducible apply bandStep_keeps)

end Sys2Proof.Laws
end

