-- ==== Sys2Proof/Laws/KeepsPanePush.lean ====
section
/-!
SUPPORT. The operations and commands of Machine/PanePush.lean keep what `Keeps` names.
-/
set_option linter.unusedTactic false
set_option linter.unreachableTactic false
set_option linter.unusedVariables false
namespace Sys2Proof.Laws

open Sys2Proof.Machine

variable {s0 : State}

theorem updPp_keeps (a1) {s} (h : Keeps s0 s) : Keeps s0 (updPp a1 s) :=
  Keeps.upd h rfl rfl rfl rfl rfl rfl

theorem updChain_keeps (a1) (a2) {s} (h : Keeps s0 s) : Keeps s0 (updChain a1 a2 s) :=
  Keeps.upd h rfl rfl rfl rfl rfl rfl

theorem resendNext_keeps (a1) (a2) {s} (h : Keeps s0 s) : Keeps s0 (resendNext a1 a2 s) := by
  unfold resendNext
  repeat' (first | with_reducible assumption | with_reducible apply updRec_keeps | with_reducible apply updPp_keeps | (with_reducible apply Keeps.ite) | split)

theorem stalePush_keeps (a1) (a2) {s} (h : Keeps s0 s) : Keeps s0 (stalePush a1 a2 s) := by
  unfold stalePush
  repeat' (first | with_reducible assumption | ((try lift_lets -underBinder); intro x; refine Keeps.cut (s := s0) (x := x) ?_ (fun _ => ?_); (on_goal 2 => (try clear_value x)); (on_goal 1 => unfold x)) | with_reducible apply updRec_keeps | with_reducible apply resendNext_keeps | with_reducible apply updChain_keeps | with_reducible apply updPp_keeps)

theorem staleReplay_keeps (a1) (a2) {s} (h : Keeps s0 s) : Keeps s0 (staleReplay a1 a2 s) := by
  unfold staleReplay
  repeat' (first | with_reducible assumption | with_reducible apply updChain_keeps | with_reducible apply updPp_keeps | with_reducible apply updRec_keeps)

theorem withPane_keeps (r k v d) (f : List Byte → State → State) {s} (hf : ∀ b {t}, Keeps s0 t → Keeps s0 (f b t))
    (h : Keeps s0 s) : Keeps s0 (withPane r k v d f s) := by
  unfold withPane
  lift_lets; intro cls a
  refine whenServed_keeps _ _ _ (fun {t} h => ?_) h
  extract_lets rd s1
  have k1 : Keeps s0 rd.2.2 := readNow_keeps _ _ _ h
  have k2 : Keeps s0 s1 := updChain_keeps _ _ k1
  clear_value s1
  exact Keeps.ite (hf _ k2) (stalePush_keeps _ _ (updRec_keeps _ _ k2))

theorem sendBytes_keeps (a1) (a2) (a3) (a4) (a5) {s} (h : Keeps s0 s) : Keeps s0 (sendBytes a1 a2 a3 a4 a5 s) := by
  unfold sendBytes
  repeat' (first | with_reducible assumption | ((try lift_lets -underBinder); intro x; refine Keeps.cut (s := s0) (x := x) ?_ (fun _ => ?_); (on_goal 2 => (try clear_value x)); (on_goal 1 => unfold x)) | ((try lift_lets -underBinder); intro _) | with_reducible apply hand_keeps | with_reducible apply updPp_keeps | with_reducible apply updChain_keeps | with_reducible apply updRec_keeps | (with_reducible apply Keeps.ite))

theorem firstSend_keeps (a1) {s} (h : Keeps s0 s) : Keeps s0 (firstSend a1 s) := by
  unfold firstSend
  repeat' (first | with_reducible assumption | (intro t (_ : Keeps s0 t)) | ((try lift_lets -underBinder); intro _) | with_reducible apply sendBytes_keeps | with_reducible apply withPane_keeps | with_reducible apply updChain_keeps | (with_reducible apply Keeps.ite) | split)

theorem replaySend_keeps (a1) {s} (h : Keeps s0 s) : Keeps s0 (replaySend a1 s) := by
  unfold replaySend
  repeat' (first | with_reducible assumption | (intro t (_ : Keeps s0 t)) | ((try lift_lets -underBinder); intro _) | with_reducible apply withPane_keeps | with_reducible apply sendBytes_keeps | (with_reducible apply Keeps.ite) | split)

theorem execPanePacketSend_keeps (a1) (a2) {s} (h : Keeps s0 s) : Goes s0 (execPanePacketSend a1 a2 s) := by
  unfold execPanePacketSend
  first | refine onPart_keeps _ _ (fun h => ?_) h | refine Goes.next ?_
  try dsimp -zeta only
  repeat' (first | with_reducible assumption | with_reducible apply replaySend_keeps | with_reducible apply firstSend_keeps | (with_reducible apply Keeps.ite))

theorem exhaust_keeps (a1) (a2) {s} (h : Keeps s0 s) : Keeps s0 (exhaust a1 a2 s) := by
  unfold exhaust
  repeat' (first | with_reducible assumption | ((try lift_lets -underBinder); intro x; refine Keeps.cut (s := s0) (x := x) ?_ (fun _ => ?_); (on_goal 2 => (try clear_value x)); (on_goal 1 => unfold x)) | ((try lift_lets -underBinder); intro _) | with_reducible apply staleReplay_keeps | with_reducible apply updPp_keeps | with_reducible apply post_keeps | with_reducible apply resendNext_keeps | (with_reducible apply Keeps.ite))

theorem needReplay_keeps (a1) (a2) {s} (h : Keeps s0 s) : Keeps s0 (needReplay a1 a2 s) := by
  unfold needReplay
  repeat' (first | with_reducible assumption | ((try lift_lets -underBinder); intro _) | with_reducible apply updRec_keeps | with_reducible apply exhaust_keeps | (with_reducible apply Keeps.ite))

theorem divergent_keeps (a1) (a2) {s} (h : Keeps s0 s) : Keeps s0 (divergent a1 a2 s) := by
  unfold divergent
  repeat' (first | with_reducible assumption | ((try lift_lets -underBinder); intro x; refine Keeps.cut (s := s0) (x := x) ?_ (fun _ => ?_); (on_goal 2 => (try clear_value x)); (on_goal 1 => unfold x)) | ((try lift_lets -underBinder); intro _) | with_reducible apply updTw_keeps | with_reducible apply post_keeps | (with_reducible apply Keeps.ite))

theorem ackTaken_keeps (a1) {s} (h : Keeps s0 s) : Keeps s0 (ackTaken a1 s) := by
  unfold ackTaken
  repeat' (first | with_reducible assumption | ((try lift_lets -underBinder); intro x; refine Keeps.cut (s := s0) (x := x) ?_ (fun _ => ?_); (on_goal 2 => (try clear_value x)); (on_goal 1 => unfold x)) | ((try lift_lets -underBinder); intro _) | with_reducible apply updPp_keeps | with_reducible apply divergent_keeps | with_reducible apply updRec_keeps | with_reducible apply needReplay_keeps | with_reducible apply resendNext_keeps | (with_reducible apply Keeps.ite) | split)

theorem execPaneAckReceived_keeps (a1) {s} (h : Keeps s0 s) : Goes s0 (execPaneAckReceived a1 s) := by
  unfold execPaneAckReceived
  first | refine onPart_keeps _ _ (fun h => ?_) h | refine Goes.next ?_
  try dsimp -zeta only
  repeat' (first | with_reducible assumption | (intro t (_ : Keeps s0 t)) | with_reducible apply overLink_keeps | with_reducible apply ackTaken_keeps)

theorem execPaneTransactionLost_keeps (a1) (a2) {s} (h : Keeps s0 s) : Goes s0 (execPaneTransactionLost a1 a2 s) := by
  unfold execPaneTransactionLost
  first | refine onPart_keeps _ _ (fun h => ?_) h | refine Goes.next ?_
  try dsimp -zeta only
  repeat' (first | with_reducible assumption | ((try lift_lets -underBinder); intro x; refine Keeps.cut (s := s0) (x := x) ?_ (fun _ => ?_); (on_goal 2 => (try clear_value x)); (on_goal 1 => unfold x)) | with_reducible apply updPp_keeps | with_reducible apply needReplay_keeps | split)

theorem replayReqTaken_keeps (a1) (a2) {s} (h : Keeps s0 s) : Keeps s0 (replayReqTaken a1 a2 s) := by
  unfold replayReqTaken
  repeat' (first | with_reducible assumption | ((try lift_lets -underBinder); intro _) | with_reducible apply staleReplay_keeps | with_reducible apply updRec_keeps | (with_reducible apply Keeps.ite) | split)

theorem execReplayReqReceived_keeps (a1) (a2) {s} (h : Keeps s0 s) : Goes s0 (execReplayReqReceived a1 a2 s) := by
  unfold execReplayReqReceived
  first | refine onPart_keeps _ _ (fun h => ?_) h | refine Goes.next ?_
  try dsimp -zeta only
  repeat' (first | with_reducible assumption | (intro t (_ : Keeps s0 t)) | with_reducible apply overLink_keeps | with_reducible apply replayReqTaken_keeps)

theorem reportTaken_keeps (a1) {s} (h : Keeps s0 s) : Keeps s0 (reportTaken a1 s) := by
  unfold reportTaken
  repeat' (first | with_reducible assumption | ((try lift_lets -underBinder); intro x; refine Keeps.cut (s := s0) (x := x) ?_ (fun _ => ?_); (on_goal 2 => (try clear_value x)); (on_goal 1 => unfold x)) | ((try lift_lets -underBinder); intro _) | with_reducible apply resendNext_keeps | with_reducible apply updRec_keeps | (with_reducible refine Keeps.foldl _ (fun _ _ _ => ?_) _ ?_) | (with_reducible apply Keeps.ite) | split)

theorem execFrameReportReceived_keeps (a1) {s} (h : Keeps s0 s) : Goes s0 (execFrameReportReceived a1 s) := by
  unfold execFrameReportReceived
  first | refine onPart_keeps _ _ (fun h => ?_) h | refine Goes.next ?_
  try dsimp -zeta only
  repeat' (first | with_reducible assumption | (intro t (_ : Keeps s0 t)) | with_reducible apply overLink_keeps | with_reducible apply reportTaken_keeps)

theorem postNoReport_keeps (a1) (a2) {s} (h : Keeps s0 s) : Keeps s0 (postNoReport a1 a2 s) := by
  unfold postNoReport
  repeat' (first | with_reducible assumption | ((try lift_lets -underBinder); intro _) | with_reducible apply post_keeps | with_reducible apply updPp_keeps | (with_reducible apply Keeps.ite))

theorem fsrWrite_keeps (a1) {s} (h : Keeps s0 s) : Keeps s0 (fsrWrite a1 s) := by
  unfold fsrWrite
  repeat' (first | with_reducible assumption | ((try lift_lets -underBinder); intro x; refine Keeps.cut (s := s0) (x := x) ?_ (fun _ => ?_); (on_goal 2 => (try clear_value x)); (on_goal 1 => unfold x)) | ((try lift_lets -underBinder); intro _) | with_reducible apply updPp_keeps | with_reducible apply clWrite_keeps | with_reducible apply updRec_keeps | with_reducible apply postNoReport_keeps | (with_reducible refine Keeps.foldl _ (fun _ _ _ => ?_) _ ?_) | (with_reducible apply Keeps.ite))

theorem execFsrWrite_keeps (a1) {s} (h : Keeps s0 s) : Goes s0 (execFsrWrite a1 s) := by
  unfold execFsrWrite
  first | refine onPart_keeps _ _ (fun h => ?_) h | refine Goes.next ?_
  try dsimp -zeta only
  repeat' (first | with_reducible assumption | (intro t (_ : Keeps s0 t)) | ((try lift_lets -underBinder); intro _) | with_reducible apply whenServed_keeps | with_reducible apply fsrWrite_keeps | (with_reducible apply Keeps.ite) | split)

theorem setFormat_keeps (a1) (a2) (a3) {s} (h : Keeps s0 s) : Keeps s0 (setFormat a1 a2 a3 s) := by
  unfold setFormat
  repeat' (first | with_reducible assumption | with_reducible apply post_keeps | with_reducible apply updChain_keeps | (with_reducible apply Keeps.ite))

theorem decideFormat_keeps (a1) (a2) {s} (h : Keeps s0 s) : Keeps s0 (decideFormat a1 a2 s) := by
  unfold decideFormat
  repeat' (first | with_reducible assumption | ((try lift_lets -underBinder); intro _) | with_reducible apply twinSend_keeps | with_reducible apply updTw_keeps | with_reducible apply updChain_keeps | (with_reducible apply Keeps.ite))

theorem decideFormats_keeps (a1) {s} (h : Keeps s0 s) : Keeps s0 (decideFormats a1 s) := by
  unfold decideFormats
  repeat' (first | with_reducible assumption | with_reducible apply decideFormat_keeps | (with_reducible refine Keeps.foldl _ (fun _ _ _ => ?_) _ ?_) | split)

theorem formatAtOpen_keeps (a1) (a2) {s} (h : Keeps s0 s) : Keeps s0 (formatAtOpen a1 a2 s) := by
  unfold formatAtOpen
  repeat' (first | with_reducible assumption | with_reducible apply updChain_keeps | with_reducible apply setFormat_keeps | (with_reducible apply Keeps.ite) | split)

theorem execFormatReturnTimer_keeps (a1) {s} (h : Keeps s0 s) : Goes s0 (execFormatReturnTimer a1 s) := by
  unfold execFormatReturnTimer
  first | refine onPart_keeps _ _ (fun h => ?_) h | refine Goes.next ?_
  try dsimp -zeta only
  repeat' (first | with_reducible assumption | with_reducible apply updChain_keeps | (with_reducible apply Keeps.ite) | split)

theorem noteBlackout_keeps {s} (h : Keeps s0 s) : Keeps s0 (noteBlackout s) := by
  unfold noteBlackout
  repeat' (first | with_reducible assumption | ((try lift_lets -underBinder); intro _) | (with_reducible apply Keeps.ite) | (fail_if_no_progress refine Keeps.upd ?_ rfl rfl rfl rfl rfl rfl))

theorem sendBlackout_keeps {s} (h : Keeps s0 s) : Keeps s0 (sendBlackout s) := by
  unfold sendBlackout
  repeat' (first | with_reducible assumption | with_reducible apply timeSend_keeps | with_reducible apply updPp_keeps | (with_reducible refine Keeps.foldl _ (fun _ _ _ => ?_) _ ?_))

theorem execHeadBlackoutChange_keeps {s} (h : Keeps s0 s) : Goes s0 (execHeadBlackoutChange s) := by
  unfold execHeadBlackoutChange
  first | refine onPart_keeps _ _ (fun h => ?_) h | refine Goes.next ?_
  try dsimp -zeta only
  repeat' (first | with_reducible assumption | ((try lift_lets -underBinder); intro _) | with_reducible apply post_keeps | with_reducible apply sendBlackout_keeps | with_reducible apply updPp_keeps | (with_reducible apply Keeps.ite))

theorem execBlackoutBlockRepeat_keeps {s} (h : Keeps s0 s) : Goes s0 (execBlackoutBlockRepeat s) := by
  unfold execBlackoutBlockRepeat
  first | refine onPart_keeps _ _ (fun h => ?_) h | refine Goes.next ?_
  try dsimp -zeta only
  repeat' (first | with_reducible assumption | with_reducible apply sendBlackout_keeps | (with_reducible apply Keeps.ite))

theorem claimAtOpen_keeps {s} (h : Keeps s0 s) : Keeps s0 (claimAtOpen s) := by
  unfold claimAtOpen
  repeat' (first | with_reducible assumption | ((try lift_lets -underBinder); intro x; refine Keeps.cut (s := s0) (x := x) ?_ (fun _ => ?_); (on_goal 2 => (try clear_value x)); (on_goal 1 => unfold x)) | with_reducible apply updTw_keeps | (with_reducible apply Keeps.ite) | split)

theorem openPush_keeps (a1) {s} (h : Keeps s0 s) : Keeps s0 (openPush a1 s) := by
  unfold openPush
  repeat' (first | with_reducible assumption | ((try lift_lets -underBinder); intro x; refine Keeps.cut (s := s0) (x := x) ?_ (fun _ => ?_); (on_goal 2 => (try clear_value x)); (on_goal 1 => unfold x)) | ((try lift_lets -underBinder); intro _) | with_reducible apply claimAtOpen_keeps | with_reducible apply updRec_keeps | with_reducible apply updPp_keeps | with_reducible apply formatAtOpen_keeps | (with_reducible refine Keeps.foldl _ (fun _ _ _ => ?_) _ ?_) | split | (fail_if_no_progress refine Keeps.upd ?_ rfl rfl rfl rfl rfl rfl))

theorem sendTicks_keeps (a1) {s} (h : Keeps s0 s) : Keeps s0 (sendTicks a1 s) := by
  unfold sendTicks
  repeat' (first | with_reducible assumption | with_reducible apply timeSend_keeps | (with_reducible refine Keeps.foldl _ (fun _ _ _ => ?_) _ ?_))

theorem carryOver_keeps (a1) (a2) {s} (h : Keeps s0 s) : Keeps s0 (carryOver a1 a2 s) := by
  unfold carryOver
  repeat' (first | with_reducible assumption | ((try lift_lets -underBinder); intro x; refine Keeps.cut (s := s0) (x := x) ?_ (fun _ => ?_); (on_goal 2 => (try clear_value x)); (on_goal 1 => unfold x)) | ((try lift_lets -underBinder); intro _) | with_reducible apply updRec_keeps | (with_reducible apply Keeps.ite) | split | (fail_if_no_progress refine Keeps.upd ?_ rfl rfl rfl rfl rfl rfl))

theorem clearWindow_keeps {s} (h : Keeps s0 s) : Keeps s0 (clearWindow s) := by
  unfold clearWindow
  repeat' (first | with_reducible assumption | with_reducible apply mapVers_keeps | with_reducible apply updPp_keeps)

theorem closePush_keeps (a1) {s} (h : Keeps s0 s) : Keeps s0 (closePush a1 s) := by
  unfold closePush
  repeat' (first | with_reducible assumption | ((try lift_lets -underBinder); intro x; refine Keeps.cut (s := s0) (x := x) ?_ (fun _ => ?_); (on_goal 2 => (try clear_value x)); (on_goal 1 => unfold x)) | ((try lift_lets -underBinder); intro _) | with_reducible apply sendTicks_keeps | with_reducible apply countStale_keeps | with_reducible apply stalePush_keeps | with_reducible apply exhaust_keeps | with_reducible apply clearWindow_keeps | with_reducible apply updRec_keeps | with_reducible apply carryOver_keeps | (with_reducible refine Keeps.foldl _ (fun _ _ _ => ?_) _ ?_) | split | (fail_if_no_progress refine Keeps.upd ?_ rfl rfl rfl rfl rfl rfl))

theorem specPpSetStatusRing_keeps (c) {s} (h : Keeps s0 s) : Keeps s0 (specPpSetStatusRing.run c s) := by
  unfold specPpSetStatusRing; dsimp -zeta only
  repeat' (first | with_reducible assumption | ((try lift_lets -underBinder); intro _) | with_reducible apply ok_keeps | with_reducible apply updPp_keeps)

theorem execPpSetStatusRing_keeps (a1) {s} (h : Keeps s0 s) : Goes s0 (execPpSetStatusRing a1 s) := runCmd_keeps specPpSetStatusRing a1 (fun c _ h => specPpSetStatusRing_keeps c h) h

theorem specPpGetFrameStatus_keeps (c) {s} (h : Keeps s0 s) : Keeps s0 (specPpGetFrameStatus.run c s) := by
  unfold specPpGetFrameStatus; dsimp -zeta only
  repeat' (first | with_reducible assumption | ((try lift_lets -underBinder); intro _) | with_reducible apply clRead_keeps | with_reducible apply ok_keeps | with_reducible apply failed_keeps | (with_reducible apply Keeps.ite))

theorem execPpGetFrameStatus_keeps (a1) {s} (h : Keeps s0 s) : Goes s0 (execPpGetFrameStatus a1 s) := runCmd_keeps specPpGetFrameStatus a1 (fun c _ h => specPpGetFrameStatus_keeps c h) h

theorem specPpSetChain_keeps (c) {s} (h : Keeps s0 s) : Keeps s0 (specPpSetChain.run c s) := by
  unfold specPpSetChain; dsimp -zeta only
  repeat' (first | with_reducible assumption | ((try lift_lets -underBinder); intro _) | with_reducible apply okFwd_keeps | with_reducible apply updChain_keeps)

theorem execPpSetChain_keeps (a1) {s} (h : Keeps s0 s) : Goes s0 (execPpSetChain a1 s) := runCmd_keeps specPpSetChain a1 (fun c _ h => specPpSetChain_keeps c h) h

theorem specPpGetChain_keeps (c) {s} (h : Keeps s0 s) : Keeps s0 (specPpGetChain.run c s) := by
  unfold specPpGetChain; dsimp -zeta only
  repeat' (first | with_reducible assumption | ((try lift_lets -underBinder); intro _) | with_reducible apply ok_keeps)

theorem execPpGetChain_keeps (a1) {s} (h : Keeps s0 s) : Goes s0 (execPpGetChain a1 s) := runCmd_keeps specPpGetChain a1 (fun c _ h => specPpGetChain_keeps c h) h

theorem specPpBlackout_keeps (c) {s} (h : Keeps s0 s) : Keeps s0 (specPpBlackout.run c s) := by
  unfold specPpBlackout; dsimp -zeta only
  repeat' (first | with_reducible assumption | with_reducible apply ok_keeps | with_reducible apply noteBlackout_keeps | with_reducible apply updPp_keeps)

theorem execPpBlackout_keeps (a1) {s} (h : Keeps s0 s) : Goes s0 (execPpBlackout a1 s) := runCmd_keeps specPpBlackout a1 (fun c _ h => specPpBlackout_keeps c h) h

theorem ppCtlWrite_keeps (a1) {s} (h : Keeps s0 s) : Keeps s0 (ppCtlWrite a1 s) := by
  unfold ppCtlWrite
  repeat' (first | with_reducible assumption | with_reducible apply updPp_keeps)

theorem ppStatusWrite_keeps (a1) {s} (h : Keeps s0 s) : Keeps s0 (ppStatusWrite a1 s) := by
  unfold ppStatusWrite
  repeat' (first | with_reducible assumption | with_reducible apply updPp_keeps)

theorem ppBaseLoWrite_keeps (a1) {s} (h : Keeps s0 s) : Keeps s0 (ppBaseLoWrite a1 s) := by
  unfold ppBaseLoWrite
  repeat' (first | with_reducible assumption | with_reducible apply updPp_keeps)

theorem ppBaseHiWrite_keeps (a1) {s} (h : Keeps s0 s) : Keeps s0 (ppBaseHiWrite a1 s) := by
  unfold ppBaseHiWrite
  repeat' (first | with_reducible assumption | with_reducible apply updPp_keeps)

theorem ppSizeWrite_keeps (a1) {s} (h : Keeps s0 s) : Keeps s0 (ppSizeWrite a1 s) := by
  unfold ppSizeWrite
  repeat' (first | with_reducible assumption | with_reducible apply updPp_keeps)

theorem ppPortWrite_keeps (a1) (a2) {s} (h : Keeps s0 s) : Keeps s0 (ppPortWrite a1 a2 s) := by
  unfold ppPortWrite
  repeat' (first | with_reducible assumption | with_reducible apply updChain_keeps)

end Sys2Proof.Laws
end

