-- ==== Sys2Proof/Laws/KeepsLampDrive.lean ====
section
/-!
SUPPORT. The operations and commands of Machine/LampDrive.lean keep what `Keeps` names.
-/
set_option linter.unusedTactic false
set_option linter.unreachableTactic false
set_option linter.unusedVariables false
namespace Sys2Proof.Laws

open Sys2Proof.Machine

variable {s0 : State}

theorem noteDetect_keeps {s} (h : Keeps s0 s) : Keeps s0 (noteDetect s) := by
  unfold noteDetect
  repeat' (first | with_reducible assumption | with_reducible apply updLp_keeps | (with_reducible apply Keeps.ite))

theorem execDetectResumeTimer_keeps {s} (h : Keeps s0 s) : Goes s0 (execDetectResumeTimer s) := by
  unfold execDetectResumeTimer
  first | refine onPart_keeps _ _ (fun h => ?_) h | refine Goes.next ?_
  try dsimp -zeta only
  repeat' (first | with_reducible assumption | ((try lift_lets -underBinder); intro x; refine Keeps.cut (s := s0) (x := x) ?_ (fun _ => ?_); (on_goal 2 => (try clear_value x)); (on_goal 1 => unfold x)) | with_reducible apply noteDetect_keeps | with_reducible apply updLp_keeps | (with_reducible apply Keeps.ite) | split)

theorem suspectCheck_keeps {s} (h : Keeps s0 s) : Keeps s0 (suspectCheck s) := by
  unfold suspectCheck
  repeat' (first | with_reducible assumption | ((try lift_lets -underBinder); intro _) | with_reducible apply post_keeps | with_reducible apply updLp_keeps | (with_reducible apply Keeps.ite))

theorem flagLamp_keeps (a1) (a2) (a3) (a4) (a5) {s} (h : Keeps s0 s) : Keeps s0 (flagLamp a1 a2 a3 a4 a5 s) := by
  unfold flagLamp
  repeat' (first | with_reducible assumption | ((try lift_lets -underBinder); intro _) | with_reducible apply post_keeps | with_reducible apply updLp_keeps | with_reducible apply suspectCheck_keeps | (with_reducible apply Keeps.ite))

theorem openTest_keeps (a1) (a2) {s} (a4) (h : Keeps s0 s) : Keeps s0 (openTest a1 a2 s a4) := by
  unfold openTest
  repeat' (first | with_reducible assumption | ((try lift_lets -underBinder); intro _) | with_reducible apply updLp_keeps | with_reducible apply flagLamp_keeps | (with_reducible apply Keeps.ite))

theorem shortTest_keeps (a1) (a2) (a3) (a4) {s} (h : Keeps s0 s) : Keeps s0 (shortTest a1 a2 a3 a4 s) := by
  unfold shortTest
  repeat' (first | with_reducible assumption | ((try lift_lets -underBinder); intro x; refine Keeps.cut (s := s0) (x := x) ?_ (fun _ => ?_); (on_goal 2 => (try clear_value x)); (on_goal 1 => unfold x)) | ((try lift_lets -underBinder); intro _) | with_reducible apply fieldSample_keeps | with_reducible apply updLp_keeps | with_reducible apply flagLamp_keeps | (with_reducible apply Keeps.ite))

theorem senseSlot_keeps (a1) (a2) {s} (h : Keeps s0 s) : Keeps s0 (senseSlot a1 a2 s) := by
  unfold senseSlot
  repeat' (first | with_reducible assumption | ((try lift_lets -underBinder); intro _) | with_reducible apply updLp_keeps | (with_reducible refine Keeps.foldl _ (fun _ _ _ => ?_) _ ?_) | (with_reducible apply Keeps.ite) | split)

theorem convertSamples_keeps {s} (h : Keeps s0 s) : Keeps s0 (convertSamples s) := by
  unfold convertSamples
  repeat' (first | with_reducible assumption | with_reducible apply shortTest_keeps | with_reducible apply updLp_keeps | (with_reducible refine Keeps.foldl _ (fun _ _ _ => ?_) _ ?_))

theorem startFades_keeps (a1) (a2) {s} (h : Keeps s0 s) : Keeps s0 (startFades a1 a2 s) := by
  unfold startFades
  repeat' (first | with_reducible assumption | ((try lift_lets -underBinder); intro _) | with_reducible apply updLp_keeps)

theorem stepFade_keeps (a1) {s} (h : Keeps s0 s) : Keeps s0 (stepFade a1 s) := by
  unfold stepFade
  repeat' (first | with_reducible assumption | ((try lift_lets -underBinder); intro _) | with_reducible apply updLp_keeps | split)

theorem takeSettings_keeps (a1) {s} (h : Keeps s0 s) : Keeps s0 (takeSettings a1 s) := by
  unfold takeSettings
  repeat' (first | with_reducible assumption | ((try lift_lets -underBinder); intro x; refine Keeps.cut (s := s0) (x := x) ?_ (fun _ => ?_); (on_goal 2 => (try clear_value x)); (on_goal 1 => unfold x)) | ((try lift_lets -underBinder); intro _) | with_reducible apply updLp_keeps | with_reducible apply post_keeps | (with_reducible apply Keeps.ite))

theorem refreshAt_keeps (a1) (a2) {s} (h : Keeps s0 s) : Keeps s0 (refreshAt a1 a2 s) := by
  unfold refreshAt
  repeat' (first | with_reducible assumption | ((try lift_lets -underBinder); intro x; refine Keeps.cut (s := s0) (x := x) ?_ (fun _ => ?_); (on_goal 2 => (try clear_value x)); (on_goal 1 => unfold x)) | ((try lift_lets -underBinder); intro _) | with_reducible apply noteDetect_keeps | with_reducible apply relight_keeps | with_reducible apply takeSettings_keeps | with_reducible apply stepFade_keeps | with_reducible apply startFades_keeps | (with_reducible apply Keeps.ite) | split | (fail_if_no_progress refine Keeps.upd ?_ rfl rfl rfl rfl rfl rfl))

theorem execRefresh_keeps (a1) (a2) {s} (h : Keeps s0 s) : Goes s0 (execRefresh a1 a2 s) := by
  unfold execRefresh
  first | refine onPart_keeps _ _ (fun h => ?_) h | refine Goes.next ?_
  try dsimp -zeta only
  repeat' (first | with_reducible assumption | with_reducible apply refreshAt_keeps)

theorem landingRead_keeps (a1) (a2) (a3) {s} (h : Keeps s0 s) : Keeps s0 (landingRead a1 a2 a3 s) := by
  unfold landingRead
  repeat' (first | with_reducible assumption | ((try lift_lets -underBinder); intro x; refine Keeps.cut (s := s0) (x := x) ?_ (fun _ => ?_); (on_goal 2 => (try clear_value x)); (on_goal 1 => unfold x)) | with_reducible apply predictSlot_keeps | with_reducible apply readSlot_keeps | with_reducible apply updLp_keeps)

theorem rowAt_keeps (a1) (a2) (a3) (a4) {s} (h : Keeps s0 s) : Keeps s0 (rowAt a1 a2 a3 a4 s) := by
  unfold rowAt
  repeat' (first | with_reducible assumption | ((try lift_lets -underBinder); intro x; refine Keeps.cut (s := s0) (x := x) ?_ (fun _ => ?_); (on_goal 2 => (try clear_value x)); (on_goal 1 => unfold x)) | ((try lift_lets -underBinder); intro _) | with_reducible apply noteDetect_keeps | with_reducible apply measureSlot_keeps | with_reducible apply convertSamples_keeps | with_reducible apply updLp_keeps | with_reducible apply senseSlot_keeps | with_reducible apply openTest_keeps | with_reducible apply landingRead_keeps | (with_reducible refine Keeps.foldl _ (fun _ _ _ => ?_) _ ?_) | (with_reducible apply Keeps.ite) | split | (fail_if_no_progress refine Keeps.upd ?_ rfl rfl rfl rfl rfl rfl))

theorem execRow_keeps (a1) (a2) (a3) (a4) {s} (h : Keeps s0 s) : Goes s0 (execRow a1 a2 a3 a4 s) := by
  unfold execRow
  first | refine onPart_keeps _ _ (fun h => ?_) h | refine Goes.next ?_
  try dsimp -zeta only
  repeat' (first | with_reducible assumption | with_reducible apply rowAt_keeps)

theorem lpEnable_keeps (a1) {s} (h : Keeps s0 s) : Keeps s0 (lpEnable a1 s) := by
  unfold lpEnable
  repeat' (first | with_reducible assumption | ((try lift_lets -underBinder); intro x; refine Keeps.cut (s := s0) (x := x) ?_ (fun _ => ?_); (on_goal 2 => (try clear_value x)); (on_goal 1 => unfold x)) | with_reducible apply updLp_keeps | with_reducible apply undark_keeps | with_reducible apply darken_keeps | (with_reducible apply Keeps.ite))

theorem lpCtlWrite_keeps (a1) {s} (h : Keeps s0 s) : Keeps s0 (lpCtlWrite a1 s) := by
  unfold lpCtlWrite
  repeat' (first | with_reducible assumption | with_reducible apply lpEnable_keeps | with_reducible apply updLp_keeps)

theorem execLpCtlEnWrite_keeps (a1) {s} (h : Keeps s0 s) : Goes s0 (execLpCtlEnWrite a1 s) := by
  unfold execLpCtlEnWrite
  first | refine onPart_keeps _ _ (fun h => ?_) h | refine Goes.next ?_
  try dsimp -zeta only
  repeat' (first | with_reducible assumption | with_reducible apply lpCtlWrite_keeps)

theorem ownBlackout_keeps (a1) {s} (h : Keeps s0 s) : Keeps s0 (ownBlackout a1 s) := by
  unfold ownBlackout
  repeat' (first | with_reducible assumption | ((try lift_lets -underBinder); intro x; refine Keeps.cut (s := s0) (x := x) ?_ (fun _ => ?_); (on_goal 2 => (try clear_value x)); (on_goal 1 => unfold x)) | ((try lift_lets -underBinder); intro _) | with_reducible apply darken_keeps | with_reducible apply undark_keeps | with_reducible apply post_keeps | (with_reducible apply Keeps.ite))

theorem tilePinChange_keeps (a1) {s} (h : Keeps s0 s) : Keeps s0 (tilePinChange a1 s) := by
  unfold tilePinChange
  repeat' (first | with_reducible assumption | ((try lift_lets -underBinder); intro x; refine Keeps.cut (s := s0) (x := x) ?_ (fun _ => ?_); (on_goal 2 => (try clear_value x)); (on_goal 1 => unfold x)) | ((try lift_lets -underBinder); intro _) | with_reducible apply updLp_keeps | with_reducible apply post_keeps | with_reducible apply ownBlackout_keeps | (with_reducible apply Keeps.ite))

theorem postChatter_keeps {s} (h : Keeps s0 s) : Keeps s0 (postChatter s) := by
  unfold postChatter
  repeat' (first | with_reducible assumption | with_reducible apply post_keeps | (with_reducible apply Keeps.ite))

theorem headPinChange_keeps (a1) {s} (h : Keeps s0 s) : Keeps s0 (headPinChange a1 s) := by
  unfold headPinChange
  repeat' (first | with_reducible assumption | ((try lift_lets -underBinder); intro x; refine Keeps.cut (s := s0) (x := x) ?_ (fun _ => ?_); (on_goal 2 => (try clear_value x)); (on_goal 1 => unfold x)) | ((try lift_lets -underBinder); intro _) | with_reducible apply updPp_keeps | with_reducible apply noteBlackout_keeps | with_reducible apply postChatter_keeps | (with_reducible apply Keeps.ite))

theorem execBlackoutNChange_keeps (a1) (a2) {s} (h : Keeps s0 s) : Goes s0 (execBlackoutNChange a1 a2 s) := by
  unfold execBlackoutNChange
  first | refine onPart_keeps _ _ (fun h => ?_) h | refine Goes.next ?_
  try dsimp -zeta only
  repeat' (first | with_reducible assumption | with_reducible apply headPinChange_keeps | with_reducible apply tilePinChange_keeps | (with_reducible apply Keeps.ite) | split)

theorem execChatterClear_keeps (a1) {s} (h : Keeps s0 s) : Goes s0 (execChatterClear a1 s) := by
  unfold execChatterClear
  first | refine onPart_keeps _ _ (fun h => ?_) h | refine Goes.next ?_
  try dsimp -zeta only
  repeat' (first | with_reducible assumption | ((try lift_lets -underBinder); intro _) | with_reducible apply postChatter_keeps | with_reducible apply updPp_keeps | with_reducible apply ownBlackout_keeps | with_reducible apply post_keeps | with_reducible apply updLp_keeps | (with_reducible apply Keeps.ite) | split)

theorem headBlackout_keeps {s} (h : Keeps s0 s) : Keeps s0 (headBlackout s) := by
  unfold headBlackout
  repeat' (first | with_reducible assumption | with_reducible apply darken_keeps | with_reducible apply undark_keeps | (with_reducible apply Keeps.ite))

theorem execBlackoutBlockReceived_keeps (a1) (a2) (a3) {s} (h : Keeps s0 s) : Goes s0 (execBlackoutBlockReceived a1 a2 a3 s) := by
  unfold execBlackoutBlockReceived
  first | refine onPart_keeps _ _ (fun h => ?_) h | refine Goes.next ?_
  try dsimp -zeta only
  repeat' (first | with_reducible assumption | ((try lift_lets -underBinder); intro x; refine Keeps.cut (s := s0) (x := x) ?_ (fun _ => ?_); (on_goal 2 => (try clear_value x)); (on_goal 1 => unfold x)) | ((try lift_lets -underBinder); intro _) | with_reducible apply timeSend_keeps | with_reducible apply timeTaken_keeps | with_reducible apply headBlackout_keeps | with_reducible apply updLp_keeps)

theorem execHeadBlackoutReleaseTimeout_keeps (a1) {s} (h : Keeps s0 s) : Goes s0 (execHeadBlackoutReleaseTimeout a1 s) := by
  unfold execHeadBlackoutReleaseTimeout
  first | refine onPart_keeps _ _ (fun h => ?_) h | refine Goes.next ?_
  try dsimp -zeta only
  repeat' (first | with_reducible assumption | ((try lift_lets -underBinder); intro _) | with_reducible apply headBlackout_keeps | with_reducible apply updLp_keeps | (with_reducible apply Keeps.ite))

theorem okTarget_keeps (a1) (a2) (a3) {s} (h : Keeps s0 s) : Keeps s0 (okTarget a1 a2 a3 s) := by
  unfold okTarget
  repeat' (first | with_reducible assumption | with_reducible apply okFrame_keeps | with_reducible apply ok_keeps | split)

theorem specLpGetStatus_keeps (c) {s} (h : Keeps s0 s) : Keeps s0 (specLpGetStatus.run c s) := by
  unfold specLpGetStatus; dsimp -zeta only
  repeat' (first | with_reducible assumption | with_reducible apply ok_keeps)

theorem execLpGetStatus_keeps (a1) {s} (h : Keeps s0 s) : Goes s0 (execLpGetStatus a1 s) := runCmd_keeps specLpGetStatus a1 (fun c _ h => specLpGetStatus_keeps c h) h

theorem specLpSetCurrent_keeps (c) {s} (h : Keeps s0 s) : Keeps s0 (specLpSetCurrent.run c s) := by
  unfold specLpSetCurrent; dsimp -zeta only
  repeat' (first | with_reducible assumption | ((try lift_lets -underBinder); intro x; refine Keeps.cut (s := s0) (x := x) ?_ (fun _ => ?_); (on_goal 2 => (try clear_value x)); (on_goal 1 => unfold x)) | ((try lift_lets -underBinder); intro _) | with_reducible apply updLp_keeps | with_reducible apply okTarget_keeps | (clear_value *; split))

theorem execLpSetCurrent_keeps (a1) {s} (h : Keeps s0 s) : Goes s0 (execLpSetCurrent a1 s) := runCmd_keeps specLpSetCurrent a1 (fun c _ h => specLpSetCurrent_keeps c h) h

theorem specLpSetTrim_keeps (c) {s} (h : Keeps s0 s) : Keeps s0 (specLpSetTrim.run c s) := by
  unfold specLpSetTrim; dsimp -zeta only
  repeat' (first | with_reducible assumption | ((try lift_lets -underBinder); intro x; refine Keeps.cut (s := s0) (x := x) ?_ (fun _ => ?_); (on_goal 2 => (try clear_value x)); (on_goal 1 => unfold x)) | ((try lift_lets -underBinder); intro _) | with_reducible apply updLp_keeps | with_reducible apply ok_keeps | with_reducible apply storeWrite_keeps | (with_reducible apply Keeps.ite))

theorem execLpSetTrim_keeps (a1) {s} (h : Keeps s0 s) : Goes s0 (execLpSetTrim a1 s) := runCmd_keeps specLpSetTrim a1 (fun c _ h => specLpSetTrim_keeps c h) h

theorem fillTrims_keeps {s} (h : Keeps s0 s) : Keeps s0 (fillTrims s) := by
  unfold fillTrims
  repeat' (first | with_reducible assumption | ((try lift_lets -underBinder); intro _) | with_reducible apply updLp_keeps)

theorem specLpGetTrim_keeps (c) {s} (h : Keeps s0 s) : Keeps s0 (specLpGetTrim.run c s) := by
  unfold specLpGetTrim; dsimp -zeta only
  repeat' (first | with_reducible assumption | ((try lift_lets -underBinder); intro _) | with_reducible apply ok_keeps)

theorem execLpGetTrim_keeps (a1) {s} (h : Keeps s0 s) : Goes s0 (execLpGetTrim a1 s) := runCmd_keeps specLpGetTrim a1 (fun c _ h => specLpGetTrim_keeps c h) h

theorem specLpFade_keeps (c) {s} (h : Keeps s0 s) : Keeps s0 (specLpFade.run c s) := by
  unfold specLpFade; dsimp -zeta only
  repeat' (first | with_reducible assumption | ((try lift_lets -underBinder); intro x; refine Keeps.cut (s := s0) (x := x) ?_ (fun _ => ?_); (on_goal 2 => (try clear_value x)); (on_goal 1 => unfold x)) | ((try lift_lets -underBinder); intro _) | with_reducible apply updLp_keeps | with_reducible apply okTarget_keeps | with_reducible apply stepFade_keeps | with_reducible apply startFades_keeps | (with_reducible apply Keeps.ite))

theorem execLpFade_keeps (a1) {s} (h : Keeps s0 s) : Goes s0 (execLpFade a1 s) := runCmd_keeps specLpFade a1 (fun c _ h => specLpFade_keeps c h) h

theorem specLpSetWaveform_keeps (c) {s} (h : Keeps s0 s) : Keeps s0 (specLpSetWaveform.run c s) := by
  unfold specLpSetWaveform; dsimp -zeta only
  repeat' (first | with_reducible assumption | ((try lift_lets -underBinder); intro _) | with_reducible apply ok_keeps | with_reducible apply updLp_keeps)

theorem execLpSetWaveform_keeps (a1) {s} (h : Keeps s0 s) : Goes s0 (execLpSetWaveform a1 s) := runCmd_keeps specLpSetWaveform a1 (fun c _ h => specLpSetWaveform_keeps c h) h

theorem specLpSetScan_keeps (c) {s} (h : Keeps s0 s) : Keeps s0 (specLpSetScan.run c s) := by
  unfold specLpSetScan; dsimp -zeta only
  repeat' (first | with_reducible assumption | ((try lift_lets -underBinder); intro _) | with_reducible apply ok_keeps | with_reducible apply updLp_keeps)

theorem execLpSetScan_keeps (a1) {s} (h : Keeps s0 s) : Goes s0 (execLpSetScan a1 s) := runCmd_keeps specLpSetScan a1 (fun c _ h => specLpSetScan_keeps c h) h

theorem specLpGetDead_keeps (c) {s} (h : Keeps s0 s) : Keeps s0 (specLpGetDead.run c s) := by
  unfold specLpGetDead; dsimp -zeta only
  repeat' (first | with_reducible assumption | ((try lift_lets -underBinder); intro _) | with_reducible apply ok_keeps)

theorem execLpGetDead_keeps (a1) {s} (h : Keeps s0 s) : Goes s0 (execLpGetDead a1 s) := runCmd_keeps specLpGetDead a1 (fun c _ h => specLpGetDead_keeps c h) h

theorem clearDead_keeps {s} (h : Keeps s0 s) : Keeps s0 (clearDead s) := by
  unfold clearDead
  repeat' (first | with_reducible assumption | with_reducible apply updLp_keeps)

theorem specLpClearDead_keeps (c) {s} (h : Keeps s0 s) : Keeps s0 (specLpClearDead.run c s) := by
  unfold specLpClearDead; dsimp -zeta only
  repeat' (first | with_reducible assumption | with_reducible apply ok_keeps | with_reducible apply clearDead_keeps)

theorem execLpClearDead_keeps (a1) {s} (h : Keeps s0 s) : Goes s0 (execLpClearDead a1 s) := runCmd_keeps specLpClearDead a1 (fun c _ h => specLpClearDead_keeps c h) h

theorem specLpSetDetect_keeps (c) {s} (h : Keeps s0 s) : Keeps s0 (specLpSetDetect.run c s) := by
  unfold specLpSetDetect; dsimp -zeta only
  repeat' (first | with_reducible assumption | ((try lift_lets -underBinder); intro _) | with_reducible apply ok_keeps | with_reducible apply updLp_keeps)

theorem execLpSetDetect_keeps (a1) {s} (h : Keeps s0 s) : Goes s0 (execLpSetDetect a1 s) := runCmd_keeps specLpSetDetect a1 (fun c _ h => specLpSetDetect_keeps c h) h

theorem lampFlip_keeps {s} (h : Keeps s0 s) : Keeps s0 (lampFlip s) := by
  unfold lampFlip
  repeat' (first | with_reducible assumption | with_reducible apply updLp_keeps)

theorem lampStop_keeps (a1) (a2) {s} (h : Keeps s0 s) : Keeps s0 (lampStop a1 a2 s) := by
  unfold lampStop
  repeat' (first | with_reducible assumption | ((try lift_lets -underBinder); intro x; refine Keeps.cut (s := s0) (x := x) ?_ (fun _ => ?_); (on_goal 2 => (try clear_value x)); (on_goal 1 => unfold x)) | with_reducible apply stepFade_keeps | with_reducible apply startFades_keeps | with_reducible apply updLp_keeps)

theorem lpTrimWrite_keeps (a1) (a2) {s} (h : Keeps s0 s) : Keeps s0 (lpTrimWrite a1 a2 s) := by
  unfold lpTrimWrite
  repeat' (first | with_reducible assumption | with_reducible apply updLp_keeps)

theorem lpWaveWrite_keeps (a1) (a2) (a3) {s} (h : Keeps s0 s) : Keeps s0 (lpWaveWrite a1 a2 a3 s) := by
  unfold lpWaveWrite
  repeat' (first | with_reducible assumption | ((try lift_lets -underBinder); intro _) | with_reducible apply updLp_keeps)

end Sys2Proof.Laws
end

