-- ==== Sys2Proof/Laws/KeepsDwOps.lean ====
section
/-!
SUPPORT. The operations and commands of Machine/DwOps.lean keep what `Keeps` names.
-/
set_option linter.unusedTactic false
set_option linter.unreachableTactic false
set_option linter.unusedVariables false
namespace Sys2Proof.Laws

open Sys2Proof.Machine

variable {s0 : State}

theorem updDw_keeps (a1) (a2) {s} (h : Keeps s0 s) : Keeps s0 (updDw a1 a2 s) := by
  unfold updDw
  repeat' (first | with_reducible assumption | ((try lift_lets -underBinder); intro _) | split | (fail_if_no_progress refine Keeps.upd ?_ rfl rfl rfl rfl rfl rfl))

theorem updChan_keeps (a1) (a2) (a3) {s} (h : Keeps s0 s) : Keeps s0 (updChan a1 a2 a3 s) := by
  unfold updChan
  repeat' (first | with_reducible assumption | with_reducible apply updDw_keeps)

theorem localWrite_keeps : ∀ (a : Nat) (l : List Byte) {s : State}, Keeps s0 s → Keeps s0 (localWrite a l s)
  | _, [], _, h => h
  | a, b :: r, _, h =>
    localWrite_keeps (a + 1) r
      (Keeps.ite (h.trans ⟨id, fun h => memPut_wf a b h, id, id, rfl, rfl, Nat.le_refl _⟩) h)

theorem cellarPut_keeps (a1) (a2) {s} (h : Keeps s0 s) : Keeps s0 (cellarPut a1 a2 s) := by
  unfold cellarPut
  repeat' (first | with_reducible assumption | with_reducible apply submitWrite_keeps)

theorem fetchBytes_keeps (a1) (a2) (a3) (a4) (a5) {s} (h : Keeps s0 s) : Keeps s0 (fetchBytes a1 a2 a3 a4 a5 s).2 := by
  unfold fetchBytes
  repeat' (first | with_reducible assumption | ((try lift_lets -underBinder); intro _) | with_reducible apply emit_keeps | with_reducible apply clRead_keeps | split)

theorem putBytes_keeps (a1) (a2) (a3) (a4) {s} (h : Keeps s0 s) : Keeps s0 (putBytes a1 a2 a3 a4 s) := by
  unfold putBytes
  repeat' (first | with_reducible assumption | with_reducible apply localWrite_keeps | with_reducible apply emit_keeps | with_reducible apply cellarPut_keeps | (with_reducible apply Keeps.ite) | split)

theorem readEntry_keeps (a1) (a2) (a3) {s} (h : Keeps s0 s) : Keeps s0 (readEntry a1 a2 a3 s).2 := by
  unfold readEntry
  repeat' (first | with_reducible assumption | ((try lift_lets -underBinder); intro _) | with_reducible apply fetchBytes_keeps | split)

theorem signalChan_keeps (a1) (a2) {s} (h : Keeps s0 s) : Keeps s0 (signalChan a1 a2 s) := by
  unfold signalChan
  repeat' (first | with_reducible assumption | with_reducible apply emit_keeps | split)

theorem answerWaits_keeps (a1) (a2) (a3) (a4) {s} (h : Keeps s0 s) : Keeps s0 (answerWaits a1 a2 a3 a4 s) := by
  unfold answerWaits
  repeat' (first | with_reducible assumption | ((try lift_lets -underBinder); intro _) | with_reducible apply ok_keeps | with_reducible apply failed_keeps | with_reducible apply updChan_keeps | (with_reducible refine Keeps.foldl _ (fun _ _ _ => ?_) _ ?_) | (with_reducible apply Keeps.ite))

theorem enterError_keeps (a1) (a2) (a3) (a4) {s} (h : Keeps s0 s) : Keeps s0 (enterError a1 a2 a3 a4 s) := by
  unfold enterError
  repeat' (first | with_reducible assumption | ((try lift_lets -underBinder); intro x; refine Keeps.cut (s := s0) (x := x) ?_ (fun _ => ?_); (on_goal 2 => (try clear_value x)); (on_goal 1 => unfold x)) | with_reducible apply updChan_keeps | with_reducible apply post_keeps | with_reducible apply signalChan_keeps | with_reducible apply answerWaits_keeps | (with_reducible apply Keeps.ite))

theorem noteBad_keeps (a1) (a2) (a3) {s} (h : Keeps s0 s) : Keeps s0 (noteBad a1 a2 a3 s) := by
  unfold noteBad
  repeat' (first | with_reducible assumption | ((try lift_lets -underBinder); intro x; refine Keeps.cut (s := s0) (x := x) ?_ (fun _ => ?_); (on_goal 2 => (try clear_value x)); (on_goal 1 => unfold x)) | with_reducible apply updChan_keeps | with_reducible apply post_keeps | (with_reducible apply Keeps.ite))

theorem writeBack_keeps (a1) (a2) (a3) {s} (h : Keeps s0 s) : Keeps s0 (writeBack a1 a2 a3 s) := by
  unfold writeBack
  repeat' (first | with_reducible assumption | ((try lift_lets -underBinder); intro x; refine Keeps.cut (s := s0) (x := x) ?_ (fun _ => ?_); (on_goal 2 => (try clear_value x)); (on_goal 1 => unfold x)) | ((try lift_lets -underBinder); intro _) | with_reducible apply putBytes_keeps | with_reducible apply updChan_keeps | with_reducible apply signalFence_keeps | with_reducible apply post_keeps | with_reducible apply noteBad_keeps | with_reducible apply signalChan_keeps | (with_reducible apply Keeps.ite))

theorem endRuns_keeps (p ch) : ∀ (n : Nat) {s : State}, Keeps s0 s → Keeps s0 (endRuns p ch n s)
  | 0, _, h => h
  | n + 1, s, h => by
    unfold endRuns
    split
    · exact Keeps.ite (endRuns_keeps p ch n (writeBack_keeps p ch _ h)) h
    · exact h

theorem enterStopped_keeps (a1) (a2) {s} (h : Keeps s0 s) : Keeps s0 (enterStopped a1 a2 s) := by
  unfold enterStopped
  repeat' (first | with_reducible assumption | with_reducible apply answerWaits_keeps | with_reducible apply updChan_keeps)

theorem takeReload_keeps (a1) (a2) (a3) {s} (h : Keeps s0 s) : Keeps s0 (takeReload a1 a2 a3 s) := by
  unfold takeReload
  repeat' (first | with_reducible assumption | ((try lift_lets -underBinder); intro _) | with_reducible apply readEntry_keeps | with_reducible apply updChan_keeps | with_reducible apply answerWaits_keeps | with_reducible apply enterError_keeps | split)

theorem settle_keeps (a1) (a2) {s} (h : Keeps s0 s) : Keeps s0 (settle a1 a2 s) := by
  unfold settle
  repeat' (first | with_reducible assumption | ((try lift_lets -underBinder); intro x; refine Keeps.cut (s := s0) (x := x) ?_ (fun _ => ?_); (on_goal 2 => (try clear_value x)); (on_goal 1 => unfold x)) | ((try lift_lets -underBinder); intro _) | with_reducible apply endRuns_keeps | with_reducible apply enterError_keeps | with_reducible apply takeReload_keeps | with_reducible apply enterStopped_keeps | (with_reducible apply Keeps.ite) | split)

theorem startChan_keeps (a1) (a2) (a3) (a4) {s} (h : Keeps s0 s) : Keeps s0 (startChan a1 a2 a3 a4 s) := by
  unfold startChan
  repeat' (first | with_reducible assumption | ((try lift_lets -underBinder); intro x; refine Keeps.cut (s := s0) (x := x) ?_ (fun _ => ?_); (on_goal 2 => (try clear_value x)); (on_goal 1 => unfold x)) | ((try lift_lets -underBinder); intro _) | with_reducible apply updChan_keeps | with_reducible apply readEntry_keeps | with_reducible apply enterError_keeps | (with_reducible apply Keeps.ite) | split)

theorem stopChan_keeps (a1) (a2) {s} (h : Keeps s0 s) : Keeps s0 (stopChan a1 a2 s) := by
  unfold stopChan
  repeat' (first | with_reducible assumption | with_reducible apply settle_keeps | with_reducible apply updChan_keeps | (with_reducible apply Keeps.ite))

theorem abortChan_keeps (a1) (a2) {s} (h : Keeps s0 s) : Keeps s0 (abortChan a1 a2 s) := by
  unfold abortChan
  repeat' (first | with_reducible assumption | ((try lift_lets -underBinder); intro _) | with_reducible apply settle_keeps | with_reducible apply updChan_keeps | (with_reducible apply Keeps.ite))

theorem reloadChan_keeps (a1) (a2) (a3) {s} (h : Keeps s0 s) : Keeps s0 (reloadChan a1 a2 a3 s) := by
  unfold reloadChan
  repeat' (first | with_reducible assumption | with_reducible apply settle_keeps | with_reducible apply updChan_keeps | (with_reducible apply Keeps.ite))

theorem failChan_keeps (a1) (a2) (a3) (a4) {s} (h : Keeps s0 s) : Keeps s0 (failChan a1 a2 a3 a4 s) := by
  unfold failChan
  repeat' (first | with_reducible assumption | with_reducible apply settle_keeps | with_reducible apply updChan_keeps)

theorem dwTail_keeps (a1) (a2) (a3) {s} (h : Keeps s0 s) : Keeps s0 (dwTail a1 a2 a3 s) := by
  unfold dwTail
  repeat' (first | with_reducible assumption | ((try lift_lets -underBinder); intro _) | with_reducible apply failChan_keeps | with_reducible apply updChan_keeps | (with_reducible apply Keeps.ite))

theorem execDwChTail_keeps (a1) (a2) (a3) {s} (h : Keeps s0 s) : Goes s0 (execDwChTail a1 a2 a3 s) := by
  unfold execDwChTail
  first | refine onPart_keeps _ _ (fun h => ?_) h | refine Goes.next ?_
  try dsimp -zeta only
  repeat' (first | with_reducible assumption | with_reducible apply dwTail_keeps | (with_reducible apply Keeps.ite))

theorem execDwChCtlStart_keeps (a1) (a2) (a3) (a4) {s} (h : Keeps s0 s) : Goes s0 (execDwChCtlStart a1 a2 a3 a4 s) := by
  unfold execDwChCtlStart
  first | refine onPart_keeps _ _ (fun h => ?_) h | refine Goes.next ?_
  try dsimp -zeta only
  repeat' (first | with_reducible assumption | with_reducible apply startChan_keeps | (with_reducible apply Keeps.ite))

theorem execDwChCtlStop_keeps (a1) (a2) {s} (h : Keeps s0 s) : Goes s0 (execDwChCtlStop a1 a2 s) := by
  unfold execDwChCtlStop
  first | refine onPart_keeps _ _ (fun h => ?_) h | refine Goes.next ?_
  try dsimp -zeta only
  repeat' (first | with_reducible assumption | with_reducible apply stopChan_keeps | (with_reducible apply Keeps.ite))

theorem execDwChCtlAbort_keeps (a1) (a2) {s} (h : Keeps s0 s) : Goes s0 (execDwChCtlAbort a1 a2 s) := by
  unfold execDwChCtlAbort
  first | refine onPart_keeps _ _ (fun h => ?_) h | refine Goes.next ?_
  try dsimp -zeta only
  repeat' (first | with_reducible assumption | with_reducible apply abortChan_keeps | (with_reducible apply Keeps.ite))

theorem execDwChCtlReload_keeps (a1) (a2) (a3) {s} (h : Keeps s0 s) : Goes s0 (execDwChCtlReload a1 a2 a3 s) := by
  unfold execDwChCtlReload
  first | refine onPart_keeps _ _ (fun h => ?_) h | refine Goes.next ?_
  try dsimp -zeta only
  repeat' (first | with_reducible assumption | with_reducible apply reloadChan_keeps | (with_reducible apply Keeps.ite))

theorem dwCtlWrite_keeps (a1) (a2) (a3) {s} (h : Keeps s0 s) : Keeps s0 (dwCtlWrite a1 a2 a3 s) := by
  unfold dwCtlWrite
  repeat' (first | with_reducible assumption | ((try lift_lets -underBinder); intro x; refine Keeps.cut (s := s0) (x := x) ?_ (fun _ => ?_); (on_goal 2 => (try clear_value x)); (on_goal 1 => unfold x)) | ((try lift_lets -underBinder); intro _) | with_reducible apply draw_keeps | with_reducible apply startChan_keeps | with_reducible apply stopChan_keeps | with_reducible apply abortChan_keeps | with_reducible apply reloadChan_keeps | (with_reducible apply Keeps.ite))

theorem specDwSetTable_keeps (c) {s} (h : Keeps s0 s) : Keeps s0 (specDwSetTable.run c s) := by
  unfold specDwSetTable; dsimp -zeta only
  repeat' (first | with_reducible assumption | with_reducible apply ok_keeps | with_reducible apply updDw_keeps)

theorem execDwSetTable_keeps (a1) {s} (h : Keeps s0 s) : Goes s0 (execDwSetTable a1 s) := runCmd_keeps specDwSetTable a1 (fun c _ h => specDwSetTable_keeps c h) h

theorem specDwChannelStart_keeps (x) (c) {s} (h : Keeps s0 s) : Keeps s0 ((specDwChannelStart x).run c s) := by
  unfold specDwChannelStart; dsimp -zeta only
  repeat' (first | with_reducible assumption | ((try lift_lets -underBinder); intro x; refine Keeps.cut (s := s0) (x := x) ?_ (fun _ => ?_); (on_goal 2 => (try clear_value x)); (on_goal 1 => unfold x)) | ((try lift_lets -underBinder); intro _) | with_reducible apply startChan_keeps | with_reducible apply failed_keeps | with_reducible apply ok_keeps | (with_reducible apply Keeps.ite))

theorem execDwChannelStart_keeps (a1) (a2) {s} (h : Keeps s0 s) : Goes s0 (execDwChannelStart a1 a2 s) := runCmd_keeps (specDwChannelStart a2) a1 (fun c _ h => specDwChannelStart_keeps a2 c h) h

theorem waitOn_keeps (a1) (a2) {s} (h : Keeps s0 s) : Keeps s0 (waitOn a1 a2 s) := by
  unfold waitOn
  repeat' (first | with_reducible assumption | with_reducible apply updChan_keeps)

theorem specDwChannelStop_keeps (c) {s} (h : Keeps s0 s) : Keeps s0 (specDwChannelStop.run c s) := by
  unfold specDwChannelStop; dsimp -zeta only
  repeat' (first | with_reducible assumption | ((try lift_lets -underBinder); intro _) | with_reducible apply ok_keeps | with_reducible apply stopChan_keeps | with_reducible apply waitOn_keeps | (with_reducible apply Keeps.ite))

theorem execDwChannelStop_keeps (a1) {s} (h : Keeps s0 s) : Goes s0 (execDwChannelStop a1 s) := runCmd_keeps specDwChannelStop a1 (fun c _ h => specDwChannelStop_keeps c h) h

theorem specDwChannelAbort_keeps (c) {s} (h : Keeps s0 s) : Keeps s0 (specDwChannelAbort.run c s) := by
  unfold specDwChannelAbort; dsimp -zeta only
  repeat' (first | with_reducible assumption | ((try lift_lets -underBinder); intro _) | with_reducible apply ok_keeps | with_reducible apply abortChan_keeps | with_reducible apply waitOn_keeps | (with_reducible apply Keeps.ite))

theorem execDwChannelAbort_keeps (a1) {s} (h : Keeps s0 s) : Goes s0 (execDwChannelAbort a1 s) := runCmd_keeps specDwChannelAbort a1 (fun c _ h => specDwChannelAbort_keeps c h) h

theorem specDwChannelReload_keeps (x) (c) {s} (h : Keeps s0 s) : Keeps s0 ((specDwChannelReload x).run c s) := by
  unfold specDwChannelReload; dsimp -zeta only
  repeat' (first | with_reducible assumption | with_reducible apply reloadChan_keeps | with_reducible apply waitOn_keeps)

theorem execDwChannelReload_keeps (a1) (a2) {s} (h : Keeps s0 s) : Goes s0 (execDwChannelReload a1 a2 s) := runCmd_keeps (specDwChannelReload a2) a1 (fun c _ h => specDwChannelReload_keeps a2 c h) h

theorem specDwGetChannel_keeps (c) {s} (h : Keeps s0 s) : Keeps s0 (specDwGetChannel.run c s) := by
  unfold specDwGetChannel; dsimp -zeta only
  repeat' (first | with_reducible assumption | ((try lift_lets -underBinder); intro _) | with_reducible apply ok_keeps)

theorem execDwGetChannel_keeps (a1) {s} (h : Keeps s0 s) : Goes s0 (execDwGetChannel a1 s) := runCmd_keeps specDwGetChannel a1 (fun c _ h => specDwGetChannel_keeps c h) h

end Sys2Proof.Laws
end

