-- ==== Sys2Proof/Laws/KeepsHearth.lean ====
section
/-!
SUPPORT. The operations and commands of Machine/Hearth.lean keep what `Keeps` names.
-/
set_option linter.unusedTactic false
set_option linter.unreachableTactic false
set_option linter.unusedVariables false
namespace Sys2Proof.Laws

open Sys2Proof.Machine

variable {s0 : State}

theorem updHt_keeps (a1) {s} (h : Keeps s0 s) : Keeps s0 (updHt a1 s) :=
  Keeps.upd h rfl rfl rfl rfl rfl rfl

theorem updRail_keeps (a1) (a2) {s} (h : Keeps s0 s) : Keeps s0 (updRail a1 a2 s) := by
  unfold updRail
  repeat' (first | with_reducible assumption | with_reducible apply updHt_keeps)

theorem noteFault_keeps (a1) (a2) {s} (h : Keeps s0 s) : Keeps s0 (noteFault a1 a2 s) := by
  unfold noteFault
  repeat' (first | with_reducible assumption | ((try lift_lets -underBinder); intro _) | with_reducible apply post_keeps | with_reducible apply updHt_keeps | with_reducible apply updRail_keeps)

theorem railDark_keeps {s} (h : Keeps s0 s) : Keeps s0 (railDark s) := by
  unfold railDark
  repeat' (first | with_reducible assumption | with_reducible apply updHt_keeps | with_reducible apply darken_keeps | (with_reducible apply Keeps.ite))

theorem coreFault_keeps (a1) {s} (h : Keeps s0 s) : Keeps s0 (coreFault a1 s) := by
  unfold coreFault
  repeat' (first | with_reducible assumption | ((try lift_lets -underBinder); intro x; refine Keeps.cut (s := s0) (x := x) ?_ (fun _ => ?_); (on_goal 2 => (try clear_value x)); (on_goal 1 => unfold x)) | ((try lift_lets -underBinder); intro _) | with_reducible apply nvStop_keeps | with_reducible apply noteFault_keeps | with_reducible apply updHt_keeps | with_reducible apply darken_keeps | split | (fail_if_no_progress refine Keeps.upd ?_ rfl rfl rfl rfl rfl rfl))

theorem railFault_keeps (a1) (a2) {s} (h : Keeps s0 s) : Keeps s0 (railFault a1 a2 s) := by
  unfold railFault
  repeat' (first | with_reducible assumption | ((try lift_lets -underBinder); intro x; refine Keeps.cut (s := s0) (x := x) ?_ (fun _ => ?_); (on_goal 2 => (try clear_value x)); (on_goal 1 => unfold x)) | ((try lift_lets -underBinder); intro _) | with_reducible apply coreFault_keeps | with_reducible apply noteFault_keeps | with_reducible apply updRail_keeps | with_reducible apply noteDetect_keeps | with_reducible apply railDark_keeps | with_reducible apply post_keeps | (with_reducible apply Keeps.ite))

theorem setEn_keeps (a1) (a2) {s} (h : Keeps s0 s) : Keeps s0 (setEn a1 a2 s) := by
  unfold setEn
  repeat' (first | with_reducible assumption | ((try lift_lets -underBinder); intro x; refine Keeps.cut (s := s0) (x := x) ?_ (fun _ => ?_); (on_goal 2 => (try clear_value x)); (on_goal 1 => unfold x)) | with_reducible apply updRail_keeps | with_reducible apply noteDetect_keeps | with_reducible apply railDark_keeps | (with_reducible apply Keeps.ite))

theorem swapBank_keeps {s} (h : Keeps s0 s) : Keeps s0 (swapBank s) := by
  unfold swapBank
  repeat' (first | with_reducible assumption | ((try lift_lets -underBinder); intro x; refine Keeps.cut (s := s0) (x := x) ?_ (fun _ => ?_); (on_goal 2 => (try clear_value x)); (on_goal 1 => unfold x)) | ((try lift_lets -underBinder); intro _) | with_reducible apply updHt_keeps | with_reducible apply post_keeps | (with_reducible apply Keeps.ite))

theorem followRail_keeps (a1) (a2) {s} (h : Keeps s0 s) : Keeps s0 (followRail a1 a2 s) := by
  unfold followRail
  repeat' (first | with_reducible assumption | ((try lift_lets -underBinder); intro x; refine Keeps.cut (s := s0) (x := x) ?_ (fun _ => ?_); (on_goal 2 => (try clear_value x)); (on_goal 1 => unfold x)) | ((try lift_lets -underBinder); intro _) | with_reducible apply updRail_keeps | with_reducible apply railFault_keeps | with_reducible apply post_keeps | (with_reducible apply Keeps.ite))

theorem dropout_keeps (a1) {s} (h : Keeps s0 s) : Keeps s0 (dropout a1 s) := by
  unfold dropout
  repeat' (first | with_reducible assumption | ((try lift_lets -underBinder); intro x; refine Keeps.cut (s := s0) (x := x) ?_ (fun _ => ?_); (on_goal 2 => (try clear_value x)); (on_goal 1 => unfold x)) | ((try lift_lets -underBinder); intro _) | with_reducible apply updRail_keeps | with_reducible apply post_keeps | (with_reducible apply Keeps.ite))

theorem overload_keeps (a1) {s} (h : Keeps s0 s) : Keeps s0 (overload a1 s) := by
  unfold overload
  repeat' (first | with_reducible assumption | ((try lift_lets -underBinder); intro x; refine Keeps.cut (s := s0) (x := x) ?_ (fun _ => ?_); (on_goal 2 => (try clear_value x)); (on_goal 1 => unfold x)) | ((try lift_lets -underBinder); intro _) | with_reducible apply updHt_keeps | with_reducible apply draw_keeps | with_reducible apply post_keeps | with_reducible apply updRail_keeps | (with_reducible apply Keeps.ite))

theorem sampleRail_keeps (a1) {s} (a3) (h : Keeps s0 s) : Keeps s0 (sampleRail a1 s a3) := by
  unfold sampleRail
  repeat' (first | with_reducible assumption | ((try lift_lets -underBinder); intro x; refine Keeps.cut (s := s0) (x := x) ?_ (fun _ => ?_); (on_goal 2 => (try clear_value x)); (on_goal 1 => unfold x)) | ((try lift_lets -underBinder); intro _) | with_reducible apply updRail_keeps | with_reducible apply followRail_keeps | with_reducible apply overload_keeps | with_reducible apply dropout_keeps | (with_reducible apply Keeps.ite))

theorem hearthSample_keeps (a1) {s} (h : Keeps s0 s) : Keeps s0 (hearthSample a1 s) := by
  unfold hearthSample
  repeat' (first | with_reducible assumption | ((try lift_lets -underBinder); intro x; refine Keeps.cut (s := s0) (x := x) ?_ (fun _ => ?_); (on_goal 2 => (try clear_value x)); (on_goal 1 => unfold x)) | ((try lift_lets -underBinder); intro _) | with_reducible apply updHt_keeps | with_reducible apply sampleRail_keeps | with_reducible apply swapBank_keeps | with_reducible apply noteDetect_keeps | with_reducible apply railDark_keeps | (with_reducible refine Keeps.foldl _ (fun _ _ _ => ?_) _ ?_) | (with_reducible apply Keeps.ite))

theorem execHearthSample_keeps (a1) {s} (h : Keeps s0 s) : Goes s0 (execHearthSample a1 s) := by
  unfold execHearthSample
  first | refine onPart_keeps _ _ (fun h => ?_) h | refine Goes.next ?_
  try dsimp -zeta only
  repeat' (first | with_reducible assumption | with_reducible apply hearthSample_keeps)

theorem noteLate_keeps {s} (h : Keeps s0 s) : Keeps s0 (noteLate s) := by
  unfold noteLate
  repeat' (first | with_reducible assumption | ((try lift_lets -underBinder); intro x; refine Keeps.cut (s := s0) (x := x) ?_ (fun _ => ?_); (on_goal 2 => (try clear_value x)); (on_goal 1 => unfold x)) | with_reducible apply updHt_keeps | with_reducible apply post_keeps | (with_reducible apply Keeps.ite))

theorem hearthAt_keeps (a1) (a2) (a3) (a4) {s} (h : Keeps s0 s) : Keeps s0 (hearthAt a1 a2 a3 a4 s) := by
  unfold hearthAt
  repeat' (first | with_reducible assumption | ((try lift_lets -underBinder); intro x; refine Keeps.cut (s := s0) (x := x) ?_ (fun _ => ?_); (on_goal 2 => (try clear_value x)); (on_goal 1 => unfold x)) | ((try lift_lets -underBinder); intro _) | with_reducible apply updHt_keeps | with_reducible apply noteLate_keeps | (with_reducible apply Keeps.ite) | (fail_if_no_progress refine Keeps.upd ?_ rfl rfl rfl rfl rfl rfl))

theorem execHearth_keeps (a1) (a2) (a3) (a4) {s} (h : Keeps s0 s) : Goes s0 (execHearth a1 a2 a3 a4 s) := by
  unfold execHearth
  first | refine onPart_keeps _ _ (fun h => ?_) h | refine Goes.next ?_
  try dsimp -zeta only
  repeat' (first | with_reducible assumption | with_reducible apply hearthAt_keeps)

theorem execVrefStep_keeps {s} (h : Keeps s0 s) : Goes s0 (execVrefStep s) := by
  unfold execVrefStep
  first | refine onPart_keeps _ _ (fun h => ?_) h | refine Goes.next ?_
  try dsimp -zeta only
  repeat' (first | with_reducible assumption | ((try lift_lets -underBinder); intro _) | with_reducible apply updHt_keeps | (with_reducible apply Keeps.ite))

theorem execIlimHwEvent_keeps (a1) (a2) {s} (h : Keeps s0 s) : Goes s0 (execIlimHwEvent a1 a2 s) := by
  unfold execIlimHwEvent
  first | refine onPart_keeps _ _ (fun h => ?_) h | refine Goes.next ?_
  try dsimp -zeta only
  repeat' (first | with_reducible assumption | ((try lift_lets -underBinder); intro x; refine Keeps.cut (s := s0) (x := x) ?_ (fun _ => ?_); (on_goal 2 => (try clear_value x)); (on_goal 1 => unfold x)) | ((try lift_lets -underBinder); intro _) | with_reducible apply updRail_keeps | with_reducible apply railFault_keeps | (with_reducible apply Keeps.ite))

theorem execOvervoltageFault_keeps (a1) (a2) {s} (h : Keeps s0 s) : Goes s0 (execOvervoltageFault a1 a2 s) := by
  unfold execOvervoltageFault
  first | refine onPart_keeps _ _ (fun h => ?_) h | refine Goes.next ?_
  try dsimp -zeta only
  repeat' (first | with_reducible assumption | with_reducible apply railFault_keeps | with_reducible apply updRail_keeps | (with_reducible apply Keeps.ite))

theorem execSsTimeout_keeps (a1) {s} (h : Keeps s0 s) : Goes s0 (execSsTimeout a1 s) := by
  unfold execSsTimeout
  first | refine onPart_keeps _ _ (fun h => ?_) h | refine Goes.next ?_
  try dsimp -zeta only
  repeat' (first | with_reducible assumption | ((try lift_lets -underBinder); intro _) | with_reducible apply railFault_keeps | (with_reducible apply Keeps.ite))

theorem execRetryWaitExpiry_keeps (a1) (a2) {s} (h : Keeps s0 s) : Goes s0 (execRetryWaitExpiry a1 a2 s) := by
  unfold execRetryWaitExpiry
  first | refine onPart_keeps _ _ (fun h => ?_) h | refine Goes.next ?_
  try dsimp -zeta only
  repeat' (first | with_reducible assumption | ((try lift_lets -underBinder); intro _) | with_reducible apply updRail_keeps | (with_reducible apply Keeps.ite))

theorem execHtInputLow_keeps (a1) {s} (h : Keeps s0 s) : Goes s0 (execHtInputLow a1 s) := by
  unfold execHtInputLow
  first | refine onPart_keeps _ _ (fun h => ?_) h | refine Goes.next ?_
  try dsimp -zeta only
  repeat' (first | with_reducible assumption | ((try lift_lets -underBinder); intro x; refine Keeps.cut (s := s0) (x := x) ?_ (fun _ => ?_); (on_goal 2 => (try clear_value x)); (on_goal 1 => unfold x)) | ((try lift_lets -underBinder); intro _) | with_reducible apply updRail_keeps | with_reducible apply noteFault_keeps | with_reducible apply updHt_keeps | with_reducible apply noteDetect_keeps | with_reducible apply railDark_keeps | with_reducible apply post_keeps | (with_reducible refine Keeps.foldl _ (fun _ _ _ => ?_) _ ?_) | (with_reducible apply Keeps.ite))

theorem execHtInputOk_keeps (a1) {s} (h : Keeps s0 s) : Goes s0 (execHtInputOk a1 s) := by
  unfold execHtInputOk
  first | refine onPart_keeps _ _ (fun h => ?_) h | refine Goes.next ?_
  try dsimp -zeta only
  repeat' (first | with_reducible assumption | with_reducible apply nvStart_keeps | with_reducible apply post_keeps | with_reducible apply updHt_keeps | (with_reducible apply Keeps.ite))

theorem execHearthDarkRelease_keeps {s} (h : Keeps s0 s) : Goes s0 (execHearthDarkRelease s) := by
  unfold execHearthDarkRelease
  first | refine onPart_keeps _ _ (fun h => ?_) h | refine Goes.next ?_
  try dsimp -zeta only
  repeat' (first | with_reducible assumption | with_reducible apply undark_keeps | (with_reducible apply Keeps.ite) | split)

theorem htCtlWrite_keeps (a1) {s} (h : Keeps s0 s) : Keeps s0 (htCtlWrite a1 s) := by
  unfold htCtlWrite
  repeat' (first | with_reducible assumption | ((try lift_lets -underBinder); intro _) | with_reducible apply updHt_keeps)

theorem execHtCtlBankWrite_keeps (a1) {s} (h : Keeps s0 s) : Goes s0 (execHtCtlBankWrite a1 s) := by
  unfold execHtCtlBankWrite
  first | refine onPart_keeps _ _ (fun h => ?_) h | refine Goes.next ?_
  try dsimp -zeta only
  repeat' (first | with_reducible assumption | with_reducible apply htCtlWrite_keeps)

theorem htStatusWrite_keeps (a1) {s} (h : Keeps s0 s) : Keeps s0 (htStatusWrite a1 s) := by
  unfold htStatusWrite
  repeat' (first | with_reducible assumption | with_reducible apply updHt_keeps)

theorem railCtlWrite_keeps (a1) (a2) {s} (h : Keeps s0 s) : Keeps s0 (railCtlWrite a1 a2 s) := by
  unfold railCtlWrite
  repeat' (first | with_reducible assumption | with_reducible apply setEn_keeps | with_reducible apply updRail_keeps | (with_reducible apply Keeps.ite))

theorem execHtRailCtlEnWrite_keeps (a1) (a2) {s} (h : Keeps s0 s) : Goes s0 (execHtRailCtlEnWrite a1 a2 s) := by
  unfold execHtRailCtlEnWrite
  first | refine onPart_keeps _ _ (fun h => ?_) h | refine Goes.next ?_
  try dsimp -zeta only
  repeat' (first | with_reducible assumption | with_reducible apply railCtlWrite_keeps)

theorem coefWrite_keeps (a1) (a2) (a3) (a4) {s} (h : Keeps s0 s) : Keeps s0 (coefWrite a1 a2 a3 a4 s) := by
  unfold coefWrite
  repeat' (first | with_reducible assumption | with_reducible apply updRail_keeps)

theorem specHtGetStatus_keeps (c) {s} (h : Keeps s0 s) : Keeps s0 (specHtGetStatus.run c s) := by
  unfold specHtGetStatus; dsimp -zeta only
  repeat' (first | with_reducible assumption | ((try lift_lets -underBinder); intro _) | with_reducible apply draw_keeps | with_reducible apply ok_keeps)

theorem execHtGetStatus_keeps (a1) {s} (h : Keeps s0 s) : Goes s0 (execHtGetStatus a1 s) := runCmd_keeps specHtGetStatus a1 (fun c _ h => specHtGetStatus_keeps c h) h

theorem applyRail_keeps (a1) (a2) (a3) (a4) {s} (h : Keeps s0 s) : Keeps s0 (applyRail a1 a2 a3 a4 s) := by
  unfold applyRail
  repeat' (first | with_reducible assumption | ((try lift_lets -underBinder); intro x; refine Keeps.cut (s := s0) (x := x) ?_ (fun _ => ?_); (on_goal 2 => (try clear_value x)); (on_goal 1 => unfold x)) | with_reducible apply updRail_keeps | with_reducible apply setEn_keeps | split)

theorem specHtSetRail_keeps (c) {s} (h : Keeps s0 s) : Keeps s0 (specHtSetRail.run c s) := by
  unfold specHtSetRail; dsimp -zeta only
  repeat' (first | with_reducible assumption | ((try lift_lets -underBinder); intro x; refine Keeps.cut (s := s0) (x := x) ?_ (fun _ => ?_); (on_goal 2 => (try clear_value x)); (on_goal 1 => unfold x)) | ((try lift_lets -underBinder); intro _) | with_reducible apply updRail_keeps | with_reducible apply applyRail_keeps | with_reducible apply okTarget_keeps | (clear_value *; split))

theorem execHtSetRail_keeps (a1) {s} (h : Keeps s0 s) : Goes s0 (execHtSetRail a1 s) := runCmd_keeps specHtSetRail a1 (fun c _ h => specHtSetRail_keeps c h) h

theorem hearthFlip_keeps (a1) {s} (h : Keeps s0 s) : Keeps s0 (hearthFlip a1 s) := by
  unfold hearthFlip
  repeat' (first | with_reducible assumption | ((try lift_lets -underBinder); intro _) | with_reducible apply applyRail_keeps | with_reducible apply updRail_keeps | (with_reducible refine Keeps.foldl _ (fun _ _ _ => ?_) _ ?_))

theorem hearthStop_keeps {s} (h : Keeps s0 s) : Keeps s0 (hearthStop s) := by
  unfold hearthStop
  repeat' (first | with_reducible assumption | ((try lift_lets -underBinder); intro x; refine Keeps.cut (s := s0) (x := x) ?_ (fun _ => ?_); (on_goal 2 => (try clear_value x)); (on_goal 1 => unfold x)) | with_reducible apply applyRail_keeps | with_reducible apply updRail_keeps | with_reducible apply updHt_keeps | (with_reducible refine Keeps.foldl _ (fun _ _ _ => ?_) _ ?_))

theorem specHtSetCoef_keeps (c) {s} (h : Keeps s0 s) : Keeps s0 (specHtSetCoef.run c s) := by
  unfold specHtSetCoef; dsimp -zeta only
  repeat' (first | with_reducible assumption | ((try lift_lets -underBinder); intro _) | with_reducible apply ok_keeps | with_reducible apply coefWrite_keeps | (with_reducible refine Keeps.foldl _ (fun _ _ _ => ?_) _ ?_))

theorem execHtSetCoef_keeps (a1) {s} (h : Keeps s0 s) : Goes s0 (execHtSetCoef a1 s) := runCmd_keeps specHtSetCoef a1 (fun c _ h => specHtSetCoef_keeps c h) h

theorem specHtSwapBank_keeps (c) {s} (h : Keeps s0 s) : Keeps s0 (specHtSwapBank.run c s) := by
  unfold specHtSwapBank; dsimp -zeta only
  repeat' (first | with_reducible assumption | ((try lift_lets -underBinder); intro _) | with_reducible apply okTarget_keeps | with_reducible apply updHt_keeps | (with_reducible apply Keeps.ite))

theorem execHtSwapBank_keeps (a1) {s} (h : Keeps s0 s) : Goes s0 (execHtSwapBank a1 s) := runCmd_keeps specHtSwapBank a1 (fun c _ h => specHtSwapBank_keeps c h) h

theorem specHtClearFault_keeps (c) {s} (h : Keeps s0 s) : Keeps s0 (specHtClearFault.run c s) := by
  unfold specHtClearFault; dsimp -zeta only
  repeat' (first | with_reducible assumption | with_reducible apply ok_keeps | with_reducible apply updRail_keeps | (with_reducible refine Keeps.foldl _ (fun _ _ _ => ?_) _ ?_) | (with_reducible apply Keeps.ite))

theorem execHtClearFault_keeps (a1) {s} (h : Keeps s0 s) : Goes s0 (execHtClearFault a1 s) := runCmd_keeps specHtClearFault a1 (fun c _ h => specHtClearFault_keeps c h) h

theorem specHtGetCoef_keeps (c) {s} (h : Keeps s0 s) : Keeps s0 (specHtGetCoef.run c s) := by
  unfold specHtGetCoef; dsimp -zeta only
  repeat' (first | with_reducible assumption | ((try lift_lets -underBinder); intro _) | with_reducible apply ok_keeps)

theorem execHtGetCoef_keeps (a1) {s} (h : Keeps s0 s) : Goes s0 (execHtGetCoef a1 s) := runCmd_keeps specHtGetCoef a1 (fun c _ h => specHtGetCoef_keeps c h) h

theorem specHtSetLead_keeps (c) {s} (h : Keeps s0 s) : Keeps s0 (specHtSetLead.run c s) := by
  unfold specHtSetLead; dsimp -zeta only
  repeat' (first | with_reducible assumption | with_reducible apply ok_keeps | with_reducible apply updHt_keeps)

theorem execHtSetLead_keeps (a1) {s} (h : Keeps s0 s) : Goes s0 (execHtSetLead a1 s) := runCmd_keeps specHtSetLead a1 (fun c _ h => specHtSetLead_keeps c h) h

end Sys2Proof.Laws
end

