-- ==== Sys2Proof/Laws/KeepsMantel.lean ====
section
/-!
SUPPORT. The operations and commands of Machine/Mantel.lean keep what `Keeps` names.
-/
set_option linter.unusedTactic false
set_option linter.unreachableTactic false
set_option linter.unusedVariables false
namespace Sys2Proof.Laws

open Sys2Proof.Machine

variable {s0 : State}

theorem fireTrig_keeps (a1) (a2) (a3) {s} (h : Keeps s0 s) : Keeps s0 (fireTrig a1 a2 a3 s) := by
  unfold fireTrig
  repeat' (first | with_reducible assumption | ((try lift_lets -underBinder); intro x; refine Keeps.cut (s := s0) (x := x) ?_ (fun _ => ?_); (on_goal 2 => (try clear_value x)); (on_goal 1 => unfold x)) | ((try lift_lets -underBinder); intro _) | with_reducible apply setMt_keeps | with_reducible apply emit_keeps | with_reducible apply post_keeps | (with_reducible apply Keeps.ite) | split)

theorem catchUp_keeps (a1) (a2) {s} (h : Keeps s0 s) : Keeps s0 (catchUp a1 a2 s) := by
  unfold catchUp
  repeat' (first | with_reducible assumption | with_reducible apply fireTrig_keeps | (with_reducible refine Keeps.foldl _ (fun _ _ _ => ?_) _ ?_))

theorem fireLate_keeps (a1) {s} (h : Keeps s0 s) : Keeps s0 (fireLate a1 s) := by
  unfold fireLate
  repeat' (first | with_reducible assumption | with_reducible apply catchUp_keeps | (with_reducible refine Keeps.foldl _ (fun _ _ _ => ?_) _ ?_))

theorem stepWall_keeps (a1) (a2) {s} (h : Keeps s0 s) : Keeps s0 (stepWall a1 a2 s) := by
  unfold stepWall
  repeat' (first | with_reducible assumption | ((try lift_lets -underBinder); intro x; refine Keeps.cut (s := s0) (x := x) ?_ (fun _ => ?_); (on_goal 2 => (try clear_value x)); (on_goal 1 => unfold x)) | ((try lift_lets -underBinder); intro _) | with_reducible apply setMt_keeps | with_reducible apply fireLate_keeps | (with_reducible apply Keeps.ite))

theorem enterHoldover_keeps (a1) {s} (h : Keeps s0 s) : Keeps s0 (enterHoldover a1 s) := by
  unfold enterHoldover
  repeat' (first | with_reducible assumption | ((try lift_lets -underBinder); intro _) | with_reducible apply draw_keeps | with_reducible apply post_keeps | with_reducible apply setMt_keeps | (with_reducible apply Keeps.ite))

theorem sourcePresent_keeps (a1) (a2) {s} (h : Keeps s0 s) : Keeps s0 (sourcePresent a1 a2 s) := by
  unfold sourcePresent
  repeat' (first | with_reducible assumption | ((try lift_lets -underBinder); intro _) | with_reducible apply setMt_keeps | (with_reducible apply Keeps.ite))

theorem headSource_keeps (a1) {s} (h : Keeps s0 s) : Keeps s0 (headSource a1 s) := by
  unfold headSource
  repeat' (first | with_reducible assumption | ((try lift_lets -underBinder); intro _) | with_reducible apply sourcePresent_keeps | (with_reducible apply Keeps.ite) | (fail_if_no_progress refine Keeps.upd ?_ rfl rfl rfl rfl rfl rfl))

theorem servoAdjust_keeps (a1) {s} (h : Keeps s0 s) : Keeps s0 (servoAdjust a1 s) := by
  unfold servoAdjust
  repeat' (first | with_reducible assumption | ((try lift_lets -underBinder); intro _) | with_reducible apply draw_keeps | with_reducible apply setMt_keeps)

theorem offsetSample_keeps (a1) (a2) {s} (h : Keeps s0 s) : Keeps s0 (offsetSample a1 a2 s) := by
  unfold offsetSample
  repeat' (first | with_reducible assumption | ((try lift_lets -underBinder); intro x; refine Keeps.cut (s := s0) (x := x) ?_ (fun _ => ?_); (on_goal 2 => (try clear_value x)); (on_goal 1 => unfold x)) | ((try lift_lets -underBinder); intro _) | with_reducible apply setMt_keeps | with_reducible apply draw_keeps | with_reducible apply stepWall_keeps | with_reducible apply post_keeps | with_reducible apply servoAdjust_keeps | (with_reducible apply Keeps.ite) | split)

theorem firstSampleAfterChange_keeps (a1) {s} (h : Keeps s0 s) : Keeps s0 (firstSampleAfterChange a1 s) := by
  unfold firstSampleAfterChange
  repeat' (first | with_reducible assumption | ((try lift_lets -underBinder); intro x; refine Keeps.cut (s := s0) (x := x) ?_ (fun _ => ?_); (on_goal 2 => (try clear_value x)); (on_goal 1 => unfold x)) | ((try lift_lets -underBinder); intro _) | with_reducible apply offsetSample_keeps | with_reducible apply setMt_keeps | with_reducible apply post_keeps | with_reducible apply darken_keeps | (with_reducible apply Keeps.ite) | (fail_if_no_progress refine Keeps.upd ?_ rfl rfl rfl rfl rfl rfl))

theorem servoManual_keeps (a1) {s} (h : Keeps s0 s) : Keeps s0 (servoManual a1 s) := by
  unfold servoManual
  repeat' (first | with_reducible assumption | ((try lift_lets -underBinder); intro _) | with_reducible apply setMt_keeps)

theorem holdSet_keeps (a1) {s} (h : Keeps s0 s) : Keeps s0 (holdSet a1 s) := by
  unfold holdSet
  repeat' (first | with_reducible assumption | ((try lift_lets -underBinder); intro _) | with_reducible apply enterHoldover_keeps | with_reducible apply setMt_keeps)

theorem updTimePort_keeps (a1) (a2) (a3) {s} (h : Keeps s0 s) : Keeps s0 (updTimePort a1 a2 a3 s) := by
  unfold updTimePort
  repeat' (first | with_reducible assumption | ((try lift_lets -underBinder); intro _) | with_reducible apply setMt_keeps)

theorem execTimeMessageSend_keeps (a1) (a2) {s} (h : Keeps s0 s) : Goes s0 (execTimeMessageSend a1 a2 s) := by
  unfold execTimeMessageSend
  first | refine onPart_keeps _ _ (fun h => ?_) h | refine Goes.next ?_
  try dsimp -zeta only
  repeat' (first | with_reducible assumption | ((try lift_lets -underBinder); intro _) | with_reducible apply timeSend_keeps | with_reducible apply updTimePort_keeps | (with_reducible apply Keeps.ite))

theorem tileReselect_keeps {s} (h : Keeps s0 s) : Keeps s0 (tileReselect s) := by
  unfold tileReselect
  repeat' (first | with_reducible assumption | ((try lift_lets -underBinder); intro _) | with_reducible apply sourcePresent_keeps | with_reducible apply enterHoldover_keeps | (with_reducible apply Keeps.ite) | (fail_if_no_progress refine Keeps.upd ?_ rfl rfl rfl rfl rfl rfl))

theorem tileHops_keeps {s} (h : Keeps s0 s) : Keeps s0 (tileHops s) := by
  unfold tileHops
  repeat' (first | with_reducible assumption | ((try lift_lets -underBinder); intro _) | (with_reducible apply Keeps.ite) | split | (fail_if_no_progress refine Keeps.upd ?_ rfl rfl rfl rfl rfl rfl))

theorem tileTime_keeps (a1) (a2) {s} (h : Keeps s0 s) : Keeps s0 (tileTime a1 a2 s) := by
  unfold tileTime
  repeat' (first | with_reducible assumption | ((try lift_lets -underBinder); intro x; refine Keeps.cut (s := s0) (x := x) ?_ (fun _ => ?_); (on_goal 2 => (try clear_value x)); (on_goal 1 => unfold x)) | ((try lift_lets -underBinder); intro _) | with_reducible apply tileHops_keeps | with_reducible apply tileReselect_keeps | with_reducible apply firstSampleAfterChange_keeps | with_reducible apply offsetSample_keeps | (with_reducible apply Keeps.ite))

theorem twinTime_keeps (a1) (a2) {s} (h : Keeps s0 s) : Keeps s0 (twinTime a1 a2 s) := by
  unfold twinTime
  repeat' (first | with_reducible assumption | ((try lift_lets -underBinder); intro x; refine Keeps.cut (s := s0) (x := x) ?_ (fun _ => ?_); (on_goal 2 => (try clear_value x)); (on_goal 1 => unfold x)) | ((try lift_lets -underBinder); intro _) | with_reducible apply sourcePresent_keeps | with_reducible apply offsetSample_keeps | with_reducible apply enterHoldover_keeps | (with_reducible apply Keeps.ite) | split | (fail_if_no_progress refine Keeps.upd ?_ rfl rfl rfl rfl rfl rfl))

theorem execTimeMessageReceived_keeps (a1) (a2) (a3) (a4) {s} (h : Keeps s0 s) : Goes s0 (execTimeMessageReceived a1 a2 a3 a4 s) := by
  unfold execTimeMessageReceived
  first | refine onPart_keeps _ _ (fun h => ?_) h | refine Goes.next ?_
  try dsimp -zeta only
  repeat' (first | with_reducible assumption | ((try lift_lets -underBinder); intro x; refine Keeps.cut (s := s0) (x := x) ?_ (fun _ => ?_); (on_goal 2 => (try clear_value x)); (on_goal 1 => unfold x)) | ((try lift_lets -underBinder); intro _) | with_reducible apply draw_keeps | with_reducible apply timeTaken_keeps | with_reducible apply updTimePort_keeps | with_reducible apply tileTime_keeps | with_reducible apply twinTime_keeps | (with_reducible apply Keeps.ite) | split)

theorem execTimeSourceInvalid_keeps (a1) (a2) {s} (h : Keeps s0 s) : Goes s0 (execTimeSourceInvalid a1 a2 s) := by
  unfold execTimeSourceInvalid
  first | refine onPart_keeps _ _ (fun h => ?_) h | refine Goes.next ?_
  try dsimp -zeta only
  repeat' (first | with_reducible assumption | ((try lift_lets -underBinder); intro x; refine Keeps.cut (s := s0) (x := x) ?_ (fun _ => ?_); (on_goal 2 => (try clear_value x)); (on_goal 1 => unfold x)) | with_reducible apply updTimePort_keeps | with_reducible apply tileHops_keeps | with_reducible apply tileReselect_keeps | with_reducible apply enterHoldover_keeps | (with_reducible apply Keeps.ite) | split)

theorem execTimeSourceReturn_keeps {s} (h : Keeps s0 s) : Goes s0 (execTimeSourceReturn s) := by
  unfold execTimeSourceReturn
  first | refine onPart_keeps _ _ (fun h => ?_) h | refine Goes.next ?_
  try dsimp -zeta only
  repeat' (first | with_reducible assumption | ((try lift_lets -underBinder); intro _) | with_reducible apply tileHops_keeps | (with_reducible apply Keeps.ite) | (fail_if_no_progress refine Keeps.upd ?_ rfl rfl rfl rfl rfl rfl))

theorem execHoldoverExpired_keeps {s} (h : Keeps s0 s) : Goes s0 (execHoldoverExpired s) := by
  unfold execHoldoverExpired
  first | refine onPart_keeps _ _ (fun h => ?_) h | refine Goes.next ?_
  try dsimp -zeta only
  repeat' (first | with_reducible assumption | ((try lift_lets -underBinder); intro x; refine Keeps.cut (s := s0) (x := x) ?_ (fun _ => ?_); (on_goal 2 => (try clear_value x)); (on_goal 1 => unfold x)) | ((try lift_lets -underBinder); intro _) | with_reducible apply darken_keeps | with_reducible apply post_keeps | (with_reducible apply Keeps.ite) | (fail_if_no_progress refine Keeps.upd ?_ rfl rfl rfl rfl rfl rfl))

theorem execTwinTimeAlarm_keeps {s} (h : Keeps s0 s) : Goes s0 (execTwinTimeAlarm s) := by
  unfold execTwinTimeAlarm
  first | refine onPart_keeps _ _ (fun h => ?_) h | refine Goes.next ?_
  try dsimp -zeta only
  repeat' (first | with_reducible assumption | ((try lift_lets -underBinder); intro _) | with_reducible apply post_keeps | (with_reducible apply Keeps.ite) | split | (fail_if_no_progress refine Keeps.upd ?_ rfl rfl rfl rfl rfl rfl))

theorem noMaster_keeps {s} (h : Keeps s0 s) : Keeps s0 (noMaster s) := by
  unfold noMaster
  repeat' (first | with_reducible assumption | ((try lift_lets -underBinder); intro x; refine Keeps.cut (s := s0) (x := x) ?_ (fun _ => ?_); (on_goal 2 => (try clear_value x)); (on_goal 1 => unfold x)) | ((try lift_lets -underBinder); intro _) | with_reducible apply enterHoldover_keeps | (with_reducible apply Keeps.ite) | (fail_if_no_progress refine Keeps.upd ?_ rfl rfl rfl rfl rfl rfl))

theorem chooseMaster_keeps {s} (h : Keeps s0 s) : Keeps s0 (chooseMaster s) := by
  unfold chooseMaster
  repeat' (first | with_reducible assumption | ((try lift_lets -underBinder); intro x; refine Keeps.cut (s := s0) (x := x) ?_ (fun _ => ?_); (on_goal 2 => (try clear_value x)); (on_goal 1 => unfold x)) | ((try lift_lets -underBinder); intro _) | with_reducible apply noMaster_keeps | with_reducible apply headSource_keeps | (with_reducible apply Keeps.ite) | split | (fail_if_no_progress refine Keeps.upd ?_ rfl rfl rfl rfl rfl rfl))

theorem addForeign_keeps (a1) (a2) {s} (h : Keeps s0 s) : Keeps s0 (addForeign a1 a2 s) := by
  unfold addForeign
  repeat' (first | with_reducible assumption | ((try lift_lets -underBinder); intro _) | (with_reducible apply Keeps.ite) | (fail_if_no_progress refine Keeps.upd ?_ rfl rfl rfl rfl rfl rfl))

theorem syncSample_keeps (a1) (a2) (a3) {s} (h : Keeps s0 s) : Keeps s0 (syncSample a1 a2 a3 s) := by
  unfold syncSample
  repeat' (first | with_reducible assumption | ((try lift_lets -underBinder); intro _) | with_reducible apply offsetSample_keeps | (fail_if_no_progress refine Keeps.upd ?_ rfl rfl rfl rfl rfl rfl))

theorem ptpMessage_keeps (a1) (a2) (a3) {s} (h : Keeps s0 s) : Keeps s0 (ptpMessage a1 a2 a3 s) := by
  unfold ptpMessage
  repeat' (first | with_reducible assumption | ((try lift_lets -underBinder); intro x; refine Keeps.cut (s := s0) (x := x) ?_ (fun _ => ?_); (on_goal 2 => (try clear_value x)); (on_goal 1 => unfold x)) | ((try lift_lets -underBinder); intro _) | with_reducible apply chooseMaster_keeps | with_reducible apply addForeign_keeps | with_reducible apply syncSample_keeps | with_reducible apply emit_keeps | with_reducible apply draw_keeps | (with_reducible apply Keeps.ite) | split | (fail_if_no_progress refine Keeps.upd ?_ rfl rfl rfl rfl rfl rfl))

theorem execPtpMessageReceived_keeps (a1) (a2) (a3) {s} (h : Keeps s0 s) : Goes s0 (execPtpMessageReceived a1 a2 a3 s) := by
  unfold execPtpMessageReceived
  first | refine onPart_keeps _ _ (fun h => ?_) h | refine Goes.next ?_
  try dsimp -zeta only
  repeat' (first | with_reducible assumption | with_reducible apply ptpMessage_keeps)

theorem execPtpMessageSend_keeps (a1) (a2) (a3) {s} (h : Keeps s0 s) : Goes s0 (execPtpMessageSend a1 a2 a3 s) := by
  unfold execPtpMessageSend
  first | refine onPart_keeps _ _ (fun h => ?_) h | refine Goes.next ?_
  try dsimp -zeta only
  repeat' (first | with_reducible assumption | ((try lift_lets -underBinder); intro x; refine Keeps.cut (s := s0) (x := x) ?_ (fun _ => ?_); (on_goal 2 => (try clear_value x)); (on_goal 1 => unfold x)) | ((try lift_lets -underBinder); intro _) | with_reducible apply emit_keeps | (with_reducible apply Keeps.ite) | split | (fail_if_no_progress refine Keeps.upd ?_ rfl rfl rfl rfl rfl rfl))

theorem execPpsInEdge_keeps {s} (h : Keeps s0 s) : Goes s0 (execPpsInEdge s) := by
  unfold execPpsInEdge
  first | refine onPart_keeps _ _ (fun h => ?_) h | refine Goes.next ?_
  try dsimp -zeta only
  repeat' (first | with_reducible assumption | ((try lift_lets -underBinder); intro x; refine Keeps.cut (s := s0) (x := x) ?_ (fun _ => ?_); (on_goal 2 => (try clear_value x)); (on_goal 1 => unfold x)) | ((try lift_lets -underBinder); intro _) | with_reducible apply headSource_keeps | with_reducible apply offsetSample_keeps | (with_reducible apply Keeps.ite) | (fail_if_no_progress refine Keeps.upd ?_ rfl rfl rfl rfl rfl rfl))

theorem execAnnounceTimeout_keeps (a1) {s} (h : Keeps s0 s) : Goes s0 (execAnnounceTimeout a1 s) := by
  unfold execAnnounceTimeout
  first | refine onPart_keeps _ _ (fun h => ?_) h | refine Goes.next ?_
  try dsimp -zeta only
  repeat' (first | with_reducible assumption | ((try lift_lets -underBinder); intro _) | with_reducible apply chooseMaster_keeps | (with_reducible apply Keeps.ite))

theorem execPpsLossTimeout_keeps {s} (h : Keeps s0 s) : Goes s0 (execPpsLossTimeout s) := by
  unfold execPpsLossTimeout
  first | refine onPart_keeps _ _ (fun h => ?_) h | refine Goes.next ?_
  try dsimp -zeta only
  repeat' (first | with_reducible assumption | with_reducible apply enterHoldover_keeps | (with_reducible apply Keeps.ite))

theorem cntLoRead_keeps (a1) {s} (h : Keeps s0 s) : Keeps s0 (cntLoRead a1 s).2 := by
  unfold cntLoRead
  repeat' (first | with_reducible assumption | ((try lift_lets -underBinder); intro _) | with_reducible apply setMt_keeps)

theorem rateWrite_keeps (a1) (a2) {s} (h : Keeps s0 s) : Keeps s0 (rateWrite a1 a2 s) := by
  unfold rateWrite
  repeat' (first | with_reducible assumption | with_reducible apply setMt_keeps | (with_reducible apply Keeps.ite))

theorem mtCtlWrite_keeps (a1) (a2) {s} (h : Keeps s0 s) : Keeps s0 (mtCtlWrite a1 a2 s) := by
  unfold mtCtlWrite
  repeat' (first | with_reducible assumption | ((try lift_lets -underBinder); intro x; refine Keeps.cut (s := s0) (x := x) ?_ (fun _ => ?_); (on_goal 2 => (try clear_value x)); (on_goal 1 => unfold x)) | ((try lift_lets -underBinder); intro _) | with_reducible apply servoManual_keeps | with_reducible apply setMt_keeps | with_reducible apply holdSet_keeps | (with_reducible apply Keeps.ite) | split | (fail_if_no_progress refine Keeps.upd ?_ rfl rfl rfl rfl rfl rfl))

theorem trigCtlWrite_keeps (a1) (a2) (a3) {s} (h : Keeps s0 s) : Keeps s0 (trigCtlWrite a1 a2 a3 s) := by
  unfold trigCtlWrite
  repeat' (first | with_reducible assumption | ((try lift_lets -underBinder); intro x; refine Keeps.cut (s := s0) (x := x) ?_ (fun _ => ?_); (on_goal 2 => (try clear_value x)); (on_goal 1 => unfold x)) | ((try lift_lets -underBinder); intro _) | with_reducible apply setMt_keeps | with_reducible apply catchUp_keeps | (with_reducible apply Keeps.ite))

theorem trigTgtWrite_keeps (a1) (a2) (a3) (a4) {s} (h : Keeps s0 s) : Keeps s0 (trigTgtWrite a1 a2 a3 a4 s) := by
  unfold trigTgtWrite
  repeat' (first | with_reducible assumption | ((try lift_lets -underBinder); intro x; refine Keeps.cut (s := s0) (x := x) ?_ (fun _ => ?_); (on_goal 2 => (try clear_value x)); (on_goal 1 => unfold x)) | ((try lift_lets -underBinder); intro _) | with_reducible apply setMt_keeps | with_reducible apply catchUp_keeps)

theorem execMtCntLoRead_keeps (a1) {s} (h : Keeps s0 s) : Goes s0 (execMtCntLoRead a1 s) := by
  unfold execMtCntLoRead
  first | refine onPart_keeps _ _ (fun h => ?_) h | refine Goes.next ?_
  try dsimp -zeta only
  repeat' (first | with_reducible assumption | with_reducible apply cntLoRead_keeps)

theorem execMtRateWrite_keeps (a1) (a2) {s} (h : Keeps s0 s) : Goes s0 (execMtRateWrite a1 a2 s) := by
  unfold execMtRateWrite
  first | refine onPart_keeps _ _ (fun h => ?_) h | refine Goes.next ?_
  try dsimp -zeta only
  repeat' (first | with_reducible assumption | with_reducible apply rateWrite_keeps)

theorem execMtHoldSet_keeps (a1) {s} (h : Keeps s0 s) : Goes s0 (execMtHoldSet a1 s) := by
  unfold execMtHoldSet
  first | refine onPart_keeps _ _ (fun h => ?_) h | refine Goes.next ?_
  try dsimp -zeta only
  repeat' (first | with_reducible assumption | with_reducible apply holdSet_keeps)

theorem execMtServoModeSet_keeps (a1) {s} (h : Keeps s0 s) : Goes s0 (execMtServoModeSet a1 s) := by
  unfold execMtServoModeSet
  first | refine onPart_keeps _ _ (fun h => ?_) h | refine Goes.next ?_
  try dsimp -zeta only
  repeat' (first | with_reducible assumption | with_reducible apply servoManual_keeps)

theorem execMtTrigArm_keeps (a1) (a2) (a3) {s} (h : Keeps s0 s) : Goes s0 (execMtTrigArm a1 a2 a3 s) := by
  unfold execMtTrigArm
  first | refine onPart_keeps _ _ (fun h => ?_) h | refine Goes.next ?_
  try dsimp -zeta only
  repeat' (first | with_reducible assumption | with_reducible apply trigCtlWrite_keeps | (with_reducible apply Keeps.ite))

theorem execMtTrigTgtWrite_keeps (a1) (a2) (a3) (a4) {s} (h : Keeps s0 s) : Goes s0 (execMtTrigTgtWrite a1 a2 a3 a4 s) := by
  unfold execMtTrigTgtWrite
  first | refine onPart_keeps _ _ (fun h => ?_) h | refine Goes.next ?_
  try dsimp -zeta only
  repeat' (first | with_reducible assumption | with_reducible apply trigTgtWrite_keeps | (with_reducible apply Keeps.ite))

theorem specMtGetTime_keeps (c) {s} (h : Keeps s0 s) : Keeps s0 (specMtGetTime.run c s) := by
  unfold specMtGetTime; dsimp -zeta only
  repeat' (first | with_reducible assumption | ((try lift_lets -underBinder); intro _) | with_reducible apply ok_keeps)

theorem execMtGetTime_keeps (a1) {s} (h : Keeps s0 s) : Goes s0 (execMtGetTime a1 s) := runCmd_keeps specMtGetTime a1 (fun c _ h => specMtGetTime_keeps c h) h

theorem startTicks_keeps (a1) (a2) {s} (h : Keeps s0 s) : Keeps s0 (startTicks a1 a2 s) := by
  unfold startTicks
  repeat' (first | with_reducible assumption | ((try lift_lets -underBinder); intro x; refine Keeps.cut (s := s0) (x := x) ?_ (fun _ => ?_); (on_goal 2 => (try clear_value x)); (on_goal 1 => unfold x)) | ((try lift_lets -underBinder); intro _) | with_reducible apply evalClaim_keeps | (fail_if_no_progress refine Keeps.upd ?_ rfl rfl rfl rfl rfl rfl))

theorem specMtSetTick_keeps (c) {s} (h : Keeps s0 s) : Keeps s0 (specMtSetTick.run c s) := by
  unfold specMtSetTick; dsimp -zeta only
  repeat' (first | with_reducible assumption | ((try lift_lets -underBinder); intro x; refine Keeps.cut (s := s0) (x := x) ?_ (fun _ => ?_); (on_goal 2 => (try clear_value x)); (on_goal 1 => unfold x)) | ((try lift_lets -underBinder); intro _) | with_reducible apply startTicks_keeps | with_reducible apply sendConfigs_keeps | with_reducible apply okFwd_keeps | (with_reducible apply Keeps.ite) | (fail_if_no_progress refine Keeps.upd ?_ rfl rfl rfl rfl rfl rfl))

theorem execMtSetTick_keeps (a1) {s} (h : Keeps s0 s) : Goes s0 (execMtSetTick a1 s) := runCmd_keeps specMtSetTick a1 (fun c _ h => specMtSetTick_keeps c h) h

theorem specMtGetTick_keeps (c) {s} (h : Keeps s0 s) : Keeps s0 (specMtGetTick.run c s) := by
  unfold specMtGetTick; dsimp -zeta only
  repeat' (first | with_reducible assumption | ((try lift_lets -underBinder); intro _) | with_reducible apply ok_keeps)

theorem execMtGetTick_keeps (a1) {s} (h : Keeps s0 s) : Goes s0 (execMtGetTick a1 s) := runCmd_keeps specMtGetTick a1 (fun c _ h => specMtGetTick_keeps c h) h

theorem specMtStepTime_keeps (c) {s} (h : Keeps s0 s) : Keeps s0 (specMtStepTime.run c s) := by
  unfold specMtStepTime; dsimp -zeta only
  repeat' (first | with_reducible assumption | with_reducible apply ok_keeps | with_reducible apply stepWall_keeps)

theorem execMtStepTime_keeps (a1) {s} (h : Keeps s0 s) : Goes s0 (execMtStepTime a1 s) := runCmd_keeps specMtStepTime a1 (fun c _ h => specMtStepTime_keeps c h) h

theorem specMtSetTod_keeps (c) {s} (h : Keeps s0 s) : Keeps s0 (specMtSetTod.run c s) := by
  unfold specMtSetTod; dsimp -zeta only
  repeat' (first | with_reducible assumption | ((try lift_lets -underBinder); intro _) | with_reducible apply ok_keeps | (fail_if_no_progress refine Keeps.upd ?_ rfl rfl rfl rfl rfl rfl))

theorem execMtSetTod_keeps (a1) {s} (h : Keeps s0 s) : Goes s0 (execMtSetTod a1 s) := runCmd_keeps specMtSetTod a1 (fun c _ h => specMtSetTod_keeps c h) h

theorem newInstance_keeps {s} (h : Keeps s0 s) : Keeps s0 (newInstance s) := by
  unfold newInstance
  repeat' (first | with_reducible assumption | ((try lift_lets -underBinder); intro x; refine Keeps.cut (s := s0) (x := x) ?_ (fun _ => ?_); (on_goal 2 => (try clear_value x)); (on_goal 1 => unfold x)) | ((try lift_lets -underBinder); intro _) | with_reducible apply enterHoldover_keeps | (with_reducible apply Keeps.ite) | (fail_if_no_progress refine Keeps.upd ?_ rfl rfl rfl rfl rfl rfl))

theorem setPtp_keeps (a1) {s} (h : Keeps s0 s) : Keeps s0 (setPtp a1 s) := by
  unfold setPtp
  repeat' (first | with_reducible assumption | ((try lift_lets -underBinder); intro x; refine Keeps.cut (s := s0) (x := x) ?_ (fun _ => ?_); (on_goal 2 => (try clear_value x)); (on_goal 1 => unfold x)) | ((try lift_lets -underBinder); intro _) | with_reducible apply newInstance_keeps | (with_reducible apply Keeps.ite) | (fail_if_no_progress refine Keeps.upd ?_ rfl rfl rfl rfl rfl rfl))

theorem specMtSetPtp_keeps (c) {s} (h : Keeps s0 s) : Keeps s0 (specMtSetPtp.run c s) := by
  unfold specMtSetPtp; dsimp -zeta only
  repeat' (first | with_reducible assumption | ((try lift_lets -underBinder); intro _) | with_reducible apply ok_keeps | with_reducible apply setPtp_keeps)

theorem execMtSetPtp_keeps (a1) {s} (h : Keeps s0 s) : Goes s0 (execMtSetPtp a1 s) := runCmd_keeps specMtSetPtp a1 (fun c _ h => specMtSetPtp_keeps c h) h

theorem specMtGetPtp_keeps (c) {s} (h : Keeps s0 s) : Keeps s0 (specMtGetPtp.run c s) := by
  unfold specMtGetPtp; dsimp -zeta only
  repeat' (first | with_reducible assumption | with_reducible apply ok_keeps)

theorem execMtGetPtp_keeps (a1) {s} (h : Keeps s0 s) : Goes s0 (execMtGetPtp a1 s) := runCmd_keeps specMtGetPtp a1 (fun c _ h => specMtGetPtp_keeps c h) h

theorem specMtSetChainTime_keeps (c) {s} (h : Keeps s0 s) : Keeps s0 (specMtSetChainTime.run c s) := by
  unfold specMtSetChainTime; dsimp -zeta only
  repeat' (first | with_reducible assumption | ((try lift_lets -underBinder); intro _) | with_reducible apply ok_keeps | with_reducible apply sendConfigs_keeps | (fail_if_no_progress refine Keeps.upd ?_ rfl rfl rfl rfl rfl rfl))

theorem execMtSetChainTime_keeps (a1) {s} (h : Keeps s0 s) : Goes s0 (execMtSetChainTime a1 s) := runCmd_keeps specMtSetChainTime a1 (fun c _ h => specMtSetChainTime_keeps c h) h

end Sys2Proof.Laws
end

