-- ==== Sys2Proof/Laws/KeepsRestart.lean ====
section
/-!
SUPPORT. The operations and commands of Machine/Restart.lean keep what `Keeps` names.
-/
set_option linter.unusedTactic false
set_option linter.unreachableTactic false
set_option linter.unusedVariables false
namespace Sys2Proof.Laws

open Sys2Proof.Machine

variable {s0 : State}

theorem postStart_keeps (a1) {s} (h : Keeps s0 s) : Keeps s0 (postStart a1 s) := by
  unfold postStart
  repeat' (first | with_reducible assumption | with_reducible apply post_keeps | (with_reducible apply Keeps.ite) | split)

theorem resumeFrames_keeps {s} (h : Keeps s0 s) : Keeps s0 (resumeFrames s) := by
  unfold resumeFrames
  repeat' (first | with_reducible assumption | ((try lift_lets -underBinder); intro _) | (with_reducible apply Keeps.ite) | (fail_if_no_progress refine Keeps.upd ?_ rfl rfl rfl rfl rfl rfl))

theorem recoveryTicks_keeps {s} (h : Keeps s0 s) : Keeps s0 (recoveryTicks s) := by
  unfold recoveryTicks
  repeat' (first | with_reducible assumption | ((try lift_lets -underBinder); intro _) | with_reducible apply evalClaim_keeps | (with_reducible apply Keeps.ite) | (fail_if_no_progress refine Keeps.upd ?_ rfl rfl rfl rfl rfl rfl))

theorem dropFirmware_keeps {s} (h : Keeps s0 s) : Keeps s0 (dropFirmware s) := by
  unfold dropFirmware
  repeat' (first | with_reducible assumption | ((try lift_lets -underBinder); intro _) | with_reducible apply sourceGone_keeps | (fail_if_no_progress refine Keeps.upd ?_ rfl rfl rfl rfl rfl rfl))

theorem startFirmware_keeps {s} (h : Keeps s0 s) : Keeps s0 (startFirmware s) := by
  unfold startFirmware
  repeat' (first | with_reducible assumption | with_reducible apply postStart_keeps | with_reducible apply recoveryTicks_keeps | with_reducible apply readStored_keeps | with_reducible apply startSettings_keeps | with_reducible apply bootSlot_keeps | with_reducible apply recoverStore_keeps)

theorem countStart_keeps (a1) (a2) {s} (h : Keeps s0 s) : Keeps s0 (countStart a1 a2 s) := by
  unfold countStart
  repeat' (first | with_reducible assumption | ((try lift_lets -underBinder); intro _) | split | (fail_if_no_progress refine Keeps.upd ?_ rfl rfl rfl rfl rfl rfl))

theorem unload_keeps {s} (h : Keeps s0 s) : Keeps s0 (unload s) := by
  unfold unload
  repeat' (first | with_reducible assumption | ((try lift_lets -underBinder); intro _) | with_reducible apply darken_keeps | (fail_if_no_progress refine Keeps.upd ?_ rfl rfl rfl rfl rfl rfl))

theorem fwRestart_keeps (a1) (a2) {s} (h : Keeps s0 s) : Keeps s0 (fwRestart a1 a2 s) := by
  unfold fwRestart
  repeat' (first | with_reducible assumption | ((try lift_lets -underBinder); intro x; refine Keeps.cut (s := s0) (x := x) ?_ (fun _ => ?_); (on_goal 2 => (try clear_value x)); (on_goal 1 => unfold x)) | ((try lift_lets -underBinder); intro _) | with_reducible apply emit_keeps | with_reducible apply countStart_keeps | with_reducible apply nvStop_keeps | with_reducible apply dropFirmware_keeps | with_reducible apply startFirmware_keeps | with_reducible apply resumeFrames_keeps | with_reducible apply recoverStore_keeps | with_reducible apply unload_keeps | (with_reducible apply Keeps.ite) | split | (fail_if_no_progress refine Keeps.upd ?_ rfl rfl rfl rfl rfl rfl))

end Sys2Proof.Laws
end

