-- ==== Sys2Proof/Laws/KeepsCellar.lean ====
section
/-!
SUPPORT. The operations and commands of Machine/Cellar.lean keep what `Keeps` names.
-/
set_option linter.unusedTactic false
set_option linter.unreachableTactic false
set_option linter.unusedVariables false
namespace Sys2Proof.Laws

open Sys2Proof.Machine

variable {s0 : State}

theorem applyUpsets_keeps (a1) {s} (h : Keeps s0 s) : Keeps s0 (applyUpsets a1 s) := by
  unfold applyUpsets
  repeat' (first | with_reducible assumption | with_reducible apply setFlips_keeps | (with_reducible refine Keeps.foldl _ (fun _ _ _ => ?_) _ ?_))

theorem endOperations_keeps (a1) {s} (h : Keeps s0 s) : Keeps s0 (endOperations a1 s) := by
  unfold endOperations
  repeat' (first | with_reducible assumption | ((try lift_lets -underBinder); intro x; refine Keeps.cut (s := s0) (x := x) ?_ (fun _ => ?_); (on_goal 2 => (try clear_value x)); (on_goal 1 => unfold x)) | with_reducible apply saveTrims_keeps | with_reducible apply nvDrain_keeps)

theorem scope0Restart_keeps (a1) {s} (h : Keeps s0 s) : Keeps s0 (scope0Restart a1 s) := by
  unfold scope0Restart
  repeat' (first | with_reducible assumption | with_reducible apply fwRestart_keeps | with_reducible apply endOperations_keeps)

theorem serveRead_keeps (a1) {s} (h : Keeps s0 s) : Keeps s0 (serveRead a1 s) := by
  unfold serveRead
  repeat' (first | with_reducible assumption | ((try lift_lets -underBinder); intro x; refine Keeps.cut (s := s0) (x := x) ?_ (fun _ => ?_); (on_goal 2 => (try clear_value x)); (on_goal 1 => unfold x)) | ((try lift_lets -underBinder); intro _) | with_reducible apply readNow_keeps | with_reducible apply emit_keeps | with_reducible apply scope0Restart_keeps | with_reducible apply paneLost_keeps | (with_reducible refine Keeps.foldl _ (fun _ _ _ => ?_) _ ?_) | (with_reducible apply Keeps.ite) | split)

theorem serveReq_keeps (a1) {s} (h : Keeps s0 s) : Keeps s0 (serveReq a1 s) := by
  unfold serveReq
  repeat' (first | with_reducible assumption | ((try lift_lets -underBinder); intro x; refine Keeps.cut (s := s0) (x := x) ?_ (fun _ => ?_); (on_goal 2 => (try clear_value x)); (on_goal 1 => unfold x)) | with_reducible apply applyUpsets_keeps | with_reducible apply serveWrite_keeps | with_reducible apply touch_keeps | with_reducible apply serveRead_keeps | (with_reducible apply Keeps.ite) | split)

theorem serveQueue_keeps (a1) {s} (h : Keeps s0 s) : Keeps s0 (serveQueue a1 s) := by
  unfold serveQueue
  repeat' (first | with_reducible assumption | ((try lift_lets -underBinder); intro x; refine Keeps.cut (s := s0) (x := x) ?_ (fun _ => ?_); (on_goal 2 => (try clear_value x)); (on_goal 1 => unfold x)) | ((try lift_lets -underBinder); intro _) | with_reducible apply updStack_keeps | with_reducible apply serveReq_keeps | (with_reducible refine Keeps.foldl _ (fun _ _ _ => ?_) _ ?_))

theorem submitReq_keeps (a1) {s} (h : Keeps s0 s) : Keeps s0 (submitReq a1 s) := by
  unfold submitReq
  repeat' (first | with_reducible assumption | with_reducible apply submitWrite_keeps | with_reducible apply applyUpsets_keeps | with_reducible apply serveReq_keeps | with_reducible apply queueReq_keeps | (with_reducible refine Keeps.foldl _ (fun _ _ _ => ?_) _ ?_) | (with_reducible apply Keeps.ite) | split)

theorem execCellarRequest_keeps (a1) {s} (h : Keeps s0 s) : Goes s0 (execCellarRequest a1 s) := by
  unfold execCellarRequest
  first | refine onPart_keeps _ _ (fun h => ?_) h | refine Goes.next ?_
  try dsimp -zeta only
  repeat' (first | with_reducible assumption | with_reducible apply submitReq_keeps | (with_reducible apply Keeps.ite))

theorem execBar2Access_keeps (a1) {s} (h : Keeps s0 s) : Goes s0 (execBar2Access a1 s) := by
  unfold execBar2Access
  first | refine onPart_keeps _ _ (fun h => ?_) h | refine Goes.next ?_
  try dsimp -zeta only
  repeat' (first | with_reducible assumption | (intro t (_ : Keeps s0 t)) | ((try lift_lets -underBinder); intro x; refine Keeps.cut (s := s0) (x := x) ?_ (fun _ => ?_); (on_goal 2 => (try clear_value x)); (on_goal 1 => unfold x)) | ((try lift_lets -underBinder); intro _) | with_reducible apply fromHost_keeps | with_reducible apply submitReq_keeps | with_reducible apply post_keeps | with_reducible apply emit_keeps | (with_reducible apply Keeps.ite) | split)

theorem execCeWriteback_keeps (a1) {s} (h : Keeps s0 s) : Goes s0 (execCeWriteback a1 s) := by
  unfold execCeWriteback
  first | refine onPart_keeps _ _ (fun h => ?_) h | refine Goes.next ?_
  try dsimp -zeta only
  repeat' (first | with_reducible assumption | (intro t (_ : Keeps s0 t)) | ((try lift_lets -underBinder); intro _) | with_reducible apply whenServed_keeps | with_reducible apply injectWord_keeps | with_reducible apply setFlips_keeps | with_reducible apply touch_keeps | (with_reducible apply Keeps.ite) | (fail_if_no_progress refine Keeps.upd ?_ rfl rfl rfl rfl rfl rfl))

theorem execPatrolScrub_keeps (a1) {s} (h : Keeps s0 s) : Goes s0 (execPatrolScrub a1 s) := by
  unfold execPatrolScrub
  first | refine onPart_keeps _ _ (fun h => ?_) h | refine Goes.next ?_
  try dsimp -zeta only
  repeat' (first | with_reducible assumption | (intro t (_ : Keeps s0 t)) | ((try lift_lets -underBinder); intro x; refine Keeps.cut (s := s0) (x := x) ?_ (fun _ => ?_); (on_goal 2 => (try clear_value x)); (on_goal 1 => unfold x)) | ((try lift_lets -underBinder); intro _) | with_reducible apply whenServed_keeps | with_reducible apply readNow_keeps | (with_reducible apply Keeps.ite) | split | (fail_if_no_progress refine Keeps.upd ?_ rfl rfl rfl rfl rfl rfl))

theorem stackTempRead_keeps (a1) (a2) {s} (h : Keeps s0 s) : Keeps s0 (stackTempRead a1 a2 s) := by
  unfold stackTempRead
  repeat' (first | with_reducible assumption | ((try lift_lets -underBinder); intro x; refine Keeps.cut (s := s0) (x := x) ?_ (fun _ => ?_); (on_goal 2 => (try clear_value x)); (on_goal 1 => unfold x)) | ((try lift_lets -underBinder); intro _) | with_reducible apply updStack_keeps | with_reducible apply post_keeps | (with_reducible apply Keeps.ite) | (fail_if_no_progress refine Keeps.upd ?_ rfl rfl rfl rfl rfl rfl))

theorem execStackTempRead_keeps (a1) (a2) {s} (h : Keeps s0 s) : Goes s0 (execStackTempRead a1 a2 s) := by
  unfold execStackTempRead
  refine Goes.next (Keeps.ite (stackTempRead_keeps a1 a2 h) ?_)
  split
  · exact Keeps.ite (updStack_keeps _ _ h) h
  · exact h

theorem stopService_keeps {s} (h : Keeps s0 s) : Keeps s0 (stopService s) :=
  Keeps.upd h rfl rfl rfl rfl rfl rfl

theorem beginChange_keeps (a1) (a2) {s} (h : Keeps s0 s) : Keeps s0 (beginChange a1 a2 s) := by
  unfold beginChange
  repeat' (first | with_reducible assumption | ((try lift_lets -underBinder); intro _) | with_reducible apply stopService_keeps | (fail_if_no_progress refine Keeps.upd ?_ rfl rfl rfl rfl rfl rfl))

theorem opReply_keeps (a1) (a2) (a3) (a4) {s} (h : Keeps s0 s) : Keeps s0 (opReply a1 a2 a3 a4 s) := by
  unfold opReply
  repeat' (first | with_reducible assumption | with_reducible apply ok_keeps | with_reducible apply failed_keeps | (with_reducible apply Keeps.ite) | split)

theorem srReplies_keeps {s} (h : Keeps s0 s) : Keeps s0 (srReplies s) := by
  unfold srReplies
  repeat' (first | with_reducible assumption | ((try lift_lets -underBinder); intro _) | with_reducible apply ok_keeps | (with_reducible refine Keeps.foldl _ (fun _ _ _ => ?_) _ ?_) | (fail_if_no_progress refine Keeps.upd ?_ rfl rfl rfl rfl rfl rfl))

theorem backInService_keeps (a1) {s} (h : Keeps s0 s) : Keeps s0 (backInService a1 s) := by
  unfold backInService
  repeat' (first | with_reducible assumption | ((try lift_lets -underBinder); intro x; refine Keeps.cut (s := s0) (x := x) ?_ (fun _ => ?_); (on_goal 2 => (try clear_value x)); (on_goal 1 => unfold x)) | with_reducible apply srReplies_keeps | with_reducible apply serveQueue_keeps | with_reducible apply updStack_keeps | (with_reducible apply Keeps.ite))

theorem resumeService_keeps {s} (h : Keeps s0 s) : Keeps s0 (resumeService s) := by
  unfold resumeService
  repeat' (first | with_reducible assumption | ((try lift_lets -underBinder); intro _) | with_reducible apply backInService_keeps | (fail_if_no_progress refine Keeps.upd ?_ rfl rfl rfl rfl rfl rfl))

theorem endOp_keeps {s} (h : Keeps s0 s) : Keeps s0 (endOp s) := by
  unfold endOp
  repeat' (first | with_reducible assumption | ((try lift_lets -underBinder); intro x; refine Keeps.cut (s := s0) (x := x) ?_ (fun _ => ?_); (on_goal 2 => (try clear_value x)); (on_goal 1 => unfold x)) | ((try lift_lets -underBinder); intro _) | with_reducible apply beginChange_keeps | with_reducible apply resumeService_keeps | with_reducible apply failed_keeps | (with_reducible apply Keeps.ite) | split | (fail_if_no_progress refine Keeps.upd ?_ rfl rfl rfl rfl rfl rfl))

theorem finishTrain_keeps (a1) (a2) (a3) {s} (h : Keeps s0 s) : Keeps s0 (finishTrain a1 a2 a3 s) := by
  unfold finishTrain
  repeat' (first | with_reducible assumption | ((try lift_lets -underBinder); intro _) | with_reducible apply endOp_keeps | with_reducible apply opReply_keeps | split | (fail_if_no_progress refine Keeps.upd ?_ rfl rfl rfl rfl rfl rfl))

theorem trainFail_keeps (a1) (a2) {s} (h : Keeps s0 s) : Keeps s0 (trainFail a1 a2 s) := by
  unfold trainFail
  repeat' (first | with_reducible assumption | ((try lift_lets -underBinder); intro x; refine Keeps.cut (s := s0) (x := x) ?_ (fun _ => ?_); (on_goal 2 => (try clear_value x)); (on_goal 1 => unfold x)) | ((try lift_lets -underBinder); intro _) | with_reducible apply post_keeps | with_reducible apply finishTrain_keeps | with_reducible apply endOp_keeps | with_reducible apply opReply_keeps | (with_reducible apply Keeps.ite) | split | (fail_if_no_progress refine Keeps.upd ?_ rfl rfl rfl rfl rfl rfl))

theorem trainDone_keeps (a1) {s} (h : Keeps s0 s) : Keeps s0 (trainDone a1 s) := by
  unfold trainDone
  repeat' (first | with_reducible assumption | ((try lift_lets -underBinder); intro x; refine Keeps.cut (s := s0) (x := x) ?_ (fun _ => ?_); (on_goal 2 => (try clear_value x)); (on_goal 1 => unfold x)) | ((try lift_lets -underBinder); intro _) | with_reducible apply writeSettings_keeps | with_reducible apply post_keeps | with_reducible apply endOp_keeps | with_reducible apply finishTrain_keeps | (with_reducible apply Keeps.ite) | (fail_if_no_progress refine Keeps.upd ?_ rfl rfl rfl rfl rfl rfl))

theorem execTrainingComplete_keeps (a1) {s} (h : Keeps s0 s) : Goes s0 (execTrainingComplete a1 s) := by
  unfold execTrainingComplete
  first | refine onPart_keeps _ _ (fun h => ?_) h | refine Goes.next ?_
  try dsimp -zeta only
  repeat' (first | with_reducible assumption | with_reducible apply trainFail_keeps | with_reducible apply trainDone_keeps | (with_reducible apply Keeps.ite) | split)

theorem setPoint_keeps (a1) (a2) {s} (h : Keeps s0 s) : Keeps s0 (setPoint a1 a2 s) := by
  unfold setPoint
  repeat' (first | with_reducible assumption | ((try lift_lets -underBinder); intro _) | with_reducible apply post_keeps | (fail_if_no_progress refine Keeps.upd ?_ rfl rfl rfl rfl rfl rfl))

theorem execFreqChangeComplete_keeps (a1) {s} (h : Keeps s0 s) : Goes s0 (execFreqChangeComplete a1 s) := by
  unfold execFreqChangeComplete
  first | refine onPart_keeps _ _ (fun h => ?_) h | refine Goes.next ?_
  try dsimp -zeta only
  repeat' (first | with_reducible assumption | ((try lift_lets -underBinder); intro _) | with_reducible apply endOp_keeps | with_reducible apply opReply_keeps | with_reducible apply setPoint_keeps | (with_reducible apply Keeps.ite) | split | (fail_if_no_progress refine Keeps.upd ?_ rfl rfl rfl rfl rfl rfl))

theorem specClSetFreq_keeps (c) {s} (h : Keeps s0 s) : Keeps s0 (specClSetFreq.run c s) := by
  unfold specClSetFreq; dsimp -zeta only
  repeat' (first | with_reducible assumption | ((try lift_lets -underBinder); intro _) | with_reducible apply beginChange_keeps | (with_reducible apply Keeps.ite) | (fail_if_no_progress refine Keeps.upd ?_ rfl rfl rfl rfl rfl rfl))

theorem execClSetFreq_keeps (a1) {s} (h : Keeps s0 s) : Goes s0 (execClSetFreq a1 s) := runCmd_keeps specClSetFreq a1 (fun c _ h => specClSetFreq_keeps c h) h

theorem specClTrain_keeps (c) {s} (h : Keeps s0 s) : Keeps s0 (specClTrain.run c s) := by
  unfold specClTrain; dsimp -zeta only
  repeat' (first | with_reducible assumption | ((try lift_lets -underBinder); intro _) | with_reducible apply stopService_keeps | split | (fail_if_no_progress refine Keeps.upd ?_ rfl rfl rfl rfl rfl rfl))

theorem execClTrain_keeps (a1) {s} (h : Keeps s0 s) : Goes s0 (execClTrain a1 s) := runCmd_keeps specClTrain a1 (fun c _ h => specClTrain_keeps c h) h

theorem specClSelfRefresh_keeps (c) {s} (h : Keeps s0 s) : Keeps s0 (specClSelfRefresh.run c s) := by
  unfold specClSelfRefresh; dsimp -zeta only
  repeat' (first | with_reducible assumption | ((try lift_lets -underBinder); intro x; refine Keeps.cut (s := s0) (x := x) ?_ (fun _ => ?_); (on_goal 2 => (try clear_value x)); (on_goal 1 => unfold x)) | ((try lift_lets -underBinder); intro _) | with_reducible apply updStack_keeps | with_reducible apply srReplies_keeps | (fail_if_no_progress refine Keeps.upd ?_ rfl rfl rfl rfl rfl rfl))

theorem execClSelfRefresh_keeps (a1) {s} (h : Keeps s0 s) : Goes s0 (execClSelfRefresh a1 s) := runCmd_keeps specClSelfRefresh a1 (fun c _ h => specClSelfRefresh_keeps c h) h

theorem execSrAutoEntry_keeps (a1) {s} (h : Keeps s0 s) : Goes s0 (execSrAutoEntry a1 s) := by
  unfold execSrAutoEntry
  first | refine onPart_keeps _ _ (fun h => ?_) h | refine Goes.next ?_
  try dsimp -zeta only
  repeat' (first | with_reducible assumption | with_reducible apply updStack_keeps | (with_reducible apply Keeps.ite))

theorem execSrPointOfNoReturn_keeps (a1) {s} (h : Keeps s0 s) : Goes s0 (execSrPointOfNoReturn a1 s) := by
  unfold execSrPointOfNoReturn
  first | refine onPart_keeps _ _ (fun h => ?_) h | refine Goes.next ?_
  try dsimp -zeta only
  repeat' (first | with_reducible assumption | with_reducible apply updStack_keeps | with_reducible apply srReplies_keeps | with_reducible apply post_keeps | (with_reducible apply Keeps.ite))

theorem execSrExit_keeps (a1) {s} (h : Keeps s0 s) : Goes s0 (execSrExit a1 s) := by
  unfold execSrExit
  first | refine onPart_keeps _ _ (fun h => ?_) h | refine Goes.next ?_
  try dsimp -zeta only
  repeat' (first | with_reducible assumption | ((try lift_lets -underBinder); intro _) | with_reducible apply updStack_keeps | (with_reducible apply Keeps.ite))

theorem execSrExitComplete_keeps (a1) {s} (h : Keeps s0 s) : Goes s0 (execSrExitComplete a1 s) := by
  unfold execSrExitComplete
  first | refine onPart_keeps _ _ (fun h => ?_) h | refine Goes.next ?_
  try dsimp -zeta only
  repeat' (first | with_reducible assumption | ((try lift_lets -underBinder); intro x; refine Keeps.cut (s := s0) (x := x) ?_ (fun _ => ?_); (on_goal 2 => (try clear_value x)); (on_goal 1 => unfold x)) | ((try lift_lets -underBinder); intro _) | with_reducible apply updStack_keeps | with_reducible apply backInService_keeps | with_reducible apply post_keeps | (with_reducible apply Keeps.ite))

theorem specClGetInfo_keeps (c) {s} (h : Keeps s0 s) : Keeps s0 (specClGetInfo.run c s) := by
  unfold specClGetInfo; dsimp -zeta only
  repeat' (first | with_reducible assumption | ((try lift_lets -underBinder); intro _) | with_reducible apply ok_keeps)

theorem execClGetInfo_keeps (a1) {s} (h : Keeps s0 s) : Goes s0 (execClGetInfo a1 s) := runCmd_keeps specClGetInfo a1 (fun c _ h => specClGetInfo_keeps c h) h

theorem specClGetErrors_keeps (c) {s} (h : Keeps s0 s) : Keeps s0 (specClGetErrors.run c s) := by
  unfold specClGetErrors; dsimp -zeta only
  repeat' (first | with_reducible assumption | ((try lift_lets -underBinder); intro x; refine Keeps.cut (s := s0) (x := x) ?_ (fun _ => ?_); (on_goal 2 => (try clear_value x)); (on_goal 1 => unfold x)) | ((try lift_lets -underBinder); intro _) | with_reducible apply updStack_keeps | with_reducible apply ok_keeps | (with_reducible apply Keeps.ite))

theorem execClGetErrors_keeps (a1) {s} (h : Keeps s0 s) : Goes s0 (execClGetErrors a1 s) := runCmd_keeps specClGetErrors a1 (fun c _ h => specClGetErrors_keeps c h) h

theorem specClSetScrub_keeps (c) {s} (h : Keeps s0 s) : Keeps s0 (specClSetScrub.run c s) := by
  unfold specClSetScrub; dsimp -zeta only
  repeat' (first | with_reducible assumption | ((try lift_lets -underBinder); intro _) | with_reducible apply ok_keeps | with_reducible apply ceRate_keeps | (fail_if_no_progress refine Keeps.upd ?_ rfl rfl rfl rfl rfl rfl))

theorem execClSetScrub_keeps (a1) {s} (h : Keeps s0 s) : Goes s0 (execClSetScrub a1 s) := runCmd_keeps specClSetScrub a1 (fun c _ h => specClSetScrub_keeps c h) h

theorem specClInjectError_keeps (c) {s} (h : Keeps s0 s) : Keeps s0 (specClInjectError.run c s) := by
  unfold specClInjectError; dsimp -zeta only
  repeat' (first | with_reducible assumption | ((try lift_lets -underBinder); intro _) | with_reducible apply ok_keeps | (fail_if_no_progress refine Keeps.upd ?_ rfl rfl rfl rfl rfl rfl))

theorem execClInjectError_keeps (a1) {s} (h : Keeps s0 s) : Goes s0 (execClInjectError a1 s) := runCmd_keeps specClInjectError a1 (fun c _ h => specClInjectError_keeps c h) h

theorem clCtlWrite_keeps (a1) {s} (h : Keeps s0 s) : Keeps s0 (clCtlWrite a1 s) :=
  Keeps.upd h rfl rfl rfl rfl rfl rfl

theorem clStatusWrite_keeps (a1) {s} (h : Keeps s0 s) : Keeps s0 (clStatusWrite a1 s) :=
  Keeps.upd h rfl rfl rfl rfl rfl rfl

theorem remapCellar_keeps (new) {s} (h : Keeps s0 s) :
    Keeps s0 (remapCellar new s) :=
  Keeps.updMem h (fun _ => memMove_wf _ _ rfl) rfl rfl rfl rfl rfl

theorem pcXorWrite_keeps (a1) (a2) {s} (h : Keeps s0 s) : Keeps s0 (pcXorWrite a1 a2 s) := by
  unfold pcXorWrite
  repeat' (first | with_reducible assumption | ((try lift_lets -underBinder); intro _) | with_reducible apply remapCellar_keeps)

theorem bkXorWrite_keeps (a1) (a2) {s} (h : Keeps s0 s) : Keeps s0 (bkXorWrite a1 a2 s) := by
  unfold bkXorWrite
  repeat' (first | with_reducible assumption | ((try lift_lets -underBinder); intro _) | with_reducible apply remapCellar_keeps)

end Sys2Proof.Laws
end

