-- ==== Sys2Proof/Laws/KeepsAudio.lean ====
section
/-!
SUPPORT. The operations and commands of Machine/Audio.lean keep what `Keeps` names.
-/
set_option linter.unusedTactic false
set_option linter.unreachableTactic false
set_option linter.unusedVariables false
namespace Sys2Proof.Laws

open Sys2Proof.Machine

variable {s0 : State}

theorem updAu_keeps (a1) {s} (h : Keeps s0 s) : Keeps s0 (updAu a1 s) :=
  Keeps.upd h rfl rfl rfl rfl rfl rfl

theorem updAuPort_keeps (a1) (a2) {s} (h : Keeps s0 s) : Keeps s0 (updAuPort a1 a2 s) := by
  unfold updAuPort
  repeat' (first | with_reducible assumption | with_reducible apply updAu_keeps)

theorem updAuGroup_keeps (a1) (a2) {s} (h : Keeps s0 s) : Keeps s0 (updAuGroup a1 a2 s) := by
  unfold updAuGroup
  repeat' (first | with_reducible assumption | with_reducible apply updAu_keeps)

theorem measureWall_keeps (a1) (a2) {s} (h : Keeps s0 s) : Keeps s0 (measureWall a1 a2 s) := by
  unfold measureWall
  repeat' (first | with_reducible assumption | with_reducible apply updAuGroup_keeps)

theorem countUnder_keeps (a1) (a2) {s} (h : Keeps s0 s) : Keeps s0 (countUnder a1 a2 s) := by
  unfold countUnder
  repeat' (first | with_reducible assumption | ((try lift_lets -underBinder); intro x; refine Keeps.cut (s := s0) (x := x) ?_ (fun _ => ?_); (on_goal 2 => (try clear_value x)); (on_goal 1 => unfold x)) | ((try lift_lets -underBinder); intro _) | with_reducible apply updAu_keeps | with_reducible apply post_keeps | (with_reducible apply Keeps.ite))

theorem countOver_keeps (a1) {s} (h : Keeps s0 s) : Keeps s0 (countOver a1 s) := by
  unfold countOver
  repeat' (first | with_reducible assumption | ((try lift_lets -underBinder); intro x; refine Keeps.cut (s := s0) (x := x) ?_ (fun _ => ?_); (on_goal 2 => (try clear_value x)); (on_goal 1 => unfold x)) | ((try lift_lets -underBinder); intro _) | with_reducible apply updAu_keeps | with_reducible apply post_keeps | (with_reducible apply Keeps.ite))

theorem touchFrame_keeps (a1) {s} (a3) (h : Keeps s0 s) : Keeps s0 (touchFrame a1 s a3) := by
  unfold touchFrame
  repeat' (first | with_reducible assumption | ((try lift_lets -underBinder); intro _) | with_reducible apply clRead_keeps | (with_reducible apply Keeps.ite))

theorem readAhead_keeps (a1) (a2) {s} (h : Keeps s0 s) : Keeps s0 (readAhead a1 a2 s) := by
  unfold readAhead
  repeat' (first | with_reducible assumption | ((try lift_lets -underBinder); intro x; refine Keeps.cut (s := s0) (x := x) ?_ (fun _ => ?_); (on_goal 2 => (try clear_value x)); (on_goal 1 => unfold x)) | ((try lift_lets -underBinder); intro _) | with_reducible apply updAuPort_keeps | with_reducible apply touchFrame_keeps | with_reducible apply countUnder_keeps | (with_reducible refine Keeps.foldl _ (fun _ _ _ => ?_) _ ?_))

theorem hostFrame_keeps (a1) (a2) {s} (h : Keeps s0 s) : Keeps s0 (hostFrame a1 a2 s).2 := by
  unfold hostFrame
  repeat' (first | with_reducible assumption | ((try lift_lets -underBinder); intro x; refine Keeps.cut (s := s0) (x := x) ?_ (fun _ => ?_); (on_goal 2 => (try clear_value x)); (on_goal 1 => unfold x)) | ((try lift_lets -underBinder); intro _) | with_reducible apply countUnder_keeps | with_reducible apply updAuPort_keeps | with_reducible apply countOver_keeps | with_reducible apply clRead_keeps | (with_reducible apply Keeps.ite) | split)

theorem tdmFrame_keeps (a1) (a2) {s} (h : Keeps s0 s) : Keeps s0 (tdmFrame a1 a2 s) := by
  unfold tdmFrame
  repeat' (first | with_reducible assumption | ((try lift_lets -underBinder); intro x; refine Keeps.cut (s := s0) (x := x) ?_ (fun _ => ?_); (on_goal 2 => (try clear_value x)); (on_goal 1 => unfold x)) | ((try lift_lets -underBinder); intro _) | with_reducible apply emit_keeps | with_reducible apply updAuPort_keeps | with_reducible apply hostFrame_keeps | with_reducible apply readAhead_keeps | (with_reducible apply Keeps.ite))

theorem changeDelay_keeps (a1) (a2) {s} (h : Keeps s0 s) : Keeps s0 (changeDelay a1 a2 s) := by
  unfold changeDelay
  repeat' (first | with_reducible assumption | ((try lift_lets -underBinder); intro x; refine Keeps.cut (s := s0) (x := x) ?_ (fun _ => ?_); (on_goal 2 => (try clear_value x)); (on_goal 1 => unfold x)) | ((try lift_lets -underBinder); intro _) | with_reducible apply updAu_keeps | with_reducible apply updAuGroup_keeps | with_reducible apply post_keeps | (with_reducible apply Keeps.ite))

theorem switchMask_keeps (a1) (a2) (a3) (a4) {s} (h : Keeps s0 s) : Keeps s0 (switchMask a1 a2 a3 a4 s) := by
  unfold switchMask
  repeat' (first | with_reducible assumption | with_reducible apply post_keeps | with_reducible apply updAuPort_keeps)

theorem applyDelay_keeps (a1) {s} (h : Keeps s0 s) : Keeps s0 (applyDelay a1 s) := by
  unfold applyDelay
  repeat' (first | with_reducible assumption | with_reducible apply changeDelay_keeps | with_reducible apply updAuGroup_keeps | split)

theorem audioBoundary_keeps (a1) (a2) {s} (h : Keeps s0 s) : Keeps s0 (audioBoundary a1 a2 s) := by
  unfold audioBoundary
  repeat' (first | with_reducible assumption | ((try lift_lets -underBinder); intro x; refine Keeps.cut (s := s0) (x := x) ?_ (fun _ => ?_); (on_goal 2 => (try clear_value x)); (on_goal 1 => unfold x)) | ((try lift_lets -underBinder); intro _) | with_reducible apply updAuGroup_keeps | with_reducible apply applyDelay_keeps | with_reducible apply updAuPort_keeps | with_reducible apply switchMask_keeps | (with_reducible refine Keeps.foldl _ (fun _ _ _ => ?_) _ ?_) | (with_reducible apply Keeps.ite) | split)

theorem dueAudio_keeps (a1) {s} (h : Keeps s0 s) : Keeps s0 (dueAudio a1 s) := by
  unfold dueAudio
  repeat' (first | with_reducible assumption | with_reducible apply audioBoundary_keeps | (with_reducible apply Keeps.ite))

theorem execAudio_keeps (a1) (a2) {s} (h : Keeps s0 s) : Goes s0 (execAudio a1 a2 s) := by
  unfold execAudio
  first | refine onPart_keeps _ _ (fun h => ?_) h | refine Goes.next ?_
  try dsimp -zeta only
  repeat' (first | with_reducible assumption | with_reducible apply dueAudio_keeps | (with_reducible apply Keeps.ite))

theorem tdmDue_keeps (a1) (a2) {s} (h : Keeps s0 s) : Keeps s0 (tdmDue a1 a2 s) := by
  unfold tdmDue
  repeat' (first | with_reducible assumption | ((try lift_lets -underBinder); intro _) | with_reducible apply tdmFrame_keeps | (with_reducible apply Keeps.ite))

theorem execTdmFrame_keeps (a1) (a2) {s} (h : Keeps s0 s) : Goes s0 (execTdmFrame a1 a2 s) := by
  unfold execTdmFrame
  first | refine onPart_keeps _ _ (fun h => ?_) h | refine Goes.next ?_
  try dsimp -zeta only
  repeat' (first | with_reducible assumption | with_reducible apply tdmDue_keeps | with_reducible apply dueAudio_keeps | (with_reducible apply Keeps.ite))

theorem execAuPllUnlock_keeps {s} (h : Keeps s0 s) : Goes s0 (execAuPllUnlock s) := by
  unfold execAuPllUnlock
  first | refine onPart_keeps _ _ (fun h => ?_) h | refine Goes.next ?_
  try dsimp -zeta only
  repeat' (first | with_reducible assumption | with_reducible apply post_keeps | with_reducible apply updAu_keeps | (with_reducible apply Keeps.ite))

theorem execAuPllRelock_keeps {s} (h : Keeps s0 s) : Goes s0 (execAuPllRelock s) := by
  unfold execAuPllRelock
  first | refine onPart_keeps _ _ (fun h => ?_) h | refine Goes.next ?_
  try dsimp -zeta only
  repeat' (first | with_reducible assumption | with_reducible apply updAu_keeps | (with_reducible apply Keeps.ite))

theorem execAuHostTail_keeps (a1) (a2) {s} (h : Keeps s0 s) : Goes s0 (execAuHostTail a1 a2 s) := by
  unfold execAuHostTail
  first | refine onPart_keeps _ _ (fun h => ?_) h | refine Goes.next ?_
  try dsimp -zeta only
  repeat' (first | with_reducible assumption | with_reducible apply updAuPort_keeps)

theorem specAuSetPort_keeps (c) {s} (h : Keeps s0 s) : Keeps s0 (specAuSetPort.run c s) := by
  unfold specAuSetPort; dsimp -zeta only
  repeat' (first | with_reducible assumption | ((try lift_lets -underBinder); intro _) | with_reducible apply ok_keeps | with_reducible apply updAuPort_keeps)

theorem execAuSetPort_keeps (a1) {s} (h : Keeps s0 s) : Goes s0 (execAuSetPort a1 s) := runCmd_keeps specAuSetPort a1 (fun c _ h => specAuSetPort_keeps c h) h

theorem specAuSetGroup_keeps (c) {s} (h : Keeps s0 s) : Keeps s0 (specAuSetGroup.run c s) := by
  unfold specAuSetGroup; dsimp -zeta only
  repeat' (first | with_reducible assumption | ((try lift_lets -underBinder); intro x; refine Keeps.cut (s := s0) (x := x) ?_ (fun _ => ?_); (on_goal 2 => (try clear_value x)); (on_goal 1 => unfold x)) | ((try lift_lets -underBinder); intro _) | with_reducible apply updAuGroup_keeps | with_reducible apply ok_keeps)

theorem execAuSetGroup_keeps (a1) {s} (h : Keeps s0 s) : Goes s0 (execAuSetGroup a1 s) := runCmd_keeps specAuSetGroup a1 (fun c _ h => specAuSetGroup_keeps c h) h

theorem specAuSetSlots_keeps (c) {s} (h : Keeps s0 s) : Keeps s0 (specAuSetSlots.run c s) := by
  unfold specAuSetSlots; dsimp -zeta only
  repeat' (first | with_reducible assumption | ((try lift_lets -underBinder); intro _) | with_reducible apply updAuPort_keeps | with_reducible apply okFrame_keeps | with_reducible apply ok_keeps | split)

theorem execAuSetSlots_keeps (a1) {s} (h : Keeps s0 s) : Goes s0 (execAuSetSlots a1 s) := runCmd_keeps specAuSetSlots a1 (fun c _ h => specAuSetSlots_keeps c h) h

theorem specAuGetStatus_keeps (c) {s} (h : Keeps s0 s) : Keeps s0 (specAuGetStatus.run c s) := by
  unfold specAuGetStatus; dsimp -zeta only
  repeat' (first | with_reducible assumption | ((try lift_lets -underBinder); intro _) | with_reducible apply ok_keeps)

theorem execAuGetStatus_keeps (a1) {s} (h : Keeps s0 s) : Goes s0 (execAuGetStatus a1 s) := runCmd_keeps specAuGetStatus a1 (fun c _ h => specAuGetStatus_keeps c h) h

theorem specAuGetStreamStats_keeps (c) {s} (h : Keeps s0 s) : Keeps s0 (specAuGetStreamStats.run c s) := by
  unfold specAuGetStreamStats; dsimp -zeta only
  repeat' (first | with_reducible assumption | ((try lift_lets -underBinder); intro x; refine Keeps.cut (s := s0) (x := x) ?_ (fun _ => ?_); (on_goal 2 => (try clear_value x)); (on_goal 1 => unfold x)) | ((try lift_lets -underBinder); intro _) | with_reducible apply updAu_keeps | with_reducible apply ok_keeps | (with_reducible apply Keeps.ite))

theorem execAuGetStreamStats_keeps (a1) {s} (h : Keeps s0 s) : Goes s0 (execAuGetStreamStats a1 s) := runCmd_keeps specAuGetStreamStats a1 (fun c _ h => specAuGetStreamStats_keeps c h) h

theorem auPortCtlWrite_keeps (a1) (a2) {s} (h : Keeps s0 s) : Keeps s0 (auPortCtlWrite a1 a2 s) := by
  unfold auPortCtlWrite
  repeat' (first | with_reducible assumption | ((try lift_lets -underBinder); intro _) | with_reducible apply updAuPort_keeps)

theorem auPortStatusWrite_keeps (a1) (a2) {s} (h : Keeps s0 s) : Keeps s0 (auPortStatusWrite a1 a2 s) := by
  unfold auPortStatusWrite
  repeat' (first | with_reducible assumption | with_reducible apply updAuPort_keeps)

theorem auBaseLoWrite_keeps (a1) (a2) {s} (h : Keeps s0 s) : Keeps s0 (auBaseLoWrite a1 a2 s) := by
  unfold auBaseLoWrite
  repeat' (first | with_reducible assumption | with_reducible apply updAuPort_keeps)

theorem auBaseHiWrite_keeps (a1) (a2) {s} (h : Keeps s0 s) : Keeps s0 (auBaseHiWrite a1 a2 s) := by
  unfold auBaseHiWrite
  repeat' (first | with_reducible assumption | with_reducible apply updAuPort_keeps)

theorem auFramesWrite_keeps (a1) (a2) {s} (h : Keeps s0 s) : Keeps s0 (auFramesWrite a1 a2 s) := by
  unfold auFramesWrite
  repeat' (first | with_reducible assumption | with_reducible apply updAuPort_keeps)

theorem auTailWrite_keeps (a1) (a2) {s} (h : Keeps s0 s) : Keeps s0 (auTailWrite a1 a2 s) := by
  unfold auTailWrite
  repeat' (first | with_reducible assumption | with_reducible apply updAuPort_keeps)

theorem regroup_keeps (a1) (a2) {s} (h : Keeps s0 s) : Keeps s0 (regroup a1 a2 s) := by
  unfold regroup
  repeat' (first | with_reducible assumption | ((try lift_lets -underBinder); intro x; refine Keeps.cut (s := s0) (x := x) ?_ (fun _ => ?_); (on_goal 2 => (try clear_value x)); (on_goal 1 => unfold x)) | ((try lift_lets -underBinder); intro _) | with_reducible apply updAuGroup_keeps | with_reducible apply updAu_keeps | with_reducible apply applyDelay_keeps | (with_reducible apply Keeps.ite))

theorem auGroupCtlWrite_keeps (a1) (a2) {s} (h : Keeps s0 s) : Keeps s0 (auGroupCtlWrite a1 a2 s) := by
  unfold auGroupCtlWrite
  repeat' (first | with_reducible assumption | ((try lift_lets -underBinder); intro _) | with_reducible apply regroup_keeps | with_reducible apply updAuGroup_keeps)

theorem auOffsetWrite_keeps (a1) (a2) {s} (h : Keeps s0 s) : Keeps s0 (auOffsetWrite a1 a2 s) := by
  unfold auOffsetWrite
  repeat' (first | with_reducible assumption | with_reducible apply regroup_keeps | with_reducible apply updAuGroup_keeps)

end Sys2Proof.Laws
end

