-- ==== Sys2Proof/Laws/KeepsFoyer.lean ====
section
/-!
SUPPORT. The operations and commands of Machine/Foyer.lean keep what `Keeps` names.
-/
set_option linter.unusedTactic false
set_option linter.unreachableTactic false
set_option linter.unusedVariables false
namespace Sys2Proof.Laws

open Sys2Proof.Machine

variable {s0 : State}

theorem updFy_keeps (a1) {s} (h : Keeps s0 s) : Keeps s0 (updFy a1 s) :=
  Keeps.upd h rfl rfl rfl rfl rfl rfl

theorem updFyPort_keeps (a1) (a2) {s} (h : Keeps s0 s) : Keeps s0 (updFyPort a1 a2 s) := by
  unfold updFyPort
  repeat' (first | with_reducible assumption | with_reducible apply updFy_keeps)

theorem updStream_keeps (a1) (a2) (a3) {s} (h : Keeps s0 s) : Keeps s0 (updStream a1 a2 a3 s) := by
  unfold updStream
  repeat' (first | with_reducible assumption | with_reducible apply updFy_keeps)

theorem updStats_keeps (a1) (a2) (a3) {s} (h : Keeps s0 s) : Keeps s0 (updStats a1 a2 a3 s) := by
  unfold updStats
  repeat' (first | with_reducible assumption | with_reducible apply updStream_keeps)

theorem dropHeldPackets_keeps (a1) (a2) {s} (h : Keeps s0 s) : Keeps s0 (dropHeldPackets a1 a2 s) := by
  unfold dropHeldPackets
  repeat' (first | with_reducible assumption | with_reducible apply updFy_keeps)

theorem packetOn_keeps (a1) (a2) (a3) (a4) {s} (h : Keeps s0 s) : Keeps s0 (packetOn a1 a2 a3 a4 s) := by
  unfold packetOn
  repeat' (first | with_reducible assumption | ((try lift_lets -underBinder); intro x; refine Keeps.cut (s := s0) (x := x) ?_ (fun _ => ?_); (on_goal 2 => (try clear_value x)); (on_goal 1 => unfold x)) | ((try lift_lets -underBinder); intro _) | with_reducible apply updFyPort_keeps | with_reducible apply updStats_keeps | with_reducible apply updStream_keeps | with_reducible apply post_keeps | (with_reducible apply Keeps.ite))

theorem updVideo_keeps (a1) (a2) {s} (h : Keeps s0 s) : Keeps s0 (updVideo a1 a2 s) := by
  unfold updVideo
  repeat' (first | with_reducible assumption | with_reducible apply updFy_keeps)

theorem forwardFoyer_keeps (a1) (a2) (a3) (a4) (a5) (a6) {s} (h : Keeps s0 s) : Keeps s0 (forwardFoyer a1 a2 a3 a4 a5 a6 s) := by
  unfold forwardFoyer
  repeat' (first | with_reducible assumption | with_reducible apply twinSend_keeps | with_reducible apply updTw_keeps | (with_reducible apply Keeps.ite))

theorem submitFoyer_keeps (a1) (a2) (a3) (a4) (a5) {s} (h : Keeps s0 s) : Keeps s0 (submitFoyer a1 a2 a3 a4 a5 s) := by
  unfold submitFoyer
  repeat' (first | with_reducible assumption | ((try lift_lets -underBinder); intro _) | with_reducible apply forwardFoyer_keeps | with_reducible apply install_keeps | with_reducible apply nextSeq_keeps | with_reducible apply applyNow_keeps | split)

theorem frameDone_keeps (a1) (a2) (a3) (a4) {s} (h : Keeps s0 s) : Keeps s0 (frameDone a1 a2 a3 a4 s) := by
  unfold frameDone
  repeat' (first | with_reducible assumption | ((try lift_lets -underBinder); intro x; refine Keeps.cut (s := s0) (x := x) ?_ (fun _ => ?_); (on_goal 2 => (try clear_value x)); (on_goal 1 => unfold x)) | ((try lift_lets -underBinder); intro _) | with_reducible apply updVideo_keeps | with_reducible apply post_keeps | with_reducible apply updStats_keeps | with_reducible apply submitFoyer_keeps | (with_reducible apply Keeps.ite) | split)

theorem writeRow_keeps (a1) (a2) {s} (a4) (h : Keeps s0 s) : Keeps s0 (writeRow a1 a2 s a4) := by
  unfold writeRow
  repeat' (first | with_reducible assumption | ((try lift_lets -underBinder); intro _) | with_reducible apply clWrite_keeps | (with_reducible refine Keeps.foldl _ (fun _ _ _ => ?_) _ ?_))

theorem closeIncomplete_keeps (a1) (a2) {s} (h : Keeps s0 s) : Keeps s0 (closeIncomplete a1 a2 s) := by
  unfold closeIncomplete
  repeat' (first | with_reducible assumption | ((try lift_lets -underBinder); intro x; refine Keeps.cut (s := s0) (x := x) ?_ (fun _ => ?_); (on_goal 2 => (try clear_value x)); (on_goal 1 => unfold x)) | with_reducible apply updVideo_keeps | with_reducible apply updStats_keeps | (with_reducible apply Keeps.ite))

theorem openFrame_keeps (a1) (a2) (a3) {s} (h : Keeps s0 s) : Keeps s0 (openFrame a1 a2 a3 s) := by
  unfold openFrame
  repeat' (first | with_reducible assumption | ((try lift_lets -underBinder); intro x; refine Keeps.cut (s := s0) (x := x) ?_ (fun _ => ?_); (on_goal 2 => (try clear_value x)); (on_goal 1 => unfold x)) | ((try lift_lets -underBinder); intro _) | with_reducible apply closeIncomplete_keeps | with_reducible apply updVideo_keeps | with_reducible apply updStats_keeps | (with_reducible refine Keeps.foldl _ (fun _ _ _ => ?_) _ ?_) | (with_reducible apply Keeps.ite))

theorem giveUpBuffer_keeps (a1) (a2) {s} (h : Keeps s0 s) : Keeps s0 (giveUpBuffer a1 a2 s).2 := by
  unfold giveUpBuffer
  repeat' (first | with_reducible assumption | ((try lift_lets -underBinder); intro _) | with_reducible apply updStats_keeps | with_reducible apply updVideo_keeps | split)

theorem fillFrame_keeps (a1) (a2) (a3) {s} (h : Keeps s0 s) : Keeps s0 (fillFrame a1 a2 a3 s) := by
  unfold fillFrame
  repeat' (first | with_reducible assumption | ((try lift_lets -underBinder); intro x; refine Keeps.cut (s := s0) (x := x) ?_ (fun _ => ?_); (on_goal 2 => (try clear_value x)); (on_goal 1 => unfold x)) | ((try lift_lets -underBinder); intro _) | with_reducible apply updStats_keeps | with_reducible apply giveUpBuffer_keeps | with_reducible apply writeRow_keeps | with_reducible apply updVideo_keeps | with_reducible apply frameDone_keeps | (with_reducible refine Keeps.foldl _ (fun _ _ _ => ?_) _ ?_) | (with_reducible apply Keeps.ite) | split)

theorem senderModel_keeps (a1) (a2) (a3) {s} (h : Keeps s0 s) : Keeps s0 (senderModel a1 a2 a3 s) := by
  unfold senderModel
  repeat' (first | with_reducible assumption | ((try lift_lets -underBinder); intro x; refine Keeps.cut (s := s0) (x := x) ?_ (fun _ => ?_); (on_goal 2 => (try clear_value x)); (on_goal 1 => unfold x)) | ((try lift_lets -underBinder); intro _) | with_reducible apply updVideo_keeps | with_reducible apply updStats_keeps | (with_reducible apply Keeps.ite))

theorem videoPacket_keeps (a1) (a2) (a3) {s} (h : Keeps s0 s) : Keeps s0 (videoPacket a1 a2 a3 s) := by
  unfold videoPacket
  repeat' (first | with_reducible assumption | ((try lift_lets -underBinder); intro x; refine Keeps.cut (s := s0) (x := x) ?_ (fun _ => ?_); (on_goal 2 => (try clear_value x)); (on_goal 1 => unfold x)) | ((try lift_lets -underBinder); intro _) | with_reducible apply senderModel_keeps | with_reducible apply updStats_keeps | with_reducible apply fillFrame_keeps | with_reducible apply openFrame_keeps | (with_reducible apply Keeps.ite) | split)

theorem execVideoPacketReceived_keeps (a1) (a2) (a3) {s} (h : Keeps s0 s) : Goes s0 (execVideoPacketReceived a1 a2 a3 s) := by
  unfold execVideoPacketReceived
  first | refine onPart_keeps _ _ (fun h => ?_) h | refine Goes.next ?_
  try dsimp -zeta only
  repeat' (first | with_reducible assumption | with_reducible apply videoPacket_keeps | with_reducible apply packetOn_keeps | (with_reducible apply Keeps.ite))

theorem execVideoFrameCloseTimeout_keeps (a1) (a2) {s} (h : Keeps s0 s) : Goes s0 (execVideoFrameCloseTimeout a1 a2 s) := by
  unfold execVideoFrameCloseTimeout
  first | refine onPart_keeps _ _ (fun h => ?_) h | refine Goes.next ?_
  try dsimp -zeta only
  repeat' (first | with_reducible assumption | with_reducible apply closeIncomplete_keeps | (with_reducible apply Keeps.ite) | split)

theorem noteSeq_keeps (a1) (a2) (a3) {s} (h : Keeps s0 s) : Keeps s0 (noteSeq a1 a2 a3 s) := by
  unfold noteSeq
  repeat' (first | with_reducible assumption | with_reducible apply updStream_keeps)

theorem writeSamples_keeps (a1) (a2) (a3) {s} (h : Keeps s0 s) : Keeps s0 (writeSamples a1 a2 a3 s) := by
  unfold writeSamples
  repeat' (first | with_reducible assumption | ((try lift_lets -underBinder); intro _) | with_reducible apply clWrite_keeps)

theorem audioFrame_keeps (a1) (a2) (a3) {s} (h : Keeps s0 s) : Keeps s0 (audioFrame a1 a2 a3 s) := by
  unfold audioFrame
  repeat' (first | with_reducible assumption | ((try lift_lets -underBinder); intro _) | with_reducible apply writeSamples_keeps | with_reducible apply updAu_keeps | with_reducible apply countOver_keeps | (with_reducible apply Keeps.ite) | split)

theorem execAudioPacketReceived_keeps (a1) (a2) (a3) {s} (h : Keeps s0 s) : Goes s0 (execAudioPacketReceived a1 a2 a3 s) := by
  unfold execAudioPacketReceived
  first | refine onPart_keeps _ _ (fun h => ?_) h | refine Goes.next ?_
  try dsimp -zeta only
  repeat' (first | with_reducible assumption | ((try lift_lets -underBinder); intro x; refine Keeps.cut (s := s0) (x := x) ?_ (fun _ => ?_); (on_goal 2 => (try clear_value x)); (on_goal 1 => unfold x)) | ((try lift_lets -underBinder); intro _) | with_reducible apply packetOn_keeps | with_reducible apply updStats_keeps | with_reducible apply audioFrame_keeps | with_reducible apply noteSeq_keeps | (with_reducible refine Keeps.foldl _ (fun _ _ _ => ?_) _ ?_) | (with_reducible apply Keeps.ite))

theorem writeCaption_keeps (a1) (a2) (a3) {s} (h : Keeps s0 s) : Keeps s0 (writeCaption a1 a2 a3 s) := by
  unfold writeCaption
  repeat' (first | with_reducible assumption | ((try lift_lets -underBinder); intro x; refine Keeps.cut (s := s0) (x := x) ?_ (fun _ => ?_); (on_goal 2 => (try clear_value x)); (on_goal 1 => unfold x)) | ((try lift_lets -underBinder); intro _) | with_reducible apply clWrite_keeps | with_reducible apply updFy_keeps | (with_reducible apply Keeps.ite))

theorem ancData_keeps (a1) (a2) {s} (a4) (h : Keeps s0 s) : Keeps s0 (ancData a1 a2 s a4) := by
  unfold ancData
  repeat' (first | with_reducible assumption | with_reducible apply updFy_keeps | with_reducible apply writeCaption_keeps | with_reducible apply updStats_keeps | (with_reducible apply Keeps.ite))

theorem execAncPacketReceived_keeps (a1) (a2) (a3) {s} (h : Keeps s0 s) : Goes s0 (execAncPacketReceived a1 a2 a3 s) := by
  unfold execAncPacketReceived
  first | refine onPart_keeps _ _ (fun h => ?_) h | refine Goes.next ?_
  try dsimp -zeta only
  repeat' (first | with_reducible assumption | ((try lift_lets -underBinder); intro x; refine Keeps.cut (s := s0) (x := x) ?_ (fun _ => ?_); (on_goal 2 => (try clear_value x)); (on_goal 1 => unfold x)) | ((try lift_lets -underBinder); intro _) | with_reducible apply packetOn_keeps | with_reducible apply updStats_keeps | with_reducible apply ancData_keeps | with_reducible apply noteSeq_keeps | (with_reducible refine Keeps.foldl _ (fun _ _ _ => ?_) _ ?_) | (with_reducible apply Keeps.ite))

theorem execFyStreamLost_keeps (a1) {s} (h : Keeps s0 s) : Goes s0 (execFyStreamLost a1 s) := by
  unfold execFyStreamLost
  first | refine onPart_keeps _ _ (fun h => ?_) h | refine Goes.next ?_
  try dsimp -zeta only
  repeat' (first | with_reducible assumption | ((try lift_lets -underBinder); intro x; refine Keeps.cut (s := s0) (x := x) ?_ (fun _ => ?_); (on_goal 2 => (try clear_value x)); (on_goal 1 => unfold x)) | ((try lift_lets -underBinder); intro _) | with_reducible apply post_keeps | with_reducible apply updVideo_keeps | with_reducible apply submitFoyer_keeps | (with_reducible apply Keeps.ite) | split)

theorem execFyPathLost_keeps (a1) (a2) (a3) {s} (h : Keeps s0 s) : Goes s0 (execFyPathLost a1 a2 a3 s) := by
  unfold execFyPathLost
  first | refine onPart_keeps _ _ (fun h => ?_) h | refine Goes.next ?_
  try dsimp -zeta only
  repeat' (first | with_reducible assumption | ((try lift_lets -underBinder); intro _) | with_reducible apply post_keeps | with_reducible apply updStream_keeps | (with_reducible apply Keeps.ite))

theorem execFyLinkUp_keeps (a1) {s} (h : Keeps s0 s) : Goes s0 (execFyLinkUp a1 s) := by
  unfold execFyLinkUp
  first | refine onPart_keeps _ _ (fun h => ?_) h | refine Goes.next ?_
  try dsimp -zeta only
  repeat' (first | with_reducible assumption | with_reducible apply post_keeps | with_reducible apply updFyPort_keeps | (with_reducible apply Keeps.ite))

theorem dropLink_keeps (a1) {s} (h : Keeps s0 s) : Keeps s0 (dropLink a1 s) := by
  unfold dropLink
  repeat' (first | with_reducible assumption | ((try lift_lets -underBinder); intro _) | with_reducible apply post_keeps | with_reducible apply updFyPort_keeps)

theorem execFyLinkDown_keeps (a1) {s} (h : Keeps s0 s) : Goes s0 (execFyLinkDown a1 s) := by
  unfold execFyLinkDown
  first | refine onPart_keeps _ _ (fun h => ?_) h | refine Goes.next ?_
  try dsimp -zeta only
  repeat' (first | with_reducible assumption | with_reducible apply dropLink_keeps | (with_reducible apply Keeps.ite))

theorem ingress_keeps (a1) (a2) {s} (h : Keeps s0 s) : Keeps s0 (ingress a1 a2 s) := by
  unfold ingress
  repeat' (first | with_reducible assumption | ((try lift_lets -underBinder); intro x; refine Keeps.cut (s := s0) (x := x) ?_ (fun _ => ?_); (on_goal 2 => (try clear_value x)); (on_goal 1 => unfold x)) | ((try lift_lets -underBinder); intro _) | with_reducible apply updFyPort_keeps | with_reducible apply post_keeps | (with_reducible apply Keeps.ite))

theorem answerFrame_keeps (a1) (a2) {s} (h : Keeps s0 s) : Keeps s0 (answerFrame a1 a2 s) := by
  unfold answerFrame
  repeat' (first | with_reducible assumption | with_reducible apply emit_keeps | (with_reducible apply Keeps.ite))

theorem execEthFrameReceived_keeps (a1) (a2) {s} (h : Keeps s0 s) : Goes s0 (execEthFrameReceived a1 a2 s) := by
  unfold execEthFrameReceived
  first | refine onPart_keeps _ _ (fun h => ?_) h | refine Goes.next ?_
  try dsimp -zeta only
  repeat' (first | with_reducible assumption | ((try lift_lets -underBinder); intro _) | with_reducible apply updFyPort_keeps | with_reducible apply answerFrame_keeps | with_reducible apply ingress_keeps | (with_reducible apply Keeps.ite) | split)

theorem fyStatusWrite_keeps (a1) (a2) {s} (h : Keeps s0 s) : Keeps s0 (fyStatusWrite a1 a2 s) := by
  unfold fyStatusWrite
  repeat' (first | with_reducible assumption | with_reducible apply updFyPort_keeps)

theorem stopPtp_keeps (a1) {s} (h : Keeps s0 s) : Keeps s0 (stopPtp a1 s) := by
  unfold stopPtp
  repeat' (first | with_reducible assumption | ((try lift_lets -underBinder); intro _) | with_reducible apply newInstance_keeps | (with_reducible apply Keeps.ite) | (fail_if_no_progress refine Keeps.upd ?_ rfl rfl rfl rfl rfl rfl))

theorem loadLatency_keeps (a1) (a2) {s} (h : Keeps s0 s) : Keeps s0 (loadLatency a1 a2 s) :=
  Keeps.upd h rfl rfl rfl rfl rfl rfl

theorem specFySetPort_keeps (c) {s} (h : Keeps s0 s) : Keeps s0 (specFySetPort.run c s) := by
  unfold specFySetPort; dsimp -zeta only
  repeat' (first | with_reducible assumption | ((try lift_lets -underBinder); intro x; refine Keeps.cut (s := s0) (x := x) ?_ (fun _ => ?_); (on_goal 2 => (try clear_value x)); (on_goal 1 => unfold x)) | ((try lift_lets -underBinder); intro _) | with_reducible apply ok_keeps | with_reducible apply dropLink_keeps | with_reducible apply stopPtp_keeps | with_reducible apply loadLatency_keeps | with_reducible apply updFyPort_keeps | (with_reducible refine Keeps.foldl _ (fun _ _ _ => ?_) _ ?_) | (with_reducible apply Keeps.ite))

theorem execFySetPort_keeps (a1) {s} (h : Keeps s0 s) : Goes s0 (execFySetPort a1 s) := runCmd_keeps specFySetPort a1 (fun c _ h => specFySetPort_keeps c h) h

theorem specFySetSubport_keeps (c) {s} (h : Keeps s0 s) : Keeps s0 (specFySetSubport.run c s) := by
  unfold specFySetSubport; dsimp -zeta only
  repeat' (first | with_reducible assumption | ((try lift_lets -underBinder); intro _) | with_reducible apply ok_keeps | with_reducible apply updFy_keeps)

theorem execFySetSubport_keeps (a1) {s} (h : Keeps s0 s) : Goes s0 (execFySetSubport a1 s) := runCmd_keeps specFySetSubport a1 (fun c _ h => specFySetSubport_keeps c h) h

theorem specFyGetPort_keeps (c) {s} (h : Keeps s0 s) : Keeps s0 (specFyGetPort.run c s) := by
  unfold specFyGetPort; dsimp -zeta only
  repeat' (first | with_reducible assumption | ((try lift_lets -underBinder); intro _) | with_reducible apply ok_keeps)

theorem execFyGetPort_keeps (a1) {s} (h : Keeps s0 s) : Goes s0 (execFyGetPort a1 s) := runCmd_keeps specFyGetPort a1 (fun c _ h => specFyGetPort_keeps c h) h

theorem specFySetVideoStream_keeps (c) {s} (h : Keeps s0 s) : Keeps s0 (specFySetVideoStream.run c s) := by
  unfold specFySetVideoStream; dsimp -zeta only
  repeat' (first | with_reducible assumption | ((try lift_lets -underBinder); intro x; refine Keeps.cut (s := s0) (x := x) ?_ (fun _ => ?_); (on_goal 2 => (try clear_value x)); (on_goal 1 => unfold x)) | ((try lift_lets -underBinder); intro _) | with_reducible apply updFy_keeps | with_reducible apply updStream_keeps | with_reducible apply ok_keeps | with_reducible apply updVideo_keeps)

theorem execFySetVideoStream_keeps (a1) {s} (h : Keeps s0 s) : Goes s0 (execFySetVideoStream a1 s) := runCmd_keeps specFySetVideoStream a1 (fun c _ h => specFySetVideoStream_keeps c h) h

theorem specFySetAudioStream_keeps (c) {s} (h : Keeps s0 s) : Keeps s0 (specFySetAudioStream.run c s) := by
  unfold specFySetAudioStream; dsimp -zeta only
  repeat' (first | with_reducible assumption | with_reducible apply ok_keeps | with_reducible apply updStream_keeps)

theorem execFySetAudioStream_keeps (a1) {s} (h : Keeps s0 s) : Goes s0 (execFySetAudioStream a1 s) := runCmd_keeps specFySetAudioStream a1 (fun c _ h => specFySetAudioStream_keeps c h) h

theorem specFySetAncStream_keeps (c) {s} (h : Keeps s0 s) : Keeps s0 (specFySetAncStream.run c s) := by
  unfold specFySetAncStream; dsimp -zeta only
  repeat' (first | with_reducible assumption | with_reducible apply ok_keeps | with_reducible apply updStream_keeps)

theorem execFySetAncStream_keeps (a1) {s} (h : Keeps s0 s) : Goes s0 (execFySetAncStream a1 s) := runCmd_keeps specFySetAncStream a1 (fun c _ h => specFySetAncStream_keeps c h) h

theorem groupFrames_keeps (a1) (a2) (a3) {s} (h : Keeps s0 s) : Keeps s0 (groupFrames a1 a2 a3 s) := by
  unfold groupFrames
  repeat' (first | with_reducible assumption | ((try lift_lets -underBinder); intro _) | with_reducible apply emit_keeps | (with_reducible refine Keeps.foldl _ (fun _ _ _ => ?_) _ ?_) | (with_reducible apply Keeps.ite))

theorem enableStream_keeps (a1) (a2) {s} (h : Keeps s0 s) : Keeps s0 (enableStream a1 a2 s) := by
  unfold enableStream
  repeat' (first | with_reducible assumption | ((try lift_lets -underBinder); intro x; refine Keeps.cut (s := s0) (x := x) ?_ (fun _ => ?_); (on_goal 2 => (try clear_value x)); (on_goal 1 => unfold x)) | ((try lift_lets -underBinder); intro _) | with_reducible apply updStream_keeps | with_reducible apply updVideo_keeps | with_reducible apply groupFrames_keeps | (with_reducible apply Keeps.ite))

theorem disableStream_keeps (a1) (a2) {s} (h : Keeps s0 s) : Keeps s0 (disableStream a1 a2 s) := by
  unfold disableStream
  repeat' (first | with_reducible assumption | ((try lift_lets -underBinder); intro x; refine Keeps.cut (s := s0) (x := x) ?_ (fun _ => ?_); (on_goal 2 => (try clear_value x)); (on_goal 1 => unfold x)) | with_reducible apply dropHeldPackets_keeps | with_reducible apply updStream_keeps | with_reducible apply updVideo_keeps | with_reducible apply groupFrames_keeps | (with_reducible apply Keeps.ite))

theorem specFyStreamCtl_keeps (c) {s} (h : Keeps s0 s) : Keeps s0 (specFyStreamCtl.run c s) := by
  unfold specFyStreamCtl; dsimp -zeta only
  repeat' (first | with_reducible assumption | ((try lift_lets -underBinder); intro _) | with_reducible apply ok_keeps | with_reducible apply enableStream_keeps | with_reducible apply disableStream_keeps | (with_reducible apply Keeps.ite))

theorem execFyStreamCtl_keeps (a1) {s} (h : Keeps s0 s) : Goes s0 (execFyStreamCtl a1 s) := runCmd_keeps specFyStreamCtl a1 (fun c _ h => specFyStreamCtl_keeps c h) h

theorem specFyGetStreamStats_keeps (c) {s} (h : Keeps s0 s) : Keeps s0 (specFyGetStreamStats.run c s) := by
  unfold specFyGetStreamStats; dsimp -zeta only
  repeat' (first | with_reducible assumption | ((try lift_lets -underBinder); intro x; refine Keeps.cut (s := s0) (x := x) ?_ (fun _ => ?_); (on_goal 2 => (try clear_value x)); (on_goal 1 => unfold x)) | ((try lift_lets -underBinder); intro _) | with_reducible apply updStats_keeps | with_reducible apply ok_keeps | (with_reducible apply Keeps.ite))

theorem execFyGetStreamStats_keeps (a1) {s} (h : Keeps s0 s) : Goes s0 (execFyGetStreamStats a1 s) := runCmd_keeps specFyGetStreamStats a1 (fun c _ h => specFyGetStreamStats_keeps c h) h

theorem specFySurfaceCreate_keeps (c) {s} (h : Keeps s0 s) : Keeps s0 (specFySurfaceCreate.run c s) := by
  unfold specFySurfaceCreate; dsimp -zeta only
  repeat' (first | with_reducible assumption | ((try lift_lets -underBinder); intro _) | with_reducible apply finishFwd_keeps | with_reducible apply updFy_keeps)

theorem execFySurfaceCreate_keeps (a1) {s} (h : Keeps s0 s) : Goes s0 (execFySurfaceCreate a1 s) := runCmd_keeps specFySurfaceCreate a1 (fun c _ h => specFySurfaceCreate_keeps c h) h

theorem specFySurfaceDestroy_keeps (c) {s} (h : Keeps s0 s) : Keeps s0 (specFySurfaceDestroy.run c s) := by
  unfold specFySurfaceDestroy; dsimp -zeta only
  repeat' (first | with_reducible assumption | with_reducible apply okFwd_keeps | with_reducible apply updFy_keeps)

theorem execFySurfaceDestroy_keeps (a1) {s} (h : Keeps s0 s) : Goes s0 (execFySurfaceDestroy a1 s) := runCmd_keeps specFySurfaceDestroy a1 (fun c _ h => specFySurfaceDestroy_keeps c h) h

end Sys2Proof.Laws
end

