-- ==== Sys2Proof/Laws/KeepsPorch.lean ====
section
/-!
SUPPORT. The operations and commands of Machine/Porch.lean keep what `Keeps` names.
-/
set_option linter.unusedTactic false
set_option linter.unreachableTactic false
set_option linter.unusedVariables false
namespace Sys2Proof.Laws

open Sys2Proof.Machine

variable {s0 : State}

theorem ringFault_keeps (a1) (a2) {s} (h : Keeps s0 s) : Keeps s0 (ringFault a1 a2 s) := by
  unfold ringFault
  repeat' (first | with_reducible assumption | with_reducible apply emit_keeps | with_reducible apply post_keeps | with_reducible apply updQueue_keeps)

theorem takePacket_keeps (a1) (a2) {s} (h : Keeps s0 s) : Keeps s0 (takePacket a1 a2 s) := by
  unfold takePacket
  repeat' (first | with_reducible assumption | ((try lift_lets -underBinder); intro _) | with_reducible apply refuse_keeps | with_reducible apply take_keeps | with_reducible apply setOutst_keeps | (with_reducible apply Keeps.ite) | split)

theorem fetchAll_keeps (q) : ∀ (l : List RingPkt) {s : State}, Keeps s0 s → Keeps s0 (fetchAll q l s)
  | [], _, h => updQueue_keeps _ _ h
  | r :: rest, s, h => by
    unfold fetchAll
    exact Keeps.ite (updQueue_keeps _ _ h)
      (Keeps.ite (ringFault_keeps _ _ (updQueue_keeps _ _ h)) (fetchAll_keeps q rest (takePacket_keeps _ _ (updQueue_keeps _ _ h))))

theorem writeConsumer_keeps (a1) {s} (h : Keeps s0 s) : Keeps s0 (writeConsumer a1 s) := by
  unfold writeConsumer
  repeat' (first | with_reducible assumption | with_reducible apply emit_keeps)

theorem cqTail_keeps (a1) (a2) (a3) {s} (h : Keeps s0 s) : Keeps s0 (cqTail a1 a2 a3 s) := by
  unfold cqTail
  repeat' (first | with_reducible assumption | ((try lift_lets -underBinder); intro x; refine Keeps.cut (s := s0) (x := x) ?_ (fun _ => ?_); (on_goal 2 => (try clear_value x)); (on_goal 1 => unfold x)) | ((try lift_lets -underBinder); intro _) | with_reducible apply ringFault_keeps | with_reducible apply updQueue_keeps | with_reducible apply writeConsumer_keeps | with_reducible apply fetchAll_keeps | (with_reducible apply Keeps.ite))

theorem execPoCqTail_keeps (a1) (a2) (a3) {s} (h : Keeps s0 s) : Goes s0 (execPoCqTail a1 a2 a3 s) := by
  unfold execPoCqTail
  first | refine onPart_keeps _ _ (fun h => ?_) h | refine Goes.next ?_
  try dsimp -zeta only
  repeat' (first | with_reducible assumption | (intro t (_ : Keeps s0 t)) | with_reducible apply fromHost_keeps | with_reducible apply cqTail_keeps | (with_reducible apply Keeps.ite))

theorem noteRoom_keeps (a1) {s} (h : Keeps s0 s) : Keeps s0 (noteRoom a1 s) := by
  unfold noteRoom
  repeat' (first | with_reducible assumption | ((try lift_lets -underBinder); intro _) | with_reducible apply setOutst_keeps | with_reducible apply updQueue_keeps | (with_reducible apply Keeps.ite) | split)

theorem execPoRqHead_keeps (a1) (a2) {s} (h : Keeps s0 s) : Goes s0 (execPoRqHead a1 a2 s) := by
  unfold execPoRqHead
  first | refine onPart_keeps _ _ (fun h => ?_) h | refine Goes.next ?_
  try dsimp -zeta only
  repeat' (first | with_reducible assumption | (intro t (_ : Keeps s0 t)) | with_reducible apply fromHost_keeps | with_reducible apply noteRoom_keeps | with_reducible apply updQueue_keeps | (with_reducible apply Keeps.ite))

theorem dropSource_keeps (a1) {s} (h : Keeps s0 s) : Keeps s0 (dropSource a1 s) := by
  unfold dropSource
  repeat' (first | with_reducible assumption | ((try lift_lets -underBinder); intro _) | with_reducible apply sourceGone_keeps | (fail_if_no_progress refine Keeps.upd ?_ rfl rfl rfl rfl rfl rfl))

theorem qCtlWrite_keeps (a1) (a2) {s} (h : Keeps s0 s) : Keeps s0 (qCtlWrite a1 a2 s) := by
  unfold qCtlWrite
  repeat' (first | with_reducible assumption | ((try lift_lets -underBinder); intro x; refine Keeps.cut (s := s0) (x := x) ?_ (fun _ => ?_); (on_goal 2 => (try clear_value x)); (on_goal 1 => unfold x)) | ((try lift_lets -underBinder); intro _) | with_reducible apply updQueue_keeps | with_reducible apply dropSource_keeps | (with_reducible apply Keeps.ite))

theorem execPoQEnable_keeps (a1) (a2) {s} (h : Keeps s0 s) : Goes s0 (execPoQEnable a1 a2 s) := by
  unfold execPoQEnable
  first | refine onPart_keeps _ _ (fun h => ?_) h | refine Goes.next ?_
  try dsimp -zeta only
  repeat' (first | with_reducible assumption | (intro t (_ : Keeps s0 t)) | with_reducible apply fromHost_keeps | with_reducible apply qCtlWrite_keeps | (with_reducible apply Keeps.ite))

theorem execPoQDisable_keeps (a1) (a2) {s} (h : Keeps s0 s) : Goes s0 (execPoQDisable a1 a2 s) := by
  unfold execPoQDisable
  first | refine onPart_keeps _ _ (fun h => ?_) h | refine Goes.next ?_
  try dsimp -zeta only
  repeat' (first | with_reducible assumption | (intro t (_ : Keeps s0 t)) | with_reducible apply fromHost_keeps | with_reducible apply qCtlWrite_keeps | (with_reducible apply Keeps.ite))

theorem execReplyWrite_keeps (a1) {s} (h : Keeps s0 s) : Goes s0 (execReplyWrite a1 s) := by
  unfold execReplyWrite
  first | refine onPart_keeps _ _ (fun h => ?_) h | refine Goes.next ?_
  try dsimp -zeta only
  repeat' (first | with_reducible assumption | ((try lift_lets -underBinder); intro _) | with_reducible apply noteRoom_keeps | with_reducible apply ringWrite_keeps | with_reducible apply updQueue_keeps | (with_reducible apply Keeps.ite) | split)

theorem execMsixCoalesceExpiry_keeps (a1) {s} (h : Keeps s0 s) : Goes s0 (execMsixCoalesceExpiry a1 s) := by
  unfold execMsixCoalesceExpiry
  first | refine onPart_keeps _ _ (fun h => ?_) h | refine Goes.next ?_
  try dsimp -zeta only
  repeat' (first | with_reducible assumption | ((try lift_lets -underBinder); intro x; refine Keeps.cut (s := s0) (x := x) ?_ (fun _ => ?_); (on_goal 2 => (try clear_value x)); (on_goal 1 => unfold x)) | ((try lift_lets -underBinder); intro _) | with_reducible apply updQueue_keeps | with_reducible apply emit_keeps | (with_reducible apply Keeps.ite))

theorem execPorchResumeTaking_keeps (a1) {s} (h : Keeps s0 s) : Goes s0 (execPorchResumeTaking a1 s) := by
  unfold execPorchResumeTaking
  first | refine onPart_keeps _ _ (fun h => ?_) h | refine Goes.next ?_
  try dsimp -zeta only
  repeat' (first | with_reducible assumption | ((try lift_lets -underBinder); intro _) | with_reducible apply writeConsumer_keeps | with_reducible apply fetchAll_keeps | (with_reducible apply Keeps.ite) | split)

theorem resumeForward_keeps {s} (h : Keeps s0 s) : Keeps s0 (resumeForward s) := by
  unfold resumeForward
  repeat' (first | with_reducible assumption | with_reducible apply sendLegs_keeps | (with_reducible refine Keeps.foldl _ (fun _ _ _ => ?_) _ ?_) | (with_reducible apply Keeps.ite))

theorem endLeg_keeps (a1) (a2) (a3) (a4) (a5) {s} (h : Keeps s0 s) : Keeps s0 (endLeg a1 a2 a3 a4 a5 s) := by
  unfold endLeg
  repeat' (first | with_reducible assumption | ((try lift_lets -underBinder); intro x; refine Keeps.cut (s := s0) (x := x) ?_ (fun _ => ?_); (on_goal 2 => (try clear_value x)); (on_goal 1 => unfold x)) | ((try lift_lets -underBinder); intro _) | with_reducible apply putEntry_keeps | with_reducible apply resumeForward_keeps | with_reducible apply settleBcast_keeps | with_reducible apply finish_keeps | (with_reducible apply Keeps.ite))

theorem tileProgress_keeps (a1) (a2) {s} (h : Keeps s0 s) : Keeps s0 (tileProgress a1 a2 s) := by
  unfold tileProgress
  repeat' (first | with_reducible assumption | ((try lift_lets -underBinder); intro _) | with_reducible apply putEntry_keeps | with_reducible apply deliver_keeps | (with_reducible apply Keeps.ite))

theorem tileReply_keeps (a1) {s} (h : Keeps s0 s) : Keeps s0 (tileReply a1 s) := by
  unfold tileReply
  repeat' (first | with_reducible assumption | ((try lift_lets -underBinder); intro _) | with_reducible apply configReply_keeps | with_reducible apply loadReply_keeps | with_reducible apply tileProgress_keeps | with_reducible apply endLeg_keeps | (with_reducible apply Keeps.ite) | split)

theorem execTileReplyReceived_keeps (a1) {s} (h : Keeps s0 s) : Goes s0 (execTileReplyReceived a1 s) := by
  unfold execTileReplyReceived
  first | refine onPart_keeps _ _ (fun h => ?_) h | refine Goes.next ?_
  try dsimp -zeta only
  repeat' (first | with_reducible assumption | (intro t (_ : Keeps s0 t)) | with_reducible apply overLink_keeps | with_reducible apply tileReply_keeps | with_reducible apply passOver_keeps | (with_reducible apply Keeps.ite))

theorem execTileCommandTimeout_keeps (a1) (a2) (a3) {s} (h : Keeps s0 s) : Goes s0 (execTileCommandTimeout a1 a2 a3 s) := by
  unfold execTileCommandTimeout
  first | refine onPart_keeps _ _ (fun h => ?_) h | refine Goes.next ?_
  try dsimp -zeta only
  repeat' (first | with_reducible assumption | with_reducible apply endLeg_keeps | with_reducible apply post_keeps | split)

theorem progressDone_keeps (a1) (a2) {s} (h : Keeps s0 s) : Keeps s0 (progressDone a1 a2 s).2 := by
  unfold progressDone
  repeat' (first | with_reducible assumption | ((try lift_lets -underBinder); intro _) | with_reducible apply draw_keeps | split)

theorem execProgressReply_keeps (a1) (a2) (a3) {s} (h : Keeps s0 s) : Goes s0 (execProgressReply a1 a2 a3 s) := by
  unfold execProgressReply
  first | refine onPart_keeps _ _ (fun h => ?_) h | refine Goes.next ?_
  try dsimp -zeta only
  repeat' (first | with_reducible assumption | ((try lift_lets -underBinder); intro x; refine Keeps.cut (s := s0) (x := x) ?_ (fun _ => ?_); (on_goal 2 => (try clear_value x)); (on_goal 1 => unfold x)) | ((try lift_lets -underBinder); intro _) | with_reducible apply expireRetrains_keeps | with_reducible apply progressDone_keeps | with_reducible apply setOutst_keeps | with_reducible apply deliver_keeps | (with_reducible apply Keeps.ite) | split)

theorem closeSession_keeps (a1) (a2) {s} (h : Keeps s0 s) : Keeps s0 (closeSession a1 a2 s) := by
  unfold closeSession
  repeat' (first | with_reducible assumption | ((try lift_lets -underBinder); intro x; refine Keeps.cut (s := s0) (x := x) ?_ (fun _ => ?_); (on_goal 2 => (try clear_value x)); (on_goal 1 => unfold x)) | ((try lift_lets -underBinder); intro _) | with_reducible apply dropSource_keeps | with_reducible apply post_keeps | (fail_if_no_progress refine Keeps.upd ?_ rfl rfl rfl rfl rfl rfl))

theorem execMgmtSessionClose_keeps (a1) (a2) {s} (h : Keeps s0 s) : Goes s0 (execMgmtSessionClose a1 a2 s) := by
  unfold execMgmtSessionClose
  first | refine onPart_keeps _ _ (fun h => ?_) h | refine Goes.next ?_
  try dsimp -zeta only
  repeat' (first | with_reducible assumption | with_reducible apply closeSession_keeps | (with_reducible apply Keeps.ite))

theorem execMgmtSessionIdleTimeout_keeps (a1) {s} (h : Keeps s0 s) : Goes s0 (execMgmtSessionIdleTimeout a1 s) := by
  unfold execMgmtSessionIdleTimeout
  first | refine onPart_keeps _ _ (fun h => ?_) h | refine Goes.next ?_
  try dsimp -zeta only
  repeat' (first | with_reducible assumption | with_reducible apply closeSession_keeps | (with_reducible apply Keeps.ite))

theorem execPoFramingError_keeps (a1) (a2) {s} (h : Keeps s0 s) : Goes s0 (execPoFramingError a1 a2 s) := by
  unfold execPoFramingError
  first | refine onPart_keeps _ _ (fun h => ?_) h | refine Goes.next ?_
  try dsimp -zeta only
  repeat' (first | with_reducible assumption | with_reducible apply closeSession_keeps | with_reducible apply post_keeps | with_reducible apply emit_keeps | (with_reducible apply Keeps.ite))

theorem forwardEvent_keeps (e) {s} (h : Keeps s0 s) : Keeps s0 (forwardEvent e s) := by
  have key : ∀ {x : State}, Keeps s0 x → Keeps s0 (insertEvent { e with fromTile := true } { x with tile.po.events := s.tile.po.events.tail }) :=
    fun k => insertEvent_keeps _
      ⟨k.mem, k.tmem, k.log, fun hl => by have := h.ev hl; simp only [List.length_tail]; omega, k.pend, k.now, k.free⟩
  unfold forwardEvent
  split
  · exact key (Keeps.ite (insertEvent_keeps _ (Keeps.upd h rfl rfl rfl rfl rfl rfl)) h)
  · exact h

theorem eventTaken_keeps (a1) {s} (h : Keeps s0 s) : Keeps s0 (eventTaken a1 s) := by
  unfold eventTaken
  repeat' (first | with_reducible assumption | with_reducible apply forwardEvent_keeps | with_reducible apply insertEvent_keeps | (with_reducible apply Keeps.ite))

theorem execTileEventReceived_keeps (a1) {s} (h : Keeps s0 s) : Goes s0 (execTileEventReceived a1 s) := by
  unfold execTileEventReceived
  first | refine onPart_keeps _ _ (fun h => ?_) h | refine Goes.next ?_
  try dsimp -zeta only
  repeat' (first | with_reducible assumption | (intro t (_ : Keeps s0 t)) | with_reducible apply overLink_keeps | with_reducible apply eventTaken_keeps)

theorem execEventsSuppressed_keeps {s} (h : Keeps s0 s) : Goes s0 (execEventsSuppressed s) := by
  unfold execEventsSuppressed
  first | refine onPart_keeps _ _ (fun h => ?_) h | refine Goes.next ?_
  try dsimp -zeta only
  repeat' (first | with_reducible assumption | with_reducible apply rollSecond_keeps)

theorem execBarPartialWrite_keeps (a1) (a2) (a3) {s} (h : Keeps s0 s) : Goes s0 (execBarPartialWrite a1 a2 a3 s) := by
  unfold execBarPartialWrite
  first | refine onPart_keeps _ _ (fun h => ?_) h | refine Goes.next ?_
  try dsimp -zeta only
  repeat' (first | with_reducible assumption | (intro t (_ : Keeps s0 t)) | with_reducible apply fromHost_keeps | with_reducible apply post_keeps | (with_reducible apply Keeps.ite))

theorem execPoPad_keeps (a1) {s} (h : Keeps s0 s) : Goes s0 (execPoPad a1 s) := by
  unfold execPoPad
  first | refine onPart_keeps _ _ (fun h => ?_) h | refine Goes.next ?_
  try dsimp -zeta only
  repeat' (first | with_reducible assumption | with_reducible apply touchSession_keeps)

theorem specPoNop_keeps (c) {s} (h : Keeps s0 s) : Keeps s0 (specPoNop.run c s) := by
  unfold specPoNop; dsimp -zeta only
  repeat' (first | with_reducible assumption | with_reducible apply ok_keeps)

theorem execPoNop_keeps (a1) {s} (h : Keeps s0 s) : Goes s0 (execPoNop a1 s) := runCmd_keeps specPoNop a1 (fun c _ h => specPoNop_keeps c h) h

theorem specPoGetInfo_keeps (c) {s} (h : Keeps s0 s) : Keeps s0 (specPoGetInfo.run c s) := by
  unfold specPoGetInfo; dsimp -zeta only
  repeat' (first | with_reducible assumption | with_reducible apply ok_keeps)

theorem execPoGetInfo_keeps (a1) {s} (h : Keeps s0 s) : Goes s0 (execPoGetInfo a1 s) := runCmd_keeps specPoGetInfo a1 (fun c _ h => specPoGetInfo_keeps c h) h

theorem specPoEventRead_keeps (c) {s} (h : Keeps s0 s) : Keeps s0 (specPoEventRead.run c s) := by
  unfold specPoEventRead; dsimp -zeta only
  repeat' (first | with_reducible assumption | ((try lift_lets -underBinder); intro _) | with_reducible apply ok_keeps)

theorem execPoEventRead_keeps (a1) {s} (h : Keeps s0 s) : Goes s0 (execPoEventRead a1 s) := runCmd_keeps specPoEventRead a1 (fun c _ h => specPoEventRead_keeps c h) h

theorem specPoEventSubscribe_keeps (c) {s} (h : Keeps s0 s) : Keeps s0 (specPoEventSubscribe.run c s) := by
  unfold specPoEventSubscribe; dsimp -zeta only
  repeat' (first | with_reducible assumption | ((try lift_lets -underBinder); intro _) | with_reducible apply ok_keeps | split | (fail_if_no_progress refine Keeps.upd ?_ rfl rfl rfl rfl rfl rfl))

theorem execPoEventSubscribe_keeps (a1) {s} (h : Keeps s0 s) : Goes s0 (execPoEventSubscribe a1 s) := runCmd_keeps specPoEventSubscribe a1 (fun c _ h => specPoEventSubscribe_keeps c h) h

theorem abortEntry_keeps (a1) {s} (h : Keeps s0 s) : Keeps s0 (abortEntry a1 s) := by
  unfold abortEntry
  repeat' (first | with_reducible assumption | with_reducible apply finish_keeps | with_reducible apply putEntry_keeps)

theorem dropWaiting_keeps (a1) {s} (h : Keeps s0 s) : Keeps s0 (dropWaiting a1 s) := by
  unfold dropWaiting
  repeat' (first | with_reducible assumption | ((try lift_lets -underBinder); intro _) | with_reducible apply endHeld_keeps | split | (fail_if_no_progress refine Keeps.upd ?_ rfl rfl rfl rfl rfl rfl))

theorem abortHere_keeps (a1) {s} (h : Keeps s0 s) : Keeps s0 (abortHere a1 s) := by
  unfold abortHere
  repeat' (first | with_reducible assumption | ((try lift_lets -underBinder); intro _) | with_reducible apply refuse_keeps | with_reducible apply ok_keeps | with_reducible apply abortEntry_keeps | with_reducible apply dropWaiting_keeps | (with_reducible apply Keeps.ite) | split)

theorem abortTile_keeps (a1) (a2) {s} (ho : ∀ c {t}, Keeps s0 t → Keeps s0 (a1.run c t)) (h : Keeps s0 s) : Keeps s0 (abortTile a1 a2 s) := by
  unfold abortTile
  repeat' (first | with_reducible assumption | ((try lift_lets -underBinder); intro _) | with_reducible apply refuse_keeps | with_reducible apply take_keeps | with_reducible apply ok_keeps | with_reducible apply abortEntry_keeps | with_reducible apply forward_keeps | (with_reducible apply Keeps.ite) | split)

theorem specPoAbort_keeps (c) {s} (h : Keeps s0 s) : Keeps s0 (specPoAbort.run c s) := by
  unfold specPoAbort; dsimp -zeta only
  repeat' (first | with_reducible assumption | ((try lift_lets -underBinder); intro _) | with_reducible apply abortHere_keeps | with_reducible apply refuse_keeps | (with_reducible apply Keeps.ite) | split)

theorem execPoAbort_keeps (c) {s} (h : Keeps s0 s) : Goes s0 (execPoAbort c s) := by
  unfold execPoAbort
  extract_lets d
  split
  · exact Goes.next (abortTile_keeps _ _ (fun c _ h => specPoAbort_keeps c h) h)
  · exact runCmd_keeps _ c (fun c _ h => specPoAbort_keeps c h) h

theorem tileTicks_keeps (a1) {s} (h : Keeps s0 s) : Keeps s0 (tileTicks a1 s) :=
  Keeps.upd h rfl rfl rfl rfl rfl rfl

theorem changePassed_keeps (a1) {s} (h : Keeps s0 s) : Keeps s0 (changePassed a1 s) := by
  unfold changePassed
  repeat' (first | with_reducible assumption | ((try lift_lets -underBinder); intro _) | with_reducible apply darken_keeps | with_reducible apply tileTicks_keeps | split | (fail_if_no_progress refine Keeps.upd ?_ rfl rfl rfl rfl rfl rfl))

theorem takeTick_keeps (a1) {s} (h : Keeps s0 s) : Keeps s0 (takeTick a1 s) := by
  unfold takeTick
  repeat' (first | with_reducible assumption | ((try lift_lets -underBinder); intro x; refine Keeps.cut (s := s0) (x := x) ?_ (fun _ => ?_); (on_goal 2 => (try clear_value x)); (on_goal 1 => unfold x)) | ((try lift_lets -underBinder); intro _) | with_reducible apply tileTicks_keeps | with_reducible apply changePassed_keeps | (with_reducible apply Keeps.ite) | split | (fail_if_no_progress refine Keeps.upd ?_ rfl rfl rfl rfl rfl rfl))

theorem specPoTileConfig_keeps (c) {s} (h : Keeps s0 s) : Keeps s0 (specPoTileConfig.run c s) := by
  unfold specPoTileConfig; dsimp -zeta only
  repeat' (first | with_reducible assumption | ((try lift_lets -underBinder); intro x; refine Keeps.cut (s := s0) (x := x) ?_ (fun _ => ?_); (on_goal 2 => (try clear_value x)); (on_goal 1 => unfold x)) | ((try lift_lets -underBinder); intro _) | with_reducible apply takeTick_keeps | with_reducible apply ok_keeps | (with_reducible apply Keeps.ite) | (fail_if_no_progress refine Keeps.upd ?_ rfl rfl rfl rfl rfl rfl))

theorem execPoTileConfig_keeps (a1) {s} (h : Keeps s0 s) : Goes s0 (execPoTileConfig a1 s) := runCmd_keeps specPoTileConfig a1 (fun c _ h => specPoTileConfig_keeps c h) h

end Sys2Proof.Laws
end

