-- ==== Sys2Proof/Laws/KeepsTwin.lean ====
section
/-!
SUPPORT. The operations and commands of Machine/Twin.lean keep what `Keeps` names.
-/
set_option linter.unusedTactic false
set_option linter.unreachableTactic false
set_option linter.unusedVariables false
namespace Sys2Proof.Laws

open Sys2Proof.Machine

variable {s0 : State}

theorem resolveLive_keeps (a1) {s} (h : Keeps s0 s) : Keeps s0 (resolveLive a1 s) := by
  unfold resolveLive
  repeat' (first | with_reducible assumption | ((try lift_lets -underBinder); intro _) | with_reducible apply install_keeps | with_reducible apply updVideo_keeps | with_reducible apply updTw_keeps | (with_reducible refine Keeps.foldl _ (fun _ _ _ => ?_) _ ?_) | split)

theorem closeTwin_keeps (a1) {s} (h : Keeps s0 s) : Keeps s0 (closeTwin a1 s) := by
  unfold closeTwin
  repeat' (first | with_reducible assumption | ((try lift_lets -underBinder); intro x; refine Keeps.cut (s := s0) (x := x) ?_ (fun _ => ?_); (on_goal 2 => (try clear_value x)); (on_goal 1 => unfold x)) | ((try lift_lets -underBinder); intro _) | with_reducible apply resolveLive_keeps | with_reducible apply closeFrame_keeps | with_reducible apply updRec_keeps | (with_reducible apply Keeps.ite) | (fail_if_no_progress refine Keeps.upd ?_ rfl rfl rfl rfl rfl rfl))

theorem sendSnapshot_keeps (a1) {s} (h : Keeps s0 s) : Keeps s0 (sendSnapshot a1 s) := by
  unfold sendSnapshot
  repeat' (first | with_reducible assumption | ((try lift_lets -underBinder); intro _) | with_reducible apply emit_keeps | with_reducible apply twinSend_keeps | with_reducible apply updTw_keeps | (with_reducible apply Keeps.ite))

theorem postPaired_keeps (a1) {s} (h : Keeps s0 s) : Keeps s0 (postPaired a1 s) := by
  unfold postPaired
  repeat' (first | with_reducible assumption | with_reducible apply post_keeps)

theorem execSnapshotRequestReceived_keeps {s} (h : Keeps s0 s) : Goes s0 (execSnapshotRequestReceived s) := by
  unfold execSnapshotRequestReceived
  first | refine onPart_keeps _ _ (fun h => ?_) h | refine Goes.next ?_
  try dsimp -zeta only
  repeat' (first | with_reducible assumption | (intro t (_ : Keeps s0 t)) | ((try lift_lets -underBinder); intro x; refine Keeps.cut (s := s0) (x := x) ?_ (fun _ => ?_); (on_goal 2 => (try clear_value x)); (on_goal 1 => unfold x)) | with_reducible apply overLink_keeps | with_reducible apply updTw_keeps | with_reducible apply setRole_keeps | with_reducible apply postPaired_keeps | (with_reducible apply Keeps.ite))

theorem execSnapshotReceived_keeps (a1) {s} (h : Keeps s0 s) : Goes s0 (execSnapshotReceived a1 s) := by
  unfold execSnapshotReceived
  first | refine onPart_keeps _ _ (fun h => ?_) h | refine Goes.next ?_
  try dsimp -zeta only
  repeat' (first | with_reducible assumption | (intro t (_ : Keeps s0 t)) | ((try lift_lets -underBinder); intro x; refine Keeps.cut (s := s0) (x := x) ?_ (fun _ => ?_); (on_goal 2 => (try clear_value x)); (on_goal 1 => unfold x)) | ((try lift_lets -underBinder); intro _) | with_reducible apply overLink_keeps | with_reducible apply requestSnapshot_keeps | with_reducible apply mapVers_keeps | with_reducible apply setLease_keeps | with_reducible apply updTw_keeps | (with_reducible refine Keeps.foldl _ (fun _ _ _ => ?_) _ ?_) | (with_reducible apply Keeps.ite) | (fail_if_no_progress refine Keeps.upd ?_ rfl rfl rfl rfl rfl rfl))

theorem twinEval_keeps {s} (h : Keeps s0 s) : Keeps s0 (twinEval s) := by
  unfold twinEval
  repeat' (first | with_reducible assumption | ((try lift_lets -underBinder); intro x; refine Keeps.cut (s := s0) (x := x) ?_ (fun _ => ?_); (on_goal 2 => (try clear_value x)); (on_goal 1 => unfold x)) | ((try lift_lets -underBinder); intro _) | with_reducible apply evalClaim_keeps | with_reducible apply updTw_keeps | with_reducible apply noteBoth_keeps | with_reducible apply setRole_keeps | with_reducible apply setClaim_keeps | (with_reducible apply Keeps.ite) | split)

theorem pairEval_keeps {s} (h : Keeps s0 s) : Keeps s0 (pairEval s) := by
  unfold pairEval
  repeat' (first | with_reducible assumption | ((try lift_lets -underBinder); intro _) | with_reducible apply requestSnapshot_keeps | with_reducible apply setRole_keeps | with_reducible apply postPaired_keeps | with_reducible apply updTw_keeps | (with_reducible apply Keeps.ite))

theorem execDbBeatToggle_keeps {s} (h : Keeps s0 s) : Goes s0 (execDbBeatToggle s) := by
  unfold execDbBeatToggle
  first | refine onPart_keeps _ _ (fun h => ?_) h | refine Goes.next ?_
  try dsimp -zeta only
  repeat' (first | with_reducible assumption | with_reducible apply emit_keeps | with_reducible apply updTw_keeps | (with_reducible apply Keeps.ite))

theorem execDbPeerClaimChange_keeps (a1) {s} (h : Keeps s0 s) : Goes s0 (execDbPeerClaimChange a1 s) := by
  unfold execDbPeerClaimChange
  first | refine onPart_keeps _ _ (fun h => ?_) h | refine Goes.next ?_
  try dsimp -zeta only
  repeat' (first | with_reducible assumption | with_reducible apply twinEval_keeps | with_reducible apply updTw_keeps)

theorem postTakeover_keeps {s} (h : Keeps s0 s) : Keeps s0 (postTakeover s) := by
  unfold postTakeover
  repeat' (first | with_reducible assumption | with_reducible apply post_keeps)

theorem beatLost_keeps {s} (h : Keeps s0 s) : Keeps s0 (beatLost s) := by
  unfold beatLost
  repeat' (first | with_reducible assumption | ((try lift_lets -underBinder); intro x; refine Keeps.cut (s := s0) (x := x) ?_ (fun _ => ?_); (on_goal 2 => (try clear_value x)); (on_goal 1 => unfold x)) | with_reducible apply updTw_keeps | with_reducible apply evalClaim_keeps | with_reducible apply setRole_keeps | with_reducible apply postTakeover_keeps | (with_reducible apply Keeps.ite) | split)

theorem execPeerBeatLost_keeps {s} (h : Keeps s0 s) : Goes s0 (execPeerBeatLost s) := by
  unfold execPeerBeatLost
  first | refine onPart_keeps _ _ (fun h => ?_) h | refine Goes.next ?_
  try dsimp -zeta only
  repeat' (first | with_reducible assumption | ((try lift_lets -underBinder); intro _) | with_reducible apply twinEval_keeps | with_reducible apply post_keeps | with_reducible apply updTw_keeps | with_reducible apply beatLost_keeps | (with_reducible apply Keeps.ite))

theorem execPeerBeatRegained_keeps {s} (h : Keeps s0 s) : Goes s0 (execPeerBeatRegained s) := by
  unfold execPeerBeatRegained
  first | refine onPart_keeps _ _ (fun h => ?_) h | refine Goes.next ?_
  try dsimp -zeta only
  repeat' (first | with_reducible assumption | with_reducible apply twinEval_keeps | with_reducible apply updTw_keeps)

theorem execTwinWatchdogExpiry_keeps {s} (h : Keeps s0 s) : Goes s0 (execTwinWatchdogExpiry s) := by
  unfold execTwinWatchdogExpiry
  first | refine onPart_keeps _ _ (fun h => ?_) h | refine Goes.next ?_
  try dsimp -zeta only
  repeat' (first | with_reducible assumption | with_reducible apply noteBoth_keeps | with_reducible apply updTw_keeps)

theorem execTwSplit_keeps {s} (h : Keeps s0 s) : Goes s0 (execTwSplit s) := by
  unfold execTwSplit
  first | refine onPart_keeps _ _ (fun h => ?_) h | refine Goes.next ?_
  try dsimp -zeta only
  repeat' (first | with_reducible assumption | ((try lift_lets -underBinder); intro x; refine Keeps.cut (s := s0) (x := x) ?_ (fun _ => ?_); (on_goal 2 => (try clear_value x)); (on_goal 1 => unfold x)) | ((try lift_lets -underBinder); intro _) | with_reducible apply updTw_keeps | with_reducible apply pairEval_keeps | with_reducible apply setRole_keeps | with_reducible apply post_keeps | with_reducible apply noteBoth_keeps | with_reducible apply setClaim_keeps | (with_reducible apply Keeps.ite))

theorem execHelloSend_keeps {s} (h : Keeps s0 s) : Goes s0 (execHelloSend s) := by
  unfold execHelloSend
  first | refine onPart_keeps _ _ (fun h => ?_) h | refine Goes.next ?_
  try dsimp -zeta only
  repeat' (first | with_reducible assumption | ((try lift_lets -underBinder); intro _) | with_reducible apply twinSend_keeps | with_reducible apply updTw_keeps | (with_reducible apply Keeps.ite))

theorem helloFailed_keeps (a1) (a2) {s} (h : Keeps s0 s) : Keeps s0 (helloFailed a1 a2 s) := by
  unfold helloFailed
  repeat' (first | with_reducible assumption | ((try lift_lets -underBinder); intro x; refine Keeps.cut (s := s0) (x := x) ?_ (fun _ => ?_); (on_goal 2 => (try clear_value x)); (on_goal 1 => unfold x)) | ((try lift_lets -underBinder); intro _) | with_reducible apply updTw_keeps | with_reducible apply setRole_keeps | with_reducible apply post_keeps | with_reducible apply twinEval_keeps | (with_reducible apply Keeps.ite))

theorem helloTaken_keeps (a1) {s} (h : Keeps s0 s) : Keeps s0 (helloTaken a1 s) := by
  unfold helloTaken
  repeat' (first | with_reducible assumption | ((try lift_lets -underBinder); intro x; refine Keeps.cut (s := s0) (x := x) ?_ (fun _ => ?_); (on_goal 2 => (try clear_value x)); (on_goal 1 => unfold x)) | ((try lift_lets -underBinder); intro _) | with_reducible apply updTw_keeps | with_reducible apply post_keeps | with_reducible apply startTicks_keeps | with_reducible apply sendConfigs_keeps | with_reducible apply pairEval_keeps | with_reducible apply twinEval_keeps | with_reducible apply helloFailed_keeps | (with_reducible apply Keeps.ite) | split)

theorem execHelloReceived_keeps (a1) {s} (h : Keeps s0 s) : Goes s0 (execHelloReceived a1 s) := by
  unfold execHelloReceived
  first | refine onPart_keeps _ _ (fun h => ?_) h | refine Goes.next ?_
  try dsimp -zeta only
  repeat' (first | with_reducible assumption | (intro t (_ : Keeps s0 t)) | with_reducible apply overLink_keeps | with_reducible apply helloTaken_keeps)

theorem execRoleSend_keeps {s} (h : Keeps s0 s) : Goes s0 (execRoleSend s) := by
  unfold execRoleSend
  first | refine onPart_keeps _ _ (fun h => ?_) h | refine Goes.next ?_
  try dsimp -zeta only
  repeat' (first | with_reducible assumption | with_reducible apply twinSend_keeps | with_reducible apply updTw_keeps | (with_reducible apply Keeps.ite))

theorem claimWire_keeps (a1) {s} (h : Keeps s0 s) : Keeps s0 (claimWire a1 s) := by
  unfold claimWire
  repeat' (first | with_reducible assumption | ((try lift_lets -underBinder); intro x; refine Keeps.cut (s := s0) (x := x) ?_ (fun _ => ?_); (on_goal 2 => (try clear_value x)); (on_goal 1 => unfold x)) | ((try lift_lets -underBinder); intro _) | with_reducible apply updTw_keeps | with_reducible apply post_keeps | (with_reducible apply Keeps.ite))

theorem execRoleReceived_keeps (a1) (a2) (a3) {s} (h : Keeps s0 s) : Goes s0 (execRoleReceived a1 a2 a3 s) := by
  unfold execRoleReceived
  first | refine onPart_keeps _ _ (fun h => ?_) h | refine Goes.next ?_
  try dsimp -zeta only
  repeat' (first | with_reducible assumption | (intro t (_ : Keeps s0 t)) | ((try lift_lets -underBinder); intro x; refine Keeps.cut (s := s0) (x := x) ?_ (fun _ => ?_); (on_goal 2 => (try clear_value x)); (on_goal 1 => unfold x)) | with_reducible apply overLink_keeps | with_reducible apply claimWire_keeps | with_reducible apply updTw_keeps | with_reducible apply requestSnapshot_keeps | with_reducible apply twinEval_keeps | (with_reducible apply Keeps.ite))

theorem postDiverged_keeps (a1) {s} (h : Keeps s0 s) : Keeps s0 (postDiverged a1 s) := by
  unfold postDiverged
  repeat' (first | with_reducible assumption | with_reducible apply post_keeps)

theorem fwdInstall_keeps (a1) (a2) (a3) {s} (h : Keeps s0 s) : Keeps s0 (fwdInstall a1 a2 a3 s) := by
  unfold fwdInstall
  repeat' (first | with_reducible assumption | ((try lift_lets -underBinder); intro _) | with_reducible apply applyNow_keeps | with_reducible apply requestSnapshot_keeps | with_reducible apply postDiverged_keeps | with_reducible apply install_keeps | (with_reducible apply Keeps.ite) | (fail_if_no_progress refine Keeps.upd ?_ rfl rfl rfl rfl rfl rfl))

theorem fwdOpcode_keeps (f op c0) {s} (h : Keeps s0 s) : Keeps s0 (fwdOpcode f op c0 s) := by
  unfold fwdOpcode
  extract_lets c
  clear_value c
  split
  · exact fwdInstall_keeps _ _ _ (Keeps.ite (Keeps.upd h rfl rfl rfl rfl rfl rfl) h)
  · refine Keeps.ite (specMtSetTick_keeps c h) (Keeps.ite (updFy_keeps _ h) (Keeps.ite (specFySurfaceDestroy_keeps c h) ?_))
    refine Keeps.ite (specPlSetCoef_keeps c h) (Keeps.ite (specPlSetTone_keeps c h) (Keeps.ite (specPlSetPixset_keeps c h) ?_))
    exact Keeps.ite (specPpSetChain_keeps c h) (Keeps.ite (updTw_keeps _ h) h)

theorem fwdTaken_keeps (a1) {s} (h : Keeps s0 s) : Keeps s0 (fwdTaken a1 s) := by
  unfold fwdTaken
  repeat' (first | with_reducible assumption | ((try lift_lets -underBinder); intro _) | with_reducible apply fwdOpcode_keeps | with_reducible apply requestSnapshot_keeps | with_reducible apply postDiverged_keeps | with_reducible apply updTw_keeps | with_reducible apply fwdInstall_keeps | with_reducible apply updChain_keeps | (with_reducible apply Keeps.ite) | split)

theorem execFwdCmdReceived_keeps (a1) {s} (h : Keeps s0 s) : Goes s0 (execFwdCmdReceived a1 s) := by
  unfold execFwdCmdReceived
  first | refine onPart_keeps _ _ (fun h => ?_) h | refine Goes.next ?_
  try dsimp -zeta only
  repeat' (first | with_reducible assumption | (intro t (_ : Keeps s0 t)) | ((try lift_lets -underBinder); intro x; refine Keeps.cut (s := s0) (x := x) ?_ (fun _ => ?_); (on_goal 2 => (try clear_value x)); (on_goal 1 => unfold x)) | with_reducible apply overLink_keeps | with_reducible apply twinSend_keeps | with_reducible apply fwdTaken_keeps | with_reducible apply updTw_keeps | (with_reducible apply Keeps.ite) | split)

theorem execFwdAckReceived_keeps (a1) {s} (h : Keeps s0 s) : Goes s0 (execFwdAckReceived a1 s) := by
  unfold execFwdAckReceived
  first | refine onPart_keeps _ _ (fun h => ?_) h | refine Goes.next ?_
  try dsimp -zeta only
  repeat' (first | with_reducible assumption | (intro t (_ : Keeps s0 t)) | with_reducible apply overLink_keeps | with_reducible apply finish_keeps | with_reducible apply updTw_keeps | split)

theorem execFwdAckTimeout_keeps (a1) {s} (h : Keeps s0 s) : Goes s0 (execFwdAckTimeout a1 s) := by
  unfold execFwdAckTimeout
  first | refine onPart_keeps _ _ (fun h => ?_) h | refine Goes.next ?_
  try dsimp -zeta only
  repeat' (first | with_reducible assumption | with_reducible apply evalClaim_keeps | with_reducible apply setRole_keeps | with_reducible apply post_keeps | (with_reducible apply Keeps.ite) | split)

theorem sendCut_keeps (a1) {s} (h : Keeps s0 s) : Keeps s0 (sendCut a1 s) := by
  unfold sendCut
  repeat' (first | with_reducible assumption | with_reducible apply twinSend_keeps | with_reducible apply updTw_keeps | (with_reducible apply Keeps.ite))

theorem execCutReceived_keeps (a1) (a2) {s} (h : Keeps s0 s) : Goes s0 (execCutReceived a1 a2 s) := by
  unfold execCutReceived
  first | refine onPart_keeps _ _ (fun h => ?_) h | refine Goes.next ?_
  try dsimp -zeta only
  repeat' (first | with_reducible assumption | (intro t (_ : Keeps s0 t)) | ((try lift_lets -underBinder); intro _) | with_reducible apply overLink_keeps | with_reducible apply twinEval_keeps | with_reducible apply closeTwin_keeps | (with_reducible apply Keeps.ite))

theorem execCutWaitExpiry_keeps (a1) {s} (h : Keeps s0 s) : Goes s0 (execCutWaitExpiry a1 s) := by
  unfold execCutWaitExpiry
  first | refine onPart_keeps _ _ (fun h => ?_) h | refine Goes.next ?_
  try dsimp -zeta only
  repeat' (first | with_reducible assumption | ((try lift_lets -underBinder); intro _) | with_reducible apply twinEval_keeps | with_reducible apply closeTwin_keeps | with_reducible apply post_keeps | (with_reducible apply Keeps.ite))

theorem twinSigs_keeps (a1) (a2) {s} (h : Keeps s0 s) : Keeps s0 (twinSigs a1 a2 s) := by
  unfold twinSigs
  repeat' (first | with_reducible assumption | ((try lift_lets -underBinder); intro _) | with_reducible apply post_keeps | (with_reducible refine Keeps.foldl _ (fun _ _ _ => ?_) _ ?_) | (with_reducible apply Keeps.ite) | split | (fail_if_no_progress refine Keeps.upd ?_ rfl rfl rfl rfl rfl rfl))

theorem compareDigest_keeps (a1) (a2) {s} (h : Keeps s0 s) : Keeps s0 (compareDigest a1 a2 s) := by
  unfold compareDigest
  repeat' (first | with_reducible assumption | ((try lift_lets -underBinder); intro x; refine Keeps.cut (s := s0) (x := x) ?_ (fun _ => ?_); (on_goal 2 => (try clear_value x)); (on_goal 1 => unfold x)) | ((try lift_lets -underBinder); intro _) | with_reducible apply postDiverged_keeps | with_reducible apply updTw_keeps | with_reducible apply twinSigs_keeps | with_reducible apply requestSnapshot_keeps | (with_reducible apply Keeps.ite))

theorem sendDigest_keeps (a1) {s} (h : Keeps s0 s) : Keeps s0 (sendDigest a1 s) := by
  unfold sendDigest
  repeat' (first | with_reducible assumption | ((try lift_lets -underBinder); intro x; refine Keeps.cut (s := s0) (x := x) ?_ (fun _ => ?_); (on_goal 2 => (try clear_value x)); (on_goal 1 => unfold x)) | ((try lift_lets -underBinder); intro _) | with_reducible apply twinSend_keeps | with_reducible apply updTw_keeps | with_reducible apply compareDigest_keeps | (with_reducible refine Keeps.foldl _ (fun _ _ _ => ?_) _ ?_) | (with_reducible apply Keeps.ite) | split)

theorem execDigestReceived_keeps (a1) {s} (h : Keeps s0 s) : Goes s0 (execDigestReceived a1 s) := by
  unfold execDigestReceived
  first | refine onPart_keeps _ _ (fun h => ?_) h | refine Goes.next ?_
  try dsimp -zeta only
  repeat' (first | with_reducible assumption | (intro t (_ : Keeps s0 t)) | ((try lift_lets -underBinder); intro _) | with_reducible apply overLink_keeps | with_reducible apply compareDigest_keeps | with_reducible apply updTw_keeps | (with_reducible apply Keeps.ite) | split)

theorem tilePacket_keeps (a1) {s} (h : Keeps s0 s) : Keeps s0 (tilePacket a1 s) := by
  unfold tilePacket
  repeat' (first | with_reducible assumption | ((try lift_lets -underBinder); intro _) | with_reducible apply ackTaken_keeps | with_reducible apply tileReply_keeps | with_reducible apply reportTaken_keeps | with_reducible apply eventTaken_keeps | with_reducible apply replayReqTaken_keeps | with_reducible apply linkStateReceived_keeps | split)

theorem passedTaken_keeps (a1) {s} (h : Keeps s0 s) : Keeps s0 (passedTaken a1 s) := by
  unfold passedTaken
  repeat' (first | with_reducible assumption | ((try lift_lets -underBinder); intro _) | with_reducible apply tilePacket_keeps | with_reducible apply hand_keeps | (with_reducible apply Keeps.ite) | split | (fail_if_no_progress refine Keeps.upd ?_ rfl rfl rfl rfl rfl rfl))

theorem execPassedReceived_keeps (a1) {s} (h : Keeps s0 s) : Goes s0 (execPassedReceived a1 s) := by
  unfold execPassedReceived
  first | refine onPart_keeps _ _ (fun h => ?_) h | refine Goes.next ?_
  try dsimp -zeta only
  repeat' (first | with_reducible assumption | (intro t (_ : Keeps s0 t)) | with_reducible apply overLink_keeps | with_reducible apply passedTaken_keeps | (with_reducible apply Keeps.ite))

theorem setMode_keeps (a1) {s} (h : Keeps s0 s) : Keeps s0 (setMode a1 s) := by
  unfold setMode
  repeat' (first | with_reducible assumption | ((try lift_lets -underBinder); intro x; refine Keeps.cut (s := s0) (x := x) ?_ (fun _ => ?_); (on_goal 2 => (try clear_value x)); (on_goal 1 => unfold x)) | with_reducible apply setRole_keeps | with_reducible apply twinEval_keeps | with_reducible apply sendConfigs_keeps | with_reducible apply updTw_keeps | (with_reducible apply Keeps.ite))

theorem execClaimTakeoverTimeout_keeps {s} (h : Keeps s0 s) : Goes s0 (execClaimTakeoverTimeout s) := by
  unfold execClaimTakeoverTimeout
  first | refine onPart_keeps _ _ (fun h => ?_) h | refine Goes.next ?_
  try dsimp -zeta only
  repeat' (first | with_reducible assumption | ((try lift_lets -underBinder); intro _) | with_reducible apply postTakeover_keeps | with_reducible apply updTw_keeps | (with_reducible apply Keeps.ite) | split)

theorem twCtlWrite_keeps (a1) {s} (h : Keeps s0 s) : Keeps s0 (twCtlWrite a1 s) := by
  unfold twCtlWrite
  repeat' (first | with_reducible assumption | ((try lift_lets -underBinder); intro _) | with_reducible apply setMode_keeps | with_reducible apply twinEval_keeps | with_reducible apply updTw_keeps)

theorem twStatusWrite_keeps (a1) {s} (h : Keeps s0 s) : Keeps s0 (twStatusWrite a1 s) := by
  unfold twStatusWrite
  repeat' (first | with_reducible assumption | with_reducible apply updTw_keeps)

theorem specTwGetStatus_keeps (c) {s} (h : Keeps s0 s) : Keeps s0 (specTwGetStatus.run c s) := by
  unfold specTwGetStatus; dsimp -zeta only
  repeat' (first | with_reducible assumption | ((try lift_lets -underBinder); intro _) | with_reducible apply ok_keeps)

theorem execTwGetStatus_keeps (a1) {s} (h : Keeps s0 s) : Goes s0 (execTwGetStatus a1 s) := runCmd_keeps specTwGetStatus a1 (fun c _ h => specTwGetStatus_keeps c h) h

theorem specTwSetMode_keeps (c) {s} (h : Keeps s0 s) : Keeps s0 (specTwSetMode.run c s) := by
  unfold specTwSetMode; dsimp -zeta only
  repeat' (first | with_reducible assumption | ((try lift_lets -underBinder); intro x; refine Keeps.cut (s := s0) (x := x) ?_ (fun _ => ?_); (on_goal 2 => (try clear_value x)); (on_goal 1 => unfold x)) | ((try lift_lets -underBinder); intro _) | with_reducible apply updTw_keeps | with_reducible apply ok_keeps | with_reducible apply setMode_keeps | with_reducible apply twinEval_keeps)

theorem execTwSetMode_keeps (a1) {s} (h : Keeps s0 s) : Goes s0 (execTwSetMode a1 s) := runCmd_keeps specTwSetMode a1 (fun c _ h => specTwSetMode_keeps c h) h

theorem handOver_keeps (a1) {s} (h : Keeps s0 s) : Keeps s0 (handOver a1 s) := by
  unfold handOver
  repeat' (first | with_reducible assumption | ((try lift_lets -underBinder); intro x; refine Keeps.cut (s := s0) (x := x) ?_ (fun _ => ?_); (on_goal 2 => (try clear_value x)); (on_goal 1 => unfold x)) | ((try lift_lets -underBinder); intro _) | with_reducible apply twinSend_keeps | with_reducible apply updTw_keeps | with_reducible apply okFrame_keeps | with_reducible apply post_keeps)

theorem takeOver_keeps (a1) {s} (h : Keeps s0 s) : Keeps s0 (takeOver a1 s) := by
  unfold takeOver
  repeat' (first | with_reducible assumption | ((try lift_lets -underBinder); intro x; refine Keeps.cut (s := s0) (x := x) ?_ (fun _ => ?_); (on_goal 2 => (try clear_value x)); (on_goal 1 => unfold x)) | ((try lift_lets -underBinder); intro _) | with_reducible apply updTw_keeps | with_reducible apply postTakeover_keeps | with_reducible apply noteBoth_keeps | with_reducible apply setRole_keeps | with_reducible apply setClaim_keeps | with_reducible apply okFrame_keeps | (with_reducible apply Keeps.ite) | (fail_if_no_progress refine Keeps.upd ?_ rfl rfl rfl rfl rfl rfl))

theorem specTwHandover_keeps (c) {s} (h : Keeps s0 s) : Keeps s0 (specTwHandover.run c s) := by
  unfold specTwHandover; dsimp -zeta only
  repeat' (first | with_reducible assumption | with_reducible apply handOver_keeps | with_reducible apply takeOver_keeps | (with_reducible apply Keeps.ite))

theorem execTwHandover_keeps (a1) {s} (h : Keeps s0 s) : Goes s0 (execTwHandover a1 s) := runCmd_keeps specTwHandover a1 (fun c _ h => specTwHandover_keeps c h) h

theorem specTwResync_keeps (c) {s} (h : Keeps s0 s) : Keeps s0 (specTwResync.run c s) := by
  unfold specTwResync; dsimp -zeta only
  repeat' (first | with_reducible assumption | with_reducible apply requestSnapshot_keeps | with_reducible apply updTw_keeps)

theorem execTwResync_keeps (a1) {s} (h : Keeps s0 s) : Goes s0 (execTwResync a1 s) := runCmd_keeps specTwResync a1 (fun c _ h => specTwResync_keeps c h) h

theorem joinAt_keeps (a1) {s} (h : Keeps s0 s) : Keeps s0 (joinAt a1 s) := by
  unfold joinAt
  repeat' (first | with_reducible assumption | ((try lift_lets -underBinder); intro x; refine Keeps.cut (s := s0) (x := x) ?_ (fun _ => ?_); (on_goal 2 => (try clear_value x)); (on_goal 1 => unfold x)) | ((try lift_lets -underBinder); intro _) | with_reducible apply updTw_keeps | with_reducible apply setRole_keeps | with_reducible apply okFrame_keeps | (with_reducible refine Keeps.foldl _ (fun _ _ _ => ?_) _ ?_) | (with_reducible apply Keeps.ite) | (fail_if_no_progress refine Keeps.upd ?_ rfl rfl rfl rfl rfl rfl))

end Sys2Proof.Laws
end

