-- ==== Sys2Proof/Laws/KeepsRegisters.lean ====
section
/-!
SUPPORT. The operations and commands of Machine/Registers.lean keep what `Keeps` names.
-/
set_option linter.unusedTactic false
set_option linter.unreachableTactic false
set_option linter.unusedVariables false
namespace Sys2Proof.Laws

open Sys2Proof.Machine

variable {s0 : State}

theorem queueWrite_keeps (a1) (a2) (a3) {s} (h : Keeps s0 s) : Keeps s0 (queueWrite a1 a2 a3 s) := by
  unfold queueWrite
  repeat' (first | with_reducible assumption | ((try lift_lets -underBinder); intro _) | with_reducible apply updQueue_keeps | with_reducible apply draw_keeps | with_reducible apply cqTail_keeps | with_reducible apply qCtlWrite_keeps | (with_reducible apply Keeps.ite) | split)

theorem porchWrite_keeps (a1) (a2) (a3) {s} (h : Keeps s0 s) : Keeps s0 (porchWrite a1 a2 a3 s) := by
  unfold porchWrite
  repeat' (first | with_reducible assumption | ((try lift_lets -underBinder); intro _) | (with_reducible apply Keeps.ite) | (fail_if_no_progress refine Keeps.upd ?_ rfl rfl rfl rfl rfl rfl))

theorem mantelRead_keeps (a1) (a2) {s} (h : Keeps s0 s) : Keeps s0 (mantelRead a1 a2 s).2 := by
  unfold mantelRead
  repeat' (first | with_reducible assumption | ((try lift_lets -underBinder); intro _) | with_reducible apply cntLoRead_keeps | split)

theorem trigWrite_keeps (a1) (a2) (a3) (a4) {s} (h : Keeps s0 s) : Keeps s0 (trigWrite a1 a2 a3 a4 s) := by
  unfold trigWrite
  repeat' (first | with_reducible assumption | ((try lift_lets -underBinder); intro _) | with_reducible apply trigTgtWrite_keeps | with_reducible apply trigCtlWrite_keeps | with_reducible apply setMt_keeps | split)

theorem tsWrite_keeps (a1) (a2) (a3) {s} (h : Keeps s0 s) : Keeps s0 (tsWrite a1 a2 a3 s) := by
  unfold tsWrite
  repeat' (first | with_reducible assumption | ((try lift_lets -underBinder); intro _) | split | (fail_if_no_progress refine Keeps.upd ?_ rfl rfl rfl rfl rfl rfl))

theorem mantelWrite_keeps (a1) (a2) (a3) {s} (h : Keeps s0 s) : Keeps s0 (mantelWrite a1 a2 a3 s) := by
  unfold mantelWrite
  repeat' (first | with_reducible assumption | ((try lift_lets -underBinder); intro _) | with_reducible apply mtCtlWrite_keeps | with_reducible apply setMt_keeps | with_reducible apply rateWrite_keeps | with_reducible apply trigWrite_keeps | with_reducible apply tsWrite_keeps | (with_reducible apply Keeps.ite) | split | (fail_if_no_progress refine Keeps.upd ?_ rfl rfl rfl rfl rfl rfl))

theorem dwWrite_keeps (a1) (a2) (a3) {s} (h : Keeps s0 s) : Keeps s0 (dwWrite a1 a2 a3 s) := by
  unfold dwWrite
  repeat' (first | with_reducible assumption | with_reducible apply updDw_keeps | with_reducible apply dwCtlWrite_keeps | with_reducible apply dwTail_keeps | with_reducible apply updChan_keeps | (with_reducible apply Keeps.ite) | split)

theorem glWrite_keeps (a1) (a2) (a3) {s} (h : Keeps s0 s) : Keeps s0 (glWrite a1 a2 a3 s) := by
  unfold glWrite
  repeat' (first | with_reducible assumption | with_reducible apply glCtlWrite_keeps | with_reducible apply updPort_keeps | split)

theorem chWrite_keeps (a1) (a2) (a3) {s} (h : Keeps s0 s) : Keeps s0 (chWrite a1 a2 a3 s) := by
  unfold chWrite
  repeat' (first | with_reducible assumption | with_reducible apply updCh_keeps | with_reducible apply setHotLimits_keeps | (with_reducible apply Keeps.ite) | split)

theorem atWrite_keeps (a1) (a2) (a3) {s} (h : Keeps s0 s) : Keeps s0 (atWrite a1 a2 a3 s) := by
  unfold atWrite
  repeat' (first | with_reducible assumption | ((try lift_lets -underBinder); intro _) | split | (fail_if_no_progress refine Keeps.upd ?_ rfl rfl rfl rfl rfl rfl))

theorem fyWrite_keeps (a1) (a2) {s} (h : Keeps s0 s) : Keeps s0 (fyWrite a1 a2 s) := by
  unfold fyWrite
  repeat' (first | with_reducible assumption | with_reducible apply fyStatusWrite_keeps | split)

theorem clRegWrite_keeps (a1) (a2) {s} (h : Keeps s0 s) : Keeps s0 (clRegWrite a1 a2 s) := by
  unfold clRegWrite
  repeat' (first | with_reducible assumption | with_reducible apply clCtlWrite_keeps | with_reducible apply clStatusWrite_keeps | with_reducible apply pcXorWrite_keeps | with_reducible apply bkXorWrite_keeps | split)

theorem plWrite_keeps (a1) (a2) {s} (h : Keeps s0 s) : Keeps s0 (plWrite a1 a2 s) := by
  unfold plWrite
  repeat' (first | with_reducible assumption | ((try lift_lets -underBinder); intro _) | with_reducible apply plCtlWrite_keeps | with_reducible apply plStatusWrite_keeps | split | (fail_if_no_progress refine Keeps.upd ?_ rfl rfl rfl rfl rfl rfl))

theorem ppWrite_keeps (a1) (a2) {s} (h : Keeps s0 s) : Keeps s0 (ppWrite a1 a2 s) := by
  unfold ppWrite
  repeat' (first | with_reducible assumption | with_reducible apply ppCtlWrite_keeps | with_reducible apply ppStatusWrite_keeps | with_reducible apply ppBaseLoWrite_keeps | with_reducible apply ppBaseHiWrite_keeps | with_reducible apply ppSizeWrite_keeps | with_reducible apply ppPortWrite_keeps | split)

theorem twWrite_keeps (a1) (a2) {s} (h : Keeps s0 s) : Keeps s0 (twWrite a1 a2 s) := by
  unfold twWrite
  repeat' (first | with_reducible assumption | with_reducible apply twCtlWrite_keeps | with_reducible apply twStatusWrite_keeps | split)

theorem auWrite_keeps (a1) (a2) {s} (h : Keeps s0 s) : Keeps s0 (auWrite a1 a2 s) := by
  unfold auWrite
  repeat' (first | with_reducible assumption | with_reducible apply auPortCtlWrite_keeps | with_reducible apply auPortStatusWrite_keeps | with_reducible apply auTailWrite_keeps | with_reducible apply auBaseLoWrite_keeps | with_reducible apply auBaseHiWrite_keeps | with_reducible apply auFramesWrite_keeps | with_reducible apply auGroupCtlWrite_keeps | with_reducible apply auOffsetWrite_keeps | split)

theorem ldWrite_keeps (a1) (a2) {s} (h : Keeps s0 s) : Keeps s0 (ldWrite a1 a2 s) := by
  unfold ldWrite
  repeat' (first | with_reducible assumption | with_reducible apply updLd_keeps | with_reducible apply limitsNow_keeps | split)

theorem lrRegWrite_keeps (a1) (a2) {s} (h : Keeps s0 s) : Keeps s0 (lrRegWrite a1 a2 s) := by
  unfold lrRegWrite
  repeat' (first | with_reducible assumption | with_reducible apply updLr_keeps | with_reducible apply limitsNow_keeps | with_reducible apply updLd_keeps | split)

theorem lpWrite_keeps (a1) (a2) {s} (h : Keeps s0 s) : Keeps s0 (lpWrite a1 a2 s) := by
  unfold lpWrite
  repeat' (first | with_reducible assumption | ((try lift_lets -underBinder); intro _) | with_reducible apply lpCtlWrite_keeps | with_reducible apply updLp_keeps | with_reducible apply lpWaveWrite_keeps | with_reducible apply lpTrimWrite_keeps | split)

theorem htWrite_keeps (a1) (a2) {s} (h : Keeps s0 s) : Keeps s0 (htWrite a1 a2 s) := by
  unfold htWrite
  repeat' (first | with_reducible assumption | with_reducible apply htCtlWrite_keeps | with_reducible apply htStatusWrite_keeps | with_reducible apply railCtlWrite_keeps | with_reducible apply coefWrite_keeps | split)

theorem headRead_keeps (a1) {s} (h : Keeps s0 s) : Keeps s0 (headRead a1 s).2 := by
  unfold headRead
  repeat' (first | with_reducible assumption | ((try lift_lets -underBinder); intro _) | with_reducible apply mantelRead_keeps | split)

theorem headWrite_keeps (a1) (a2) {s} (h : Keeps s0 s) : Keeps s0 (headWrite a1 a2 s) := by
  unfold headWrite
  repeat' (first | with_reducible assumption | ((try lift_lets -underBinder); intro _) | with_reducible apply porchWrite_keeps | with_reducible apply mantelWrite_keeps | with_reducible apply dwWrite_keeps | with_reducible apply glWrite_keeps | with_reducible apply chWrite_keeps | with_reducible apply atWrite_keeps | with_reducible apply fyWrite_keeps | with_reducible apply clRegWrite_keeps | with_reducible apply plWrite_keeps | with_reducible apply ppWrite_keeps | with_reducible apply twWrite_keeps | with_reducible apply auWrite_keeps | split)

theorem tileRead_keeps (a1) {s} (h : Keeps s0 s) : Keeps s0 (tileRead a1 s).2 := by
  unfold tileRead
  repeat' (first | with_reducible assumption | ((try lift_lets -underBinder); intro _) | with_reducible apply mantelRead_keeps | with_reducible apply draw_keeps | split)

theorem tileWrite_keeps (a1) (a2) {s} (h : Keeps s0 s) : Keeps s0 (tileWrite a1 a2 s) := by
  unfold tileWrite
  repeat' (first | with_reducible assumption | ((try lift_lets -underBinder); intro _) | with_reducible apply porchWrite_keeps | with_reducible apply mantelWrite_keeps | with_reducible apply dwWrite_keeps | with_reducible apply glWrite_keeps | with_reducible apply chWrite_keeps | with_reducible apply atWrite_keeps | with_reducible apply ldWrite_keeps | with_reducible apply lrRegWrite_keeps | with_reducible apply lpWrite_keeps | with_reducible apply htWrite_keeps | split)

theorem regRead_keeps (p a) {s} (h : Keeps s0 s) : Keeps s0 (regRead p a s).2 := by
  cases p with
  | head => exact headRead_keeps a h
  | tile => exact tileRead_keeps a h

theorem regWrite_keeps (a1) (a2) (a3) {s} (h : Keeps s0 s) : Keeps s0 (regWrite a1 a2 a3 s) := by
  unfold regWrite
  repeat' (first | with_reducible assumption | with_reducible apply headWrite_keeps | with_reducible apply tileWrite_keeps | split)

theorem spaceWord_keeps (a1) (a2) (a3) {s} (h : Keeps s0 s) : Keeps s0 (spaceWord a1 a2 a3 s) := by
  unfold spaceWord
  repeat' (first | with_reducible assumption | with_reducible apply headWrite_keeps | with_reducible apply queueWrite_keeps | with_reducible apply tileWrite_keeps | (with_reducible apply Keeps.ite) | split)

theorem spaceWords_keeps (sp) : ∀ (a : Nat) (l : List Word) {s : State}, Keeps s0 s → Keeps s0 (spaceWords sp a l s)
  | _, [], _, h => h
  | a, v :: r, _, h => spaceWords_keeps sp (a + 4) r (spaceWord_keeps sp a v h)

theorem spaceWrite_keeps (a1) (a2) {s} (h : Keeps s0 s) : Keeps s0 (spaceWrite a1 a2 s) := by
  unfold spaceWrite
  repeat' (first | with_reducible assumption | with_reducible apply spaceWords_keeps | (with_reducible apply Keeps.ite))

theorem execRegisterWrite_keeps (a1) (a2) {s} (h : Keeps s0 s) : Goes s0 (execRegisterWrite a1 a2 s) := by
  unfold execRegisterWrite
  first | refine onPart_keeps _ _ (fun h => ?_) h | refine Goes.next ?_
  try dsimp -zeta only
  repeat' (first | with_reducible assumption | (intro t (_ : Keeps s0 t)) | with_reducible apply spaceWrite_keeps | with_reducible apply fromHost_keeps | split)

theorem readRegs_keeps (p) : ∀ (a n : Nat) {s : State}, Keeps s0 s → Keeps s0 (readRegs p a n s).2
  | _, 0, _, h => h
  | a, n + 1, _, h => readRegs_keeps p (a + 4) n (regRead_keeps p a h)

theorem writeRegs_keeps (p) : ∀ (a : Nat) (l : List Word) {s : State}, Keeps s0 s → Keeps s0 (writeRegs p a l s)
  | _, [], _, h => h
  | a, v :: r, _, h => writeRegs_keeps p (a + 4) r (regWrite_keeps p a v h)

theorem specPoRegRead_keeps (c) {s} (h : Keeps s0 s) : Keeps s0 (specPoRegRead.run c s) := by
  unfold specPoRegRead; dsimp -zeta only
  repeat' (first | with_reducible assumption | ((try lift_lets -underBinder); intro _) | with_reducible apply readRegs_keeps | with_reducible apply ok_keeps)

theorem execPoRegRead_keeps (a1) {s} (h : Keeps s0 s) : Goes s0 (execPoRegRead a1 s) := runCmd_keeps specPoRegRead a1 (fun c _ h => specPoRegRead_keeps c h) h

theorem specPoRegWrite_keeps (c) {s} (h : Keeps s0 s) : Keeps s0 (specPoRegWrite.run c s) := by
  unfold specPoRegWrite; dsimp -zeta only
  repeat' (first | with_reducible assumption | ((try lift_lets -underBinder); intro _) | with_reducible apply ok_keeps | with_reducible apply writeRegs_keeps)

theorem execPoRegWrite_keeps (a1) {s} (h : Keeps s0 s) : Goes s0 (execPoRegWrite a1 s) := runCmd_keeps specPoRegWrite a1 (fun c _ h => specPoRegWrite_keeps c h) h

end Sys2Proof.Laws
end

