-- ==== Sys2Proof/Laws/KeepsDumbwaiter.lean ====
section
/-!
SUPPORT. The operations and commands of Machine/Dumbwaiter.lean keep what `Keeps` names.
-/
set_option linter.unusedTactic false
set_option linter.unreachableTactic false
set_option linter.unusedVariables false
namespace Sys2Proof.Laws

open Sys2Proof.Machine

variable {s0 : State}

theorem fetchDesc_keeps (a1) (a2) (a3) {s} (h : Keeps s0 s) : Keeps s0 (fetchDesc a1 a2 a3 s) := by
  unfold fetchDesc
  repeat' (first | with_reducible assumption | ((try lift_lets -underBinder); intro _) | with_reducible apply fetchBytes_keeps | with_reducible apply failChan_keeps | with_reducible apply settle_keeps | with_reducible apply updChan_keeps | split)

theorem execDescriptorFetched_keeps (a1) (a2) (a3) {s} (h : Keeps s0 s) : Goes s0 (execDescriptorFetched a1 a2 a3 s) := by
  unfold execDescriptorFetched
  first | refine onPart_keeps _ _ (fun h => ?_) h | refine Goes.next ?_
  try dsimp -zeta only
  repeat' (first | with_reducible assumption | with_reducible apply fetchDesc_keeps | (with_reducible apply Keeps.ite))

theorem updBurst_keeps (a1) (a2) (a3) (a4) (a5) {s} (h : Keeps s0 s) : Keeps s0 (updBurst a1 a2 a3 a4 a5 s) := by
  unfold updBurst
  repeat' (first | with_reducible assumption | with_reducible apply updChan_keeps)

theorem startWrite_keeps (a1) (a2) (a3) (a4) (a5) (a6) {s} (h : Keeps s0 s) : Keeps s0 (startWrite a1 a2 a3 a4 a5 a6 s) := by
  unfold startWrite
  repeat' (first | with_reducible assumption | ((try lift_lets -underBinder); intro _) | with_reducible apply draw_keeps | with_reducible apply sendBulk_keeps | with_reducible apply updBurst_keeps | (with_reducible apply Keeps.ite))

theorem issueBurst_keeps (a1) (a2) (a3) {s} (h : Keeps s0 s) : Keeps s0 (issueBurst a1 a2 a3 s) := by
  unfold issueBurst
  repeat' (first | with_reducible assumption | ((try lift_lets -underBinder); intro x; refine Keeps.cut (s := s0) (x := x) ?_ (fun _ => ?_); (on_goal 2 => (try clear_value x)); (on_goal 1 => unfold x)) | ((try lift_lets -underBinder); intro _) | with_reducible apply updChan_keeps | with_reducible apply startWrite_keeps | with_reducible apply emit_keeps | with_reducible apply draw_keeps | with_reducible apply sendBulk_keeps | split)

theorem takeTurn_keeps (a1) (a2) {s} (h : Keeps s0 s) : Keeps s0 (takeTurn a1 a2 s) := by
  unfold takeTurn
  repeat' (first | with_reducible assumption | ((try lift_lets -underBinder); intro _) | with_reducible apply updDw_keeps | with_reducible apply updChan_keeps)

theorem execBurstIssue_keeps (a1) (a2) {s} (h : Keeps s0 s) : Goes s0 (execBurstIssue a1 a2 s) := by
  unfold execBurstIssue
  first | refine onPart_keeps _ _ (fun h => ?_) h | refine Goes.next ?_
  try dsimp -zeta only
  repeat' (first | with_reducible assumption | with_reducible apply issueBurst_keeps | with_reducible apply takeTurn_keeps | (with_reducible apply Keeps.ite) | split)

theorem localLoad_keeps (a1) (a2) {s} (h : Keeps s0 s) : Keeps s0 (localLoad a1 a2 s).2 := by
  unfold localLoad
  repeat' (first | with_reducible assumption | with_reducible apply readRegs_keeps | split)

theorem localStore_keeps (a1) (a2) {s} (h : Keeps s0 s) : Keeps s0 (localStore a1 a2 s) := by
  unfold localStore
  repeat' (first | with_reducible assumption | with_reducible apply writeRegs_keeps | with_reducible apply localWrite_keeps | (with_reducible apply Keeps.ite))

theorem burstError_keeps (a1) (a2) (a3) (a4) {s} (h : Keeps s0 s) : Keeps s0 (burstError a1 a2 a3 a4 s) := by
  unfold burstError
  repeat' (first | with_reducible assumption | with_reducible apply settle_keeps | with_reducible apply updChan_keeps)

theorem burstEnd_keeps (a1) (a2) (a3) {s} (h : Keeps s0 s) : Keeps s0 (burstEnd a1 a2 a3 s) := by
  unfold burstEnd
  repeat' (first | with_reducible assumption | with_reducible apply settle_keeps | with_reducible apply updChan_keeps)

theorem burstData_keeps (a1) (a2) (a3) (a4) {s} (h : Keeps s0 s) : Keeps s0 (burstData a1 a2 a3 a4 s).2 := by
  unfold burstData
  repeat' (first | with_reducible assumption | ((try lift_lets -underBinder); intro _) | with_reducible apply clRead_keeps | with_reducible apply localLoad_keeps | split)

theorem landData_keeps (a1) (a2) (a3) (a4) {s} (h : Keeps s0 s) : Keeps s0 (landData a1 a2 a3 a4 s) := by
  unfold landData
  repeat' (first | with_reducible assumption | with_reducible apply emit_keeps | with_reducible apply cellarPut_keeps | with_reducible apply localStore_keeps | split)

theorem burstResponse_keeps (p ch b d r) {s} (h : Keeps s0 s) : Keeps s0 (burstResponse p ch b d r s) := by
  unfold burstResponse
  split
  · refine Keeps.ite (burstError_keeps _ _ _ _ h) ?_
    have k := burstData_keeps p d b r h
    split
    · rename_i e; rw [e] at k; exact burstError_keeps _ _ _ _ k
    · rename_i e; rw [e] at k; exact startWrite_keeps _ _ _ _ _ _ k
  · refine Keeps.ite (Keeps.ite (burstError_keeps _ _ _ _ h) (burstEnd_keeps _ _ _ (landData_keeps _ _ _ _ h))) ?_
    exact Keeps.ite (updBurst_keeps _ _ _ _ _ h) (Keeps.ite (burstError_keeps _ _ _ _ h) (burstEnd_keeps _ _ _ h))

theorem execBurstResponse_keeps (a1) (a2) (a3) {s} (h : Keeps s0 s) : Goes s0 (execBurstResponse a1 a2 a3 s) := by
  unfold execBurstResponse
  first | refine onPart_keeps _ _ (fun h => ?_) h | refine Goes.next ?_
  try dsimp -zeta only
  repeat' (first | with_reducible assumption | (intro t (_ : Keeps s0 t)) | with_reducible apply whenServed_keeps | with_reducible apply burstResponse_keeps | split)

theorem execHostReadTimeout_keeps (a1) (a2) {s} (h : Keeps s0 s) : Goes s0 (execHostReadTimeout a1 a2 s) := by
  unfold execHostReadTimeout
  first | refine onPart_keeps _ _ (fun h => ?_) h | refine Goes.next ?_
  try dsimp -zeta only
  repeat' (first | with_reducible assumption | with_reducible apply burstError_keeps | split)

theorem execTileBurstTimeout_keeps (a1) (a2) {s} (h : Keeps s0 s) : Goes s0 (execTileBurstTimeout a1 a2 s) := by
  unfold execTileBurstTimeout
  first | refine onPart_keeps _ _ (fun h => ?_) h | refine Goes.next ?_
  try dsimp -zeta only
  repeat' (first | with_reducible assumption | with_reducible apply burstError_keeps | split)

theorem bulkAnswer_keeps (a1) (a2) (a3) (a4) {s} (h : Keeps s0 s) : Keeps s0 (bulkAnswer a1 a2 a3 a4 s) := by
  unfold bulkAnswer
  repeat' (first | with_reducible assumption | ((try lift_lets -underBinder); intro _) | with_reducible apply tileSend_keeps)

theorem bulkWrite_keeps (a1) (a2) (a3) {s} (h : Keeps s0 s) : Keeps s0 (bulkWrite a1 a2 a3 s) := by
  unfold bulkWrite
  repeat' (first | with_reducible assumption | ((try lift_lets -underBinder); intro _) | with_reducible apply bulkAnswer_keeps | with_reducible apply localStore_keeps | with_reducible apply localWrite_keeps | (with_reducible apply Keeps.ite) | (fail_if_no_progress refine Keeps.upd ?_ rfl rfl rfl rfl rfl rfl))

theorem bulkRead_keeps (a1) (a2) (a3) (a4) {s} (h : Keeps s0 s) : Keeps s0 (bulkRead a1 a2 a3 a4 s) := by
  unfold bulkRead
  repeat' (first | with_reducible assumption | ((try lift_lets -underBinder); intro _) | with_reducible apply bulkAnswer_keeps | with_reducible apply localLoad_keeps | (with_reducible apply Keeps.ite))

theorem bulkReceived_keeps (a1) {s} (h : Keeps s0 s) : Keeps s0 (bulkReceived a1 s) := by
  unfold bulkReceived
  repeat' (first | with_reducible assumption | ((try lift_lets -underBinder); intro x; refine Keeps.cut (s := s0) (x := x) ?_ (fun _ => ?_); (on_goal 2 => (try clear_value x)); (on_goal 1 => unfold x)) | ((try lift_lets -underBinder); intro _) | with_reducible apply linkAccept_keeps | with_reducible apply freeRx_keeps | with_reducible apply updPort_keeps | with_reducible apply hand_keeps | with_reducible apply bulkWrite_keeps | with_reducible apply bulkAnswer_keeps | with_reducible apply bulkRead_keeps | (with_reducible apply Keeps.ite) | split)

theorem execBulkPacketReceived_keeps (a1) {s} (h : Keeps s0 s) : Goes s0 (execBulkPacketReceived a1 s) := by
  unfold execBulkPacketReceived
  first | refine onPart_keeps _ _ (fun h => ?_) h | refine Goes.next ?_
  try dsimp -zeta only
  repeat' (first | with_reducible assumption | with_reducible apply bulkReceived_keeps)

end Sys2Proof.Laws
end

