-- ==== Sys2Proof/Laws/KeepsAttic.lean ====
section
/-!
SUPPORT. The operations and commands of Machine/Attic.lean keep what `Keeps` names.
-/
set_option linter.unusedTactic false
set_option linter.unreachableTactic false
set_option linter.unusedVariables false
namespace Sys2Proof.Laws

open Sys2Proof.Machine

variable {s0 : State}

theorem specAtGetInfo_keeps (c) {s} (h : Keeps s0 s) : Keeps s0 (specAtGetInfo.run c s) := by
  unfold specAtGetInfo; dsimp -zeta only
  repeat' (first | with_reducible assumption | ((try lift_lets -underBinder); intro _) | with_reducible apply ok_keeps)

theorem execAtGetInfo_keeps (a1) {s} (h : Keeps s0 s) : Goes s0 (execAtGetInfo a1 s) := runCmd_keeps specAtGetInfo a1 (fun c _ h => specAtGetInfo_keeps c h) h

theorem specAtGetCert_keeps (c) {s} (h : Keeps s0 s) : Keeps s0 (specAtGetCert.run c s) := by
  unfold specAtGetCert; dsimp -zeta only
  repeat' (first | with_reducible assumption | with_reducible apply ok_keeps)

theorem execAtGetCert_keeps (a1) {s} (h : Keeps s0 s) : Goes s0 (execAtGetCert a1 s) := runCmd_keeps specAtGetCert a1 (fun c _ h => specAtGetCert_keeps c h) h

theorem specAtGetCsr_keeps (c) {s} (h : Keeps s0 s) : Keeps s0 (specAtGetCsr.run c s) := by
  unfold specAtGetCsr; dsimp -zeta only
  repeat' (first | with_reducible assumption | with_reducible apply ok_keeps)

theorem execAtGetCsr_keeps (a1) {s} (h : Keeps s0 s) : Goes s0 (execAtGetCsr a1 s) := runCmd_keeps specAtGetCsr a1 (fun c _ h => specAtGetCsr_keeps c h) h

theorem specAtSetCert_keeps (c) {s} (h : Keeps s0 s) : Keeps s0 (specAtSetCert.run c s) := by
  unfold specAtSetCert; dsimp -zeta only
  repeat' (first | with_reducible assumption | with_reducible apply nvPush_keeps)

theorem execAtSetCert_keeps (a1) {s} (h : Keeps s0 s) : Goes s0 (execAtSetCert a1 s) := runCmd_keeps specAtSetCert a1 (fun c _ h => specAtSetCert_keeps c h) h

theorem specAtSetTrust_keeps (c) {s} (h : Keeps s0 s) : Keeps s0 (specAtSetTrust.run c s) := by
  unfold specAtSetTrust; dsimp -zeta only
  repeat' (first | with_reducible assumption | ((try lift_lets -underBinder); intro _) | with_reducible apply nvPush_keeps)

theorem execAtSetTrust_keeps (a1) {s} (h : Keeps s0 s) : Goes s0 (execAtSetTrust a1 s) := runCmd_keeps specAtSetTrust a1 (fun c _ h => specAtSetTrust_keeps c h) h

theorem specAtChallenge_keeps (c) {s} (h : Keeps s0 s) : Keeps s0 (specAtChallenge.run c s) := by
  unfold specAtChallenge; dsimp -zeta only
  repeat' (first | with_reducible assumption | ((try lift_lets -underBinder); intro _) | with_reducible apply ok_keeps)

theorem execAtChallenge_keeps (a1) {s} (h : Keeps s0 s) : Goes s0 (execAtChallenge a1 s) := runCmd_keeps specAtChallenge a1 (fun c _ h => specAtChallenge_keeps c h) h

theorem setEnrolled_keeps (a1) (a2) (a3) (a4) {s} (h : Keeps s0 s) : Keeps s0 (setEnrolled a1 a2 a3 a4 s) := by
  unfold setEnrolled
  repeat' (first | with_reducible assumption | ((try lift_lets -underBinder); intro _) | with_reducible apply writeSettings_keeps | (fail_if_no_progress refine Keeps.upd ?_ rfl rfl rfl rfl rfl rfl))

theorem specAtEnrol_keeps (c) {s} (h : Keeps s0 s) : Keeps s0 (specAtEnrol.run c s) := by
  unfold specAtEnrol; dsimp -zeta only
  repeat' (first | with_reducible assumption | ((try lift_lets -underBinder); intro _) | with_reducible apply setEnrolled_keeps | with_reducible apply ok_keeps | split | (fail_if_no_progress refine Keeps.upd ?_ rfl rfl rfl rfl rfl rfl))

theorem execAtEnrol_keeps (a1) {s} (h : Keeps s0 s) : Goes s0 (execAtEnrol a1 s) := runCmd_keeps specAtEnrol a1 (fun c _ h => specAtEnrol_keeps c h) h

theorem execMgmtSessionOpen_keeps (a1) {s} (h : Keeps s0 s) : Goes s0 (execMgmtSessionOpen a1 s) := by
  unfold execMgmtSessionOpen
  first | refine onPart_keeps _ _ (fun h => ?_) h | refine Goes.next ?_
  try dsimp -zeta only
  repeat' (first | with_reducible assumption | ((try lift_lets -underBinder); intro x; refine Keeps.cut (s := s0) (x := x) ?_ (fun _ => ?_); (on_goal 2 => (try clear_value x)); (on_goal 1 => unfold x)) | ((try lift_lets -underBinder); intro _) | with_reducible apply emit_keeps | with_reducible apply post_keeps | (with_reducible apply Keeps.ite) | split | (fail_if_no_progress refine Keeps.upd ?_ rfl rfl rfl rfl rfl rfl))

theorem bootWrite_keeps (a1) (a2) (a3) {s} (h : Keeps s0 s) : Keeps s0 (bootWrite a1 a2 a3 s) := by
  unfold bootWrite
  repeat' (first | with_reducible assumption | with_reducible apply nvPush_keeps)

theorem specAtStageBegin_keeps (c) {s} (h : Keeps s0 s) : Keeps s0 (specAtStageBegin.run c s) := by
  unfold specAtStageBegin; dsimp -zeta only
  repeat' (first | with_reducible assumption | ((try lift_lets -underBinder); intro _) | with_reducible apply nvPush_keeps | (fail_if_no_progress refine Keeps.upd ?_ rfl rfl rfl rfl rfl rfl))

theorem execAtStageBegin_keeps (a1) {s} (h : Keeps s0 s) : Goes s0 (execAtStageBegin a1 s) := runCmd_keeps specAtStageBegin a1 (fun c _ h => specAtStageBegin_keeps c h) h

theorem specAtStageData_keeps (c) {s} (h : Keeps s0 s) : Keeps s0 (specAtStageData.run c s) := by
  unfold specAtStageData; dsimp -zeta only
  extract_lets p off n r
  have k : Keeps s0 r.2.2 := by
    unfold r
    split
    · exact h
    · exact clRead_keeps _ _ _ h
  clear_value r
  refine Keeps.ite (failed_keeps _ _ _ _ k) ?_
  split
  · exact h
  · exact nvPush_keeps _ _ (Keeps.upd k rfl rfl rfl rfl rfl rfl)

theorem execAtStageData_keeps (a1) {s} (h : Keeps s0 s) : Goes s0 (execAtStageData a1 s) := runCmd_keeps specAtStageData a1 (fun c _ h => specAtStageData_keeps c h) h

theorem specAtStageVerify_keeps (c) {s} (h : Keeps s0 s) : Keeps s0 (specAtStageVerify.run c s) := by
  unfold specAtStageVerify; dsimp -zeta only
  repeat' (first | with_reducible assumption | ((try lift_lets -underBinder); intro x; refine Keeps.cut (s := s0) (x := x) ?_ (fun _ => ?_); (on_goal 2 => (try clear_value x)); (on_goal 1 => unfold x)) | ((try lift_lets -underBinder); intro _) | with_reducible apply failed_keeps | with_reducible apply bootWrite_keeps | split | (fail_if_no_progress refine Keeps.upd ?_ rfl rfl rfl rfl rfl rfl))

theorem execAtStageVerify_keeps (a1) {s} (h : Keeps s0 s) : Goes s0 (execAtStageVerify a1 s) := runCmd_keeps specAtStageVerify a1 (fun c _ h => specAtStageVerify_keeps c h) h

theorem specAtStageAbort_keeps (c) {s} (h : Keeps s0 s) : Keeps s0 (specAtStageAbort.run c s) := by
  unfold specAtStageAbort; dsimp -zeta only
  repeat' (first | with_reducible assumption | ((try lift_lets -underBinder); intro _) | with_reducible apply ok_keeps | with_reducible apply bootWrite_keeps | split | (fail_if_no_progress refine Keeps.upd ?_ rfl rfl rfl rfl rfl rfl))

theorem execAtStageAbort_keeps (a1) {s} (h : Keeps s0 s) : Goes s0 (execAtStageAbort a1 s) := runCmd_keeps specAtStageAbort a1 (fun c _ h => specAtStageAbort_keeps c h) h

theorem schedule_keeps (a1) (a2) {s} (h : Keeps s0 s) : Keeps s0 (schedule a1 a2 s) := by
  unfold schedule
  repeat' (first | with_reducible assumption | ((try lift_lets -underBinder); intro _) | with_reducible apply okFrame_keeps | with_reducible apply ok_keeps | split | (fail_if_no_progress refine Keeps.upd ?_ rfl rfl rfl rfl rfl rfl))

theorem specAtActivate_keeps (c) {s} (h : Keeps s0 s) : Keeps s0 (specAtActivate.run c s) := by
  unfold specAtActivate; dsimp -zeta only
  repeat' (first | with_reducible assumption | with_reducible apply schedule_keeps)

theorem execAtActivate_keeps (a1) {s} (h : Keeps s0 s) : Goes s0 (execAtActivate a1 s) := runCmd_keeps specAtActivate a1 (fun c _ h => specAtActivate_keeps c h) h

theorem specAtRollback_keeps (c) {s} (h : Keeps s0 s) : Keeps s0 (specAtRollback.run c s) := by
  unfold specAtRollback; dsimp -zeta only
  repeat' (first | with_reducible assumption | with_reducible apply schedule_keeps)

theorem execAtRollback_keeps (a1) {s} (h : Keeps s0 s) : Goes s0 (execAtRollback a1 s) := runCmd_keeps specAtRollback a1 (fun c _ h => specAtRollback_keeps c h) h

theorem specAtConfirm_keeps (c) {s} (h : Keeps s0 s) : Keeps s0 (specAtConfirm.run c s) := by
  unfold specAtConfirm; dsimp -zeta only
  repeat' (first | with_reducible assumption | ((try lift_lets -underBinder); intro _) | with_reducible apply ok_keeps | (with_reducible apply Keeps.ite) | (fail_if_no_progress refine Keeps.upd ?_ rfl rfl rfl rfl rfl rfl))

theorem execAtConfirm_keeps (a1) {s} (h : Keeps s0 s) : Goes s0 (execAtConfirm a1 s) := runCmd_keeps specAtConfirm a1 (fun c _ h => specAtConfirm_keeps c h) h

theorem atCutoff_keeps (a1) {s} (h : Keeps s0 s) : Keeps s0 (atCutoff a1 s) := by
  unfold atCutoff
  repeat' (first | with_reducible assumption | ((try lift_lets -underBinder); intro x; refine Keeps.cut (s := s0) (x := x) ?_ (fun _ => ?_); (on_goal 2 => (try clear_value x)); (on_goal 1 => unfold x)) | ((try lift_lets -underBinder); intro _) | with_reducible apply saveTrims_keeps | with_reducible apply nvPush_keeps | (fail_if_no_progress refine Keeps.upd ?_ rfl rfl rfl rfl rfl rfl))

theorem atRestart_keeps (a1) {s} (h : Keeps s0 s) : Keeps s0 (atRestart a1 s) := by
  unfold atRestart
  repeat' (first | with_reducible assumption | ((try lift_lets -underBinder); intro x; refine Keeps.cut (s := s0) (x := x) ?_ (fun _ => ?_); (on_goal 2 => (try clear_value x)); (on_goal 1 => unfold x)) | ((try lift_lets -underBinder); intro _) | with_reducible apply nvDrain_keeps | with_reducible apply enterHoldover_keeps | with_reducible apply emit_keeps | with_reducible apply dropFirmware_keeps | (fail_if_no_progress refine Keeps.upd ?_ rfl rfl rfl rfl rfl rfl))

theorem execActivateRestart_keeps (a1) {s} (h : Keeps s0 s) : Goes s0 (execActivateRestart a1 s) := by
  unfold execActivateRestart
  first | refine onPart_keeps _ _ (fun h => ?_) h | refine Goes.next ?_
  try dsimp -zeta only
  repeat' (first | with_reducible assumption | ((try lift_lets -underBinder); intro _) | with_reducible apply atCutoff_keeps | with_reducible apply atRestart_keeps | (with_reducible apply Keeps.ite) | split)

theorem fetchWaiting_keeps {s} (h : Keeps s0 s) : Keeps s0 (fetchWaiting s) := by
  unfold fetchWaiting
  repeat' (first | with_reducible assumption | ((try lift_lets -underBinder); intro _) | with_reducible apply writeConsumer_keeps | with_reducible apply fetchAll_keeps | (with_reducible refine Keeps.foldl _ (fun _ _ _ => ?_) _ ?_) | (with_reducible apply Keeps.ite))

theorem execActivateResume_keeps {s} (h : Keeps s0 s) : Goes s0 (execActivateResume s) := by
  unfold execActivateResume
  first | refine onPart_keeps _ _ (fun h => ?_) h | refine Goes.next ?_
  try dsimp -zeta only
  repeat' (first | with_reducible assumption | ((try lift_lets -underBinder); intro x; refine Keeps.cut (s := s0) (x := x) ?_ (fun _ => ?_); (on_goal 2 => (try clear_value x)); (on_goal 1 => unfold x)) | ((try lift_lets -underBinder); intro _) | with_reducible apply startFirmware_keeps | with_reducible apply countStart_keeps | with_reducible apply fetchWaiting_keeps | with_reducible apply resumeFrames_keeps | (with_reducible apply Keeps.ite) | split | (fail_if_no_progress refine Keeps.upd ?_ rfl rfl rfl rfl rfl rfl))

theorem execHealthWindowExpiry_keeps {s} (h : Keeps s0 s) : Goes s0 (execHealthWindowExpiry s) := by
  unfold execHealthWindowExpiry
  first | refine onPart_keeps _ _ (fun h => ?_) h | refine Goes.next ?_
  try dsimp -zeta only
  repeat' (first | with_reducible assumption | ((try lift_lets -underBinder); intro _) | with_reducible apply post_keeps | (with_reducible apply Keeps.ite) | (fail_if_no_progress refine Keeps.upd ?_ rfl rfl rfl rfl rfl rfl))

theorem execHealthConfirm_keeps {s} (h : Keeps s0 s) : Goes s0 (execHealthConfirm s) := by
  unfold execHealthConfirm
  first | refine onPart_keeps _ _ (fun h => ?_) h | refine Goes.next ?_
  try dsimp -zeta only
  repeat' (first | with_reducible assumption | ((try lift_lets -underBinder); intro _) | with_reducible apply bootWrite_keeps | (with_reducible apply Keeps.ite) | (fail_if_no_progress refine Keeps.upd ?_ rfl rfl rfl rfl rfl rfl))

theorem confirmDone_keeps {s} (h : Keeps s0 s) : Keeps s0 (confirmDone s) := by
  unfold confirmDone
  repeat' (first | with_reducible assumption | ((try lift_lets -underBinder); intro _) | with_reducible apply post_keeps | (fail_if_no_progress refine Keeps.upd ?_ rfl rfl rfl rfl rfl rfl))

theorem headProgramDone_keeps (a1) {s} (h : Keeps s0 s) : Keeps s0 (headProgramDone a1 s) := by
  unfold headProgramDone
  repeat' (first | with_reducible assumption | ((try lift_lets -underBinder); intro x; refine Keeps.cut (s := s0) (x := x) ?_ (fun _ => ?_); (on_goal 2 => (try clear_value x)); (on_goal 1 => unfold x)) | ((try lift_lets -underBinder); intro _) | with_reducible apply nvProgramDone_keeps | with_reducible apply confirmDone_keeps | (with_reducible apply Keeps.ite) | split | (fail_if_no_progress refine Keeps.upd ?_ rfl rfl rfl rfl rfl rfl))

theorem execNvProgramDone_keeps (a1) (a2) {s} (h : Keeps s0 s) : Goes s0 (execNvProgramDone a1 a2 s) := by
  unfold execNvProgramDone
  first | refine onPart_keeps _ _ (fun h => ?_) h | refine Goes.next ?_
  try dsimp -zeta only
  repeat' (first | with_reducible assumption | with_reducible apply headProgramDone_keeps | with_reducible apply nvProgramDone_keeps | split)

theorem execNvEraseDone_keeps (a1) {s} (h : Keeps s0 s) : Goes s0 (execNvEraseDone a1 s) := by
  unfold execNvEraseDone
  first | refine onPart_keeps _ _ (fun h => ?_) h | refine Goes.next ?_
  try dsimp -zeta only
  repeat' (first | with_reducible assumption | with_reducible apply nvEraseDone_keeps)

theorem execLogPageWrite_keeps {s} (h : Keeps s0 s) : Goes s0 (execLogPageWrite s) := by
  unfold execLogPageWrite
  first | refine onPart_keeps _ _ (fun h => ?_) h | refine Goes.next ?_
  try dsimp -zeta only
  repeat' (first | with_reducible assumption | ((try lift_lets -underBinder); intro _) | with_reducible apply nvPush_keeps | (with_reducible apply Keeps.ite) | (fail_if_no_progress refine Keeps.upd ?_ rfl rfl rfl rfl rfl rfl))

end Sys2Proof.Laws
end

