-- ==== Sys2Proof/Laws/KeepsFrames.lean ====
section
/-!
SUPPORT. The operations and commands of Machine/Frames.lean keep what `Keeps` names.
-/
set_option linter.unusedTactic false
set_option linter.unreachableTactic false
set_option linter.unusedVariables false
namespace Sys2Proof.Laws

open Sys2Proof.Machine

variable {s0 : State}

theorem execSpec_keeps (a1) {s} (h : Keeps s0 s) : Goes s0 (execSpec a1 s) := by
  unfold execSpec
  first | refine onPart_keeps _ _ (fun h => ?_) h | refine Goes.next ?_
  try dsimp -zeta only
  repeat' (first | with_reducible assumption | ((try lift_lets -underBinder); intro _) | with_reducible apply openSpec_keeps | (with_reducible apply Keeps.ite) | (fail_if_no_progress refine Keeps.upd ?_ rfl rfl rfl rfl rfl rfl))

theorem handOff_keeps (a1) {s} (h : Keeps s0 s) : Keeps s0 (handOff a1 s) := by
  unfold handOff
  repeat' (first | with_reducible assumption | with_reducible apply noteBoth_keeps | with_reducible apply setRole_keeps | with_reducible apply setClaim_keeps | (with_reducible apply Keeps.ite))

theorem execCutoff_keeps (a1) {s} (h : Keeps s0 s) : Goes s0 (execCutoff a1 s) := by
  unfold execCutoff
  first | refine onPart_keeps _ _ (fun h => ?_) h | refine Goes.next ?_
  try dsimp -zeta only
  repeat' (first | with_reducible assumption | with_reducible apply twinEval_keeps | with_reducible apply handOff_keeps | with_reducible apply sendCut_keeps | with_reducible apply decideFormats_keeps | with_reducible apply closeTwin_keeps | (with_reducible apply Keeps.ite))

theorem execPushOpen_keeps (a1) {s} (h : Keeps s0 s) : Goes s0 (execPushOpen a1 s) := by
  unfold execPushOpen
  first | refine onPart_keeps _ _ (fun h => ?_) h | refine Goes.next ?_
  try dsimp -zeta only
  repeat' (first | with_reducible assumption | ((try lift_lets -underBinder); intro x; refine Keeps.cut (s := s0) (x := x) ?_ (fun _ => ?_); (on_goal 2 => (try clear_value x)); (on_goal 1 => unfold x)) | ((try lift_lets -underBinder); intro _) | with_reducible apply sendSnapshot_keeps | with_reducible apply openPush_keeps | with_reducible apply powerLate_keeps | with_reducible apply governorPoint_keeps | with_reducible apply joinAt_keeps | (with_reducible apply Keeps.ite) | split | (fail_if_no_progress refine Keeps.upd ?_ rfl rfl rfl rfl rfl rfl))

theorem execPushClose_keeps (a1) {s} (h : Keeps s0 s) : Goes s0 (execPushClose a1 s) := by
  unfold execPushClose
  first | refine onPart_keeps _ _ (fun h => ?_) h | refine Goes.next ?_
  try dsimp -zeta only
  repeat' (first | with_reducible assumption | with_reducible apply sendDigest_keeps | with_reducible apply closePush_keeps | (with_reducible apply Keeps.ite))

theorem flipVersions_keeps (a1) {s} (h : Keeps s0 s) : Keeps s0 (flipVersions a1 s) := by
  unfold flipVersions
  repeat' (first | with_reducible assumption | ((try lift_lets -underBinder); intro _) | with_reducible apply reviseVers_keeps)

theorem measureFlip_keeps (a1) (a2) {s} (h : Keeps s0 s) : Keeps s0 (measureFlip a1 a2 s) := by
  unfold measureFlip
  repeat' (first | with_reducible assumption | with_reducible apply measureWall_keeps | (with_reducible refine Keeps.foldl _ (fun _ _ _ => ?_) _ ?_) | split)

theorem markHeld_keeps (a1) {s} (h : Keeps s0 s) : Keeps s0 (markHeld a1 s) :=
  Keeps.upd h rfl rfl rfl rfl rfl rfl

theorem holdDark_keeps (a1) {s} (h : Keeps s0 s) : Keeps s0 (holdDark a1 s) := by
  unfold holdDark
  repeat' (first | with_reducible assumption | with_reducible apply darken_keeps | (with_reducible apply Keeps.ite))

theorem dropServes_keeps {s} (h : Keeps s0 s) : Keeps s0 (dropServes s) := by
  unfold dropServes
  repeat' (first | with_reducible assumption | with_reducible apply updRec_keeps | with_reducible apply staleReplay_keeps | (with_reducible refine Keeps.foldl _ (fun _ _ _ => ?_) _ ?_))

theorem headFlip_keeps (a1) (a2) {s} (h : Keeps s0 s) : Keeps s0 (headFlip a1 a2 s) := by
  unfold headFlip
  repeat' (first | with_reducible assumption | ((try lift_lets -underBinder); intro x; refine Keeps.cut (s := s0) (x := x) ?_ (fun _ => ?_); (on_goal 2 => (try clear_value x)); (on_goal 1 => unfold x)) | ((try lift_lets -underBinder); intro _) | with_reducible apply flipVersions_keeps | with_reducible apply dropServes_keeps | with_reducible apply measureFlip_keeps | with_reducible apply updRec_keeps | with_reducible apply holdDark_keeps | with_reducible apply markHeld_keeps | with_reducible apply stepTerms_keeps | split | (fail_if_no_progress refine Keeps.upd ?_ rfl rfl rfl rfl rfl rfl))

theorem flushOne_keeps (a1) (a2) {s} (h : Keeps s0 s) : Keeps s0 (flushOne a1 a2 s) := by
  unfold flushOne
  repeat' (first | with_reducible assumption | ((try lift_lets -underBinder); intro _) | with_reducible apply postApplied_keeps | (fail_if_no_progress refine Keeps.upd ?_ rfl rfl rfl rfl rfl rfl))

theorem joinStop_keeps {s} (h : Keeps s0 s) : Keeps s0 (joinStop s) := by
  unfold joinStop
  repeat' (first | with_reducible assumption | with_reducible apply joinAt_keeps | with_reducible apply setRole_keeps | (with_reducible apply Keeps.ite) | split)

theorem handoverStop_keeps {s} (h : Keeps s0 s) : Keeps s0 (handoverStop s) := by
  unfold handoverStop
  repeat' (first | with_reducible assumption | ((try lift_lets -underBinder); intro x; refine Keeps.cut (s := s0) (x := x) ?_ (fun _ => ?_); (on_goal 2 => (try clear_value x)); (on_goal 1 => unfold x)) | ((try lift_lets -underBinder); intro _) | with_reducible apply handOff_keeps | split | (fail_if_no_progress refine Keeps.upd ?_ rfl rfl rfl rfl rfl rfl))

theorem headStop_keeps (a1) {s} (h : Keeps s0 s) : Keeps s0 (headStop a1 s) := by
  unfold headStop
  repeat' (first | with_reducible assumption | ((try lift_lets -underBinder); intro x; refine Keeps.cut (s := s0) (x := x) ?_ (fun _ => ?_); (on_goal 2 => (try clear_value x)); (on_goal 1 => unfold x)) | ((try lift_lets -underBinder); intro _) | with_reducible apply fsrWrite_keeps | with_reducible apply holdDark_keeps | with_reducible apply markHeld_keeps | with_reducible apply stepTerms_keeps | with_reducible apply flushOne_keeps | with_reducible apply handoverStop_keeps | with_reducible apply reviseVers_keeps | with_reducible apply endLeases_keeps | with_reducible apply joinStop_keeps | with_reducible apply evalClaim_keeps | (with_reducible refine Keeps.foldl _ (fun _ _ _ => ?_) _ ?_) | (fail_if_no_progress refine Keeps.upd ?_ rfl rfl rfl rfl rfl rfl))

theorem headTick_keeps (a1) {s} (h : Keeps s0 s) : Keeps s0 (headTick a1 s) := by
  unfold headTick
  repeat' (first | with_reducible assumption | ((try lift_lets -underBinder); intro _) | with_reducible apply headStop_keeps | with_reducible apply headFlip_keeps | (with_reducible apply Keeps.ite) | split)

theorem tickCauses_keeps {s} (h : Keeps s0 s) : Keeps s0 (tickCauses s) := by
  unfold tickCauses
  repeat' (first | with_reducible assumption | ((try lift_lets -underBinder); intro x; refine Keeps.cut (s := s0) (x := x) ?_ (fun _ => ?_); (on_goal 2 => (try clear_value x)); (on_goal 1 => unfold x)) | ((try lift_lets -underBinder); intro _) | with_reducible apply undark_keeps | (with_reducible apply Keeps.ite) | (fail_if_no_progress refine Keeps.upd ?_ rfl rfl rfl rfl rfl rfl))

theorem tileFlip_keeps (a1) (a2) {s} (h : Keeps s0 s) : Keeps s0 (tileFlip a1 a2 s) := by
  unfold tileFlip
  repeat' (first | with_reducible assumption | ((try lift_lets -underBinder); intro x; refine Keeps.cut (s := s0) (x := x) ?_ (fun _ => ?_); (on_goal 2 => (try clear_value x)); (on_goal 1 => unfold x)) | ((try lift_lets -underBinder); intro _) | with_reducible apply landFlip_keeps | with_reducible apply chimneyFlip_keeps | with_reducible apply hearthFlip_keeps | with_reducible apply lampFlip_keeps | with_reducible apply tickCauses_keeps | (fail_if_no_progress refine Keeps.upd ?_ rfl rfl rfl rfl rfl rfl))

theorem tileStop_keeps (a1) (a2) {s} (h : Keeps s0 s) : Keeps s0 (tileStop a1 a2 s) := by
  unfold tileStop
  repeat' (first | with_reducible assumption | ((try lift_lets -underBinder); intro x; refine Keeps.cut (s := s0) (x := x) ?_ (fun _ => ?_); (on_goal 2 => (try clear_value x)); (on_goal 1 => unfold x)) | ((try lift_lets -underBinder); intro _) | with_reducible apply applySels_keeps | with_reducible apply hearthStop_keeps | with_reducible apply lampStop_keeps | with_reducible apply darken_keeps | (fail_if_no_progress refine Keeps.upd ?_ rfl rfl rfl rfl rfl rfl))

theorem tileTick_keeps (a1) {s} (h : Keeps s0 s) : Keeps s0 (tileTick a1 s) := by
  unfold tileTick
  repeat' (first | with_reducible assumption | ((try lift_lets -underBinder); intro _) | with_reducible apply tileStop_keeps | with_reducible apply tileFlip_keeps | (with_reducible apply Keeps.ite) | split)

theorem execTriggerFire_keeps (a1) (a2) {s} (h : Keeps s0 s) : Goes s0 (execTriggerFire a1 a2 s) := by
  unfold execTriggerFire
  first | refine onPart_keeps _ _ (fun h => ?_) h | refine Goes.next ?_
  try dsimp -zeta only
  repeat' (first | with_reducible assumption | with_reducible apply fireTrig_keeps | (with_reducible apply Keeps.ite))

theorem execTick_keeps (a1) (a2) {s} (h : Keeps s0 s) : Goes s0 (execTick a1 a2 s) := by
  unfold execTick
  first | refine onPart_keeps _ _ (fun h => ?_) h | refine Goes.next ?_
  try dsimp -zeta only
  repeat' (first | with_reducible assumption | with_reducible apply headTick_keeps | with_reducible apply tileTick_keeps | split)

end Sys2Proof.Laws
end

