-- ==== Sys2Proof/Laws/KeepsTileLoad.lean ====
section
/-!
SUPPORT. The operations and commands of Machine/TileLoad.lean keep what `Keeps` names.
-/
set_option linter.unusedTactic false
set_option linter.unreachableTactic false
set_option linter.unusedVariables false
namespace Sys2Proof.Laws

open Sys2Proof.Machine

variable {s0 : State}

theorem loadOrAdopt_keeps (a1) (a2) {s} (h : Keeps s0 s) : Keeps s0 (loadOrAdopt a1 a2 s) := by
  unfold loadOrAdopt
  repeat' (first | with_reducible assumption | ((try lift_lets -underBinder); intro _) | with_reducible apply beginLoad_keeps | with_reducible apply tileRuns_keeps | with_reducible apply post_keeps | (with_reducible apply Keeps.ite))

theorem judgeTile_keeps (a1) (a2) (a3) {s} (h : Keeps s0 s) : Keeps s0 (judgeTile a1 a2 a3 s) := by
  unfold judgeTile
  repeat' (first | with_reducible assumption | ((try lift_lets -underBinder); intro x; refine Keeps.cut (s := s0) (x := x) ?_ (fun _ => ?_); (on_goal 2 => (try clear_value x)); (on_goal 1 => unfold x)) | ((try lift_lets -underBinder); intro _) | with_reducible apply post_keeps | with_reducible apply updTileEnt_keeps | with_reducible apply loadOrAdopt_keeps | with_reducible apply setEnrolled_keeps | (with_reducible apply Keeps.ite))

theorem challengeTile_keeps (a1) (a2) {s} (h : Keeps s0 s) : Keeps s0 (challengeTile a1 a2 s) := by
  unfold challengeTile
  repeat' (first | with_reducible assumption | ((try lift_lets -underBinder); intro _) | with_reducible apply draw_keeps | with_reducible apply judgeTile_keeps | with_reducible apply sendToTile_keeps)

theorem execTileEnrolAndLoad_keeps (a1) (a2) (a3) {s} (h : Keeps s0 s) : Goes s0 (execTileEnrolAndLoad a1 a2 a3 s) := by
  unfold execTileEnrolAndLoad
  first | refine onPart_keeps _ _ (fun h => ?_) h | refine Goes.next ?_
  try dsimp -zeta only
  repeat' (first | with_reducible assumption | with_reducible apply challengeTile_keeps | (with_reducible apply Keeps.ite) | split)

theorem specAtTileReload_keeps (c) {s} (h : Keeps s0 s) : Keeps s0 (specAtTileReload.run c s) := by
  unfold specAtTileReload; dsimp -zeta only
  repeat' (first | with_reducible assumption | ((try lift_lets -underBinder); intro _) | with_reducible apply beginLoad_keeps | (with_reducible refine Keeps.foldl _ (fun _ _ _ => ?_) _ ?_) | (fail_if_no_progress refine Keeps.upd ?_ rfl rfl rfl rfl rfl rfl))

theorem execAtTileReload_keeps (a1) {s} (h : Keeps s0 s) : Goes s0 (execAtTileReload a1 s) := runCmd_keeps specAtTileReload a1 (fun c _ h => specAtTileReload_keeps c h) h

theorem specAtTileStageBegin_keeps (c) {s} (h : Keeps s0 s) : Keeps s0 (specAtTileStageBegin.run c s) := by
  unfold specAtTileStageBegin; dsimp -zeta only
  repeat' (first | with_reducible assumption | ((try lift_lets -underBinder); intro x; refine Keeps.cut (s := s0) (x := x) ?_ (fun _ => ?_); (on_goal 2 => (try clear_value x)); (on_goal 1 => unfold x)) | ((try lift_lets -underBinder); intro _) | with_reducible apply unload_keeps | with_reducible apply ok_keeps | (with_reducible apply Keeps.ite) | (fail_if_no_progress refine Keeps.upd ?_ rfl rfl rfl rfl rfl rfl))

theorem execAtTileStageBegin_keeps (a1) {s} (h : Keeps s0 s) : Goes s0 (execAtTileStageBegin a1 s) := runCmd_keeps specAtTileStageBegin a1 (fun c _ h => specAtTileStageBegin_keeps c h) h

theorem readVfCal_keeps {s} (h : Keeps s0 s) : Keeps s0 (readVfCal s) := by
  unfold readVfCal
  repeat' (first | with_reducible assumption | ((try lift_lets -underBinder); intro _) | with_reducible apply updCh_keeps)

theorem clearLanding_keeps {s} (h : Keeps s0 s) : Keeps s0 (clearLanding s) := by
  unfold clearLanding
  repeat' (first | with_reducible assumption | with_reducible apply updLd_keeps)

theorem firstPosts_keeps {s} (h : Keeps s0 s) : Keeps s0 (firstPosts s) := by
  unfold firstPosts
  repeat' (first | with_reducible assumption | ((try lift_lets -underBinder); intro x; refine Keeps.cut (s := s0) (x := x) ?_ (fun _ => ?_); (on_goal 2 => (try clear_value x)); (on_goal 1 => unfold x)) | ((try lift_lets -underBinder); intro _) | with_reducible apply post_keeps | with_reducible apply updCh_keeps | (with_reducible apply Keeps.ite) | (fail_if_no_progress refine Keeps.upd ?_ rfl rfl rfl rfl rfl rfl))

theorem startImage_keeps (a1) {s} (h : Keeps s0 s) : Keeps s0 (startImage a1 s) := by
  unfold startImage
  repeat' (first | with_reducible assumption | ((try lift_lets -underBinder); intro x; refine Keeps.cut (s := s0) (x := x) ?_ (fun _ => ?_); (on_goal 2 => (try clear_value x)); (on_goal 1 => unfold x)) | ((try lift_lets -underBinder); intro _) | with_reducible apply readVfCal_keeps | with_reducible apply startSettings_keeps | with_reducible apply firstPosts_keeps | with_reducible apply clearDead_keeps | with_reducible apply fillTrims_keeps | with_reducible apply fillLarder_keeps | with_reducible apply clearLanding_keeps | with_reducible apply restoreTrims_keeps | with_reducible apply updHt_keeps | with_reducible apply postStart_keeps | with_reducible apply darken_keeps | with_reducible apply undark_keeps | (fail_if_no_progress refine Keeps.upd ?_ rfl rfl rfl rfl rfl rfl))

theorem specAtTileBoot_keeps (c) {s} (h : Keeps s0 s) : Keeps s0 (specAtTileBoot.run c s) := by
  unfold specAtTileBoot; dsimp -zeta only
  repeat' (first | with_reducible assumption | with_reducible apply failed_keeps | with_reducible apply post_keeps | with_reducible apply ok_keeps | with_reducible apply startImage_keeps | split)

theorem execAtTileBoot_keeps (a1) {s} (h : Keeps s0 s) : Goes s0 (execAtTileBoot a1 s) := runCmd_keeps specAtTileBoot a1 (fun c _ h => specAtTileBoot_keeps c h) h

theorem specAtTileStageAbort_keeps (c) {s} (h : Keeps s0 s) : Keeps s0 (specAtTileStageAbort.run c s) := by
  unfold specAtTileStageAbort; dsimp -zeta only
  repeat' (first | with_reducible assumption | ((try lift_lets -underBinder); intro _) | with_reducible apply ok_keeps | (fail_if_no_progress refine Keeps.upd ?_ rfl rfl rfl rfl rfl rfl))

theorem execAtTileStageAbort_keeps (a1) {s} (h : Keeps s0 s) : Goes s0 (execAtTileStageAbort a1 s) := runCmd_keeps specAtTileStageAbort a1 (fun c _ h => specAtTileStageAbort_keeps c h) h

theorem execTileLoadLockTimeout_keeps {s} (h : Keeps s0 s) : Goes s0 (execTileLoadLockTimeout s) := by
  unfold execTileLoadLockTimeout
  first | refine onPart_keeps _ _ (fun h => ?_) h | refine Goes.next ?_
  try dsimp -zeta only
  repeat' (first | with_reducible assumption | ((try lift_lets -underBinder); intro _) | (with_reducible apply Keeps.ite) | split | (fail_if_no_progress refine Keeps.upd ?_ rfl rfl rfl rfl rfl rfl))

theorem execLedRailEnableSequence_keeps (a1) {s} (h : Keeps s0 s) : Goes s0 (execLedRailEnableSequence a1 s) := by
  unfold execLedRailEnableSequence
  first | refine onPart_keeps _ _ (fun h => ?_) h | refine Goes.next ?_
  try dsimp -zeta only
  repeat' (first | with_reducible assumption | ((try lift_lets -underBinder); intro _) | with_reducible apply setEn_keeps | (with_reducible apply Keeps.ite) | split | (fail_if_no_progress refine Keeps.upd ?_ rfl rfl rfl rfl rfl rfl))

end Sys2Proof.Laws
end

