-- ==== Sys2Proof/Laws/KeepsStartup.lean ====
section
/-!
SUPPORT. The operations and commands of Machine/Startup.lean keep what `Keeps` names.
-/
set_option linter.unusedTactic false
set_option linter.unreachableTactic false
set_option linter.unusedVariables false
namespace Sys2Proof.Laws

open Sys2Proof.Machine

variable {s0 : State}

theorem compensate_keeps (a1) (a2) {s} (h : Keeps s0 s) : Keeps s0 (compensate a1 a2 s) := by
  unfold compensate
  repeat' (first | with_reducible assumption | with_reducible apply updCh_keeps)

theorem dropDoorbell_keeps {s} (h : Keeps s0 s) : Keeps s0 (dropDoorbell s) := by
  unfold dropDoorbell
  repeat' (first | with_reducible assumption | ((try lift_lets -underBinder); intro x; refine Keeps.cut (s := s0) (x := x) ?_ (fun _ => ?_); (on_goal 2 => (try clear_value x)); (on_goal 1 => unfold x)) | with_reducible apply emit_keeps | (with_reducible apply Keeps.ite))

theorem resetHead_keeps {s} (h : Keeps s0 s) : Keeps s0 (resetHead s) :=
  h.trans ⟨fun _ => rfl, id, fun _ => Nat.zero_le _, id, rfl, rfl, Nat.le_refl _⟩

theorem haltHead_keeps (a1) {s} (h : Keeps s0 s) : Keeps s0 (haltHead a1 s) := by
  unfold haltHead
  repeat' (first | with_reducible assumption | ((try lift_lets -underBinder); intro x; refine Keeps.cut (s := s0) (x := x) ?_ (fun _ => ?_); (on_goal 2 => (try clear_value x)); (on_goal 1 => unfold x)) | ((try lift_lets -underBinder); intro _) | with_reducible apply resetHead_keeps | with_reducible apply nvStop_keeps | with_reducible apply dropDoorbell_keeps | (fail_if_no_progress refine Keeps.upd ?_ rfl rfl rfl rfl rfl rfl))

theorem startCellar_keeps {s} (h : Keeps s0 s) : Keeps s0 (startCellar s) := by
  unfold startCellar
  repeat' (first | with_reducible assumption | ((try lift_lets -underBinder); intro x; refine Keeps.cut (s := s0) (x := x) ?_ (fun _ => ?_); (on_goal 2 => (try clear_value x)); (on_goal 1 => unfold x)) | ((try lift_lets -underBinder); intro _) | with_reducible apply stopService_keeps | (with_reducible apply Keeps.ite) | (fail_if_no_progress refine Keeps.upd ?_ rfl rfl rfl rfl rfl rfl))

theorem reportTrip_keeps {s} (h : Keeps s0 s) : Keeps s0 (reportTrip s) := by
  unfold reportTrip
  repeat' (first | with_reducible assumption | ((try lift_lets -underBinder); intro _) | with_reducible apply post_keeps | with_reducible apply updCh_keeps | (with_reducible apply Keeps.ite))

theorem startHead_keeps (a1) {s} (h : Keeps s0 s) : Keeps s0 (startHead a1 s) := by
  unfold startHead
  repeat' (first | with_reducible assumption | ((try lift_lets -underBinder); intro x; refine Keeps.cut (s := s0) (x := x) ?_ (fun _ => ?_); (on_goal 2 => (try clear_value x)); (on_goal 1 => unfold x)) | ((try lift_lets -underBinder); intro _) | with_reducible apply compensate_keeps | with_reducible apply dieBandStep_keeps | with_reducible apply postBroken_keeps | with_reducible apply startFirmware_keeps | with_reducible apply post_keeps | with_reducible apply evalClaim_keeps | with_reducible apply startCellar_keeps | with_reducible apply restoreTrims_keeps | with_reducible apply reportTrip_keeps | (with_reducible apply Keeps.ite) | (fail_if_no_progress refine Keeps.upd ?_ rfl rfl rfl rfl rfl rfl))

theorem releaseHead_keeps (a1) {s} (h : Keeps s0 s) : Keeps s0 (releaseHead a1 s) := by
  unfold releaseHead
  repeat' (first | with_reducible assumption | with_reducible apply startHead_keeps | (with_reducible apply Keeps.ite))

theorem endThirdTrip_keeps {s} (h : Keeps s0 s) : Keeps s0 (endThirdTrip s) := by
  unfold endThirdTrip
  repeat' (first | with_reducible assumption | ((try lift_lets -underBinder); intro x; refine Keeps.cut (s := s0) (x := x) ?_ (fun _ => ?_); (on_goal 2 => (try clear_value x)); (on_goal 1 => unfold x)) | ((try lift_lets -underBinder); intro _) | with_reducible apply updCh_keeps | with_reducible apply emit_keeps | (with_reducible apply Keeps.ite))

theorem execPorNAssert_keeps {s} (h : Keeps s0 s) : Goes s0 (execPorNAssert s) := by
  unfold execPorNAssert
  first | refine onPart_keeps _ _ (fun h => ?_) h | refine Goes.next ?_
  try dsimp -zeta only
  repeat' (first | with_reducible assumption | ((try lift_lets -underBinder); intro x; refine Keeps.cut (s := s0) (x := x) ?_ (fun _ => ?_); (on_goal 2 => (try clear_value x)); (on_goal 1 => unfold x)) | ((try lift_lets -underBinder); intro _) | with_reducible apply haltHead_keeps | with_reducible apply endThirdTrip_keeps | (with_reducible apply Keeps.ite) | (fail_if_no_progress refine Keeps.upd ?_ rfl rfl rfl rfl rfl rfl))

theorem execPorNRelease_keeps (a1) {s} (h : Keeps s0 s) : Goes s0 (execPorNRelease a1 s) := by
  unfold execPorNRelease
  first | refine onPart_keeps _ _ (fun h => ?_) h | refine Goes.next ?_
  try dsimp -zeta only
  repeat' (first | with_reducible assumption | ((try lift_lets -underBinder); intro _) | with_reducible apply releaseHead_keeps | (with_reducible apply Keeps.ite) | (fail_if_no_progress refine Keeps.upd ?_ rfl rfl rfl rfl rfl rfl))

theorem execSupplyMonitorTrip_keeps (a1) {s} (h : Keeps s0 s) : Goes s0 (execSupplyMonitorTrip a1 s) := by
  unfold execSupplyMonitorTrip
  first | refine onPart_keeps _ _ (fun h => ?_) h | refine Goes.next ?_
  try dsimp -zeta only
  repeat' (first | with_reducible assumption | ((try lift_lets -underBinder); intro x; refine Keeps.cut (s := s0) (x := x) ?_ (fun _ => ?_); (on_goal 2 => (try clear_value x)); (on_goal 1 => unfold x)) | ((try lift_lets -underBinder); intro _) | with_reducible apply haltHead_keeps | (with_reducible apply Keeps.ite) | (fail_if_no_progress refine Keeps.upd ?_ rfl rfl rfl rfl rfl rfl))

theorem execSupplyReturn_keeps (a1) {s} (h : Keeps s0 s) : Goes s0 (execSupplyReturn a1 s) := by
  unfold execSupplyReturn
  first | refine onPart_keeps _ _ (fun h => ?_) h | refine Goes.next ?_
  try dsimp -zeta only
  repeat' (first | with_reducible assumption | ((try lift_lets -underBinder); intro _) | with_reducible apply releaseHead_keeps | (with_reducible apply Keeps.ite) | (fail_if_no_progress refine Keeps.upd ?_ rfl rfl rfl rfl rfl rfl))

theorem resetEndpoint_keeps {s} (h : Keeps s0 s) : Keeps s0 (resetEndpoint s) := by
  unfold resetEndpoint
  repeat' (first | with_reducible assumption | ((try lift_lets -underBinder); intro x; refine Keeps.cut (s := s0) (x := x) ?_ (fun _ => ?_); (on_goal 2 => (try clear_value x)); (on_goal 1 => unfold x)) | ((try lift_lets -underBinder); intro _) | with_reducible apply qCtlWrite_keeps | with_reducible apply abortChan_keeps | (with_reducible refine Keeps.foldl _ (fun _ _ _ => ?_) _ ?_) | (with_reducible apply Keeps.ite) | (fail_if_no_progress refine Keeps.upd ?_ rfl rfl rfl rfl rfl rfl))

theorem execPerstAssert_keeps {s} (h : Keeps s0 s) : Goes s0 (execPerstAssert s) := by
  unfold execPerstAssert
  first | refine onPart_keeps _ _ (fun h => ?_) h | refine Goes.next ?_
  try dsimp -zeta only
  repeat' (first | with_reducible assumption | ((try lift_lets -underBinder); intro x; refine Keeps.cut (s := s0) (x := x) ?_ (fun _ => ?_); (on_goal 2 => (try clear_value x)); (on_goal 1 => unfold x)) | ((try lift_lets -underBinder); intro _) | with_reducible apply resetEndpoint_keeps | (with_reducible apply Keeps.ite) | (fail_if_no_progress refine Keeps.upd ?_ rfl rfl rfl rfl rfl rfl))

theorem execPerstRelease_keeps {s} (h : Keeps s0 s) : Goes s0 (execPerstRelease s) := by
  unfold execPerstRelease
  first | refine onPart_keeps _ _ (fun h => ?_) h | refine Goes.next ?_
  try dsimp -zeta only
  repeat' (first | with_reducible assumption | ((try lift_lets -underBinder); intro _) | (with_reducible apply Keeps.ite) | (fail_if_no_progress refine Keeps.upd ?_ rfl rfl rfl rfl rfl rfl))

theorem resetTile_keeps (all) {s} (h : Keeps s0 s) : Keeps s0 (resetTile all s) :=
  h.trans ⟨id, fun _ => rfl, id, fun _ => Nat.zero_le _, rfl, rfl, Nat.le_refl _⟩

theorem startTile_keeps (a1) (a2) {s} (h : Keeps s0 s) : Keeps s0 (startTile a1 a2 s) := by
  unfold startTile
  repeat' (first | with_reducible assumption | ((try lift_lets -underBinder); intro x; refine Keeps.cut (s := s0) (x := x) ?_ (fun _ => ?_); (on_goal 2 => (try clear_value x)); (on_goal 1 => unfold x)) | ((try lift_lets -underBinder); intro _) | with_reducible apply compensate_keeps | with_reducible apply recoverStore_keeps | with_reducible apply dieBandStep_keeps | with_reducible apply postBroken_keeps | (fail_if_no_progress refine Keeps.upd ?_ rfl rfl rfl rfl rfl rfl))

theorem execVinPowerOn_keeps (a1) {s} (h : Keeps s0 s) : Goes s0 (execVinPowerOn a1 s) := by
  unfold execVinPowerOn
  first | refine onPart_keeps _ _ (fun h => ?_) h | refine Goes.next ?_
  try dsimp -zeta only
  repeat' (first | with_reducible assumption | ((try lift_lets -underBinder); intro x; refine Keeps.cut (s := s0) (x := x) ?_ (fun _ => ?_); (on_goal 2 => (try clear_value x)); (on_goal 1 => unfold x)) | ((try lift_lets -underBinder); intro _) | with_reducible apply startTile_keeps | (with_reducible apply Keeps.ite) | (fail_if_no_progress refine Keeps.upd ?_ rfl rfl rfl rfl rfl rfl))

theorem execVinPowerOff_keeps {s} (h : Keeps s0 s) : Goes s0 (execVinPowerOff s) := by
  unfold execVinPowerOff
  first | refine onPart_keeps _ _ (fun h => ?_) h | refine Goes.next ?_
  try dsimp -zeta only
  repeat' (first | with_reducible assumption | ((try lift_lets -underBinder); intro x; refine Keeps.cut (s := s0) (x := x) ?_ (fun _ => ?_); (on_goal 2 => (try clear_value x)); (on_goal 1 => unfold x)) | ((try lift_lets -underBinder); intro _) | with_reducible apply resetTile_keeps | with_reducible apply nvCut_keeps | (with_reducible apply Keeps.ite) | (fail_if_no_progress refine Keeps.upd ?_ rfl rfl rfl rfl rfl rfl))

theorem execVcoreRestart_keeps {s} (h : Keeps s0 s) : Goes s0 (execVcoreRestart s) := by
  unfold execVcoreRestart
  first | refine onPart_keeps _ _ (fun h => ?_) h | refine Goes.next ?_
  try dsimp -zeta only
  repeat' (first | with_reducible assumption | ((try lift_lets -underBinder); intro x; refine Keeps.cut (s := s0) (x := x) ?_ (fun _ => ?_); (on_goal 2 => (try clear_value x)); (on_goal 1 => unfold x)) | ((try lift_lets -underBinder); intro _) | with_reducible apply startTile_keeps | with_reducible apply resetTile_keeps | (with_reducible apply Keeps.ite) | split | (fail_if_no_progress refine Keeps.upd ?_ rfl rfl rfl rfl rfl rfl))

theorem execClockSynthLock_keeps (a1) {s} (h : Keeps s0 s) : Goes s0 (execClockSynthLock a1 s) := by
  unfold execClockSynthLock
  first | refine onPart_keeps _ _ (fun h => ?_) h | refine Goes.next ?_
  try dsimp -zeta only
  repeat' (first | with_reducible assumption | ((try lift_lets -underBinder); intro _) | (with_reducible apply Keeps.ite) | (fail_if_no_progress refine Keeps.upd ?_ rfl rfl rfl rfl rfl rfl))

theorem latchTrip_keeps (a1) (a2) (a3) {s} (h : Keeps s0 s) : Keeps s0 (latchTrip a1 a2 a3 s) := by
  unfold latchTrip
  repeat' (first | with_reducible assumption | with_reducible apply updCh_keeps)

theorem execThermalTrip_keeps (a1) (a2) (a3) {s} (h : Keeps s0 s) : Goes s0 (execThermalTrip a1 a2 a3 s) := by
  unfold execThermalTrip
  first | refine onPart_keeps _ _ (fun h => ?_) h | refine Goes.next ?_
  try dsimp -zeta only
  repeat' (first | with_reducible assumption | ((try lift_lets -underBinder); intro x; refine Keeps.cut (s := s0) (x := x) ?_ (fun _ => ?_); (on_goal 2 => (try clear_value x)); (on_goal 1 => unfold x)) | ((try lift_lets -underBinder); intro _) | with_reducible apply latchTrip_keeps | with_reducible apply haltHead_keeps | with_reducible apply emit_keeps | with_reducible apply resetTile_keeps | with_reducible apply nvStop_keeps | (with_reducible apply Keeps.ite) | split | (fail_if_no_progress refine Keeps.upd ?_ rfl rfl rfl rfl rfl rfl))

theorem execTripCoolRestart_keeps (a1) {s} (h : Keeps s0 s) : Goes s0 (execTripCoolRestart a1 s) := by
  unfold execTripCoolRestart
  first | refine onPart_keeps _ _ (fun h => ?_) h | refine Goes.next ?_
  try dsimp -zeta only
  repeat' (first | with_reducible assumption | ((try lift_lets -underBinder); intro x; refine Keeps.cut (s := s0) (x := x) ?_ (fun _ => ?_); (on_goal 2 => (try clear_value x)); (on_goal 1 => unfold x)) | ((try lift_lets -underBinder); intro _) | with_reducible apply updCh_keeps | with_reducible apply releaseHead_keeps | with_reducible apply emit_keeps | with_reducible apply startTile_keeps | with_reducible apply resetTile_keeps | (with_reducible apply Keeps.ite) | split | (fail_if_no_progress refine Keeps.upd ?_ rfl rfl rfl rfl rfl rfl))

theorem execWatchdogExpiry_keeps (a1) {s} (h : Keeps s0 s) : Goes s0 (execWatchdogExpiry a1 s) := by
  unfold execWatchdogExpiry
  first | refine onPart_keeps _ _ (fun h => ?_) h | refine Goes.next ?_
  try dsimp -zeta only
  repeat' (first | with_reducible assumption | with_reducible apply fwRestart_keeps)

theorem flushQueue_keeps (q) : ∀ (n : Nat) {s : State}, Keeps s0 s → Keeps s0 (flushQueue q n s)
  | 0, _, h => h
  | n + 1, s, h => by
    unfold flushQueue
    split
    · exact Keeps.ite (flushQueue_keeps q n (ringWrite_keeps _ _ (updQueue_keeps _ _ h))) h
    · exact h

theorem sendNow_keeps (a1) (a2) {s} (h : Keeps s0 s) : Keeps s0 (sendNow a1 a2 s) := by
  unfold sendNow
  repeat' (first | with_reducible assumption | ((try lift_lets -underBinder); intro x; refine Keeps.cut (s := s0) (x := x) ?_ (fun _ => ?_); (on_goal 2 => (try clear_value x)); (on_goal 1 => unfold x)) | with_reducible apply deliver_keeps | with_reducible apply setOutst_keeps | with_reducible apply flushQueue_keeps | split)

theorem fullReset_keeps (a1) {s} (h : Keeps s0 s) : Keeps s0 (fullReset a1 s) := by
  unfold fullReset
  repeat' (first | with_reducible assumption | ((try lift_lets -underBinder); intro x; refine Keeps.cut (s := s0) (x := x) ?_ (fun _ => ?_); (on_goal 2 => (try clear_value x)); (on_goal 1 => unfold x)) | ((try lift_lets -underBinder); intro _) | with_reducible apply emit_keeps | with_reducible apply releaseHead_keeps | with_reducible apply haltHead_keeps | with_reducible apply startTile_keeps | with_reducible apply resetTile_keeps | with_reducible apply nvStop_keeps | split)

theorem specPoRestart_keeps (c) {s} (h : Keeps s0 s) : Keeps s0 (specPoRestart.run c s) := by
  unfold specPoRestart; dsimp -zeta only
  repeat' (first | with_reducible assumption | ((try lift_lets -underBinder); intro x; refine Keeps.cut (s := s0) (x := x) ?_ (fun _ => ?_); (on_goal 2 => (try clear_value x)); (on_goal 1 => unfold x)) | with_reducible apply sendNow_keeps | with_reducible apply scope0Restart_keeps | with_reducible apply fullReset_keeps | with_reducible apply endOperations_keeps | (with_reducible apply Keeps.ite))

theorem execPoRestart_keeps (a1) {s} (h : Keeps s0 s) : Goes s0 (execPoRestart a1 s) := runCmd_keeps specPoRestart a1 (fun c _ h => specPoRestart_keeps c h) h

end Sys2Proof.Laws
end

