-- ==== Sys2Proof/Laws/Ports.lean ====
section
/-!
SUPPORT. The ports of a part: reading a port after it, or another, is changed.
-/
namespace Sys2Proof.Laws

open Sys2Proof.Machine

theorem upd_getD_same {α : Type} (d : α) (f : α → α) : ∀ (l : List α) (k : Nat), k < l.length → (upd l k f).getD k d = f (l.getD k d) := by
  intro l k h
  unfold upd
  simp [List.getD, h]

theorem upd_getD_other {α : Type} (d : α) (f : α → α) : ∀ (l : List α) (j k : Nat), j ≠ k → (upd l k f).getD j d = l.getD j d := by
  intro l j k h
  unfold upd
  simp [List.getD, Ne.symm h]

@[simp] theorem upd_length {α : Type} (l : List α) (k : Nat) (f : α → α) : (upd l k f).length = l.length := by
  simp [upd]

/-- A port after a change of that port. -/
theorem portAt_updPort {p : Part} {k : Nat} {f : GlPort → GlPort} {s : State} (h : k < (portsOf p s).length) :
    portAt p k (updPort p k f s) = f (portAt p k s) := by
  cases p <;> exact upd_getD_same _ _ _ _ h

/-- A port that has lanes exists. -/
theorem port_exists {p : Part} {k l : Nat} {s : State} (h : l < (portAt p k s).lanes.length) : k < (portsOf p s).length := by
  rcases Nat.lt_or_ge k (portsOf p s).length with h1 | h1
  · exact h1
  · simp [portAt, List.getD, List.getElem?_eq_none h1] at h

@[simp] theorem portsOf_updPort_length (p : Part) (k : Nat) (f : GlPort → GlPort) (s : State) :
    (portsOf p (updPort p k f s)).length = (portsOf p s).length := by
  cases p <;> simp [portsOf, updPort]

end Sys2Proof.Laws
end

