-- ==== Sys2Proof/Laws/State.lean ====
section
/-!
SUPPORT. Reading a field after an update of the state: one lemma for each field and each update, true by unfolding.
-/
namespace Sys2Proof.Laws

open Sys2Proof.Machine

section
variable (f : Audio → Audio) (s : State)
@[simp] theorem updAu_sys : (updAu f s).head.sys = s.head.sys := rfl
@[simp] theorem updAu_mt : (updAu f s).head.mt = s.head.mt := rfl
@[simp] theorem updAu_time : (updAu f s).head.time = s.head.time := rfl
@[simp] theorem updAu_po : (updAu f s).head.po = s.head.po := rfl
@[simp] theorem updAu_en : (updAu f s).head.en = s.head.en := rfl
@[simp] theorem updAu_gl : (updAu f s).head.gl = s.head.gl := rfl
@[simp] theorem updAu_glw : (updAu f s).head.glw = s.head.glw := rfl
@[simp] theorem updAu_tw : (updAu f s).head.tw = s.head.tw := rfl
@[simp] theorem updAu_cl : (updAu f s).head.cl = s.head.cl := rfl
@[simp] theorem updAu_fy : (updAu f s).head.fy = s.head.fy := rfl
@[simp] theorem updAu_pl : (updAu f s).head.pl = s.head.pl := rfl
@[simp] theorem updAu_pp : (updAu f s).head.pp = s.head.pp := rfl
@[simp] theorem updAu_au : (updAu f s).head.au = f s.head.au := rfl
@[simp] theorem updAu_dw : (updAu f s).head.dw = s.head.dw := rfl
@[simp] theorem updAu_ch : (updAu f s).head.ch = s.head.ch := rfl
@[simp] theorem updAu_at_ : (updAu f s).head.at_ = s.head.at_ := rfl
@[simp] theorem updAu_out : (updAu f s).head.out = s.head.out := rfl
@[simp] theorem updAu_tile : (updAu f s).tile = s.tile := rfl
@[simp] theorem updAu_now : (updAu f s).now = s.now := rfl
@[simp] theorem updAu_freeCtr : (updAu f s).freeCtr = s.freeCtr := rfl
@[simp] theorem updAu_pending : (updAu f s).pending = s.pending := rfl
end

section
variable (f : Foyer → Foyer) (s : State)
@[simp] theorem updFy_sys : (updFy f s).head.sys = s.head.sys := rfl
@[simp] theorem updFy_mt : (updFy f s).head.mt = s.head.mt := rfl
@[simp] theorem updFy_time : (updFy f s).head.time = s.head.time := rfl
@[simp] theorem updFy_po : (updFy f s).head.po = s.head.po := rfl
@[simp] theorem updFy_en : (updFy f s).head.en = s.head.en := rfl
@[simp] theorem updFy_gl : (updFy f s).head.gl = s.head.gl := rfl
@[simp] theorem updFy_glw : (updFy f s).head.glw = s.head.glw := rfl
@[simp] theorem updFy_tw : (updFy f s).head.tw = s.head.tw := rfl
@[simp] theorem updFy_cl : (updFy f s).head.cl = s.head.cl := rfl
@[simp] theorem updFy_fy : (updFy f s).head.fy = f s.head.fy := rfl
@[simp] theorem updFy_pl : (updFy f s).head.pl = s.head.pl := rfl
@[simp] theorem updFy_pp : (updFy f s).head.pp = s.head.pp := rfl
@[simp] theorem updFy_au : (updFy f s).head.au = s.head.au := rfl
@[simp] theorem updFy_dw : (updFy f s).head.dw = s.head.dw := rfl
@[simp] theorem updFy_ch : (updFy f s).head.ch = s.head.ch := rfl
@[simp] theorem updFy_at_ : (updFy f s).head.at_ = s.head.at_ := rfl
@[simp] theorem updFy_out : (updFy f s).head.out = s.head.out := rfl
@[simp] theorem updFy_tile : (updFy f s).tile = s.tile := rfl
@[simp] theorem updFy_now : (updFy f s).now = s.now := rfl
@[simp] theorem updFy_freeCtr : (updFy f s).freeCtr = s.freeCtr := rfl
@[simp] theorem updFy_pending : (updFy f s).pending = s.pending := rfl
end

section
variable (f : Push → Push) (s : State)
@[simp] theorem updPp_sys : (updPp f s).head.sys = s.head.sys := rfl
@[simp] theorem updPp_mt : (updPp f s).head.mt = s.head.mt := rfl
@[simp] theorem updPp_time : (updPp f s).head.time = s.head.time := rfl
@[simp] theorem updPp_po : (updPp f s).head.po = s.head.po := rfl
@[simp] theorem updPp_en : (updPp f s).head.en = s.head.en := rfl
@[simp] theorem updPp_gl : (updPp f s).head.gl = s.head.gl := rfl
@[simp] theorem updPp_glw : (updPp f s).head.glw = s.head.glw := rfl
@[simp] theorem updPp_tw : (updPp f s).head.tw = s.head.tw := rfl
@[simp] theorem updPp_cl : (updPp f s).head.cl = s.head.cl := rfl
@[simp] theorem updPp_fy : (updPp f s).head.fy = s.head.fy := rfl
@[simp] theorem updPp_pl : (updPp f s).head.pl = s.head.pl := rfl
@[simp] theorem updPp_pp : (updPp f s).head.pp = f s.head.pp := rfl
@[simp] theorem updPp_au : (updPp f s).head.au = s.head.au := rfl
@[simp] theorem updPp_dw : (updPp f s).head.dw = s.head.dw := rfl
@[simp] theorem updPp_ch : (updPp f s).head.ch = s.head.ch := rfl
@[simp] theorem updPp_at_ : (updPp f s).head.at_ = s.head.at_ := rfl
@[simp] theorem updPp_out : (updPp f s).head.out = s.head.out := rfl
@[simp] theorem updPp_tile : (updPp f s).tile = s.tile := rfl
@[simp] theorem updPp_now : (updPp f s).now = s.now := rfl
@[simp] theorem updPp_freeCtr : (updPp f s).freeCtr = s.freeCtr := rfl
@[simp] theorem updPp_pending : (updPp f s).pending = s.pending := rfl
end

section
variable (c : Nat) (f : PushPort → PushPort) (s : State)
@[simp] theorem updChain_sys : (updChain c f s).head.sys = s.head.sys := rfl
@[simp] theorem updChain_mt : (updChain c f s).head.mt = s.head.mt := rfl
@[simp] theorem updChain_time : (updChain c f s).head.time = s.head.time := rfl
@[simp] theorem updChain_po : (updChain c f s).head.po = s.head.po := rfl
@[simp] theorem updChain_en : (updChain c f s).head.en = s.head.en := rfl
@[simp] theorem updChain_gl : (updChain c f s).head.gl = s.head.gl := rfl
@[simp] theorem updChain_glw : (updChain c f s).head.glw = s.head.glw := rfl
@[simp] theorem updChain_tw : (updChain c f s).head.tw = s.head.tw := rfl
@[simp] theorem updChain_cl : (updChain c f s).head.cl = s.head.cl := rfl
@[simp] theorem updChain_fy : (updChain c f s).head.fy = s.head.fy := rfl
@[simp] theorem updChain_pl : (updChain c f s).head.pl = s.head.pl := rfl
@[simp] theorem updChain_pp : (updChain c f s).head.pp = { s.head.pp with ports := upd s.head.pp.ports c f } := rfl
@[simp] theorem updChain_au : (updChain c f s).head.au = s.head.au := rfl
@[simp] theorem updChain_dw : (updChain c f s).head.dw = s.head.dw := rfl
@[simp] theorem updChain_ch : (updChain c f s).head.ch = s.head.ch := rfl
@[simp] theorem updChain_at_ : (updChain c f s).head.at_ = s.head.at_ := rfl
@[simp] theorem updChain_out : (updChain c f s).head.out = s.head.out := rfl
@[simp] theorem updChain_tile : (updChain c f s).tile = s.tile := rfl
@[simp] theorem updChain_now : (updChain c f s).now = s.now := rfl
@[simp] theorem updChain_freeCtr : (updChain c f s).freeCtr = s.freeCtr := rfl
@[simp] theorem updChain_pending : (updChain c f s).pending = s.pending := rfl
end

section
variable (f : Twin → Twin) (s : State)
@[simp] theorem updTw_sys : (updTw f s).head.sys = s.head.sys := rfl
@[simp] theorem updTw_mt : (updTw f s).head.mt = s.head.mt := rfl
@[simp] theorem updTw_time : (updTw f s).head.time = s.head.time := rfl
@[simp] theorem updTw_po : (updTw f s).head.po = s.head.po := rfl
@[simp] theorem updTw_en : (updTw f s).head.en = s.head.en := rfl
@[simp] theorem updTw_gl : (updTw f s).head.gl = s.head.gl := rfl
@[simp] theorem updTw_glw : (updTw f s).head.glw = s.head.glw := rfl
@[simp] theorem updTw_tw : (updTw f s).head.tw = f s.head.tw := rfl
@[simp] theorem updTw_cl : (updTw f s).head.cl = s.head.cl := rfl
@[simp] theorem updTw_fy : (updTw f s).head.fy = s.head.fy := rfl
@[simp] theorem updTw_pl : (updTw f s).head.pl = s.head.pl := rfl
@[simp] theorem updTw_pp : (updTw f s).head.pp = s.head.pp := rfl
@[simp] theorem updTw_au : (updTw f s).head.au = s.head.au := rfl
@[simp] theorem updTw_dw : (updTw f s).head.dw = s.head.dw := rfl
@[simp] theorem updTw_ch : (updTw f s).head.ch = s.head.ch := rfl
@[simp] theorem updTw_at_ : (updTw f s).head.at_ = s.head.at_ := rfl
@[simp] theorem updTw_out : (updTw f s).head.out = s.head.out := rfl
@[simp] theorem updTw_tile : (updTw f s).tile = s.tile := rfl
@[simp] theorem updTw_now : (updTw f s).now = s.now := rfl
@[simp] theorem updTw_freeCtr : (updTw f s).freeCtr = s.freeCtr := rfl
@[simp] theorem updTw_pending : (updTw f s).pending = s.pending := rfl
end

section
variable (k : Nat) (f : Queue → Queue) (s : State)
@[simp] theorem updQueue_sys : (updQueue k f s).head.sys = s.head.sys := rfl
@[simp] theorem updQueue_mt : (updQueue k f s).head.mt = s.head.mt := rfl
@[simp] theorem updQueue_time : (updQueue k f s).head.time = s.head.time := rfl
@[simp] theorem updQueue_po : (updQueue k f s).head.po = { s.head.po with queues := upd s.head.po.queues k f } := rfl
@[simp] theorem updQueue_en : (updQueue k f s).head.en = s.head.en := rfl
@[simp] theorem updQueue_gl : (updQueue k f s).head.gl = s.head.gl := rfl
@[simp] theorem updQueue_glw : (updQueue k f s).head.glw = s.head.glw := rfl
@[simp] theorem updQueue_tw : (updQueue k f s).head.tw = s.head.tw := rfl
@[simp] theorem updQueue_cl : (updQueue k f s).head.cl = s.head.cl := rfl
@[simp] theorem updQueue_fy : (updQueue k f s).head.fy = s.head.fy := rfl
@[simp] theorem updQueue_pl : (updQueue k f s).head.pl = s.head.pl := rfl
@[simp] theorem updQueue_pp : (updQueue k f s).head.pp = s.head.pp := rfl
@[simp] theorem updQueue_au : (updQueue k f s).head.au = s.head.au := rfl
@[simp] theorem updQueue_dw : (updQueue k f s).head.dw = s.head.dw := rfl
@[simp] theorem updQueue_ch : (updQueue k f s).head.ch = s.head.ch := rfl
@[simp] theorem updQueue_at_ : (updQueue k f s).head.at_ = s.head.at_ := rfl
@[simp] theorem updQueue_out : (updQueue k f s).head.out = s.head.out := rfl
@[simp] theorem updQueue_tile : (updQueue k f s).tile = s.tile := rfl
@[simp] theorem updQueue_now : (updQueue k f s).now = s.now := rfl
@[simp] theorem updQueue_freeCtr : (updQueue k f s).freeCtr = s.freeCtr := rfl
@[simp] theorem updQueue_pending : (updQueue k f s).pending = s.pending := rfl
end

section
variable (k : Nat) (f : Stack → Stack) (s : State)
@[simp] theorem updStack_sys : (updStack k f s).head.sys = s.head.sys := rfl
@[simp] theorem updStack_mt : (updStack k f s).head.mt = s.head.mt := rfl
@[simp] theorem updStack_time : (updStack k f s).head.time = s.head.time := rfl
@[simp] theorem updStack_po : (updStack k f s).head.po = s.head.po := rfl
@[simp] theorem updStack_en : (updStack k f s).head.en = s.head.en := rfl
@[simp] theorem updStack_gl : (updStack k f s).head.gl = s.head.gl := rfl
@[simp] theorem updStack_glw : (updStack k f s).head.glw = s.head.glw := rfl
@[simp] theorem updStack_tw : (updStack k f s).head.tw = s.head.tw := rfl
@[simp] theorem updStack_cl : (updStack k f s).head.cl = { s.head.cl with stks := upd s.head.cl.stks k f } := rfl
@[simp] theorem updStack_fy : (updStack k f s).head.fy = s.head.fy := rfl
@[simp] theorem updStack_pl : (updStack k f s).head.pl = s.head.pl := rfl
@[simp] theorem updStack_pp : (updStack k f s).head.pp = s.head.pp := rfl
@[simp] theorem updStack_au : (updStack k f s).head.au = s.head.au := rfl
@[simp] theorem updStack_dw : (updStack k f s).head.dw = s.head.dw := rfl
@[simp] theorem updStack_ch : (updStack k f s).head.ch = s.head.ch := rfl
@[simp] theorem updStack_at_ : (updStack k f s).head.at_ = s.head.at_ := rfl
@[simp] theorem updStack_out : (updStack k f s).head.out = s.head.out := rfl
@[simp] theorem updStack_tile : (updStack k f s).tile = s.tile := rfl
@[simp] theorem updStack_now : (updStack k f s).now = s.now := rfl
@[simp] theorem updStack_freeCtr : (updStack k f s).freeCtr = s.freeCtr := rfl
@[simp] theorem updStack_pending : (updStack k f s).pending = s.pending := rfl
end

section
variable (f : Landing → Landing) (s : State)
@[simp] theorem updLd_sys : (updLd f s).tile.sys = s.tile.sys := rfl
@[simp] theorem updLd_mt : (updLd f s).tile.mt = s.tile.mt := rfl
@[simp] theorem updLd_time : (updLd f s).tile.time = s.tile.time := rfl
@[simp] theorem updLd_po : (updLd f s).tile.po = s.tile.po := rfl
@[simp] theorem updLd_gl : (updLd f s).tile.gl = s.tile.gl := rfl
@[simp] theorem updLd_glw : (updLd f s).tile.glw = s.tile.glw := rfl
@[simp] theorem updLd_ld : (updLd f s).tile.ld = f s.tile.ld := rfl
@[simp] theorem updLd_lr : (updLd f s).tile.lr = s.tile.lr := rfl
@[simp] theorem updLd_lp : (updLd f s).tile.lp = s.tile.lp := rfl
@[simp] theorem updLd_ht : (updLd f s).tile.ht = s.tile.ht := rfl
@[simp] theorem updLd_dw : (updLd f s).tile.dw = s.tile.dw := rfl
@[simp] theorem updLd_ch : (updLd f s).tile.ch = s.tile.ch := rfl
@[simp] theorem updLd_at_ : (updLd f s).tile.at_ = s.tile.at_ := rfl
@[simp] theorem updLd_out : (updLd f s).tile.out = s.tile.out := rfl
@[simp] theorem updLd_head : (updLd f s).head = s.head := rfl
@[simp] theorem updLd_now : (updLd f s).now = s.now := rfl
@[simp] theorem updLd_freeCtr : (updLd f s).freeCtr = s.freeCtr := rfl
@[simp] theorem updLd_pending : (updLd f s).pending = s.pending := rfl
end

section
variable (f : Larder → Larder) (s : State)
@[simp] theorem updLr_sys : (updLr f s).tile.sys = s.tile.sys := rfl
@[simp] theorem updLr_mt : (updLr f s).tile.mt = s.tile.mt := rfl
@[simp] theorem updLr_time : (updLr f s).tile.time = s.tile.time := rfl
@[simp] theorem updLr_po : (updLr f s).tile.po = s.tile.po := rfl
@[simp] theorem updLr_gl : (updLr f s).tile.gl = s.tile.gl := rfl
@[simp] theorem updLr_glw : (updLr f s).tile.glw = s.tile.glw := rfl
@[simp] theorem updLr_ld : (updLr f s).tile.ld = s.tile.ld := rfl
@[simp] theorem updLr_lr : (updLr f s).tile.lr = f s.tile.lr := rfl
@[simp] theorem updLr_lp : (updLr f s).tile.lp = s.tile.lp := rfl
@[simp] theorem updLr_ht : (updLr f s).tile.ht = s.tile.ht := rfl
@[simp] theorem updLr_dw : (updLr f s).tile.dw = s.tile.dw := rfl
@[simp] theorem updLr_ch : (updLr f s).tile.ch = s.tile.ch := rfl
@[simp] theorem updLr_at_ : (updLr f s).tile.at_ = s.tile.at_ := rfl
@[simp] theorem updLr_out : (updLr f s).tile.out = s.tile.out := rfl
@[simp] theorem updLr_head : (updLr f s).head = s.head := rfl
@[simp] theorem updLr_now : (updLr f s).now = s.now := rfl
@[simp] theorem updLr_freeCtr : (updLr f s).freeCtr = s.freeCtr := rfl
@[simp] theorem updLr_pending : (updLr f s).pending = s.pending := rfl
end

section
variable (f : Lamp → Lamp) (s : State)
@[simp] theorem updLp_sys : (updLp f s).tile.sys = s.tile.sys := rfl
@[simp] theorem updLp_mt : (updLp f s).tile.mt = s.tile.mt := rfl
@[simp] theorem updLp_time : (updLp f s).tile.time = s.tile.time := rfl
@[simp] theorem updLp_po : (updLp f s).tile.po = s.tile.po := rfl
@[simp] theorem updLp_gl : (updLp f s).tile.gl = s.tile.gl := rfl
@[simp] theorem updLp_glw : (updLp f s).tile.glw = s.tile.glw := rfl
@[simp] theorem updLp_ld : (updLp f s).tile.ld = s.tile.ld := rfl
@[simp] theorem updLp_lr : (updLp f s).tile.lr = s.tile.lr := rfl
@[simp] theorem updLp_lp : (updLp f s).tile.lp = f s.tile.lp := rfl
@[simp] theorem updLp_ht : (updLp f s).tile.ht = s.tile.ht := rfl
@[simp] theorem updLp_dw : (updLp f s).tile.dw = s.tile.dw := rfl
@[simp] theorem updLp_ch : (updLp f s).tile.ch = s.tile.ch := rfl
@[simp] theorem updLp_at_ : (updLp f s).tile.at_ = s.tile.at_ := rfl
@[simp] theorem updLp_out : (updLp f s).tile.out = s.tile.out := rfl
@[simp] theorem updLp_head : (updLp f s).head = s.head := rfl
@[simp] theorem updLp_now : (updLp f s).now = s.now := rfl
@[simp] theorem updLp_freeCtr : (updLp f s).freeCtr = s.freeCtr := rfl
@[simp] theorem updLp_pending : (updLp f s).pending = s.pending := rfl
end

section
variable (f : Hearth → Hearth) (s : State)
@[simp] theorem updHt_sys : (updHt f s).tile.sys = s.tile.sys := rfl
@[simp] theorem updHt_mt : (updHt f s).tile.mt = s.tile.mt := rfl
@[simp] theorem updHt_time : (updHt f s).tile.time = s.tile.time := rfl
@[simp] theorem updHt_po : (updHt f s).tile.po = s.tile.po := rfl
@[simp] theorem updHt_gl : (updHt f s).tile.gl = s.tile.gl := rfl
@[simp] theorem updHt_glw : (updHt f s).tile.glw = s.tile.glw := rfl
@[simp] theorem updHt_ld : (updHt f s).tile.ld = s.tile.ld := rfl
@[simp] theorem updHt_lr : (updHt f s).tile.lr = s.tile.lr := rfl
@[simp] theorem updHt_lp : (updHt f s).tile.lp = s.tile.lp := rfl
@[simp] theorem updHt_ht : (updHt f s).tile.ht = f s.tile.ht := rfl
@[simp] theorem updHt_dw : (updHt f s).tile.dw = s.tile.dw := rfl
@[simp] theorem updHt_ch : (updHt f s).tile.ch = s.tile.ch := rfl
@[simp] theorem updHt_at_ : (updHt f s).tile.at_ = s.tile.at_ := rfl
@[simp] theorem updHt_out : (updHt f s).tile.out = s.tile.out := rfl
@[simp] theorem updHt_head : (updHt f s).head = s.head := rfl
@[simp] theorem updHt_now : (updHt f s).now = s.now := rfl
@[simp] theorem updHt_freeCtr : (updHt f s).freeCtr = s.freeCtr := rfl
@[simp] theorem updHt_pending : (updHt f s).pending = s.pending := rfl
end

section
variable (k : Nat) (f : GlPort → GlPort) (s : State)
@[simp] theorem updPortHead_sys : (updPort .head k f s).head.sys = s.head.sys := rfl
@[simp] theorem updPortHead_mt : (updPort .head k f s).head.mt = s.head.mt := rfl
@[simp] theorem updPortHead_time : (updPort .head k f s).head.time = s.head.time := rfl
@[simp] theorem updPortHead_po : (updPort .head k f s).head.po = s.head.po := rfl
@[simp] theorem updPortHead_en : (updPort .head k f s).head.en = s.head.en := rfl
@[simp] theorem updPortHead_gl : (updPort .head k f s).head.gl = upd s.head.gl k f := rfl
@[simp] theorem updPortHead_glw : (updPort .head k f s).head.glw = s.head.glw := rfl
@[simp] theorem updPortHead_tw : (updPort .head k f s).head.tw = s.head.tw := rfl
@[simp] theorem updPortHead_cl : (updPort .head k f s).head.cl = s.head.cl := rfl
@[simp] theorem updPortHead_fy : (updPort .head k f s).head.fy = s.head.fy := rfl
@[simp] theorem updPortHead_pl : (updPort .head k f s).head.pl = s.head.pl := rfl
@[simp] theorem updPortHead_pp : (updPort .head k f s).head.pp = s.head.pp := rfl
@[simp] theorem updPortHead_au : (updPort .head k f s).head.au = s.head.au := rfl
@[simp] theorem updPortHead_dw : (updPort .head k f s).head.dw = s.head.dw := rfl
@[simp] theorem updPortHead_ch : (updPort .head k f s).head.ch = s.head.ch := rfl
@[simp] theorem updPortHead_at_ : (updPort .head k f s).head.at_ = s.head.at_ := rfl
@[simp] theorem updPortHead_out : (updPort .head k f s).head.out = s.head.out := rfl
@[simp] theorem updPortHead_tile : (updPort .head k f s).tile = s.tile := rfl
@[simp] theorem updPortHead_now : (updPort .head k f s).now = s.now := rfl
@[simp] theorem updPortHead_freeCtr : (updPort .head k f s).freeCtr = s.freeCtr := rfl
@[simp] theorem updPortHead_pending : (updPort .head k f s).pending = s.pending := rfl
end

section
variable (k : Nat) (f : GlPort → GlPort) (s : State)
@[simp] theorem updPortTile_sys : (updPort .tile k f s).tile.sys = s.tile.sys := rfl
@[simp] theorem updPortTile_mt : (updPort .tile k f s).tile.mt = s.tile.mt := rfl
@[simp] theorem updPortTile_time : (updPort .tile k f s).tile.time = s.tile.time := rfl
@[simp] theorem updPortTile_po : (updPort .tile k f s).tile.po = s.tile.po := rfl
@[simp] theorem updPortTile_gl : (updPort .tile k f s).tile.gl = upd s.tile.gl k f := rfl
@[simp] theorem updPortTile_glw : (updPort .tile k f s).tile.glw = s.tile.glw := rfl
@[simp] theorem updPortTile_ld : (updPort .tile k f s).tile.ld = s.tile.ld := rfl
@[simp] theorem updPortTile_lr : (updPort .tile k f s).tile.lr = s.tile.lr := rfl
@[simp] theorem updPortTile_lp : (updPort .tile k f s).tile.lp = s.tile.lp := rfl
@[simp] theorem updPortTile_ht : (updPort .tile k f s).tile.ht = s.tile.ht := rfl
@[simp] theorem updPortTile_dw : (updPort .tile k f s).tile.dw = s.tile.dw := rfl
@[simp] theorem updPortTile_ch : (updPort .tile k f s).tile.ch = s.tile.ch := rfl
@[simp] theorem updPortTile_at_ : (updPort .tile k f s).tile.at_ = s.tile.at_ := rfl
@[simp] theorem updPortTile_out : (updPort .tile k f s).tile.out = s.tile.out := rfl
@[simp] theorem updPortTile_head : (updPort .tile k f s).head = s.head := rfl
@[simp] theorem updPortTile_now : (updPort .tile k f s).now = s.now := rfl
@[simp] theorem updPortTile_freeCtr : (updPort .tile k f s).freeCtr = s.freeCtr := rfl
@[simp] theorem updPortTile_pending : (updPort .tile k f s).pending = s.pending := rfl
end

section
variable (f : Dw → Dw) (s : State)
@[simp] theorem updDwHead_sys : (updDw .head f s).head.sys = s.head.sys := rfl
@[simp] theorem updDwHead_mt : (updDw .head f s).head.mt = s.head.mt := rfl
@[simp] theorem updDwHead_time : (updDw .head f s).head.time = s.head.time := rfl
@[simp] theorem updDwHead_po : (updDw .head f s).head.po = s.head.po := rfl
@[simp] theorem updDwHead_en : (updDw .head f s).head.en = s.head.en := rfl
@[simp] theorem updDwHead_gl : (updDw .head f s).head.gl = s.head.gl := rfl
@[simp] theorem updDwHead_glw : (updDw .head f s).head.glw = s.head.glw := rfl
@[simp] theorem updDwHead_tw : (updDw .head f s).head.tw = s.head.tw := rfl
@[simp] theorem updDwHead_cl : (updDw .head f s).head.cl = s.head.cl := rfl
@[simp] theorem updDwHead_fy : (updDw .head f s).head.fy = s.head.fy := rfl
@[simp] theorem updDwHead_pl : (updDw .head f s).head.pl = s.head.pl := rfl
@[simp] theorem updDwHead_pp : (updDw .head f s).head.pp = s.head.pp := rfl
@[simp] theorem updDwHead_au : (updDw .head f s).head.au = s.head.au := rfl
@[simp] theorem updDwHead_dw : (updDw .head f s).head.dw = f s.head.dw := rfl
@[simp] theorem updDwHead_ch : (updDw .head f s).head.ch = s.head.ch := rfl
@[simp] theorem updDwHead_at_ : (updDw .head f s).head.at_ = s.head.at_ := rfl
@[simp] theorem updDwHead_out : (updDw .head f s).head.out = s.head.out := rfl
@[simp] theorem updDwHead_tile : (updDw .head f s).tile = s.tile := rfl
@[simp] theorem updDwHead_now : (updDw .head f s).now = s.now := rfl
@[simp] theorem updDwHead_freeCtr : (updDw .head f s).freeCtr = s.freeCtr := rfl
@[simp] theorem updDwHead_pending : (updDw .head f s).pending = s.pending := rfl
end

section
variable (f : Dw → Dw) (s : State)
@[simp] theorem updDwTile_sys : (updDw .tile f s).tile.sys = s.tile.sys := rfl
@[simp] theorem updDwTile_mt : (updDw .tile f s).tile.mt = s.tile.mt := rfl
@[simp] theorem updDwTile_time : (updDw .tile f s).tile.time = s.tile.time := rfl
@[simp] theorem updDwTile_po : (updDw .tile f s).tile.po = s.tile.po := rfl
@[simp] theorem updDwTile_gl : (updDw .tile f s).tile.gl = s.tile.gl := rfl
@[simp] theorem updDwTile_glw : (updDw .tile f s).tile.glw = s.tile.glw := rfl
@[simp] theorem updDwTile_ld : (updDw .tile f s).tile.ld = s.tile.ld := rfl
@[simp] theorem updDwTile_lr : (updDw .tile f s).tile.lr = s.tile.lr := rfl
@[simp] theorem updDwTile_lp : (updDw .tile f s).tile.lp = s.tile.lp := rfl
@[simp] theorem updDwTile_ht : (updDw .tile f s).tile.ht = s.tile.ht := rfl
@[simp] theorem updDwTile_dw : (updDw .tile f s).tile.dw = f s.tile.dw := rfl
@[simp] theorem updDwTile_ch : (updDw .tile f s).tile.ch = s.tile.ch := rfl
@[simp] theorem updDwTile_at_ : (updDw .tile f s).tile.at_ = s.tile.at_ := rfl
@[simp] theorem updDwTile_out : (updDw .tile f s).tile.out = s.tile.out := rfl
@[simp] theorem updDwTile_head : (updDw .tile f s).head = s.head := rfl
@[simp] theorem updDwTile_now : (updDw .tile f s).now = s.now := rfl
@[simp] theorem updDwTile_freeCtr : (updDw .tile f s).freeCtr = s.freeCtr := rfl
@[simp] theorem updDwTile_pending : (updDw .tile f s).pending = s.pending := rfl
end

section
variable (f : Chimney → Chimney) (s : State)
@[simp] theorem updChHead_sys : (updCh .head f s).head.sys = s.head.sys := rfl
@[simp] theorem updChHead_mt : (updCh .head f s).head.mt = s.head.mt := rfl
@[simp] theorem updChHead_time : (updCh .head f s).head.time = s.head.time := rfl
@[simp] theorem updChHead_po : (updCh .head f s).head.po = s.head.po := rfl
@[simp] theorem updChHead_en : (updCh .head f s).head.en = s.head.en := rfl
@[simp] theorem updChHead_gl : (updCh .head f s).head.gl = s.head.gl := rfl
@[simp] theorem updChHead_glw : (updCh .head f s).head.glw = s.head.glw := rfl
@[simp] theorem updChHead_tw : (updCh .head f s).head.tw = s.head.tw := rfl
@[simp] theorem updChHead_cl : (updCh .head f s).head.cl = s.head.cl := rfl
@[simp] theorem updChHead_fy : (updCh .head f s).head.fy = s.head.fy := rfl
@[simp] theorem updChHead_pl : (updCh .head f s).head.pl = s.head.pl := rfl
@[simp] theorem updChHead_pp : (updCh .head f s).head.pp = s.head.pp := rfl
@[simp] theorem updChHead_au : (updCh .head f s).head.au = s.head.au := rfl
@[simp] theorem updChHead_dw : (updCh .head f s).head.dw = s.head.dw := rfl
@[simp] theorem updChHead_ch : (updCh .head f s).head.ch = f s.head.ch := rfl
@[simp] theorem updChHead_at_ : (updCh .head f s).head.at_ = s.head.at_ := rfl
@[simp] theorem updChHead_out : (updCh .head f s).head.out = s.head.out := rfl
@[simp] theorem updChHead_tile : (updCh .head f s).tile = s.tile := rfl
@[simp] theorem updChHead_now : (updCh .head f s).now = s.now := rfl
@[simp] theorem updChHead_freeCtr : (updCh .head f s).freeCtr = s.freeCtr := rfl
@[simp] theorem updChHead_pending : (updCh .head f s).pending = s.pending := rfl
end

section
variable (f : Chimney → Chimney) (s : State)
@[simp] theorem updChTile_sys : (updCh .tile f s).tile.sys = s.tile.sys := rfl
@[simp] theorem updChTile_mt : (updCh .tile f s).tile.mt = s.tile.mt := rfl
@[simp] theorem updChTile_time : (updCh .tile f s).tile.time = s.tile.time := rfl
@[simp] theorem updChTile_po : (updCh .tile f s).tile.po = s.tile.po := rfl
@[simp] theorem updChTile_gl : (updCh .tile f s).tile.gl = s.tile.gl := rfl
@[simp] theorem updChTile_glw : (updCh .tile f s).tile.glw = s.tile.glw := rfl
@[simp] theorem updChTile_ld : (updCh .tile f s).tile.ld = s.tile.ld := rfl
@[simp] theorem updChTile_lr : (updCh .tile f s).tile.lr = s.tile.lr := rfl
@[simp] theorem updChTile_lp : (updCh .tile f s).tile.lp = s.tile.lp := rfl
@[simp] theorem updChTile_ht : (updCh .tile f s).tile.ht = s.tile.ht := rfl
@[simp] theorem updChTile_dw : (updCh .tile f s).tile.dw = s.tile.dw := rfl
@[simp] theorem updChTile_ch : (updCh .tile f s).tile.ch = f s.tile.ch := rfl
@[simp] theorem updChTile_at_ : (updCh .tile f s).tile.at_ = s.tile.at_ := rfl
@[simp] theorem updChTile_out : (updCh .tile f s).tile.out = s.tile.out := rfl
@[simp] theorem updChTile_head : (updCh .tile f s).head = s.head := rfl
@[simp] theorem updChTile_now : (updCh .tile f s).now = s.now := rfl
@[simp] theorem updChTile_freeCtr : (updCh .tile f s).freeCtr = s.freeCtr := rfl
@[simp] theorem updChTile_pending : (updCh .tile f s).pending = s.pending := rfl
end

section
variable (m : Mantel) (s : State)
@[simp] theorem setMtHead_sys : (setMt .head m s).head.sys = s.head.sys := rfl
@[simp] theorem setMtHead_mt : (setMt .head m s).head.mt = m := rfl
@[simp] theorem setMtHead_time : (setMt .head m s).head.time = s.head.time := rfl
@[simp] theorem setMtHead_po : (setMt .head m s).head.po = s.head.po := rfl
@[simp] theorem setMtHead_en : (setMt .head m s).head.en = s.head.en := rfl
@[simp] theorem setMtHead_gl : (setMt .head m s).head.gl = s.head.gl := rfl
@[simp] theorem setMtHead_glw : (setMt .head m s).head.glw = s.head.glw := rfl
@[simp] theorem setMtHead_tw : (setMt .head m s).head.tw = s.head.tw := rfl
@[simp] theorem setMtHead_cl : (setMt .head m s).head.cl = s.head.cl := rfl
@[simp] theorem setMtHead_fy : (setMt .head m s).head.fy = s.head.fy := rfl
@[simp] theorem setMtHead_pl : (setMt .head m s).head.pl = s.head.pl := rfl
@[simp] theorem setMtHead_pp : (setMt .head m s).head.pp = s.head.pp := rfl
@[simp] theorem setMtHead_au : (setMt .head m s).head.au = s.head.au := rfl
@[simp] theorem setMtHead_dw : (setMt .head m s).head.dw = s.head.dw := rfl
@[simp] theorem setMtHead_ch : (setMt .head m s).head.ch = s.head.ch := rfl
@[simp] theorem setMtHead_at_ : (setMt .head m s).head.at_ = s.head.at_ := rfl
@[simp] theorem setMtHead_out : (setMt .head m s).head.out = s.head.out := rfl
@[simp] theorem setMtHead_tile : (setMt .head m s).tile = s.tile := rfl
@[simp] theorem setMtHead_now : (setMt .head m s).now = s.now := rfl
@[simp] theorem setMtHead_freeCtr : (setMt .head m s).freeCtr = s.freeCtr := rfl
@[simp] theorem setMtHead_pending : (setMt .head m s).pending = s.pending := rfl
end

section
variable (m : Mantel) (s : State)
@[simp] theorem setMtTile_sys : (setMt .tile m s).tile.sys = s.tile.sys := rfl
@[simp] theorem setMtTile_mt : (setMt .tile m s).tile.mt = m := rfl
@[simp] theorem setMtTile_time : (setMt .tile m s).tile.time = s.tile.time := rfl
@[simp] theorem setMtTile_po : (setMt .tile m s).tile.po = s.tile.po := rfl
@[simp] theorem setMtTile_gl : (setMt .tile m s).tile.gl = s.tile.gl := rfl
@[simp] theorem setMtTile_glw : (setMt .tile m s).tile.glw = s.tile.glw := rfl
@[simp] theorem setMtTile_ld : (setMt .tile m s).tile.ld = s.tile.ld := rfl
@[simp] theorem setMtTile_lr : (setMt .tile m s).tile.lr = s.tile.lr := rfl
@[simp] theorem setMtTile_lp : (setMt .tile m s).tile.lp = s.tile.lp := rfl
@[simp] theorem setMtTile_ht : (setMt .tile m s).tile.ht = s.tile.ht := rfl
@[simp] theorem setMtTile_dw : (setMt .tile m s).tile.dw = s.tile.dw := rfl
@[simp] theorem setMtTile_ch : (setMt .tile m s).tile.ch = s.tile.ch := rfl
@[simp] theorem setMtTile_at_ : (setMt .tile m s).tile.at_ = s.tile.at_ := rfl
@[simp] theorem setMtTile_out : (setMt .tile m s).tile.out = s.tile.out := rfl
@[simp] theorem setMtTile_head : (setMt .tile m s).head = s.head := rfl
@[simp] theorem setMtTile_now : (setMt .tile m s).now = s.now := rfl
@[simp] theorem setMtTile_freeCtr : (setMt .tile m s).freeCtr = s.freeCtr := rfl
@[simp] theorem setMtTile_pending : (setMt .tile m s).pending = s.pending := rfl
end

section
variable (l : List Outst) (s : State)
@[simp] theorem setOutstHead_sys : (setOutst .head l s).head.sys = s.head.sys := rfl
@[simp] theorem setOutstHead_mt : (setOutst .head l s).head.mt = s.head.mt := rfl
@[simp] theorem setOutstHead_time : (setOutst .head l s).head.time = s.head.time := rfl
@[simp] theorem setOutstHead_po : (setOutst .head l s).head.po = { s.head.po with outst := l } := rfl
@[simp] theorem setOutstHead_en : (setOutst .head l s).head.en = s.head.en := rfl
@[simp] theorem setOutstHead_gl : (setOutst .head l s).head.gl = s.head.gl := rfl
@[simp] theorem setOutstHead_glw : (setOutst .head l s).head.glw = s.head.glw := rfl
@[simp] theorem setOutstHead_tw : (setOutst .head l s).head.tw = s.head.tw := rfl
@[simp] theorem setOutstHead_cl : (setOutst .head l s).head.cl = s.head.cl := rfl
@[simp] theorem setOutstHead_fy : (setOutst .head l s).head.fy = s.head.fy := rfl
@[simp] theorem setOutstHead_pl : (setOutst .head l s).head.pl = s.head.pl := rfl
@[simp] theorem setOutstHead_pp : (setOutst .head l s).head.pp = s.head.pp := rfl
@[simp] theorem setOutstHead_au : (setOutst .head l s).head.au = s.head.au := rfl
@[simp] theorem setOutstHead_dw : (setOutst .head l s).head.dw = s.head.dw := rfl
@[simp] theorem setOutstHead_ch : (setOutst .head l s).head.ch = s.head.ch := rfl
@[simp] theorem setOutstHead_at_ : (setOutst .head l s).head.at_ = s.head.at_ := rfl
@[simp] theorem setOutstHead_out : (setOutst .head l s).head.out = s.head.out := rfl
@[simp] theorem setOutstHead_tile : (setOutst .head l s).tile = s.tile := rfl
@[simp] theorem setOutstHead_now : (setOutst .head l s).now = s.now := rfl
@[simp] theorem setOutstHead_freeCtr : (setOutst .head l s).freeCtr = s.freeCtr := rfl
@[simp] theorem setOutstHead_pending : (setOutst .head l s).pending = s.pending := rfl
end

section
variable (l : List Outst) (s : State)
@[simp] theorem setOutstTile_sys : (setOutst .tile l s).tile.sys = s.tile.sys := rfl
@[simp] theorem setOutstTile_mt : (setOutst .tile l s).tile.mt = s.tile.mt := rfl
@[simp] theorem setOutstTile_time : (setOutst .tile l s).tile.time = s.tile.time := rfl
@[simp] theorem setOutstTile_po : (setOutst .tile l s).tile.po = { s.tile.po with outst := l } := rfl
@[simp] theorem setOutstTile_gl : (setOutst .tile l s).tile.gl = s.tile.gl := rfl
@[simp] theorem setOutstTile_glw : (setOutst .tile l s).tile.glw = s.tile.glw := rfl
@[simp] theorem setOutstTile_ld : (setOutst .tile l s).tile.ld = s.tile.ld := rfl
@[simp] theorem setOutstTile_lr : (setOutst .tile l s).tile.lr = s.tile.lr := rfl
@[simp] theorem setOutstTile_lp : (setOutst .tile l s).tile.lp = s.tile.lp := rfl
@[simp] theorem setOutstTile_ht : (setOutst .tile l s).tile.ht = s.tile.ht := rfl
@[simp] theorem setOutstTile_dw : (setOutst .tile l s).tile.dw = s.tile.dw := rfl
@[simp] theorem setOutstTile_ch : (setOutst .tile l s).tile.ch = s.tile.ch := rfl
@[simp] theorem setOutstTile_at_ : (setOutst .tile l s).tile.at_ = s.tile.at_ := rfl
@[simp] theorem setOutstTile_out : (setOutst .tile l s).tile.out = s.tile.out := rfl
@[simp] theorem setOutstTile_head : (setOutst .tile l s).head = s.head := rfl
@[simp] theorem setOutstTile_now : (setOutst .tile l s).now = s.now := rfl
@[simp] theorem setOutstTile_freeCtr : (setOutst .tile l s).freeCtr = s.freeCtr := rfl
@[simp] theorem setOutstTile_pending : (setOutst .tile l s).pending = s.pending := rfl
end

section
variable (o : Out) (s : State)
@[simp] theorem emitHead_sys : (emit .head o s).head.sys = s.head.sys := rfl
@[simp] theorem emitHead_mt : (emit .head o s).head.mt = s.head.mt := rfl
@[simp] theorem emitHead_time : (emit .head o s).head.time = s.head.time := rfl
@[simp] theorem emitHead_po : (emit .head o s).head.po = s.head.po := rfl
@[simp] theorem emitHead_en : (emit .head o s).head.en = s.head.en := rfl
@[simp] theorem emitHead_gl : (emit .head o s).head.gl = s.head.gl := rfl
@[simp] theorem emitHead_glw : (emit .head o s).head.glw = s.head.glw := rfl
@[simp] theorem emitHead_tw : (emit .head o s).head.tw = s.head.tw := rfl
@[simp] theorem emitHead_cl : (emit .head o s).head.cl = s.head.cl := rfl
@[simp] theorem emitHead_fy : (emit .head o s).head.fy = s.head.fy := rfl
@[simp] theorem emitHead_pl : (emit .head o s).head.pl = s.head.pl := rfl
@[simp] theorem emitHead_pp : (emit .head o s).head.pp = s.head.pp := rfl
@[simp] theorem emitHead_au : (emit .head o s).head.au = s.head.au := rfl
@[simp] theorem emitHead_dw : (emit .head o s).head.dw = s.head.dw := rfl
@[simp] theorem emitHead_ch : (emit .head o s).head.ch = s.head.ch := rfl
@[simp] theorem emitHead_at_ : (emit .head o s).head.at_ = s.head.at_ := rfl
@[simp] theorem emitHead_out : (emit .head o s).head.out = o :: s.head.out := rfl
@[simp] theorem emitHead_tile : (emit .head o s).tile = s.tile := rfl
@[simp] theorem emitHead_now : (emit .head o s).now = s.now := rfl
@[simp] theorem emitHead_freeCtr : (emit .head o s).freeCtr = s.freeCtr := rfl
@[simp] theorem emitHead_pending : (emit .head o s).pending = s.pending := rfl
end

section
variable (o : Out) (s : State)
@[simp] theorem emitTile_sys : (emit .tile o s).tile.sys = s.tile.sys := rfl
@[simp] theorem emitTile_mt : (emit .tile o s).tile.mt = s.tile.mt := rfl
@[simp] theorem emitTile_time : (emit .tile o s).tile.time = s.tile.time := rfl
@[simp] theorem emitTile_po : (emit .tile o s).tile.po = s.tile.po := rfl
@[simp] theorem emitTile_gl : (emit .tile o s).tile.gl = s.tile.gl := rfl
@[simp] theorem emitTile_glw : (emit .tile o s).tile.glw = s.tile.glw := rfl
@[simp] theorem emitTile_ld : (emit .tile o s).tile.ld = s.tile.ld := rfl
@[simp] theorem emitTile_lr : (emit .tile o s).tile.lr = s.tile.lr := rfl
@[simp] theorem emitTile_lp : (emit .tile o s).tile.lp = s.tile.lp := rfl
@[simp] theorem emitTile_ht : (emit .tile o s).tile.ht = s.tile.ht := rfl
@[simp] theorem emitTile_dw : (emit .tile o s).tile.dw = s.tile.dw := rfl
@[simp] theorem emitTile_ch : (emit .tile o s).tile.ch = s.tile.ch := rfl
@[simp] theorem emitTile_at_ : (emit .tile o s).tile.at_ = s.tile.at_ := rfl
@[simp] theorem emitTile_out : (emit .tile o s).tile.out = o :: s.tile.out := rfl
@[simp] theorem emitTile_head : (emit .tile o s).head = s.head := rfl
@[simp] theorem emitTile_now : (emit .tile o s).now = s.now := rfl
@[simp] theorem emitTile_freeCtr : (emit .tile o s).freeCtr = s.freeCtr := rfl
@[simp] theorem emitTile_pending : (emit .tile o s).pending = s.pending := rfl
end

section
variable (w : GlWait) (s : State)
@[simp] theorem setGlWaitHead_sys : (setGlWait .head w s).head.sys = s.head.sys := rfl
@[simp] theorem setGlWaitHead_mt : (setGlWait .head w s).head.mt = s.head.mt := rfl
@[simp] theorem setGlWaitHead_time : (setGlWait .head w s).head.time = s.head.time := rfl
@[simp] theorem setGlWaitHead_po : (setGlWait .head w s).head.po = s.head.po := rfl
@[simp] theorem setGlWaitHead_en : (setGlWait .head w s).head.en = s.head.en := rfl
@[simp] theorem setGlWaitHead_gl : (setGlWait .head w s).head.gl = s.head.gl := rfl
@[simp] theorem setGlWaitHead_glw : (setGlWait .head w s).head.glw = w := rfl
@[simp] theorem setGlWaitHead_tw : (setGlWait .head w s).head.tw = s.head.tw := rfl
@[simp] theorem setGlWaitHead_cl : (setGlWait .head w s).head.cl = s.head.cl := rfl
@[simp] theorem setGlWaitHead_fy : (setGlWait .head w s).head.fy = s.head.fy := rfl
@[simp] theorem setGlWaitHead_pl : (setGlWait .head w s).head.pl = s.head.pl := rfl
@[simp] theorem setGlWaitHead_pp : (setGlWait .head w s).head.pp = s.head.pp := rfl
@[simp] theorem setGlWaitHead_au : (setGlWait .head w s).head.au = s.head.au := rfl
@[simp] theorem setGlWaitHead_dw : (setGlWait .head w s).head.dw = s.head.dw := rfl
@[simp] theorem setGlWaitHead_ch : (setGlWait .head w s).head.ch = s.head.ch := rfl
@[simp] theorem setGlWaitHead_at_ : (setGlWait .head w s).head.at_ = s.head.at_ := rfl
@[simp] theorem setGlWaitHead_out : (setGlWait .head w s).head.out = s.head.out := rfl
@[simp] theorem setGlWaitHead_tile : (setGlWait .head w s).tile = s.tile := rfl
@[simp] theorem setGlWaitHead_now : (setGlWait .head w s).now = s.now := rfl
@[simp] theorem setGlWaitHead_freeCtr : (setGlWait .head w s).freeCtr = s.freeCtr := rfl
@[simp] theorem setGlWaitHead_pending : (setGlWait .head w s).pending = s.pending := rfl
end

section
variable (w : GlWait) (s : State)
@[simp] theorem setGlWaitTile_sys : (setGlWait .tile w s).tile.sys = s.tile.sys := rfl
@[simp] theorem setGlWaitTile_mt : (setGlWait .tile w s).tile.mt = s.tile.mt := rfl
@[simp] theorem setGlWaitTile_time : (setGlWait .tile w s).tile.time = s.tile.time := rfl
@[simp] theorem setGlWaitTile_po : (setGlWait .tile w s).tile.po = s.tile.po := rfl
@[simp] theorem setGlWaitTile_gl : (setGlWait .tile w s).tile.gl = s.tile.gl := rfl
@[simp] theorem setGlWaitTile_glw : (setGlWait .tile w s).tile.glw = w := rfl
@[simp] theorem setGlWaitTile_ld : (setGlWait .tile w s).tile.ld = s.tile.ld := rfl
@[simp] theorem setGlWaitTile_lr : (setGlWait .tile w s).tile.lr = s.tile.lr := rfl
@[simp] theorem setGlWaitTile_lp : (setGlWait .tile w s).tile.lp = s.tile.lp := rfl
@[simp] theorem setGlWaitTile_ht : (setGlWait .tile w s).tile.ht = s.tile.ht := rfl
@[simp] theorem setGlWaitTile_dw : (setGlWait .tile w s).tile.dw = s.tile.dw := rfl
@[simp] theorem setGlWaitTile_ch : (setGlWait .tile w s).tile.ch = s.tile.ch := rfl
@[simp] theorem setGlWaitTile_at_ : (setGlWait .tile w s).tile.at_ = s.tile.at_ := rfl
@[simp] theorem setGlWaitTile_out : (setGlWait .tile w s).tile.out = s.tile.out := rfl
@[simp] theorem setGlWaitTile_head : (setGlWait .tile w s).head = s.head := rfl
@[simp] theorem setGlWaitTile_now : (setGlWait .tile w s).now = s.now := rfl
@[simp] theorem setGlWaitTile_freeCtr : (setGlWait .tile w s).freeCtr = s.freeCtr := rfl
@[simp] theorem setGlWaitTile_pending : (setGlWait .tile w s).pending = s.pending := rfl
end

end Sys2Proof.Laws
end

