-- ==== Sys2Proof/Laws/Step.lean ====
section
/-!
SUPPORT. What one step can do: every command answers a next state and keeps what `Keeps` names, and so does an idle step.
-/
namespace Sys2Proof.Laws

open Sys2Proof.Machine Sys2Proof.Safety

/-- Every command answers a next state, and keeps both memories' form, the stores' bounds, the queue and the clock. -/
theorem exec_keeps {s0 s : State} (i : Instr) (h : Keeps s0 s) : Goes s0 (exec i s) :=
  match i with
  | .registerWrite w value => execRegisterWrite_keeps w value h
  | .barPartialWrite w value enables => execBarPartialWrite_keeps w value enables h
  | .poPad c => execPoPad_keeps c h
  | .poNop c => execPoNop_keeps c h
  | .poGetInfo c => execPoGetInfo_keeps c h
  | .poRegRead c => execPoRegRead_keeps c h
  | .poRegWrite c => execPoRegWrite_keeps c h
  | .poEventRead c => execPoEventRead_keeps c h
  | .poEventSubscribe c => execPoEventSubscribe_keeps c h
  | .poAbort c => execPoAbort_keeps c h
  | .poRestart c => execPoRestart_keeps c h
  | .poTileConfig c => execPoTileConfig_keeps c h
  | .poCqTail q count packets => execPoCqTail_keeps q count packets h
  | .poRqHead q count => execPoRqHead_keeps q count h
  | .poQEnable q value => execPoQEnable_keeps q value h
  | .poQDisable q value => execPoQDisable_keeps q value h
  | .replyWrite q => execReplyWrite_keeps q h
  | .msixCoalesceExpiry q => execMsixCoalesceExpiry_keeps q h
  | .porchResumeTaking src => execPorchResumeTaking_keeps src h
  | .tileReplyReceived r => execTileReplyReceived_keeps r h
  | .tileCommandTimeout chain position tag => execTileCommandTimeout_keeps chain position tag h
  | .mgmtSessionOpen cert => execMgmtSessionOpen_keeps cert h
  | .mgmtSessionClose n tlsError => execMgmtSessionClose_keeps n tlsError h
  | .mgmtSessionIdleTimeout n => execMgmtSessionIdleTimeout_keeps n h
  | .poFramingError n length => execPoFramingError_keeps n length h
  | .tileEventReceived e => execTileEventReceived_keeps e h
  | .eventsSuppressed => execEventsSuppressed_keeps h
  | .logPageWrite => execLogPageWrite_keeps h
  | .mtGetTime c => execMtGetTime_keeps c h
  | .mtSetTick c => execMtSetTick_keeps c h
  | .mtGetTick c => execMtGetTick_keeps c h
  | .mtStepTime c => execMtStepTime_keeps c h
  | .mtSetTod c => execMtSetTod_keeps c h
  | .mtSetPtp c => execMtSetPtp_keeps c h
  | .mtGetPtp c => execMtGetPtp_keeps c h
  | .mtSetChainTime c => execMtSetChainTime_keeps c h
  | .mtCntLoRead p => execMtCntLoRead_keeps p h
  | .mtRateWrite p value => execMtRateWrite_keeps p value h
  | .mtHoldSet p => execMtHoldSet_keeps p h
  | .mtServoModeSet p => execMtServoModeSet_keeps p h
  | .mtTrigArm p u value => execMtTrigArm_keeps p u value h
  | .mtTrigTgtWrite p u hi value => execMtTrigTgtWrite_keeps p u hi value h
  | .triggerFire p u => execTriggerFire_keeps p u h
  | .spec n => execSpec_keeps n h
  | .cutoff n => execCutoff_keeps n h
  | .pushOpen n => execPushOpen_keeps n h
  | .pushClose n => execPushClose_keeps n h
  | .tick p n => execTick_keeps p n h
  | .frameReportSend n => execFrameReportSend_keeps n h
  | .refresh n j => execRefresh_keeps n j h
  | .row n j r obs => execRow_keeps n j r obs h
  | .hearth n j r arrived => execHearth_keeps n j r arrived h
  | .audio g k => execAudio_keeps g k h
  | .ptpMessageReceived port m rawTs => execPtpMessageReceived_keeps port m rawTs h
  | .ptpMessageSend port kind rawTs => execPtpMessageSend_keeps port kind rawTs h
  | .ppsInEdge => execPpsInEdge_keeps h
  | .announceTimeout port => execAnnounceTimeout_keeps port h
  | .ppsLossTimeout => execPpsLossTimeout_keeps h
  | .timeMessageSend p port => execTimeMessageSend_keeps p port h
  | .timeMessageReceived p port m arrival => execTimeMessageReceived_keeps p port m arrival h
  | .timeSourceInvalid p port => execTimeSourceInvalid_keeps p port h
  | .timeSourceReturn => execTimeSourceReturn_keeps h
  | .holdoverExpired => execHoldoverExpired_keeps h
  | .twinTimeAlarm => execTwinTimeAlarm_keeps h
  | .fySetPort c => execFySetPort_keeps c h
  | .fySetSubport c => execFySetSubport_keeps c h
  | .fyGetPort c => execFyGetPort_keeps c h
  | .fySetVideoStream c => execFySetVideoStream_keeps c h
  | .fySetAudioStream c => execFySetAudioStream_keeps c h
  | .fySetAncStream c => execFySetAncStream_keeps c h
  | .fyStreamCtl c => execFyStreamCtl_keeps c h
  | .fyGetStreamStats c => execFyGetStreamStats_keeps c h
  | .fySurfaceCreate c => execFySurfaceCreate_keeps c h
  | .fySurfaceDestroy c => execFySurfaceDestroy_keeps c h
  | .ethFrameReceived subport f => execEthFrameReceived_keeps subport f h
  | .videoPacketReceived stream path v => execVideoPacketReceived_keeps stream path v h
  | .videoFrameCloseTimeout stream rtp => execVideoFrameCloseTimeout_keeps stream rtp h
  | .audioPacketReceived stream path a => execAudioPacketReceived_keeps stream path a h
  | .ancPacketReceived stream path a => execAncPacketReceived_keeps stream path a h
  | .fyStreamLost stream => execFyStreamLost_keeps stream h
  | .fyPathLost kind stream path => execFyPathLost_keeps kind stream path h
  | .fyLinkUp subport => execFyLinkUp_keeps subport h
  | .fyLinkDown subport => execFyLinkDown_keeps subport h
  | .clGetInfo c => execClGetInfo_keeps c h
  | .clSetFreq c => execClSetFreq_keeps c h
  | .clTrain c => execClTrain_keeps c h
  | .clSelfRefresh c => execClSelfRefresh_keeps c h
  | .clGetErrors c => execClGetErrors_keeps c h
  | .clSetScrub c => execClSetScrub_keeps c h
  | .clInjectError c => execClInjectError_keeps c h
  | .cellarRequest r => execCellarRequest_keeps r h
  | .ceWriteback addr => execCeWriteback_keeps addr h
  | .patrolScrub words => execPatrolScrub_keeps words h
  | .stackTempRead stack reading => execStackTempRead_keeps stack reading h
  | .trainingComplete failed => execTrainingComplete_keeps failed h
  | .freqChangeComplete stopNs => execFreqChangeComplete_keeps stopNs h
  | .srAutoEntry stack => execSrAutoEntry_keeps stack h
  | .srPointOfNoReturn stack => execSrPointOfNoReturn_keeps stack h
  | .srExit stack => execSrExit_keeps stack h
  | .srExitComplete stack => execSrExitComplete_keeps stack h
  | .bar2Access a => execBar2Access_keeps a h
  | .plSetCanvas c => execPlSetCanvas_keeps c h
  | .plSetTile c => execPlSetTile_keeps c h
  | .plGetTile c => execPlGetTile_keeps c h
  | .plCommit c => execPlCommit_keeps c h
  | .plGetLayer c => execPlGetLayer_keeps c h
  | .plFenceSignal c => execPlFenceSignal_keeps c h
  | .plFenceGet c => execPlFenceGet_keeps c h
  | .plFenceTimeout commitId => execPlFenceTimeout_keeps commitId h
  | .plLeaseGuard c => execPlLeaseGuard_keeps c h
  | .plSetPowerGroup c => execPlSetPowerGroup_keeps c h
  | .plGetPower c => execPlGetPower_keeps c h
  | .plRefresh c => execPlRefresh_keeps c h
  | .plPaneRead c => execPlPaneRead_keeps c h
  | .paneComposeDone k n powerPass => execPaneComposeDone_keeps k n powerPass h
  | .leaseRetire surface layer => execLeaseRetire_keeps surface layer h
  | .plRetire src => execPlRetire_keeps src h
  | .plSetCoef c => execPlSetCoef_keeps c h
  | .plSetTone c => execPlSetTone_keeps c h
  | .plSetPixset c => execPlSetPixset_keeps c h
  | .plPpApply c => execPlPpApply_keeps c h
  | .plGetPixset c => execPlGetPixset_keeps c h
  | .plSetSlotmap c => execPlSetSlotmap_keeps c h
  | .plSigSet c => execPlSigSet_keeps c h
  | .plSigExpect c => execPlSigExpect_keeps c h
  | .plSigRead c => execPlSigRead_keeps c h
  | .ppSetStatusRing c => execPpSetStatusRing_keeps c h
  | .ppGetFrameStatus c => execPpGetFrameStatus_keeps c h
  | .ppSetChain c => execPpSetChain_keeps c h
  | .ppGetChain c => execPpGetChain_keeps c h
  | .ppBlackout c => execPpBlackout_keeps c h
  | .panePacketSend k replay => execPanePacketSend_keeps k replay h
  | .paneAckReceived a => execPaneAckReceived_keeps a h
  | .paneTransactionLost k unreachable => execPaneTransactionLost_keeps k unreachable h
  | .replayReqReceived k fn => execReplayReqReceived_keeps k fn h
  | .frameReportReceived r => execFrameReportReceived_keeps r h
  | .fsrWrite n => execFsrWrite_keeps n h
  | .formatReturnTimer chain => execFormatReturnTimer_keeps chain h
  | .headBlackoutChange => execHeadBlackoutChange_keeps h
  | .blackoutBlockRepeat => execBlackoutBlockRepeat_keeps h
  | .blackoutBlockReceived port active headB => execBlackoutBlockReceived_keeps port active headB h
  | .headBlackoutReleaseTimeout headB => execHeadBlackoutReleaseTimeout_keeps headB h
  | .glGetPort c => execGlGetPort_keeps c h
  | .glSetPort c => execGlSetPort_keeps c h
  | .glRetrain c => execGlRetrain_keeps c h
  | .glTest c => execGlTest_keeps c h
  | .glTestDone p port bits errors => execGlTestDone_keeps p port bits errors h
  | .glClearCounters c => execGlClearCounters_keeps c h
  | .glPortCtlRetrain p port => execGlPortCtlRetrain_keeps p port h
  | .glPortEnable p port => execGlPortEnable_keeps p port h
  | .glPortDisable p port => execGlPortDisable_keeps p port h
  | .trainingFrameReceived p port f => execTrainingFrameReceived_keeps p port f h
  | .trainTimeout p port => execTrainTimeout_keeps p port h
  | .blockLock p port => execBlockLock_keeps p port h
  | .lockTimeout p port => execLockTimeout_keeps p port h
  | .capsReceived p port caps => execCapsReceived_keeps p port caps h
  | .capsTimeout p port => execCapsTimeout_keeps p port h
  | .retrainReqReceived p port cause => execRetrainReqReceived_keeps p port cause h
  | .retrainTimeout p port => execRetrainTimeout_keeps p port h
  | .holdExpiry p port => execHoldExpiry_keeps p port h
  | .laneFail p port lane cause => execLaneFail_keeps p port lane cause h
  | .laneSetReceived p port mask copy => execLaneSetReceived_keeps p port mask copy h
  | .laneRetrainTimer p port lane clean => execLaneRetrainTimer_keeps p port lane clean h
  | .linkStateReceived m => execLinkStateReceived_keeps m h
  | .ackReceived p port seq => execAckReceived_keeps p port seq h
  | .nakReceived p port seq => execNakReceived_keeps p port seq h
  | .replayTimeout p port => execReplayTimeout_keeps p port h
  | .creditReceived p port clsA freedA clsB freedB => execCreditReceived_keeps p port clsA freedA clsB freedB h
  | .creditInitReceived p port poolA sizeA poolB sizeB => execCreditInitReceived_keeps p port poolA sizeA poolB sizeB h
  | .creditSend p port cls => execCreditSend_keeps p port cls h
  | .alignSend p port => execAlignSend_keeps p port h
  | .skipSend p port => execSkipSend_keeps p port h
  | .alignReceived p port physLane lane lanes rate count => execAlignReceived_keeps p port physLane lane lanes rate count h
  | .skipReceived p port => execSkipReceived_keeps p port h
  | .abortReceived p port => execAbortReceived_keeps p port h
  | .packetForward port k => execPacketForward_keeps port k h
  | .tickMessageReceived p port m => execTickMessageReceived_keeps p port m h
  | .twGetStatus c => execTwGetStatus_keeps c h
  | .twSetMode c => execTwSetMode_keeps c h
  | .twHandover c => execTwHandover_keeps c h
  | .twResync c => execTwResync_keeps c h
  | .dbBeatToggle => execDbBeatToggle_keeps h
  | .dbPeerClaimChange level => execDbPeerClaimChange_keeps level h
  | .peerBeatLost => execPeerBeatLost_keeps h
  | .twinWatchdogExpiry => execTwinWatchdogExpiry_keeps h
  | .twSplit => execTwSplit_keeps h
  | .helloSend => execHelloSend_keeps h
  | .helloReceived a => execHelloReceived_keeps a h
  | .snapshotRequestReceived => execSnapshotRequestReceived_keeps h
  | .snapshotReceived sn => execSnapshotReceived_keeps sn h
  | .fwdCmdReceived f => execFwdCmdReceived_keeps f h
  | .fwdAckReceived id => execFwdAckReceived_keeps id h
  | .fwdAckTimeout id => execFwdAckTimeout_keeps id h
  | .cutReceived fn count => execCutReceived_keeps fn count h
  | .cutWaitExpiry n => execCutWaitExpiry_keeps n h
  | .digestReceived d => execDigestReceived_keeps d h
  | .roleSend => execRoleSend_keeps h
  | .roleReceived claim beat role => execRoleReceived_keeps claim beat role h
  | .passedReceived k => execPassedReceived_keeps k h
  | .claimTakeoverTimeout => execClaimTakeoverTimeout_keeps h
  | .ldGetStatus c => execLdGetStatus_keeps c h
  | .ldSetLimits c => execLdSetLimits_keeps c h
  | .ldRead c => execLdRead_keeps c h
  | .lrWrite c => execLrWrite_keeps c h
  | .lrRead c => execLrRead_keeps c h
  | .lrReload c => execLrReload_keeps c h
  | .lrSetDrift c => execLrSetDrift_keeps c h
  | .panePacketReceived port k => execPanePacketReceived_keeps port k h
  | .larderRefetch index readable => execLarderRefetch_keeps index readable h
  | .larderScrub words flips => execLarderScrub_keeps words flips h
  | .lpGetStatus c => execLpGetStatus_keeps c h
  | .lpSetCurrent c => execLpSetCurrent_keeps c h
  | .lpSetTrim c => execLpSetTrim_keeps c h
  | .lpGetTrim c => execLpGetTrim_keeps c h
  | .lpFade c => execLpFade_keeps c h
  | .lpSetWaveform c => execLpSetWaveform_keeps c h
  | .lpSetScan c => execLpSetScan_keeps c h
  | .lpGetDead c => execLpGetDead_keeps c h
  | .lpClearDead c => execLpClearDead_keeps c h
  | .lpSetDetect c => execLpSetDetect_keeps c h
  | .lpCtlEnWrite value => execLpCtlEnWrite_keeps value h
  | .blackoutNChange p active => execBlackoutNChange_keeps p active h
  | .chatterClear p => execChatterClear_keeps p h
  | .detectResumeTimer => execDetectResumeTimer_keeps h
  | .htGetStatus c => execHtGetStatus_keeps c h
  | .htSetRail c => execHtSetRail_keeps c h
  | .htSetCoef c => execHtSetCoef_keeps c h
  | .htSwapBank c => execHtSwapBank_keeps c h
  | .htClearFault c => execHtClearFault_keeps c h
  | .htGetCoef c => execHtGetCoef_keeps c h
  | .htSetLead c => execHtSetLead_keeps c h
  | .htCtlBankWrite value => execHtCtlBankWrite_keeps value h
  | .htRailCtlEnWrite rail value => execHtRailCtlEnWrite_keeps rail value h
  | .hearthSample m => execHearthSample_keeps m h
  | .vrefStep => execVrefStep_keeps h
  | .ilimHwEvent rail phase => execIlimHwEvent_keeps rail phase h
  | .overvoltageFault rail v => execOvervoltageFault_keeps rail v h
  | .ssTimeout rail => execSsTimeout_keeps rail h
  | .retryWaitExpiry rail v => execRetryWaitExpiry_keeps rail v h
  | .htInputLow vin => execHtInputLow_keeps vin h
  | .htInputOk vin => execHtInputOk_keeps vin h
  | .vcoreRestart => execVcoreRestart_keeps h
  | .hearthDarkRelease => execHearthDarkRelease_keeps h
  | .dwSetTable c => execDwSetTable_keeps c h
  | .dwChannelStart c host => execDwChannelStart_keeps c host h
  | .dwChannelStop c => execDwChannelStop_keeps c h
  | .dwChannelAbort c => execDwChannelAbort_keeps c h
  | .dwChannelReload c host => execDwChannelReload_keeps c host h
  | .dwGetChannel c => execDwGetChannel_keeps c h
  | .dwChCtlStart p ch reset host => execDwChCtlStart_keeps p ch reset host h
  | .dwChCtlStop p ch => execDwChCtlStop_keeps p ch h
  | .dwChCtlAbort p ch => execDwChCtlAbort_keeps p ch h
  | .dwChCtlReload p ch host => execDwChCtlReload_keeps p ch host h
  | .dwChTail p ch count => execDwChTail_keeps p ch count h
  | .descriptorFetched p ch host => execDescriptorFetched_keeps p ch host h
  | .burstIssue p ch => execBurstIssue_keeps p ch h
  | .burstResponse p ch r => execBurstResponse_keeps p ch r h
  | .hostReadTimeout ch offset => execHostReadTimeout_keeps ch offset h
  | .tileBurstTimeout ch offset => execTileBurstTimeout_keeps ch offset h
  | .bulkPacketReceived b => execBulkPacketReceived_keeps b h
  | .auSetPort c => execAuSetPort_keeps c h
  | .auSetGroup c => execAuSetGroup_keeps c h
  | .auSetSlots c => execAuSetSlots_keeps c h
  | .auGetStatus c => execAuGetStatus_keeps c h
  | .auGetStreamStats c => execAuGetStreamStats_keeps c h
  | .auHostTail port tail => execAuHostTail_keeps port tail h
  | .tdmFrame port n => execTdmFrame_keeps port n h
  | .auPllUnlock => execAuPllUnlock_keeps h
  | .auPllRelock => execAuPllRelock_keeps h
  | .chGetStatus c => execChGetStatus_keeps c h
  | .chSetLimits c => execChSetLimits_keeps c h
  | .chSetVfCal c => execChSetVfCal_keeps c h
  | .chGetField c => execChGetField_keeps c h
  | .chGetTrim c => execChGetTrim_keeps c h
  | .chTrimCtl c => execChTrimCtl_keeps c h
  | .sensorConversion p readings => execSensorConversion_keeps p readings h
  | .thermalTrip p cause sensor => execThermalTrip_keeps p cause sensor h
  | .tripCoolRestart p => execTripCoolRestart_keeps p h
  | .trimSweepEval => execTrimSweepEval_keeps h
  | .termTrimMeasure p port lane targetP targetN => execTermTrimMeasure_keeps p port lane targetP targetN h
  | .trimSave p => execTrimSave_keeps p h
  | .atGetInfo c => execAtGetInfo_keeps c h
  | .atGetCert c => execAtGetCert_keeps c h
  | .atGetCsr c => execAtGetCsr_keeps c h
  | .atSetCert c => execAtSetCert_keeps c h
  | .atSetTrust c => execAtSetTrust_keeps c h
  | .atChallenge c => execAtChallenge_keeps c h
  | .atEnrol c => execAtEnrol_keeps c h
  | .atStageBegin c => execAtStageBegin_keeps c h
  | .atStageData c => execAtStageData_keeps c h
  | .atStageVerify c => execAtStageVerify_keeps c h
  | .atStageAbort c => execAtStageAbort_keeps c h
  | .atActivate c => execAtActivate_keeps c h
  | .atConfirm c => execAtConfirm_keeps c h
  | .atRollback c => execAtRollback_keeps c h
  | .atTileReload c => execAtTileReload_keeps c h
  | .atTileStageBegin c => execAtTileStageBegin_keeps c h
  | .atTileBoot c => execAtTileBoot_keeps c h
  | .atTileStageAbort c => execAtTileStageAbort_keeps c h
  | .tileLoadLockTimeout => execTileLoadLockTimeout_keeps h
  | .tileEnrolAndLoad chain position r => execTileEnrolAndLoad_keeps chain position r h
  | .nvProgramDone p ok => execNvProgramDone_keeps p ok h
  | .nvEraseDone p => execNvEraseDone_keeps p h
  | .activateRestart n => execActivateRestart_keeps n h
  | .activateResume => execActivateResume_keeps h
  | .healthConfirm => execHealthConfirm_keeps h
  | .healthWindowExpiry => execHealthWindowExpiry_keeps h
  | .porNAssert => execPorNAssert_keeps h
  | .porNRelease b => execPorNRelease_keeps b h
  | .perstAssert => execPerstAssert_keeps h
  | .perstRelease => execPerstRelease_keeps h
  | .supplyMonitorTrip rail => execSupplyMonitorTrip_keeps rail h
  | .supplyReturn b => execSupplyReturn_keeps b h
  | .vinPowerOn b => execVinPowerOn_keeps b h
  | .vinPowerOff => execVinPowerOff_keeps h
  | .clockSynthLock port => execClockSynthLock_keeps port h
  | .ledRailEnableSequence step => execLedRailEnableSequence_keeps step h
  | .watchdogExpiry p => execWatchdogExpiry_keeps p h
  | .blockError p port k => execBlockError_keeps p port k h
  | .peerBeatRegained => execPeerBeatRegained_keeps h
  | .inputLowWriteTimeout => execInputLowWriteTimeout_keeps h
  | .progressReply p src tag => execProgressReply_keeps p src tag h
  | .fomMeasurement p port lane fom => execFomMeasurement_keeps p port lane fom h

/-- An idle step keeps everything but the clocks. -/
theorem idle_keeps (s : State) : Keeps s { idle s with now := s.now } := by
  unfold idle
  dsimp only
  refine ⟨fun h => ?_, fun h => ?_, fun h => ?_, fun h => ?_, ?_, rfl, ?_⟩ <;> split <;> split <;> first | exact h | rfl

end Sys2Proof.Laws
end

