-- ==== Sys2Proof/Laws/Traffic.lean ====
section
/-!
SUPPORT. What the shared operations may change: nothing but traffic (`Safety.still`).
-/
namespace Sys2Proof.Laws

open Sys2Proof.Machine Sys2Proof.Safety

theorem map_upd {α β : Type} {g : α → β} {f : α → α} (h : ∀ x, g (f x) = g x) (l : List α) (k : Nat) :
    (upd l k f).map g = l.map g := by
  unfold upd
  induction l generalizing k with
  | nil => cases k <;> rfl
  | cons a r ih => cases k with
    | zero => simp [h]
    | succ k => simpa using ih k

/-- An element that takes a given value of the same kind. -/
theorem map_upd_to {α β : Type} {g : α → β} {x : α} (d : α) :
    ∀ (l : List α) (k : Nat), g x = g (l.getD k d) → (upd l k (fun _ => x)).map g = l.map g
  | [], k, _ => by cases k <;> rfl
  | a :: r, 0, h => by simp_all [upd]
  | a :: r, k + 1, h => by
    have := map_upd_to d r k (x := x) (g := g) (by simpa using h)
    simpa [upd] using this

theorem still_emit (p : Part) (o : Out) (s : State) : still (emit p o s) = still s := by cases p <;> rfl

theorem still_updQueue {f : Queue → Queue} (h : ∀ q, stillQueue (f q) = stillQueue q) (k : Nat) (s : State) :
    still (updQueue k f s) = still s := by
  simp [still, updQueue, map_upd h]

theorem still_updPort {f : GlPort → GlPort} (h : ∀ g, stillPort (f g) = stillPort g) (p : Part) (k : Nat) (s : State) :
    still (updPort p k f s) = still s := by
  cases p <;> simp [still, updPort, map_upd h]

theorem still_setPort {g : GlPort} {p : Part} {k : Nat} {s : State} (h : stillPort g = stillPort (portAt p k s)) :
    still (updPort p k (fun _ => g) s) = still s := by
  cases p
  · have := map_upd_to (g := stillPort) { lanes := [] } s.head.gl k h
    simp [still, updPort, this]
  · have := map_upd_to (g := stillPort) { lanes := [] } s.tile.gl k h
    simp [still, updPort, this]

theorem still_transmit (p : Part) (k : Nat) (x : GPkt) (s : State) : still (transmit p k x s) = still s := by
  unfold transmit
  exact (still_emit _ _ _).trans (still_setPort rfl)

theorem still_drainPort (p : Part) (k : Nat) : ∀ (n : Nat) (s : State), still (drainPort p k n s) = still s
  | 0, _ => rfl
  | n + 1, s => by
    unfold drainPort
    dsimp only
    split
    · rfl
    · split
      · exact (still_drainPort p k n _).trans ((still_transmit _ _ _ _).trans (still_updPort (by intro _; rfl) _ _ _))
      · rfl

/-- Handing a packet to a port is traffic. -/
theorem still_hand (p : Part) (k : Nat) (x : GPkt) (s : State) : still (hand p k x s) = still s := by
  unfold hand
  dsimp only
  split
  · exact (still_drainPort _ _ _ _).trans (still_updPort (by intro _; rfl) _ _ _)
  · exact still_updPort (by intro _; rfl) _ _ _
  · exact still_updPort (by intro _; rfl) _ _ _

theorem still_signalReply (k : Nat) (s : State) : still (signalReply k s) = still s := by
  unfold signalReply
  dsimp only
  split
  · split
    · exact (still_emit _ _ _).trans (still_updQueue (by intro _; rfl) _ _)
    · exact still_updQueue (by intro _; rfl) _ _
  · exact still_updQueue (by intro _; rfl) _ _

theorem still_noteFull (k : Nat) (s : State) : still (noteFull k s) = still s :=
  still_updQueue (fun q => by split <;> rfl) _ _

theorem still_ringWrite (k : Nat) (r : Reply) (s : State) : still (ringWrite k r s) = still s := by
  unfold ringWrite
  dsimp only
  rw [still_noteFull, still_signalReply, still_emit, still_updQueue (by intro _; rfl), still_emit]
  split
  · rfl
  · exact still_emit _ _ _

/-- Delivering a reply is traffic. -/
theorem still_deliver (p : Part) (src : Source) (r : Reply) (s : State) : still (deliver p src r s) = still s := by
  unfold deliver
  split
  · split
    · exact (still_noteFull _ _).trans (still_updQueue (by intro _; rfl) _ _)
    · rfl
  · split
    · rw [still_emit]
      simp [still, map_upd]
    · rfl
  · rfl
  · exact still_hand _ _ _ _
  · exact still_emit _ _ _

theorem still_notify (src : Source) (e : EventRec) (s : State) : still (notify src e s) = still s := by
  unfold notify
  split
  · split
    · exact still_ringWrite _ _ _
    · rfl
  · exact still_deliver _ _ _ _
  · rfl

theorem still_foldl {α : Type} {f : State → α → State} (h : ∀ s x, still (f s x) = still s) :
    ∀ (l : List α) (s : State), still (l.foldl f s) = still s
  | [], _ => rfl
  | x :: l, s => (still_foldl h l _).trans (h s x)

theorem still_logRecord (e : EventRec) (s : State) : still (logRecord e s) = still s := by
  unfold logRecord
  dsimp only
  refine (still_foldl (fun s x => ?_) _ _).trans rfl
  split
  · exact still_notify _ _ _
  · rfl

theorem still_rollSecond (s : State) : still (rollSecond s) = still s := by
  unfold rollSecond
  dsimp only
  split
  · rfl
  · refine (still_foldl (fun s x => ?_) _ _).trans rfl
    split
    · exact still_logRecord _ _
    · rfl

theorem still_insertEvent (e : EventRec) (s : State) : still (insertEvent e s) = still s := by
  unfold insertEvent
  dsimp only
  split
  · exact (still_logRecord _ _).trans (still_rollSecond _)
  · split
    · exact (still_logRecord _ _).trans (Eq.trans rfl (still_rollSecond s))
    · exact Eq.trans rfl (still_rollSecond s)

/-- Posting an event is traffic. -/
theorem still_post (p : Part) (b v c : Nat) (x : BitVec 32) (y : BitVec 64) (s : State) : still (post p b v c x y s) = still s := by
  unfold post
  split
  · exact still_insertEvent _ _
  · split <;> rfl

theorem still_setOutst (p : Part) (l : List Outst) (s : State) : still (setOutst p l s) = still s := by cases p <;> rfl

theorem still_flushReplies (p : Part) : ∀ (l k : List Outst) (s : State), still (flushReplies p l k s).2 = still s
  | [], _, _ => rfl
  | e :: r, k, s => by
    unfold flushReplies
    split
    · split
      · exact still_flushReplies p r _ s
      · refine (still_flushReplies p r _ _).trans ?_
        split
        · rfl
        · exact still_deliver _ _ _ _
    · exact still_flushReplies p r _ s

/-- The final reply of a command is traffic. -/
theorem still_finish (c : Cmd) (op : Nat) (r : Reply) (s : State) : still (finish c op r s) = still s := by
  unfold finish
  split
  · exact (still_setOutst _ _ _).trans (still_flushReplies _ _ _ _)
  · exact still_deliver _ _ _ _

theorem still_ok (c : Cmd) (op : Nat) (l : List Byte) (s : State) : still (ok c op l s) = still s := still_finish _ _ _ _

theorem still_okFrame (c : Cmd) (op : Nat) (l : List Byte) (n : Nat) (b : Bool) (s : State) :
    still (okFrame c op l n b s) = still s := still_finish _ _ _ _

theorem still_refuse (c : Cmd) (op : Nat) (e : Err) (s : State) : still (refuse c op e s) = still s := still_finish _ _ _ _

theorem still_failed (c : Cmd) (op r d : Nat) (s : State) : still (failed c op r d s) = still s := still_refuse _ _ _ _

theorem still_touchSession (c : Cmd) (s : State) : still (touchSession c s) = still s := by
  unfold touchSession
  split
  · simp [still, map_upd]
  · rfl

theorem still_take (op : Nat) (c : Cmd) (s : State) : still (take op c s) = still s :=
  (still_setOutst _ _ _).trans (still_touchSession _ _)

theorem still_holdCmd (op : Nat) (c : Cmd) (s : State) : still (holdCmd op c s) = still s := by
  unfold holdCmd
  split
  · rfl
  · exact (still_setOutst _ _ _).trans (still_touchSession _ _)

theorem still_putEntry (e e' : Outst) (s : State) : still (putEntry e e' s) = still s := still_setOutst _ _ _

theorem still_passOver (k : GPkt) (s : State) : still (passOver k s) = still s := still_hand _ _ _ _

theorem still_sendToTile (e : TileEnt) (op tag : Nat) (fl : BitVec 8) (fr : BitVec 32) (l : List Byte) (s : State) :
    still (sendToTile e op tag fl fr l s) = still s := by
  unfold sendToTile
  dsimp only
  split
  · exact still_hand _ _ _ _
  · exact still_passOver _ _

theorem still_sendLeg (p : Outst × State) (l : TileLeg) : still (sendLeg p l).2 = still p.2 := by
  unfold sendLeg
  split
  · split
    · exact (still_sendToTile _ _ _ _ _ _ _).trans (still_putEntry _ _ _)
    · rfl
  · rfl

theorem still_legs : ∀ (l : List TileLeg) (p : Outst × State), still (l.foldl sendLeg p).2 = still p.2
  | [], _ => rfl
  | x :: r, p => (still_legs r _).trans (still_sendLeg p x)

theorem still_settleBcast (e : Outst) (s : State) : still (settleBcast e s) = still s := by
  unfold settleBcast
  split
  · exact still_finish _ _ _ _
  · rfl

/-- Forwarding a command to Tiles is traffic. -/
theorem still_forward (o : OpSpec) (c : Cmd) (s : State) : still (forward o c s) = still s := by
  unfold forward
  dsimp only
  split
  · exact (still_settleBcast _ _).trans ((still_legs _ _).trans ((still_putEntry _ _ _).trans (still_take _ _ _)))
  · exact still_take _ _ _

theorem still_nakNow (p : Part) (k : Nat) (s : State) : still (nakNow p k s) = still s := by
  unfold nakNow
  extract_lets g free
  split
  · exact (still_emit _ _ _).trans (still_updPort (by intro _; rfl) _ _ _)
  · rfl

theorem still_linkAccept (p : Part) (k : Nat) (x : GPkt) (s : State) : still (linkAccept p k x s).2 = still s := by
  unfold linkAccept
  dsimp only
  split
  · rfl
  · split
    · exact (still_emit _ _ _).trans (still_updPort (by intro _; rfl) _ _ _)
    · split
      · rfl
      · exact still_nakNow _ _ _

theorem still_freeRx (p : Part) (k cls n : Nat) (s : State) : still (freeRx p k cls n s) = still s :=
  still_updPort (by intro _; rfl) _ _ _

/-- What comes over a link: traffic alone, or its effect on a state that differs by traffic alone. -/
theorem overLink_cases (p : Part) (via : Option Via) (f : State → State) (s : State) :
    still (overLink p via f s) = still s ∨ ∃ u, still u = still s ∧ overLink p via f s = f u := by
  unfold overLink
  split
  · exact .inr ⟨s, rfl, rfl⟩
  · rename_i v
    have k := (still_freeRx p v.port v.pkt.cls v.pkt.len _).trans (still_linkAccept p v.port v.pkt s)
    dsimp only
    split
    · exact .inl (still_linkAccept _ _ _ _)
    · split
      · exact .inl ((still_updPort (by intro _; rfl) _ _ _).trans k)
      · split
        · exact .inl ((still_passOver _ _).trans k)
        · exact .inr ⟨_, k, rfl⟩

theorem tileRun_cases (o : OpSpec) (c : Cmd) (s : State) :
    still (tileRun o c s) = still s ∨ ∃ u, still u = still s ∧ tileRun o c s = o.run c u := by
  unfold tileRun
  split
  · exact .inl rfl
  · split
    · exact .inl (still_deliver _ _ _ _)
    · split
      · exact .inl ((still_refuse _ _ _ _).trans (still_take _ _ _))
      · exact .inr ⟨_, still_take _ _ _, rfl⟩

theorem tileArrive_cases (o : OpSpec) (c : Cmd) (s : State) :
    still (tileArrive o c s) = still s ∨ ∃ u, still u = still s ∧ tileArrive o c s = o.run c u := by
  unfold tileArrive
  split
  · dsimp only
    refine (overLink_cases _ _ _ s).elim .inl (fun ⟨u, hu, e⟩ => ?_)
    rw [e]
    split
    · exact (tileRun_cases _ _ _).imp (fun h => h.trans ((still_hand _ _ _ _).trans hu))
        (fun ⟨v, hv, e⟩ => ⟨v, hv.trans ((still_hand _ _ _ _).trans hu), e⟩)
    · exact (tileRun_cases _ _ _).imp (fun h => h.trans hu) (fun ⟨v, hv, e⟩ => ⟨v, hv.trans hu, e⟩)
  · exact tileRun_cases o c s

theorem headRun_cases (o : OpSpec) (c : Cmd) (s : State) :
    still (headRun o c s) = still s ∨ ∃ u, still u = still s ∧ headRun o c s = o.run c u := by
  unfold headRun
  split
  · exact .inl rfl
  · split
    · split
      · exact .inl rfl
      · exact .inl (still_holdCmd _ _ _)
    · split
      · split
        · exact .inl ((still_refuse _ _ _ _).trans (still_take _ _ _))
        · exact .inr ⟨_, still_take _ _ _, rfl⟩
      · split
        · exact .inl ((still_refuse _ _ _ _).trans (still_take _ _ _))
        · exact .inl (still_forward _ _ _)

/-- What a command with an opcode can do: traffic alone, or its effect, with the arrival that its doorbell stamped, on a state that
differs by traffic alone. -/
theorem runCmd_cases {o : OpSpec} {c : Cmd} {s t : State} (h : runCmd o c s = .next t) :
    still t = still s ∨ ∃ d u, still u = still s ∧ t = o.run d u := by
  simp only [runCmd, Host.Outcome.next.injEq] at h
  subst h
  split
  · exact .inl rfl
  · cases hp : c.part
    · exact (headRun_cases o _ s).imp id (fun ⟨u, hu, e⟩ => ⟨_, u, hu, e⟩)
    · exact (tileArrive_cases o c s).imp id (fun ⟨u, hu, e⟩ => ⟨_, u, hu, e⟩)

/-- A command that the part accepts has its effect once it is among the outstanding ones. -/
theorem runCmd_of_accepts {o : OpSpec} {c : Cmd} {s : State} (h : Accepts o c s) :
    runCmd o c s = .next (o.run c (take o.opcode c s)) := by
  rcases h with ⟨hp, h1, h2, h3, h4, h5, h6⟩ | ⟨hp, h1, h2, h3, h4, h5⟩
  · simp [runCmd, hp, h1, h3, headRun, h2, h4, h5, h6]
  · simp [runCmd, hp, h1, tileArrive, h2, tileRun, h3, Nat.not_le.mpr h4, h5]

theorem still_okTarget (c : Cmd) (op : Nat) (f : Option (Nat × Bool)) (s : State) : still (okTarget c op f s) = still s := by
  unfold okTarget
  split
  · exact still_okFrame _ _ _ _ _ _
  · exact still_ok _ _ _ _

/-- A command whose effect is confined to one part of the state, and traffic, leaves the rest. -/
theorem runCmd_frame {β : Type} (get : State → β) (set : β → State → State) (hset : ∀ b x, still (set b x) = set b (still x))
    (hget : ∀ x, get (still x) = get x) (hself : ∀ x, set (get x) x = x) {o : OpSpec} {c : Cmd} {s t : State}
    (hr : ∀ d u, still (o.run d u) = still (set (get (o.run d u)) u)) (h : runCmd o c s = .next t) :
    still t = still (set (get t) s) := by
  rcases runCmd_cases h with h | ⟨d, u, hu, rfl⟩
  · have e : get t = get s := by rw [← hget t, h, hget s]
    rw [e, hself, h]
  · rw [hr, hset, hu, hset]

/-- A packet that its link accepts (R350): judged by class, type and LEN (R334), passed on for the partner (R337), or taken. -/
theorem overLink_taken (p : Part) (v : Via) (f : State → State) (s : State) (h1 : (portAt p v.port s).state = .active)
    (h2 : v.pkt.seq = (portAt p v.port s).seqExp) :
    overLink p (some v) f s =
      (let passed := p = .head ∧ v.port = 32 ∧ v.pkt.cls = 5
       let t := afterPacket p v.port v.pkt s
       if packetBad v.pkt ∧ ¬ passed then updPort p v.port (fun g => { g with discards := g.discards + 1 }) t
       else if p = .head ∧ v.port ≠ 32 ∧ v.pkt.headB ≠ s.head.sys.roleB then passOver v.pkt t
       else f t) := by
  have e : linkAccept p v.port v.pkt s = (true, emit p (.block v.port 0x55 [(v.pkt.seq.toNat : Nat), 0])
      (updPort p v.port (fun g => { g with seqExp := g.seqExp + 1, nakAt := none }) s)) := by
    simp only [linkAccept, h1, h2, ne_eq, not_true_eq_false, if_false, if_true]
  simp only [overLink, e, not_true_eq_false, if_false]
  rfl

theorem sdiffW_self (a : Nat) : sdiffW 12 a a = 0 := by
  simp [sdiffW]

/-- Each command that a packet carries is one function of the state over `overLink`. -/
theorem carried_row {i : Instr} {f : Option Via → Instr} (h : carried i = some f) :
    ∃ g : State → State, ∀ (via : Option Via) (s : State), exec (f via) s = onPart .head (overLink .head via g) s := by
  cases i <;> simp only [carried, Option.some.injEq, reduceCtorEq] at h <;> subst h
  case tileReplyReceived r =>
    exact ⟨fun s => if r.msg.headB = s.head.sys.roleB then tileReply r.msg.reply s else passOver (replyPacket r.msg) s, fun _ _ => rfl⟩
  all_goals
    exact ⟨_, by
      intro via s
      dsimp only [exec, execTileEventReceived, execPaneAckReceived, execReplayReqReceived, execFrameReportReceived, execLinkStateReceived, execHelloReceived,
        execSnapshotReceived, execFwdCmdReceived, execFwdAckReceived, execCutReceived, execDigestReceived, execRoleReceived, execPassedReceived]⟩

end Sys2Proof.Laws
end

