-- ==== Sys2Proof/Machine/Package.lean ====
section
/-!
DEFINITION. The packages (R621 to R645): the names of the balls of both parts, the ranges in which they are specified to
operate, and what sets the steppings apart. Nothing here changes the state.
-/
namespace Sys2Proof.Machine

/-! ## Names of balls (R621) -/

/-- The letter of a row index from 1 to 19. -/
def rowLetter (n : Nat) : String :=
  (["A", "B", "C", "D", "E", "F", "G", "H", "J", "K", "L", "M", "N", "P", "T", "U", "V", "W", "Y"]).getD (n - 1) ""

/-- The letters of row `n`, counted from 1. -/
def rowName (n : Nat) : String :=
  if n ≤ 19 then rowLetter n else rowLetter ((n - 1) / 19) ++ rowLetter ((n - 1) % 19 + 1)

/-- A ball: row and column, from 1. -/
structure Ball where
  row : Nat
  col : Nat
  deriving DecidableEq, Repr

/-- The name of a ball. -/
def ballName (b : Ball) : String := rowName b.row ++ toString b.col

/-- The package's grid: 69 balls a side at the Head, 81 at the Tile. -/
def onPackage (p : Part) (b : Ball) : Bool :=
  let n := match p with | .head => 69 | .tile => 81
  decide (1 ≤ b.row ∧ b.row ≤ n ∧ 1 ≤ b.col ∧ b.col ≤ n)

/-- A supply (R622, R623). -/
inductive Supply where
  | vss | vdd | vddAon | vddioAon | vddio | vddHbm | vddqHbm | vppHbm | vddaSer | vddhSer | vin
  deriving DecidableEq, Repr

/-- The Head's single-ended control signals, in the order of R622. -/
inductive HeadCtl where
  | porN | perstN | blackoutN | thermTripN | thermAlertN | twsel | dbClaim | dbPeerClaim | dbBeat | dbPeerBeat | ppsIn
  | ppsOut0 | ppsOut1 | modScl | modSda | modIntN | tck | tms | tdi | tdo | trstN | testMode
  deriving DecidableEq, Repr

/-- What a ball of the Head carries. `n` is true for the negative ball of a pair. -/
inductive HeadSignal where
  | chain (c l : Nat) (tx n : Bool)
  | eth (p l : Nat) (tx n : Bool)
  | twin (l : Nat) (tx n : Bool)
  | mgmt (m : Nat) (tx n : Bool)
  | pcie (k : Nat) (tx n : Bool)
  | pcieClk (n : Bool)
  | auBclk (p : Nat)
  | auFs (p : Nat)
  | auSd (p : Nat)
  | ctl (s : HeadCtl)
  deriving DecidableEq, Repr

/-- The row of a chain port's balls. -/
def chainRow (c : Nat) (tx : Bool) : Nat :=
  if tx then [2, 6, 68, 64].getD (c / 8) 0 else [4, 8, 66, 62].getD (c / 8) 0

/-- The ball of a signal of the Head (R622). -/
def headBall : HeadSignal → Ball
  | .chain c l tx n => { row := chainRow c tx, col := 11 + 3 * (2 * (c % 8) + l) + b2n n }
  | .eth p l tx n => { row := 12 + 3 * (4 * p + l) + b2n n, col := if tx then 2 else 4 }
  | .twin l tx n => { row := 12 + 3 * l + b2n n, col := if tx then 7 else 9 }
  | .mgmt m tx n => { row := 24 + 3 * m + b2n n, col := if tx then 7 else 9 }
  | .pcie k tx n => { row := 12 + 3 * k + b2n n, col := if tx then 66 else 68 }
  | .pcieClk n => { row := 10, col := 66 + b2n n }
  | .auBclk p => { row := 12 + 6 * p, col := 61 }
  | .auFs p => { row := 13 + 6 * p, col := 61 }
  | .auSd p => { row := 14 + 6 * p, col := 61 }
  | .ctl s => { row := 12 + 2 * s.ctorIdx, col := 63 }

/-- The signals of the Head. -/
def headSignals : List HeadSignal :=
  let tf := [(true, false), (true, true), (false, false), (false, true)]
  (List.range 32).flatMap (fun c => (List.range 2).flatMap (fun l => tf.map (fun e => .chain c l e.1 e.2))) ++
  (List.range 4).flatMap (fun p => (List.range 4).flatMap (fun l => tf.map (fun e => .eth p l e.1 e.2))) ++
  (List.range 4).flatMap (fun l => tf.map (fun e => .twin l e.1 e.2)) ++
  (List.range 2).flatMap (fun m => tf.map (fun e => .mgmt m e.1 e.2)) ++
  (List.range 16).flatMap (fun k => tf.map (fun e => .pcie k e.1 e.2)) ++
  [.pcieClk false, .pcieClk true] ++
  (List.range 8).flatMap (fun p => [.auBclk p, .auFs p, .auSd p]) ++
  ([.porN, .perstN, .blackoutN, .thermTripN, .thermAlertN, .twsel, .dbClaim, .dbPeerClaim, .dbBeat, .dbPeerBeat, .ppsIn,
    .ppsOut0, .ppsOut1, .modScl, .modSda, .modIntN, .tck, .tms, .tdi, .tdo, .trstN, .testMode]).map .ctl

/-- The supply of a ball of the Head that carries no signal (R622, R623). -/
def headSupply (b : Ball) : Supply :=
  let r := b.row
  let c := b.col
  let core := decide (18 ≤ r ∧ r ≤ 52)
  let even := (r + c) % 2 == 0
  if c = 60 ∧ 12 ≤ r ∧ r ≤ 17 then .vddAon
  else if c = 62 ∧ 12 ≤ r ∧ r ≤ 29 then .vddioAon
  else if c = 62 ∧ 30 ≤ r ∧ r ≤ 59 then .vddio
  else if ((12 ≤ r ∧ r ≤ 17) ∨ (53 ≤ r ∧ r ≤ 58)) ∧ 12 ≤ c ∧ c ≤ 58 then
    if c % 4 = 0 then .vddHbm else if c % 4 = 2 then (if c = 14 ∨ c = 58 then .vppHbm else .vddqHbm) else .vss
  else if core ∧ even ∧ ((12 ≤ c ∧ c ≤ 14) ∨ (56 ≤ c ∧ c ≤ 58)) then .vddaSer
  else if core ∧ even ∧ ((15 ≤ c ∧ c ≤ 17) ∨ (53 ≤ c ∧ c ≤ 55)) then .vddhSer
  else if core ∧ even ∧ 18 ≤ c ∧ c ≤ 52 then .vdd
  else .vss

/-- What a ball of the Head carries: a signal, or else a supply. -/
def headAt (b : Ball) : HeadSignal ⊕ Supply :=
  match headSignals.find? (fun g => headBall g == b) with
  | some g => .inl g
  | none => .inr (headSupply b)

/-- What a ball of the Tile carries (R624). -/
inductive TileSignal where
  | sink (k : Nat)
  | anode (c r : Nat)
  | port (p l : Nat) (tx n : Bool)
  | blackoutN
  | testMode
  | tck
  | tms
  | tdi
  | tdo
  deriving DecidableEq, Repr

/-- The ball of a signal of the Tile (R624). -/
def tileBall : TileSignal → Ball
  | .sink k => { row := [1, 19, 46, 64].getD (k / 1440) 0 + 6 * (k % 1440 / 480) + k % 480 % 6, col := k % 480 / 6 + 1 }
  | .anode c r => { row := 38 + 2 * c, col := 7 + r }
  | .port p l tx n => { row := (if tx then 38 else 42) + 2 * l, col := (if p = 0 then 2 else 79) + b2n n }
  | .blackoutN => { row := 38, col := 5 }
  | .testMode => { row := 40, col := 5 }
  | .tck => { row := 38, col := 77 }
  | .tms => { row := 40, col := 77 }
  | .tdi => { row := 42, col := 77 }
  | .tdo => { row := 44, col := 77 }

/-- The supply of a ball of the Tile that carries no signal (R623, R624). -/
def tileSupply (b : Ball) : Supply := if b.row = 44 ∧ 7 ≤ b.col ∧ b.col ≤ 74 then .vin else .vss

/-- The rows of pixels whose anode lines the panel joins into ANODE_c_r (R625). -/
def anodeRows (r : Nat) : List Nat := (slotRows r).map Prod.snd

/-! ## Operating conditions (R628 to R630) -/

/-- The recommended range of a supply (R629), in units of 0.1 mV. -/
def recommended : Supply → Option (Nat × Nat)
  | .vdd => some (7275, 7725)
  | .vddAon => some (7760, 8240)
  | .vddaSer => some (8730, 9270)
  | .vddhSer => some (11640, 12360)
  | .vddHbm => some (10670, 11330)
  | .vddqHbm => some (3880, 4120)
  | .vppHbm => some (17100, 18900)
  | .vddio => some (17100, 18900)
  | .vddioAon => some (17100, 18900)
  | .vin => some (45000, 55000)
  | .vss => none

/-- A supply lies in its range. -/
def supplyOk (p : Supply) (v : Nat) : Bool :=
  match recommended p with
  | some r => decide (r.1 ≤ v ∧ v ≤ r.2)
  | none => true

/-- The recommended temperatures of R629 in °C: logic die and stacks of the Head, logic and drive tier of the Tile. -/
def tempRanges : List (Int × Int) := [(-5, 105), (0, 95), (-20, 100), (-20, 110)]

/-- The drive tier's junction (R642) in tenths of a degree, from the board's temperature in tenths and the powers of the two tiers in W. -/
def driveJunction (board : Int) (drive logic : Nat) : Int := board + 9 * (drive : Int) + 5 * (logic : Int)

/-- The logic tier's junction (R642). -/
def logicJunction (board : Int) (drive logic : Nat) : Int := board + 5 * (drive : Int) + 14 * (logic : Int)

/-! ## Steppings (R1, R645) -/

inductive Stepping where
  | a0 | a1 | b0
  deriving DecidableEq, Repr

/-- STEPPING of PO_GET_INFO. -/
def steppingCode : Stepping → Nat
  | .a0 => 0x00
  | .a1 => 0x01
  | .b0 => 0x10

/-- What sets a stepping apart. -/
structure SteppingTraits where
  rateCode0 : Bool
  cellarPoint0 : Bool
  nativeMode : Bool
  residualPulses : Bool
  spareSegments : Nat
  pcieTenths : Nat
  deriving DecidableEq, Repr

/-- The table of R645; the rest of the model is stepping B0 (R1). -/
def steppingTraits : Stepping → SteppingTraits
  | .a0 => { rateCode0 := false, cellarPoint0 := false, nativeMode := false, residualPulses := false, spareSegments := 0, pcieTenths := 160 }
  | .a1 => { rateCode0 := true, cellarPoint0 := true, nativeMode := true, residualPulses := true, spareSegments := 4, pcieTenths := 320 }
  | .b0 => { rateCode0 := true, cellarPoint0 := true, nativeMode := true, residualPulses := true, spareSegments := 4, pcieTenths := 320 }

/-- Two Heads of these steppings pair under R377. -/
def steppingsPair (a b : Stepping) : Bool := a == b || ((steppingTraits a).nativeMode && (steppingTraits b).nativeMode)

end Sys2Proof.Machine
end

