-- ==== Sys2Proof/Tests/Slice0.lean ====
section
/-!
SUPPORT. Tests: ill-formed terms that each check of WellFormed refuses, values worked out by hand from the spec, and for every
statement a state and operands that meet its hypotheses.
-/
namespace Sys2Proof.Tests

set_option Elab.async false
set_option linter.unusedVariables false

open Sys2Proof Sys2Proof.Machine Sys2Proof.Safety

/-! ## Well-formedness: an ill-formed term for each check -/

/-- A register access off a word boundary (R124). -/
theorem test_wf_access : Instr.wf (.registerWrite { space := .bar0, addr := 2 } 0) = false := by decide

/-- A source that is no queue, session or port (R107, R113). -/
theorem test_wf_source : Instr.wf (.porchResumeTaking (.queue 16)) = false ∧ Instr.wf (.porchResumeTaking (.session 8)) = false ∧
    Instr.wf (.porchResumeTaking (.chain false 2)) = false := by decide

/-- A header field wider than R81 gives it, and a parameter area above 4 080 bytes. -/
theorem test_wf_cmd : Instr.wf (.poNop { part := .head, src := .queue 0, tag := 65536 }) = false ∧
    Instr.wf (.poNop { part := .head, src := .queue 0, chain := 256 }) = false ∧
    Instr.wf (.poNop { part := .head, src := .queue 0, params := List.replicate 4081 0 }) = false := by decide +kernel

theorem test_wf_reply : Instr.wf (.tileReplyReceived
    { msg := { reply := { opcode := 65536, tag := 0, status := 0 } } }) = false := by decide

/-- Tile addresses outside R2. -/
theorem test_wf_tile : Instr.wf (.tileCommandTimeout 32 1 0) = false ∧ Instr.wf (.tileCommandTimeout 0 0 0) = false ∧
    Instr.wf (.tileCommandTimeout 0 17 0) = false := by decide

/-- Ports, compare units and channels that a part does not have (R67, R321, R515). -/
theorem test_wf_units : Instr.wf (.glPortEnable .head 33) = false ∧ Instr.wf (.glPortEnable .tile 2) = false ∧
    Instr.wf (.triggerFire .head 16) = false ∧ Instr.wf (.triggerFire .tile 4) = false ∧
    Instr.wf (.dwChCtlStop .head 64) = false ∧ Instr.wf (.dwChCtlStop .tile 8) = false := by decide

/-- A pane outside a slot image (R229), a queue, a stack, a row slot, a rail. -/
theorem test_wf_ranges : Instr.wf (.plFenceTimeout 0) = true ∧
    Instr.wf (.replayReqReceived { msg := { chain := 0, position := 1, pane := 135, slot := 0 } } 0) = false ∧
    Instr.wf (.replyWrite 16) = false ∧ Instr.wf (.srExit 2) = false ∧ Instr.wf (.ssTimeout 4) = false := by decide

/-! ## States of the witnesses -/

/-- Both parts in service, the Tile's image running. -/
def up : State := { State.reset with tile.sys.loaded := true, tile.ld.ready := true }

/-- A command of a queue to the Head. -/
def hc (l : List Byte) : Cmd := { part := .head, src := .queue 0, params := l }

/-- A command of Head A to the Tile. -/
def tc (l : List Byte) : Cmd := { part := .tile, src := .chain false 0, position := 1, params := l }

/-- Ticks of 16 666 667 ns from wall time 0 on. -/
def tp : TickPar :=
  { slots := 1, refresh := 0, pNum := 16666667, pDen := 1, gUs := 2000, fUs := 500, origin := 0, nO := 0 }

/-- Both parts tick, at wall time `c`, with frame `n` in view. -/
def ticking (n c : Nat) : State :=
  { up with
    head.mt.tick := some tp, head.mt.cnt := BitVec.ofNat 64 c, head.mt.lastN := some n
    tile.mt.tick := some tp, tile.mt.cnt := BitVec.ofNat 64 c, tile.mt.lastN := some n
    tile.lp.causes := 0, tile.lp.dark := false }

/-- The twin port is ACTIVE in a ticking state. -/
def linked (s : State) : State := updPort .head 32 (fun g => { g with state := .active }) s

/-- A pane of Tile 1 of chain 0. -/
def pk : PaneKey := { chain := 0, position := 1, pane := 0, slot := 0 }

/-- A closed frame 5 with that pane dirty. -/
def rec5 : FrameRec := { n := 5, scene := {}, slots := 1, dirty := [pk], live := [] }

/-- A scene in which Tile 1 of chain 0 is enabled. -/
def scn : Scene := { tiles := [(0, { enable := true })] }

/-- Frame 5 with its push window open and that pane dirty. -/
def rec5Open : FrameRec := { rec5 with scene := scn, isOpen := true }

/-- The pane of frame 5 is composed and its Tile is reached over port 0, which has credit. -/
def pushing (r : FrameRec) : State :=
  updPort .head 0 (fun g => { g with state := .active, credShared := 4000 })
    { ticking 5 90000000 with
      head.pl.frames := [r], head.pl.vers := [{ key := pk, w := 0, n := 5, state := 2, shown := true }]
      head.en := [{ chain := 0, position := 1 }] }

/-- A transaction of that pane, sent at time 0. -/
def trans5 : Trans := { port := 0, chain := 0, position := 1, pane := 0, slot := 0, fn := 5, sentAt := 0 }

/-- An enabled stream whose first path is sub-port 0 and whose second is sub-port 4; both links are up. -/
def streaming (kind : Nat) : State :=
  updStream kind 63 (fun x => { x with en := true, cfg := zeros 10 ++ [1] ++ zeros (if kind = 0 then 41 else 33) ++ [4] ++ zeros 47 })
    (updFyPort 1 (fun p => { p with mode := 1, linkUp := 1 }) (updFyPort 0 (fun p => { p with mode := 1, linkUp := 1 }) (ticking 4 100000000)))

/-- A descriptor from the local memory to host memory, and the channel that runs it. -/
def desc0 : DwDesc :=
  { src := 0, dst := 0, count := 4096, srcSpace := 1, dstSpace := 0, flags := 0, chain := 0, position := 0, fence := 0xFFFF
    fenceValue := 0, pattern := [] }

def copying (d : DwDesc) : State :=
  updChan .head 63 (fun c => { c with state := .running, runs := [{ k := 0, desc := d, left := 4096 }] }) { up with now := 50000000 }

/-- The same with its first burst issued at time 0. -/
def copied (d : DwDesc) : State := updChan .head 63 (fun c => { c with bursts := [{ k := 0, offset := 0, len := 256, at_ := 0 }] }) (copying d)

/-- An open management session. -/
def openSession (n : Nat) : State := { up with head.po.sessions := upd up.head.po.sessions n (fun x => { x with isOpen := true }) }

/-- A command forwarded to the last Tile of chain 31 at time 0. -/
def fwdEntry : Outst := { src := .queue 15, tag := 7, opcode := 0x0A01, chain := 31, position := 16, legs := [{ chain := 31, position := 16, sentAt := some 0 }] }

/-- A reply that waits for FWD_ACK. -/
def fwdWaiting : FwdWait :=
  { id := 0xFFFFFFFF, sentAt := 0, cmd := { hc [] with tag := 1 }, opcode := 0x0504, reply := { opcode := 0x0504, tag := 1, status := 0 } }

/-- A surface of 16 by 16 pixels, and a Tile's report. -/
def surf : Surface := { format := 1, layout := 0, width := 16, height := 16, pitch := 256, base := 0, hdrBase := 0 }

def report7 : TileReport :=
  { n := 7, noTick := false, mismatch := false, notLocked := false, limited := false, accepted := 0, rejected := 0, missing := 0
    divergence := 0, claimDrops := 0, tFlip := 0, q := 0 }

/-- The endpoint answers the host. -/
def answers : State := { up with now := 900000000 }

/-- PERST# holds the endpoint in reset. -/
def silent : State := { up with head.sys.perst := true, head.sys.perstFree := none }

/-- The hypotheses of CellarCommandsComplete can be met, those of each clause. -/
theorem test_met_CellarCommandsComplete :
    (∃ (c : Cmd) (s : State), Accepts specClGetInfo c s) ∧
    (∃ (c : Cmd) (s : State), Accepts specClSetFreq c s) ∧
    (∃ (c : Cmd) (s : State), Accepts specClTrain c s) ∧
    (∃ (c : Cmd) (s : State), Accepts specClSelfRefresh c s) ∧
    (∃ (c : Cmd) (s : State), Accepts specClGetErrors c s) ∧
    (∃ (c : Cmd) (s : State), Accepts specClSetScrub c s) ∧
    (∃ (c : Cmd) (s : State), Accepts specClInjectError c s) :=
  ⟨⟨hc (zeros 0), up, by decide +kernel⟩,
    ⟨hc [0, 1, 0, 0], ((fun s => { s with head.cl.usable := 1 }) up), by decide +kernel⟩,
    ⟨hc [0, 0, 1, 0], ((fun s => { s with head.cl.usable := 1 }) up), by decide +kernel⟩,
    ⟨hc [3, 1, 0, 0], up, by decide +kernel⟩,
    ⟨hc [1, 1, 0, 0], up, by decide +kernel⟩,
    ⟨hc [24, 0, 255, 255], up, by decide +kernel⟩,
    ⟨hc [0xF8, 0xFF, 0xFF, 0xFF, 9, 0, 0, 0, 2, 0, 0, 0], up, by decide +kernel⟩⟩

/-- The hypotheses of CellarEventsComplete can be met, those of each clause. -/
theorem test_met_CellarEventsComplete :
    (∃ (r : CellarReq) (s : State), inService .head s = true ∧ cellarReqWf r = true ∧ r.write = none ∧ isServed r.addr r.len s = true) ∧
    (∃ (r : CellarReq) (d : List Byte) (s : State), inService .head s = true ∧ cellarReqWf r = true ∧ r.write = some d ∧ isServed r.addr d.length (applyUpsets r.upsets s) = true) ∧
    (∃ (r : CellarReq) (s : State), inService .head s = true ∧ cellarReqWf r = false) ∧
    (∃ (r : CellarReq) (s : State), inService .head s = true ∧ cellarReqWf r = true ∧ r.write = none ∧ isServed r.addr r.len s = false) ∧
    (∃ (r : CellarReq) (d : List Byte) (s : State), inService .head s = true ∧ cellarReqWf r = true ∧ r.write = some d ∧ isServed r.addr d.length (applyUpsets r.upsets s) = false) ∧
    (∃ (a : Nat) (s : State), inService .head s = true ∧ s.head.cl.writeBack.contains (wordOf a) = true ∧ isServed (wordOf a) 8 s = true) ∧
    (∃ (a : Nat) (s : State), inService .head s = true ∧ s.head.cl.writeBack.contains (wordOf a) = false) ∧
    (∃ (w : Nat) (s : State), inService .head s = true ∧ s.head.cl.scrubEn = true ∧ s.head.cl.scrubHours ≠ 0 ∧ isServed s.head.cl.scrubPtr (min (8 * w) (0xC00000000 - s.head.cl.scrubPtr)) s = true) ∧
    (∃ (k : Nat) (t : Int) (s : State), inService .head s = true ∧ -640 ≤ t ∧ t ≤ 2400) ∧
    (∃ (o : ClOp) (s : State), inService .head s = true ∧ s.head.cl.op = some o ∧ o.running = true ∧ o.train = true ∧ o.cmd.isSome = true ∧ o.back = none) ∧
    (∃ (o : ClOp) (pc : Nat) (s : State), inService .head s = true ∧ s.head.cl.op = some o ∧ o.running = true ∧ o.cmd.isSome = true ∧ o.back = none) ∧
    (∃ (o : ClOp) (n : Nat) (s : State), inService .head s = true ∧ s.head.cl.op = some o ∧ o.running = false ∧ o.train = false) ∧
    (∃ (k : Nat) (s : State), inService .head s = true ∧ s.head.cl.autoSr = true ∧ ¬ ticksRun s ∧ (stackAt k s).state = .active ∧ (stackAt k s).lastReq + 1000 * s.head.cl.idleUs.toNat ≤ s.now) ∧
    (∃ (k : Nat) (s : State), inService .head s = true ∧ (stackAt k s).state = .srEntering ∧ ((stackAt k s).auto = false ∨ isIdleStack k s = true)) ∧
    (∃ (k : Nat) (s : State), inService .head s = true ∧ (stackAt k s).state = .srEntering ∧ (stackAt k s).auto = true ∧ isIdleStack k s = false) ∧
    (∃ (k : Nat) (s : State), inService .head s = true ∧ (stackAt k s).state = .selfRefresh ∧ (stackAt k s).enteredAt + 2000 ≤ s.now ∧ ((stackAt k s).exitCmd = true ∨ ¬ (stackAt k s).queue.isEmpty)) ∧
    (∃ (k : Nat) (s : State), inService .head s = true ∧ (stackAt k s).state = .srExiting) ∧
    (∃ (a : Bar2) (s : State), inService .head s = true ∧ configAnswer s = .normal ∧ (match a.write with | some d => d.length | none => a.len) + a.offset ≤ 0xA00000000 ∧ a.offset < 0xA00000000) ∧
    (∃ (a : Bar2) (s : State), inService .head s = true ∧ configAnswer s = .normal ∧ 0xA00000000 ≤ a.offset) :=
  ⟨⟨{ cls := 1, req := .foyer, addr := 0x9FFFFFFF8, write := none, len := 8 }, up, by decide +kernel⟩,
    ⟨{ cls := 1, req := .foyer, addr := 0x9FFFFFFF8, write := some (zeros 8), len := 8 }, zeros 8, up, by decide +kernel⟩,
    ⟨{ cls := 5, req := .foyer, addr := 0, write := none, len := 8 }, up, by decide +kernel⟩,
    ⟨{ cls := 1, req := .foyer, addr := 0, write := none, len := 8 }, updStack 0 (fun k => { k with state := .selfRefresh }) up, by decide +kernel⟩,
    ⟨{ cls := 1, req := .foyer, addr := 0, write := some (zeros 8), len := 8 }, zeros 8, updStack 0 (fun k => { k with state := .selfRefresh }) up, by decide +kernel⟩,
    ⟨8, setFlips 8 [0] { up with head.cl.writeBack := [8] }, by decide +kernel⟩,
    ⟨8, up, by decide +kernel⟩,
    ⟨1, { up with head.cl.scrubEn := true, head.cl.scrubHours := 24 }, by decide +kernel⟩,
    ⟨1, 2400, up, by decide +kernel⟩,
    ⟨{ cmd := some (hc []), train := true, point := 0, running := true }, { up with head.cl.op := some { cmd := some (hc []), train := true, point := 0, running := true } }, by decide +kernel⟩,
    ⟨{ cmd := some (hc []), train := true, point := 3, running := true }, 63, { up with head.cl.op := some { cmd := some (hc []), train := true, point := 3, running := true } }, by decide +kernel⟩,
    ⟨{ cmd := none, train := false, point := 3, running := false }, 10000, { up with head.cl.op := some { cmd := none, train := false, point := 3, running := false } }, by decide +kernel⟩,
    ⟨1, { up with head.cl.autoSr := true, head.cl.idleUs := 1, now := 1000 }, by decide +kernel⟩,
    ⟨1, updStack 1 (fun k => { k with state := .srEntering }) up, by decide +kernel⟩,
    ⟨1, updStack 1 (fun k => { k with state := .srEntering, auto := true }) up, by decide +kernel⟩,
    ⟨0, updStack 0 (fun k => { k with state := .selfRefresh, exitCmd := true }) { up with now := 2000 }, by decide +kernel⟩,
    ⟨0, updStack 0 (fun k => { k with state := .srExiting }) up, by decide +kernel⟩,
    ⟨{ offset := 0x9FFFFFFFC, write := none, len := 4 }, { up with now := 900000000 }, by decide +kernel⟩,
    ⟨{ offset := 0xA00000000, write := none, len := 4 }, { up with now := 900000000 }, by decide +kernel⟩⟩

/-- The hypotheses of ParlourCommandsComplete can be met, those of each clause. -/
theorem test_met_ParlourCommandsComplete :
    (∃ (c : Cmd) (s : State), Accepts specPlSetCanvas c s) ∧
    (∃ (c : Cmd) (s : State), Accepts specPlSetTile c s) ∧
    (∃ (c : Cmd) (s : State), Accepts specPlGetTile c s) ∧
    (∃ (c : Cmd) (s : State), Accepts specPlCommit c s) ∧
    (∃ (c : Cmd) (s : State), Accepts specPlGetLayer c s) ∧
    (∃ (c : Cmd) (s : State), Accepts specPlFenceSignal c s) ∧
    (∃ (c : Cmd) (s : State), Accepts specPlFenceGet c s) ∧
    (∃ (c : Cmd) (s : State), Accepts specPlLeaseGuard c s) ∧
    (∃ (c : Cmd) (s : State), Accepts specPlSetPowerGroup c s) ∧
    (∃ (c : Cmd) (s : State), Accepts specPlGetPower c s) ∧
    (∃ (c : Cmd) (s : State), Accepts specPlRefresh c s) ∧
    (∃ (c : Cmd) (s : State), Accepts specPlPaneRead c s) :=
  ⟨⟨hc ((leBytes 4 65536 ++ leBytes 4 16384 ++ zeros 8)), up, by decide +kernel⟩,
    ⟨hc [31, 16, 3, 0, 0, 0, 0, 0, 0xE0, 31, 63, 0], up, by decide +kernel⟩,
    ⟨hc [31, 16, 0, 0], up, by decide +kernel⟩,
    ⟨hc ([1] ++ zeros 71), up, by decide +kernel⟩,
    ⟨hc [31, 1, 0, 0], up, by decide +kernel⟩,
    ⟨hc [255, 0, 0, 0, 255, 255, 255, 255], up, by decide +kernel⟩,
    ⟨hc [255, 0, 0, 0], up, by decide +kernel⟩,
    ⟨hc [1, 0, 1, 0], ((fun s => { s with head.fy.surfaces := [(1, surf)] }) up), by decide +kernel⟩,
    ⟨hc ([63, 1, 0, 0, 0, 0] ++ leBytes 2 4800 ++ zeros 8), up, by decide +kernel⟩,
    ⟨hc [63, 0, 0, 0], up, by decide +kernel⟩,
    ⟨hc [0xFF, 0xFF, 0, 0], up, by decide +kernel⟩,
    ⟨hc [31, 16, 134, 3, 2, 1, 0, 0], up, by decide +kernel⟩⟩

/-- The hypotheses of ParlourEventsComplete can be met, those of each clause. -/
theorem test_met_ParlourEventsComplete :
    (∃ (id : Word) (w : Waiting) (s : State), inService .head s = true ∧ s.head.pl.waiting.find? (fun w => w.id == id) = some w ∧ limitPassed w (wall s.head.mt) s = true) ∧
    (∃ (k : PaneKey) (n : Nat) (r : FrameRec) (w : Nat) (s : State), inService .head s = true ∧ s.head.pl.openFrame ≠ some n ∧ recOf n s = some r ∧ passesLeft s = false ∧ nextContent r s = some k ∧ versionFor k r.n s = some w) ∧
    (∃ (k : PaneKey) (n : Nat) (r : FrameRec) (w : Nat) (s : State), inService .head s = true ∧ s.head.pl.openFrame ≠ some n ∧ recOf n s = some r ∧ nextPass r s = some k ∧ versionFor k r.n s = some w) ∧
    (∃ (a b : Nat) (s : State), inService .head s = true) ∧
    (∃ (q : Nat) (r : Retire) (s : State), inService .head s = true ∧ s.head.pl.retires.find? (fun x => x.src == .queue q) = some r ∧ takesRetire (.queue q) s = true ∧ rqFits (queueAt q s) (slotsFor 20) = true) ∧
    (∃ (src : Source) (c : Cmd) (s : State), HeadAccepts { specPlRetire with role := fun _ _ => none } c s) :=
  ⟨⟨0xFFFFFFFF, { cmd := hc [], id := 0xFFFFFFFF, seq := 0, entries := [], limit := 4, rel := false }, { ticking 4 66666668 with head.pl.waiting := [{ cmd := hc [], id := 0xFFFFFFFF, seq := 0, entries := [], limit := 4, rel := false }] }, by decide +kernel⟩,
    ⟨pk, 5, { rec5 with todo := [pk] }, 0, { up with head.pl.frames := [{ rec5 with todo := [pk] }] }, by decide +kernel⟩,
    ⟨pk, 5, { rec5 with passes := [pk] }, 0, { up with head.pl.frames := [{ rec5 with passes := [pk] }] }, by decide +kernel⟩,
    ⟨0, 31, up, by decide +kernel⟩,
    ⟨15, { src := .queue 15, surface := 4095, layer := 31, id := 7, lastFn := 6, time := 0 }, { updQueue 15 (fun k => { k with en := true }) up with head.pl.retires := [{ src := .queue 15, surface := 4095, layer := 31, id := 7, lastFn := 6, time := 0 }] }, by decide +kernel⟩,
    ⟨.queue 0, hc [], up, by decide +kernel⟩⟩

/-- The hypotheses of PixelCommandsComplete can be met, those of each clause. -/
theorem test_met_PixelCommandsComplete :
    (∃ (c : Cmd) (s : State), Accepts specPlSetCoef c s) ∧
    (∃ (c : Cmd) (s : State), Accepts specPlSetTone c s) ∧
    (∃ (c : Cmd) (s : State), Accepts specPlSetPixset c s) ∧
    (∃ (c : Cmd) (s : State), Accepts specPlPpApply c s) ∧
    (∃ (c : Cmd) (s : State), Accepts specPlGetPixset c s) ∧
    (∃ (c : Cmd) (s : State), Accepts specPlSetSlotmap c s) ∧
    (∃ (c : Cmd) (s : State), Accepts specPlSigSet c s) ∧
    (∃ (c : Cmd) (s : State), Accepts specPlSigExpect c s) ∧
    (∃ (c : Cmd) (s : State), Accepts specPlSigRead c s) :=
  ⟨⟨hc ([31, 0, 3, 0] ++ (List.replicate 64 (leBytes 2 1024 ++ zeros 14)).flatten), up, by decide +kernel⟩,
    ⟨hc ([15, 2, 1, 0] ++ zeros 2048), up, by decide +kernel⟩,
    ⟨hc ([15, 0, 0, 0] ++ leBytes 4 0x100000 ++ zeros 40), up, by decide +kernel⟩,
    ⟨hc [1, 0, 0, 0, 0, 0, 0, 0], up, by decide +kernel⟩,
    ⟨hc [15, 1, 0, 0], up, by decide +kernel⟩,
    ⟨hc (zeros 32), up, by decide +kernel⟩,
    ⟨hc ([15, 0, 2, 0] ++ zeros 8 ++ leBytes 4 65536 ++ leBytes 4 16384), up, by decide +kernel⟩,
    ⟨hc [15, 0, 0, 0, 0, 0, 0, 0], up, by decide +kernel⟩,
    ⟨hc [15, 0, 0, 0], up, by decide +kernel⟩⟩

/-- The hypotheses of GraedCommandsComplete can be met, those of each clause. -/
theorem test_met_GraedCommandsComplete :
    (∃ (c : Cmd) (s : State), Accepts specGlGetPort c s) ∧
    (∃ (c : Cmd) (s : State), Accepts specGlSetPort c s) ∧
    (∃ (c : Cmd) (s : State), Accepts specGlRetrain c s) ∧
    (∃ (c : Cmd) (s : State), Accepts specGlTest c s) ∧
    (∃ (c : Cmd) (s : State), Accepts specGlClearCounters c s) :=
  ⟨⟨hc [32, 0, 0, 0], up, by decide +kernel⟩,
    ⟨hc [32, 3, 2, 15, 7, 200, 200, 0], up, by decide +kernel⟩,
    ⟨hc [32, 1, 0, 0], ((fun s => updPort .head 32 (fun g => { g with state := .active }) s) up), by decide +kernel⟩,
    ⟨hc ([31, 1, 2, 0] ++ leBytes 4 60000), up, by decide +kernel⟩,
    ⟨hc [0xFF, 0, 0, 0], up, by decide +kernel⟩⟩

/-- The hypotheses of GraedBringUpEventsComplete can be met, those of each clause. -/
theorem test_met_GraedBringUpEventsComplete :
    (∃ (p : Part) (k b e : Nat) (x : Nat × GlTest) (s : State), inService p s = true ∧ (glWaitOf p s).tests.find? (fun e => e.1 == k && e.2.ends ≤ s.now) = some x) ∧
    (∃ (p : Part) (k : Nat) (s : State), inService p s = true ∧ (portAt p k s).state = .active) ∧
    (∃ (p : Part) (k : Nat) (s : State), inService p s = true ∧ (portAt p k s).state = .disabled ∧ k < portCount p s) ∧
    (∃ (p : Part) (k : Nat) (s : State), inService p s = true ∧ k < portCount p s ∧ (portAt p k s).state ≠ .disabled) ∧
    (∃ (p : Part) (k : Nat) (f : TrainFrame) (s : State), inService p s = true ∧ (portAt p k s).state = .detect ∧ f.check = frameCheck f ∧ f.detected = true ∧ f.lane < (portAt p k s).lanes.length ∧ ((portAt p k s).lanes.getD f.lane {}).detFrames = 7) ∧
    (∃ (p : Part) (k : Nat) (s : State), inService p s = true ∧ (portAt p k (expireRetrains p s)).state = .train ∧ (portAt p k (expireRetrains p s)).since + 4000000 ≤ (expireRetrains p s).now ∧ (portAt p k (expireRetrains p s)).fails + 1 < 3 ∧ ((laneList (portAt p k (expireRetrains p s)).laneUse).filter (fun i => ((portAt p k (expireRetrains p s)).lanes.getD i {}).readyHere && ((portAt p k (expireRetrains p s)).lanes.getD i {}).readyPeer)) = []) ∧
    (∃ (p : Part) (k : Nat) (r : List Nat) (s : State), inService p s = true ∧ (portAt p k (expireRetrains p s)).state = .train ∧ (portAt p k (expireRetrains p s)).since + 4000000 ≤ (expireRetrains p s).now ∧ ((laneList (portAt p k (expireRetrains p s)).laneUse).filter (fun i => ((portAt p k (expireRetrains p s)).lanes.getD i {}).readyHere && ((portAt p k (expireRetrains p s)).lanes.getD i {}).readyPeer)) = r ∧ r ≠ []) ∧
    (∃ (p : Part) (k : Nat) (l : List (BitVec 64)) (s : State), inService p s = true ∧ (portAt p k s).state = .lock) ∧
    (∃ (p : Part) (k : Nat) (l : List (BitVec 64)) (s : State), inService p s = true ∧ (portAt p k s).state = .retrain ∧ (portAt p k s).sub = 1) ∧
    (∃ (p : Part) (k : Nat) (s : State), inService p s = true ∧ (portAt p k s).state = .lock ∧ (portAt p k s).since + 1000000 ≤ s.now) ∧
    (∃ (p : Part) (k : Nat) (c : Caps) (s : State), inService p s = true ∧ (portAt p k s).state = .caps ∧ (portAt p k s).lastCaps = none ∧ pairingValid p k c s = true) ∧
    (∃ (p : Part) (k : Nat) (c : Caps) (s : State), inService p s = true ∧ (portAt p k s).state = .caps ∧ (portAt p k s).lastCaps = none ∧ pairingValid p k c s = false) ∧
    (∃ (k : Nat) (c : Caps) (s : State), inService .tile s = true ∧ (portAt .tile k s).state = .caps ∧ (portAt .tile k s).lastCaps = some c ∧ c.acked = true ∧ 8 ≤ (portAt .tile k s).capsSame ∧ 7 ≤ (portAt .tile k s).ackSame ∧ pairingValid .tile k c s = true) ∧
    (∃ (p : Part) (k : Nat) (s : State), inService p s = true ∧ (portAt p k s).state = .caps ∧ (portAt p k s).since + 1000000 ≤ s.now) ∧
    (∃ (p : Part) (k : Nat) (s : State), inService p s = true ∧ (portAt p k s).state = .hold ∧ (portAt p k s).since + (match (portAt p k s).holdCause with | .mismatch => 100000000 | .training => 1000000000 | _ => 10000000000) ≤ s.now) ∧
    (∃ (p : Part) (k l f : Nat) (s : State), inService p s = true ∧ (portAt p k s).fomMin + 16 ≤ f) ∧
    (∃ (p : Part) (k l f : Nat) (s : State), inService p s = true ∧ (portAt p k s).state = .active ∧ (portAt p k s).laneActive.getLsbD l = true ∧ f < (portAt p k s).fomMin + 16 ∧ ((portAt p k s).lanes.getD l {}).fomLowAt = none) :=
  ⟨⟨.head, 3, 1000000, 2, (3, { cmd := hc [], lane := 1, mode := 2, ends := 5 }), { up with now := 5, head.glw.tests := [(3, { cmd := hc [], lane := 1, mode := 2, ends := 5 })] }, by decide +kernel⟩,
    ⟨.head, 32, updPort .head 32 (fun g => { g with state := .active }) up, by decide +kernel⟩,
    ⟨.tile, 1, updPort .tile 1 (fun g => { g with state := .disabled }) up, by decide +kernel⟩,
    ⟨.head, 32, up, by decide +kernel⟩,
    ⟨.head, 32, { phys := 3, lane := 3, detected := true, check := frameCheck { phys := 3, lane := 3, detected := true } }, updPort .head 32 (fun g => { g with state := .detect, lanes := List.replicate 4 { detFrames := 7 } }) up, by decide +kernel⟩,
    ⟨.head, 0, updPort .head 0 (fun g => { g with state := .train }) { up with now := 4000000 }, by decide +kernel⟩,
    ⟨.head, 0, [0], updPort .head 0 (fun g => { g with state := .train, laneUse := 3, lanes := [{ readyHere := true, readyPeer := true }, {}] }) { up with now := 4000000 }, by decide +kernel⟩,
    ⟨.tile, 1, [1, 2], updPort .tile 1 (fun g => { g with state := .lock }) up, by decide +kernel⟩,
    ⟨.tile, 1, [1, 2], updPort .tile 1 (fun g => { g with state := .retrain, sub := 1 }) up, by decide +kernel⟩,
    ⟨.tile, 1, updPort .tile 1 (fun g => { g with state := .lock }) { up with now := 1000000 }, by decide +kernel⟩,
    ⟨.head, 32, { version := 2, isTile := false, headB := true, pair := 0, port := 32, rate := 0, lanes := 3, acked := false }, updPort .head 32 (fun g => { g with state := .caps }) up, by decide +kernel⟩,
    ⟨.head, 32, { version := 0, isTile := true }, updPort .head 32 (fun g => { g with state := .caps }) up, by decide +kernel⟩,
    ⟨1, { version := 1, isTile := true, port := 0, acked := true }, updPort .tile 1 (fun g => { g with state := .caps, capsSame := 8, ackSame := 7, lastCaps := some { version := 1, isTile := true, port := 0, acked := true } }) up, by decide +kernel⟩,
    ⟨.tile, 0, updPort .tile 0 (fun g => { g with state := .caps }) { up with now := 1000000 }, by decide +kernel⟩,
    ⟨.tile, 0, updPort .tile 0 (fun g => { g with state := .hold, holdCause := .mismatch }) { up with now := 100000000 }, by decide +kernel⟩,
    ⟨.head, 32, 3, 255, up, by decide +kernel⟩,
    ⟨.head, 32, 3, 0, updPort .head 32 (fun g => { g with state := .active, laneActive := 0xF }) up, by decide +kernel⟩⟩

/-- The hypotheses of GraedLinkEventsComplete can be met, those of each clause. -/
theorem test_met_GraedLinkEventsComplete :
    (∃ (p : Part) (k c : Nat) (s : State), inService p s = true ∧ (portAt p k s).state = .active ∧ c < 4) ∧
    (∃ (p : Part) (k : Nat) (s : State), inService p s = true ∧ (portAt p k s).state = .retrain ∧ (portAt p k s).since + 2000000 ≤ s.now) ∧
    (∃ (p : Part) (k l c : Nat) (s : State), inService p s = true ∧ (portAt p k s).state = .active ∧ (portAt p k s).laneActive.getLsbD l = true ∧ laneFails s.now c ((portAt p k s).lanes.getD l {}) = true ∧ (portAt p k s).laneActive &&& ~~~(1#4 <<< l) ≠ 0) ∧
    (∃ (p : Part) (k l c : Nat) (s : State), inService p s = true ∧ (portAt p k s).state = .active ∧ (portAt p k s).laneActive.getLsbD l = true ∧ laneFails s.now c ((portAt p k s).lanes.getD l {}) = true ∧ (portAt p k s).laneActive &&& ~~~(1#4 <<< l) = 0) ∧
    (∃ (p : Part) (k : Nat) (m : BitVec 4) (c : Nat) (s : State), inService p s = true ∧ (portAt p k s).state = .active ∧ c < 3 ∧ m ≠ (portAt p k s).laneActive ∧ m ≠ 0) ∧
    (∃ (p : Part) (k l t : Nat) (s : State), inService p s = true ∧ (portAt p k s).state = .active ∧ ((portAt p k s).lanes.getD l {}).outSince = some t ∧ t + 1000000000 ≤ s.now ∧ (portAt p k s).laneActive.getLsbD l = false ∧ addsLane p k s = true) ∧
    (∃ (p : Part) (k : Nat) (q : BitVec 12) (s : State), inService p s = true ∧ (portAt p k s).state = .active) ∧
    (∃ (p : Part) (k : Nat) (q : BitVec 12) (b : Bool) (s : State), inService p s = true ∧ (portAt p k s).state = .active) ∧
    (∃ (p : Part) (k : Nat) (b : Bool) (s : State), inService p s = true ∧ (portAt p k s).state = .active ∧ ¬ (portAt p k s).replayBuf.isEmpty ∧ (portAt p k s).oldestSince + 1000 * (portAt p k s).replayToUs ≤ s.now) ∧
    (∃ (p : Part) (k ca : Nat) (fa : BitVec 16) (cb : Nat) (fb : BitVec 16) (s : State), inService p s = true ∧ (portAt p k s).state = .active) ∧
    (∃ (p : Part) (k za b zb : Nat) (s : State), inService p s = true ∧ (portAt p k s).state = .active ∧ b ≠ 7) :=
  ⟨⟨.head, 32, 3, updPort .head 32 (fun g => { g with state := .active }) up, by decide +kernel⟩,
    ⟨.head, 32, updPort .head 32 (fun g => { g with state := .retrain }) { up with now := 2000000 }, by decide +kernel⟩,
    ⟨.head, 32, 3, 2, updPort .head 32 (fun g => { g with state := .active, laneActive := 0xF, lanes := List.replicate 4 { fomLowSince := some 0 } }) { up with now := 1000000 }, by decide +kernel⟩,
    ⟨.head, 0, 0, 0, updPort .head 0 (fun g => { g with state := .active, laneActive := 1 }) up, by decide +kernel⟩,
    ⟨.head, 32, 3, 2, updPort .head 32 (fun g => { g with state := .active, laneActive := 0xF }) up, by decide +kernel⟩,
    ⟨.head, 0, 1, 0, updPort .head 0 (fun g => { g with state := .active, laneActive := 1, lanes := [{}, { outSince := some 0 }], peer := some { version := 1, isTile := true, port := 1 } }) { up with now := 1000000000 }, by decide +kernel⟩,
    ⟨.tile, 0, 4095, updPort .tile 0 (fun g => { g with state := .active }) up, by decide +kernel⟩,
    ⟨.tile, 0, 4095, true, updPort .tile 0 (fun g => { g with state := .active }) up, by decide +kernel⟩,
    ⟨.tile, 0, false, updPort .tile 0 (fun g => { g with state := .active, replayBuf := [{ cls := 1, typ := 4, len := 2 }] }) { up with now := 200000 }, by decide +kernel⟩,
    ⟨.tile, 0, 5, 65535, 1, 1, updPort .tile 0 (fun g => { g with state := .active }) up, by decide +kernel⟩,
    ⟨.head, 32, 100, 1, 20, updPort .head 32 (fun g => { g with state := .active }) up, by decide +kernel⟩⟩

/-- The hypotheses of GraedBlockEventsComplete can be met, those of each clause. -/
theorem test_met_GraedBlockEventsComplete :
    (∃ (p : Part) (k c : Nat) (s : State), inService p s = true ∧ (portAt p k s).state = .active) ∧
    (∃ (p : Part) (k : Nat) (s : State), inService p s = true ∧ sendsBlocks (portAt p k s) = true) ∧
    (∃ (p : Part) (k : Nat) (s : State), inService p s = true ∧ sendsBlocks (portAt p k s) = true) ∧
    (∃ (p : Part) (k ph l n r c : Nat) (s : State), inService p s = true ∧ sendsBlocks (portAt p k s) = true ∧ l < (portAt p k s).lanes.length ∧ n < 4 ∧ r = (portAt p k s).rate ∧ c < 256) ∧
    (∃ (p : Part) (k : Nat) (s : State), inService p s = true ∧ k < portCount p s) ∧
    (∃ (p : Part) (k : Nat) (b : Bool) (s : State), inService p s = true ∧ (portAt p k s).state = .active) ∧
    (∃ (k : Nat) (x : GPkt) (s : State), inService .tile s = true ∧ k < 2 ∧ (portAt .tile k s).state = .active ∧ x.seq = (portAt .tile k s).seqExp ∧ packetBad x = false ∧ forThisTile x s = false) ∧
    (∃ (p : Part) (k : Nat) (e : BlockErr) (s : State), inService p s = true ∧ blockFails e = true ∧ e.inPacket = true ∧ e.timeMsg = false ∧ (portAt p k s).state = .active) ∧
    (∃ (p : Part) (k : Nat) (e : BlockErr) (s : State), inService p s = true ∧ blockFails e = false) ∧
    (∃ (p : Part) (k : Nat) (e : BlockErr) (s : State), inService p s = true ∧ blockFails e = true ∧ (e.inPacket = false ∨ e.timeMsg = true)) :=
  ⟨⟨.head, 32, 5, updPort .head 32 (fun g => { g with state := .active }) up, by decide +kernel⟩,
    ⟨.tile, 1, updPort .tile 1 (fun g => { g with state := .active, laneActive := 3 }) up, by decide +kernel⟩,
    ⟨.tile, 1, updPort .tile 1 (fun g => { g with state := .active, laneActive := 3 }) up, by decide +kernel⟩,
    ⟨.head, 32, 0, 3, 3, 2, 255, updPort .head 32 (fun g => { g with state := .active, laneActive := 15 }) up, by decide +kernel⟩,
    ⟨.head, 32, up, by decide +kernel⟩,
    ⟨.tile, 1, true, updPort .tile 1 (fun g => { g with state := .active }) (updPort .tile 0 (fun g => { g with state := .active }) up), by decide +kernel⟩,
    ⟨1, { cls := 1, typ := 3, len := 4, position := 2 }, updPort .tile 1 (fun g => { g with state := .active }) up, by decide +kernel⟩,
    ⟨.tile, 1, { inPacket := true }, updPort .tile 1 (fun g => { g with state := .active }) up, by decide +kernel⟩,
    ⟨.tile, 1, { inPacket := true, header := 1 }, up, by decide +kernel⟩,
    ⟨.tile, 1, { inPacket := true, timeMsg := true }, up, by decide +kernel⟩⟩

/-- The hypotheses of LandingLarderCommandsComplete can be met, those of each clause. -/
theorem test_met_LandingLarderCommandsComplete :
    (∃ (c : Cmd) (s : State), Accepts specLdGetStatus c s) ∧
    (∃ (c : Cmd) (s : State), Accepts specLdSetLimits c s) ∧
    (∃ (c : Cmd) (s : State), Accepts specLdRead c s) ∧
    (∃ (c : Cmd) (s : State), Accepts specLrWrite c s) ∧
    (∃ (c : Cmd) (s : State), Accepts specLrRead c s) ∧
    (∃ (c : Cmd) (s : State), TileAccepts specLrReload c s ∧ isReloading c s = false) ∧
    (∃ (c : Cmd) (s : State), inService .tile s = true ∧ c.part = .tile ∧ isReloading c s = true) ∧
    (∃ (c : Cmd) (s : State), Accepts specLrSetDrift c s) :=
  ⟨⟨tc (zeros 0), up, by decide +kernel⟩,
    ⟨tc ((leBytes 2 28000 ++ leBytes 2 4000 ++ leBytes 2 200 ++ leBytes 2 4000)), up, by decide +kernel⟩,
    ⟨tc ([3, 134, 1, 0] ++ leBytes 2 959 ++ leBytes 2 1), up, by decide +kernel⟩,
    ⟨tc ((leBytes 4 129599 ++ leBytes 2 1 ++ [1, 0] ++ zeros 16)), up, by decide +kernel⟩,
    ⟨tc ((leBytes 4 129599 ++ leBytes 2 1 ++ [0, 0])), up, by decide +kernel⟩,
    ⟨tc [], up, by decide +kernel⟩,
    ⟨tc [], { up with tile.lr.reload := [tc []] }, by decide +kernel⟩,
    ⟨tc ([1, 0] ++ zeros 10), up, by decide +kernel⟩⟩

/-- The hypotheses of LandingEventsComplete can be met, those of each clause. -/
theorem test_met_LandingEventsComplete :
    (∃ (r : TileReport) (s : State), inService .tile s = true ∧ s.tile.ld.report = some r) ∧
    (∃ (k : Nat) (m : TickMsg) (s : State), inService .head s = true ∧ m.headB ≠ s.head.sys.roleB) ∧
    (∃ (k : Nat) (m : TickMsg) (s : State), inService .head s = true ∧ m.headB = s.head.sys.roleB) ∧
    (∃ (k : Nat) (m : TickMsg) (s : State), inService .tile s = true ∧ noFrames s = false ∧ tileView s < tickFrame m s ∧ ownFlip (tickFrame m s).toNat s = some m.tFlip) ∧
    (∃ (k : Nat) (x : PanePkt) (s : State), inService .tile s = true ∧ forThisTile x.pkt s = true ∧ x.pkt.typ = 1 ∧ (portAt .tile k s).state = .active ∧ x.pkt.seq = (portAt .tile k s).seqExp ∧ packetBad x.pkt = false) ∧
    (∃ (i v : Nat) (s : State), inService .tile s = true ∧ s.tile.lr.bad.contains i = true ∧ goldenLarder i s = some v) ∧
    (∃ (i : Nat) (b : Bool) (s : State), inService .tile s = true ∧ s.tile.lr.bad.contains i = true ∧ (b = false ∨ goldenLarder i s = none)) ∧
    (∃ (w : Nat) (l : List (Nat × Nat × Nat)) (s : State), inService .tile s = true) :=
  ⟨⟨report7, { up with tile.ld.report := some report7 }, by decide +kernel⟩,
    ⟨0, { fn := 3, slots := 4, headB := true, tFlip := 0 }, up, by decide +kernel⟩,
    ⟨0, { fn := 3, slots := 4, tFlip := 0 }, up, by decide +kernel⟩,
    ⟨1, { fn := 5, slots := 1, tFlip := 83333335 }, updPort .tile 0 (fun g => { g with state := .active }) (ticking 4 70000000), by decide +kernel⟩,
    ⟨0, { pkt := { cls := 2, typ := 1, len := 824, position := 1 } }, updPort .tile 0 (fun g => { g with state := .active }) up, by decide +kernel⟩,
    ⟨7, 0, { up with tile.lr.bad := [7], tile.at_.nv := { up.tile.at_.nv with store := [{ region := 1, key := keyLarder, payload := zeros 128 }] } }, by decide +kernel⟩,
    ⟨129599, false, { up with tile.lr.bad := [129599] }, by decide +kernel⟩,
    ⟨2, [(0, 1, 5)], up, by decide +kernel⟩⟩

/-- The hypotheses of ChimneyCommandsComplete can be met, those of each clause. -/
theorem test_met_ChimneyCommandsComplete :
    (∃ (c : Cmd) (s : State), Accepts specChGetStatus c s) ∧
    (∃ (c : Cmd) (s : State), Accepts specChSetLimits c s) ∧
    (∃ (c : Cmd) (s : State), Accepts specChSetVfCal c s) ∧
    (∃ (c : Cmd) (s : State), Accepts specChGetField c s) ∧
    (∃ (c : Cmd) (s : State), Accepts specChGetTrim c s) ∧
    (∃ (c : Cmd) (s : State), Accepts specChTrimCtl c s) :=
  ⟨⟨hc (zeros 0), up, by decide +kernel⟩,
    ⟨tc ((leBytes 2 28000 ++ leBytes 2 1920)), up, by decide +kernel⟩,
    ⟨tc ([2, 0] ++ leBytes 2 3000 ++ leBytes 2 (65536 - 6000) ++ [100, 0] ++ leBytes 2 1500 ++ [0, 0]), up, by decide +kernel⟩,
    ⟨tc ((leBytes 2 539 ++ leBytes 2 1)), up, by decide +kernel⟩,
    ⟨hc ([1, 0] ++ leBytes 2 131 ++ leBytes 2 1), up, by decide +kernel⟩,
    ⟨hc [6, 0, 0, 0], up, by decide +kernel⟩⟩

/-- The hypotheses of ChimneyEventsComplete can be met, those of each clause. -/
theorem test_met_ChimneyEventsComplete :
    (∃ (p : Part) (l : List (Option Int)) (s : State), inService p s = true ∧ aonRuns p s = true ∧ (chOf p s).convAt + 1000000 ≤ s.now ∧ inService p (updCh p (fun c => { convert p l c with convAt := s.now }) s) = true) ∧
    (∃ (s : State), inService .tile s = true ∧ s.tile.ch.sweepDone = true ∧ s.tile.ch.sinkEn = false ∧ s.tile.ch.refErr = [0, 0, 0, 0]) ∧
    (∃ (s : State), inService .tile s = true ∧ s.tile.ch.sweepDone = true ∧ s.tile.ch.sinkEn = true ∧ s.tile.ch.refErr = [0, 0, 0, 0]) ∧
    (∃ (p : Part) (k l : Nat) (a b : Int) (s : State), inService p s = true ∧ (chOf p s).termEn = true ∧ l < (portAt p k s).lanes.length ∧ 4 ≤ a ∧ a ≤ 27 ∧ 4 ≤ b ∧ b ≤ 27 ∧ freeToTrim p k (updCh p (setTerm { termOf (chOf p s) k l with wantP := a.toNat, wantN := b.toNat }) s) = true) ∧
    (∃ (p : Part) (s : State), inService p s = true ∧ (chOf p s).savedAt + 600000000000 ≤ s.now ∧ (chOf p s).saveDue = true) :=
  ⟨⟨.tile, [some 1000, none], { up with now := 1000000 }, by decide +kernel⟩,
    ⟨{ up with tile.ch.sweepDone := true, tile.ch.sinkEn := false, tile.ch.refErr := [0, 0, 0, 0] }, by decide +kernel⟩,
    ⟨{ up with tile.ch.sweepDone := true, tile.ch.sinkEn := true, tile.ch.refErr := [0, 0, 0, 0] }, by decide +kernel⟩,
    ⟨.head, 32, 3, 4, 27, updPort .head 32 (fun g => { g with state := .disabled }) (updCh .head (fun c => { c with termEn := true }) up), by decide +kernel⟩,
    ⟨.head, updCh .head (fun c => { c with saveDue := true }) { up with now := 600000000000 }, by decide +kernel⟩⟩

/-- The hypotheses of PanePushCommandsComplete can be met, those of each clause. -/
theorem test_met_PanePushCommandsComplete :
    (∃ (c : Cmd) (s : State), Accepts specPpSetStatusRing c s) ∧
    (∃ (c : Cmd) (s : State), Accepts specPpGetFrameStatus c s) ∧
    (∃ (c : Cmd) (s : State), Accepts specPpSetChain c s) ∧
    (∃ (c : Cmd) (s : State), Accepts specPpGetChain c s) ∧
    (∃ (c : Cmd) (s : State), Accepts specPpBlackout c s) :=
  ⟨⟨hc ((leBytes 8 0x9FFC00000 ++ [16, 0, 0, 0] ++ leBytes 2 2000 ++ [0, 0])), up, by decide +kernel⟩,
    ⟨hc [1, 0, 0, 0], up, by decide +kernel⟩,
    ⟨hc [31, 96, 2, 0], up, by decide +kernel⟩,
    ⟨hc [31, 0, 0, 0], up, by decide +kernel⟩,
    ⟨hc [1, 0, 0, 0], up, by decide +kernel⟩⟩

/-- The hypotheses of PanePushEventsComplete can be met, those of each clause. -/
theorem test_met_PanePushEventsComplete :
    (∃ (k : PaneKey) (r : FrameRec) (d : Nat) (v : Ver) (s : State), inService .head s = true ∧ openRec s = some r ∧ (pushList r s).contains k = true ∧ isReady r k s = true ∧ panePath k r s = some d ∧ pushVersion r k s = some v ∧ portTakes r k false d s = true ∧ isFirstReady r k d (fun _ => false) s = true ∧ bufOf d k r.n s = none) ∧
    (∃ (k : PaneKey) (r : FrameRec) (d : Nat) (v : Ver) (b : List Byte) (s : State), inService .head s = true ∧ openRec s = some r ∧ (pushList r s).contains k = true ∧ isReady r k s = true ∧ panePath k r s = some d ∧ pushVersion r k s = some v ∧ portTakes r k false d s = true ∧ isFirstReady r k d (fun _ => false) s = true ∧ bufOf d k r.n s = some b) ∧
    (∃ (k : PaneKey) (r : FrameRec) (d : Nat) (v : Ver) (s : State), inService .head s = true ∧ openRec s = some r ∧ (pushList r s).contains k = true ∧ isReady r k s = true ∧ panePath k r s = some d ∧ pushVersion r k s = some v ∧ portTakes r k false d s = false ∧ bufOf d k r.n s = none ∧ bufRoom (chainAt d s) = true ∧ isFirstReady r k d (fun x => (bufOf d x r.n s).isSome) s = true) ∧
    (∃ (k : PaneKey) (r : FrameRec) (d : Nat) (v : Ver) (s : State), inService .head s = true ∧ s.head.pl.frames.find? (fun r => (r.want.contains k && !r.isClosed) || r.serve.contains k) = some r ∧ panePath k r s = some d ∧ (if r.want.contains k = true ∧ ¬ r.isClosed = true then pushVersion r k s else shownVer k s) = some v ∧ portTakes r k true d s = true) ∧
    (∃ (a : PaneAck) (x : Trans) (r : FrameRec) (s : State), inService .head s = true ∧ a.originB = s.head.sys.roleB ∧ s.head.pp.trans.find? (fun y => transKey y == a.key && y.fn == a.fn) = some x ∧ recByFn a.fn (updPp (fun p => { p with trans := p.trans.erase x }) s) = some r) ∧
    (∃ (k : PaneKey) (x : Trans) (r : FrameRec) (s : State), inService .head s = true ∧ s.head.pp.trans.find? (fun t => transKey t == k && decide (t.sentAt + 50000 ≤ s.now)) = some x ∧ recByFn x.fn (updPp (fun p => { p with trans := p.trans.erase x }) s) = some r) ∧
    (∃ (k : PaneKey) (x : Trans) (r : FrameRec) (s : State), inService .head s = true ∧ s.head.pp.trans.find? (fun t => transKey t == k && t.lost) = some x ∧ recByFn x.fn (updPp (fun p => { p with trans := p.trans.erase x }) s) = some r) ∧
    (∃ (k : PaneKey) (fn : Word) (r : FrameRec) (s : State), inService .head s = true ∧ recByFn fn s = some r ∧ s.head.mt.lastN = some r.n ∧ (getKey r.served k).getD 0 < 2 ∧ (shownVer k s).isSome = true) ∧
    (∃ (k : PaneKey) (fn : Word) (r : FrameRec) (s : State), inService .head s = true ∧ recByFn fn s = some r ∧ (s.head.mt.lastN ≠ some r.n ∨ 2 ≤ (getKey r.served k).getD 0 ∨ shownVer k s = none)) ∧
    (∃ (k : PaneKey) (fn : Word) (s : State), inService .head s = true ∧ recByFn fn s = none) ∧
    (∃ (m : FrameReport) (r : FrameRec) (s : State), inService .head s = true ∧ recByFn m.fn s = some r ∧ r.written = false ∧ r.reports.contains (m.chain, m.position) = false) ∧
    (∃ (n : Nat) (r : FrameRec) (s : State), inService .head s = true ∧ recOf n s = some r ∧ r.written = false ∧ r.flipped = true ∧ (noReports r s).isEmpty = true) ∧
    (∃ (c x : Nat) (s : State), inService .head s = true ∧ (chainAt c s).goodSince = some x ∧ x + 1000000000 ≤ s.now) ∧
    (∃ (s : State), inService .head s = true ∧ blackoutState s.head.pp ≠ s.head.pp.blackout) ∧
    (∃ (s : State), inService .head s = true ∧ s.head.pp.blackoutSent + 100000 ≤ s.now) :=
  ⟨⟨pk, rec5Open, 0, { key := pk, w := 0, n := 5, state := 2, shown := true }, pushing rec5Open, by decide +kernel⟩,
    ⟨pk, rec5Open, 0, { key := pk, w := 0, n := 5, state := 2, shown := true }, [1], updChain 0 (fun c => { c with buf := [(pk, 5, [1])] }) (pushing rec5Open), by decide +kernel⟩,
    ⟨pk, rec5Open, 0, { key := pk, w := 0, n := 5, state := 2, shown := true }, updPort .head 0 (fun g => { g with credShared := 0 }) (pushing rec5Open), by decide +kernel⟩,
    ⟨pk, { rec5Open with want := [pk] }, 0, { key := pk, w := 0, n := 5, state := 2, shown := true }, pushing { rec5Open with want := [pk] }, by decide +kernel⟩,
    ⟨{ port := 0, key := pk, fn := 5, originB := false, status := 0 }, trans5, rec5, { pushing rec5 with head.pp.trans := [trans5] }, by decide +kernel⟩,
    ⟨pk, trans5, rec5, { pushing rec5 with now := 50000, head.pp.trans := [trans5] }, by decide +kernel⟩,
    ⟨pk, { trans5 with lost := true }, rec5, { pushing rec5 with head.pp.trans := [{ trans5 with lost := true }] }, by decide +kernel⟩,
    ⟨pk, 5, rec5, pushing rec5, by decide +kernel⟩,
    ⟨pk, 5, { rec5 with served := [(pk, 2)] }, pushing { rec5 with served := [(pk, 2)] }, by decide +kernel⟩,
    ⟨{ chain := 0, position := 1, pane := 0 }, 5, up, by decide +kernel⟩,
    ⟨{ chain := 0, position := 1, fn := 5, accepted := 540, rejected := 0, missing := 0 }, rec5, { up with head.pl.frames := [rec5] }, by decide +kernel⟩,
    ⟨5, { rec5 with flipped := true }, pushing { rec5 with flipped := true }, by decide +kernel⟩,
    ⟨31, 0, updChain 31 (fun q => { q with goodSince := some 0 }) { up with now := 1000000000 }, by decide +kernel⟩,
    ⟨{ up with head.pp.swBlackout := true }, by decide +kernel⟩,
    ⟨{ up with now := 100000 }, by decide +kernel⟩⟩

/-- The hypotheses of LampCommandsComplete can be met, those of each clause. -/
theorem test_met_LampCommandsComplete :
    (∃ (c : Cmd) (s : State), Accepts specLpGetStatus c s) ∧
    (∃ (c : Cmd) (s : State), Accepts specLpSetCurrent c s) ∧
    (∃ (c : Cmd) (s : State), Accepts specLpSetTrim c s) ∧
    (∃ (c : Cmd) (s : State), Accepts specLpGetTrim c s) ∧
    (∃ (c : Cmd) (s : State), Accepts specLpFade c s) ∧
    (∃ (c : Cmd) (s : State), Accepts specLpSetWaveform c s) ∧
    (∃ (c : Cmd) (s : State), Accepts specLpSetScan c s) ∧
    (∃ (c : Cmd) (s : State), Accepts specLpGetDead c s) ∧
    (∃ (c : Cmd) (s : State), Accepts specLpClearDead c s) ∧
    (∃ (c : Cmd) (s : State), Accepts specLpSetDetect c s) :=
  ⟨⟨tc (zeros 0), up, by decide +kernel⟩,
    ⟨tc [15, 0, 0, 0, 255, 255, 255, 0], up, by decide +kernel⟩,
    ⟨tc ((leBytes 2 5759 ++ leBytes 2 1 ++ [1, 0, 0, 0, 0xE0])), up, by decide +kernel⟩,
    ⟨tc ((leBytes 2 5759 ++ leBytes 2 1 ++ [1, 0, 0, 0])), up, by decide +kernel⟩,
    ⟨tc ((leBytes 2 4095 ++ leBytes 2 60000 ++ zeros 4)), up, by decide +kernel⟩,
    ⟨tc [3, 118, 100, 0, 0, 0, 0, 0], up, by decide +kernel⟩,
    ⟨tc [15, 0, 0, 0], up, by decide +kernel⟩,
    ⟨tc (zeros 4), up, by decide +kernel⟩,
    ⟨tc (zeros 0), up, by decide +kernel⟩,
    ⟨tc (zeros 8), up, by decide +kernel⟩⟩

/-- The hypotheses of LampEventsComplete can be met, those of each clause. -/
theorem test_met_LampEventsComplete :
    (∃ (n j : Nat) (x : TickPar) (s : State), inService .tile s = true ∧ tilePar n s = some x ∧ refreshDue n j s = true) ∧
    (∃ (n j : Nat) (s : State), inService .tile s = true ∧ refreshDue n j s = false) ∧
    (∃ (n j : Nat) (o : RowObs) (x : TickPar) (s : State), inService .tile s = true ∧ tilePar n s = some x ∧ rowDue n j 0 s = true) ∧
    (∃ (n j q : Nat) (o : RowObs) (x : TickPar) (s : State), inService .tile s = true ∧ tilePar n s = some x ∧ rowDue n j (q + 1) s = true ∧ q < 67) ∧
    (∃ (n j : Nat) (o : RowObs) (x : TickPar) (s : State), inService .tile s = true ∧ tilePar n s = some x ∧ rowDue n j 68 s = true) ∧
    (∃ (k : Nat) (a : Bool) (s : State), inService .tile s = true) ∧
    (∃ (k : Nat) (a : Bool) (s : State), inService .tile s = true) ∧
    (∃ (s : State), inService .tile s = true ∧ s.tile.lp.headB.active = true ∧ s.tile.lp.headB.at_ + 1000000 ≤ s.now) ∧
    (∃ (s : State), inService .tile s = true ∧ s.tile.lp.headA.active = true ∧ s.tile.lp.headA.at_ + 1000000 ≤ s.now) ∧
    (∃ (v : Word) (s : State), inService .tile s = true) ∧
    (∃ (a : Bool) (s : State), aonRuns .head s = true ∧ s.head.pp.pinBlackout ≠ a ∧ (s.head.pp.chatter = true ∨ (noteChange s.head.pp.changes s.now).length ≤ 1000)) ∧
    (∃ (a : Bool) (s : State), aonRuns .tile s = true ∧ s.tile.lp.pin ≠ a ∧ (noteChange s.tile.lp.changes s.now).length ≤ 1000) ∧
    (∃ (s : State), aonRuns .head s = true ∧ s.head.pp.chatter = true ∧ s.head.pp.pinBlackout = false ∧ s.head.pp.chatterAt + chatterTime .head s ≤ s.now) ∧
    (∃ (s : State), aonRuns .tile s = true ∧ s.tile.lp.chatter = true ∧ s.tile.lp.pin = false ∧ s.tile.lp.inactiveSince + chatterTime .tile s ≤ s.now) ∧
    (∃ (x : Nat) (s : State), inService .tile s = true ∧ (noteDetect s).tile.lp.okSince = some x ∧ x + 10000000 ≤ (noteDetect s).now) :=
  ⟨⟨4, 0, tp, ticking 4 90000000, by decide +kernel⟩,
    ⟨9, 0, ticking 4 90000000, by decide +kernel⟩,
    ⟨4, 63, {}, tp, { ticking 4 90000000 with tile.time.refSeen := true, tile.time.refN := 4, tile.time.refJ := 63 }, by decide +kernel⟩,
    ⟨4, 63, 66, {}, tp, { ticking 4 90000000 with tile.time.refSeen := true, tile.time.refN := 4, tile.time.refJ := 63 }, by decide +kernel⟩,
    ⟨4, 63, {}, tp, { ticking 4 90000000 with tile.time.refSeen := true, tile.time.refN := 4, tile.time.refJ := 63 }, by decide +kernel⟩,
    ⟨0, true, updPort .tile 1 (fun g => { g with state := .active }) up, by decide +kernel⟩,
    ⟨0, true, updPort .tile 1 (fun g => { g with state := .disabled }) up, by decide +kernel⟩,
    ⟨{ up with now := 1000000, tile.lp.headB := { active := true, at_ := 0 } }, by decide +kernel⟩,
    ⟨{ up with now := 1000000, tile.lp.headA := { active := true, at_ := 0 } }, by decide +kernel⟩,
    ⟨0xFFFFFFFF, up, by decide +kernel⟩,
    ⟨true, up, by decide +kernel⟩,
    ⟨true, up, by decide +kernel⟩,
    ⟨{ up with now := 50000000, head.pp.chatter := true }, by decide +kernel⟩,
    ⟨{ up with now := 50000000, tile.lp.chatter := true }, by decide +kernel⟩,
    ⟨0, { ticking 4 90000000 with now := 10000000, tile.lp.okSince := some 0, tile.ht.rails := up.tile.ht.rails.map (fun r => { r with state := .run }) }, by decide +kernel⟩⟩

/-- The hypotheses of DumbwaiterCommandsComplete can be met, those of each clause. -/
theorem test_met_DumbwaiterCommandsComplete :
    (∃ (c : Cmd) (s : State), Accepts specDwSetTable c s) ∧
    (∃ (host : Option (List Byte)) (c : Cmd) (s : State), Accepts (specDwChannelStart host) c s) ∧
    (∃ (c : Cmd) (s : State), Accepts specDwChannelStop c s) ∧
    (∃ (c : Cmd) (s : State), Accepts specDwChannelAbort c s) ∧
    (∃ (host : Option (List Byte)) (c : Cmd) (s : State), Accepts (specDwChannelReload host) c s) ∧
    (∃ (c : Cmd) (s : State), Accepts specDwGetChannel c s) :=
  ⟨⟨hc ((zeros 8 ++ [0, 0, 0, 0])), up, by decide +kernel⟩,
    ⟨some (zeros 64), hc [63, 1, 0, 0], up, by decide +kernel⟩,
    ⟨hc [63, 0, 0, 0], up, by decide +kernel⟩,
    ⟨hc [63, 0, 0, 0], up, by decide +kernel⟩,
    ⟨some (zeros 64), hc [63, 0, 0, 0], ((fun s => updChan .head 63 (fun c => { c with state := .running }) s) up), by decide +kernel⟩,
    ⟨hc [63, 0, 0, 0], up, by decide +kernel⟩⟩

/-- The hypotheses of DumbwaiterEventsComplete can be met, those of each clause. -/
theorem test_met_DumbwaiterEventsComplete :
    (∃ (p : Part) (c : Nat) (r : Bool) (h : Option (List Byte)) (s : State), inService p s = true ∧ c < chanCount p ∧ (chanAt p c s).state ≠ .running) ∧
    (∃ (p : Part) (c : Nat) (s : State), inService p s = true ∧ c < chanCount p ∧ (chanAt p c s).state = .running) ∧
    (∃ (p : Part) (c : Nat) (s : State), inService p s = true ∧ c < chanCount p ∧ (chanAt p c s).state = .running ∧ (chanAt p c s).aborting = false) ∧
    (∃ (p : Part) (c : Nat) (h : Option (List Byte)) (s : State), inService p s = true ∧ c < chanCount p ∧ (chanAt p c s).state = .running) ∧
    (∃ (p : Part) (c : Nat) (v : Word) (s : State), inService p s = true ∧ c < chanCount p ∧ ((chanAt p c s).state ≠ .running ∨ tooFarAhead (chanAt p c s) (chanAt p c s).entry v = false)) ∧
    (∃ (p : Part) (c : Nat) (h : Option (List Byte)) (s : State), inService p s = true ∧ c < chanCount p ∧ mayFetch (chanAt p c s) = true) ∧
    (∃ (p : Part) (c : Nat) (r : DwRun) (s : State), inService p s = true ∧ c < chanCount p ∧ issuing (chanAt p c s) = some r ∧ nextIssuer p s = some c ∧ (asksHost p r = false ∨ porchReady s = false)) ∧
    (∃ (p : Part) (c : Nat) (r : BurstResp) (b : DwBurst) (d : DwDesc) (s : State), inService p s = true ∧ findBurst p c r.offset (fun _ _ => true) s = some (b, d) ∧ (burstSpans p d b).all (fun g => isServed g.1 g.2 s) = true) ∧
    (∃ (p : Part) (c : Nat) (r : BurstResp) (b : DwBurst) (d : DwDesc) (s : State), inService p s = true ∧ findBurst p c r.offset (fun _ _ => true) s = some (b, d) ∧ (burstSpans p d b).all (fun g => isServed g.1 g.2 s) = false) ∧
    (∃ (c o : Nat) (b : DwBurst) (d : DwDesc) (s : State), inService .head s = true ∧ findBurst .head c o (fun b d => d.srcSpace == 0 && b.data.isNone && decide (b.at_ + 50000000 ≤ s.now)) s = some (b, d)) ∧
    (∃ (c o : Nat) (b : DwBurst) (d : DwDesc) (s : State), inService .head s = true ∧ findBurst .head c o (fun b d => (if b.data.isNone then d.srcSpace == 2 else d.dstSpace == 2) && (decide (b.at_ + 1000000 ≤ s.now) || linkLost d s)) s = some (b, d)) ∧
    (∃ (b : BulkPkt) (s : State), inService .tile s = true ∧ (portAt .tile b.port s).state = .active ∧ b.pkt.seq = (portAt .tile b.port s).seqExp ∧ packetBad b.pkt = false ∧ b.pkt.pair = s.tile.sys.pair ∧ b.pkt.chain = s.tile.sys.chain ∧ b.pkt.position = s.tile.sys.position ∧ b.pkt.bcast = false ∧ b.pkt.typ = 9 ∧ bits (fld b.pkt.payload 0 7) 6 4 = 0 ∧ 1 ≤ bits (fld b.pkt.payload 7 7) 42 32 ∧ bits (fld b.pkt.payload 7 7) 42 32 ≤ 1536) :=
  ⟨⟨.tile, 7, true, none, up, by decide +kernel⟩,
    ⟨.head, 63, updChan .head 63 (fun c => { c with state := .running }) up, by decide +kernel⟩,
    ⟨.head, 63, updChan .head 63 (fun c => { c with state := .running }) up, by decide +kernel⟩,
    ⟨.head, 63, none, updChan .head 63 (fun c => { c with state := .running }) up, by decide +kernel⟩,
    ⟨.head, 63, 0xFFFFFFFF, up, by decide +kernel⟩,
    ⟨.head, 63, none, updChan .head 63 (fun c => { c with state := .running, tail := 1 }) up, by decide +kernel⟩,
    ⟨.head, 63, { k := 0, desc := desc0, left := 4096 }, copying desc0, by decide +kernel⟩,
    ⟨.head, 63, { offset := 0 }, { k := 0, offset := 0, len := 256, at_ := 0 }, desc0, copied desc0, by decide +kernel⟩,
    ⟨.head, 63, { offset := 0 }, { k := 0, offset := 0, len := 256, at_ := 0 }, desc0, updStack 0 (fun k => { k with state := .selfRefresh }) (copied desc0), by decide +kernel⟩,
    ⟨63, 0, { k := 0, offset := 0, len := 256, at_ := 0 }, { desc0 with srcSpace := 0 }, copied { desc0 with srcSpace := 0 }, by decide +kernel⟩,
    ⟨63, 0, { k := 0, offset := 0, len := 256, at_ := 0 }, { desc0 with srcSpace := 2 }, copied { desc0 with srcSpace := 2 }, by decide +kernel⟩,
    ⟨{ port := 1, pkt := { cls := 4, typ := 9, len := 222, position := 1, payload := [0, 0, 0, 0, 0, 0, 0, 0, 0, 0, 0x20, 0, 6, 0] } }, updPort .tile 1 (fun g => { g with state := .active }) up, by decide +kernel⟩⟩

/-- The hypotheses of HearthCommandsComplete can be met, those of each clause. -/
theorem test_met_HearthCommandsComplete :
    (∃ (c : Cmd) (s : State), Accepts specHtGetStatus c s) ∧
    (∃ (c : Cmd) (s : State), Accepts specHtSetRail c s) ∧
    (∃ (c : Cmd) (s : State), Accepts specHtSetCoef c s) ∧
    (∃ (c : Cmd) (s : State), Accepts specHtSwapBank c s) ∧
    (∃ (c : Cmd) (s : State), Accepts specHtClearFault c s) ∧
    (∃ (c : Cmd) (s : State), Accepts specHtGetCoef c s) ∧
    (∃ (c : Cmd) (s : State), Accepts specHtSetLead c s) :=
  ⟨⟨tc (zeros 0), up, by decide +kernel⟩,
    ⟨tc ([2, 1, 0, 0] ++ leBytes 2 4200 ++ leBytes 2 50), up, by decide +kernel⟩,
    ⟨tc ([1, 3, 0, 0] ++ zeros 12 ++ leBytes 4 2000 ++ leBytes 4 65546), up, by decide +kernel⟩,
    ⟨tc [1, 0, 0, 0], up, by decide +kernel⟩,
    ⟨tc [7, 0, 0, 0], up, by decide +kernel⟩,
    ⟨tc [1, 3, 0, 0], up, by decide +kernel⟩,
    ⟨tc ((leBytes 2 1000 ++ [0, 0])), up, by decide +kernel⟩⟩

/-- The hypotheses of HearthEventsComplete can be met, those of each clause. -/
theorem test_met_HearthEventsComplete :
    (∃ (n j r : Nat) (s : State), inService .tile s = true ∧ hearthDue n j r s = true ∧ r ≠ 0 ∧ s.tile.lp.dark = false) ∧
    (∃ (n j r : Nat) (s : State), inService .tile s = true ∧ hearthDue n j r s = true ∧ r ≠ 0 ∧ s.tile.lp.dark = false) ∧
    (∃ (n j r : Nat) (b : Bool) (s : State), inService .tile s = true ∧ hearthDue n j r s = true ∧ (r = 0 ∨ s.tile.lp.dark = true)) ∧
    (∃ (v : Word) (s : State), inService .tile s = true) ∧
    (∃ (n : Nat) (v : Word) (s : State), inService .tile s = true ∧ n < 3) ∧
    (∃ (v : Word) (s : State), inService .tile s = true) ∧
    (∃ (m : HearthMeas) (s : State), inService .tile s = true ∧ s.tile.ht.sampleAt < s.tile.mt.cnt.toNat / 50) ∧
    (∃ (s : State), inService .tile s = true ∧ s.tile.ht.stepAt < s.tile.mt.cnt.toNat / 1000) ∧
    (∃ (n f : Nat) (s : State), inService .tile s = true ∧ n < 4 ∧ f < railPhases n ∧ isOn (railAt n s) = true ∧ ((railAt n s).ocTimes.filter (fun t => s.now ≤ t + 1000000)).length + 1 < 64) ∧
    (∃ (n : Nat) (v : Int) (s : State), inService .tile s = true ∧ n < 4 ∧ isOn (railAt n s) = true ∧ overThreshold n (railAt n s) < v) ∧
    (∃ (n : Nat) (s : State), inService .tile s = true ∧ n < 4 ∧ (railAt n s).state = .softStart ∧ (railAt n s).vSet * 1000 + 1000000 * (railAt n s).ssRate ≤ (s.now - (railAt n s).since) * (railAt n s).ssRate) ∧
    (∃ (n : Nat) (v : Int) (s : State), inService .tile s = true ∧ n < 3 ∧ (railAt n s).state = .retryWait ∧ (railAt n s).since + 1000000 * s.tile.ht.retryMs ≤ s.now ∧ s.tile.ht.inputLow = false) ∧
    (∃ (v : Int) (s : State), inService .tile s = true ∧ s.tile.ht.inputLow = false ∧ v < 4300) ∧
    (∃ (v : Int) (s : State), inService .tile s = true ∧ s.tile.ht.inputLow = true ∧ 4500 ≤ v) ∧
    (∃ (x : Nat) (s : State), inService .tile s = true ∧ s.tile.ht.runSince = some x ∧ x + 1000000 ≤ s.now) :=
  ⟨⟨4, 0, 68, ticking 4 90000000, by decide +kernel⟩,
    ⟨4, 0, 68, ticking 4 90000000, by decide +kernel⟩,
    ⟨4, 0, 0, false, ticking 4 90000000, by decide +kernel⟩,
    ⟨0xFFFFFFFF, up, by decide +kernel⟩,
    ⟨2, 0xFFFFFFFF, up, by decide +kernel⟩,
    ⟨0, up, by decide +kernel⟩,
    ⟨{ v := [0, 0, 0, 0], i := [], vin := 5000 }, { up with tile.mt.cnt := 50 }, by decide +kernel⟩,
    ⟨{ up with tile.mt.cnt := 1000 }, by decide +kernel⟩,
    ⟨3, 1, updRail 3 (fun r => { r with state := .run }) up, by decide +kernel⟩,
    ⟨3, 901, updRail 3 (fun r => { r with state := .run }) up, by decide +kernel⟩,
    ⟨0, updRail 0 (fun r => { r with state := .softStart, vSet := 0, ssRate := 1 }) { up with now := 1000000 }, by decide +kernel⟩,
    ⟨2, 0, updRail 2 (fun r => { r with state := .retryWait }) { up with now := 1000000, tile.ht.retryMs := 1 }, by decide +kernel⟩,
    ⟨4299, up, by decide +kernel⟩,
    ⟨4500, { up with tile.ht.inputLow := true }, by decide +kernel⟩,
    ⟨0, { up with now := 1000000, tile.ht.runSince := some 0 }, by decide +kernel⟩⟩

/-- The hypotheses of MantelCommandsComplete can be met, those of each clause. -/
theorem test_met_MantelCommandsComplete :
    (∃ (c : Cmd) (s : State), Accepts specMtGetTime c s) ∧
    (∃ (c : Cmd) (s : State), Accepts specMtSetTick c s) ∧
    (∃ (c : Cmd) (s : State), Accepts specMtGetTick c s) ∧
    (∃ (c : Cmd) (s : State), Accepts specMtStepTime c s) ∧
    (∃ (c : Cmd) (s : State), Accepts specMtSetTod c s) ∧
    (∃ (c : Cmd) (s : State), Accepts specMtSetPtp c s) ∧
    (∃ (c : Cmd) (s : State), Accepts specMtGetPtp c s) ∧
    (∃ (c : Cmd) (s : State), Accepts specMtSetChainTime c s) :=
  ⟨⟨hc (zeros 0), up, by decide +kernel⟩,
    ⟨hc (tickBytes 0 tp true 0), up, by decide +kernel⟩,
    ⟨hc (zeros 0), up, by decide +kernel⟩,
    ⟨hc (zeros 8), ((fun s => { s with head.mt.manual := true }) up), by decide +kernel⟩,
    ⟨hc (zeros 6), ((fun s => { s with head.time.cfg.role := 3 }) up), by decide +kernel⟩,
    ⟨hc ([0, 0, 2, 0, 127, 255, 255, 32, 3, 1, 5, 10] ++ leBytes 4 1000000000 ++ leBytes 4 10), up, by decide +kernel⟩,
    ⟨hc (zeros 0), up, by decide +kernel⟩,
    ⟨hc (leBytes 4 60000), up, by decide +kernel⟩⟩

/-- The hypotheses of MantelRegisterEventsComplete can be met, those of each clause. -/
theorem test_met_MantelRegisterEventsComplete :
    (∃ (p : Part) (s : State), inService p s = true) ∧
    (∃ (p : Part) (v : Word) (s : State), inService p s = true ∧ (mtOf p s).manual = true) ∧
    (∃ (p : Part) (s : State), inService p s = true) ∧
    (∃ (p : Part) (s : State), inService p s = true) ∧
    (∃ (p : Part) (u : Nat) (v : Word) (s : State), inService p s = true ∧ u < (mtOf p s).trigs.length) ∧
    (∃ (p : Part) (u : Nat) (hi : Bool) (v : Word) (s : State), inService p s = true ∧ u < (mtOf p s).trigs.length) ∧
    (∃ (p : Part) (u : Nat) (s : State), inService p s = true ∧ u < (mtOf p s).trigs.length ∧ ((mtOf p s).trigs.getD u {}).arm = true ∧ trigTarget ((mtOf p s).trigs.getD u {}) ≤ wallOf p s ∧ generatorDue p s = false ∧ (List.range u).any (fun v => trigDue p v s) = false) :=
  ⟨⟨.tile, up, by decide +kernel⟩,
    ⟨.head, 0x80000000, { up with head.mt.manual := true }, by decide +kernel⟩,
    ⟨.tile, up, by decide +kernel⟩,
    ⟨.head, up, by decide +kernel⟩,
    ⟨.head, 15, 0xFFFFFFFF, up, by decide +kernel⟩,
    ⟨.tile, 3, true, 0xFFFFFFFF, up, by decide +kernel⟩,
    ⟨.head, 15, { up with head.mt.trigs := List.replicate 15 {} ++ [{ arm := true }] }, by decide +kernel⟩⟩

/-- The hypotheses of MantelTimeEventsComplete can be met, those of each clause. -/
theorem test_met_MantelTimeEventsComplete :
    (∃ (k : Nat) (m : PtpMsg) (x : Int) (s : State), inService .head s = true ∧ m.domain = s.head.time.cfg.domain ∧ m.transport = s.head.time.cfg.transport ∧ s.head.time.cfg.portMask.getLsbD k = true ∧ ptpPortOff k s = false ∧ m.kind = .announce ∧ s.head.time.cfg.role ≠ 3) ∧
    (∃ (k : Nat) (m : PtpMsg) (x : Int) (s : State), inService .head s = true ∧ m.domain = s.head.time.cfg.domain ∧ m.transport = s.head.time.cfg.transport ∧ s.head.time.cfg.portMask.getLsbD k = true ∧ ptpPortOff k s = false ∧ m.kind = .sync ∧ m.twoStep = false ∧ fromMaster k m s = true ∧ s.head.mt.tsEn = true) ∧
    (∃ (k : Nat) (x : Int) (s : State), inService .head s = true ∧ s.head.time.cfg.portMask.getLsbD k = true ∧ ptpPortOff k s = false ∧ s.head.time.cfg.role = 1 ∧ ¬ (s.head.time.masterNow = true ∧ s.head.time.masterPort = k) ∧ s.head.mt.tsEn = true) ∧
    (∃ (s : State), inService .head s = true ∧ s.head.time.cfg.role = 3) ∧
    (∃ (s : State), inService .head s = true ∧ s.head.time.cfg.role ≠ 3) ∧
    (∃ (k : Nat) (s : State), inService .head s = true ∧ s.head.time.masterNow = true ∧ s.head.time.masterPort = k ∧ s.head.time.lastAnnounce + s.head.time.cfg.announceTimeout * logInterval s.head.time.cfg.logAnnounce ≤ wall s.head.mt) ∧
    (∃ (s : State), inService .head s = true ∧ s.head.mt.srcPort = 7 ∧ s.head.time.ppsLast + 2000000000 ≤ wall s.head.mt) ∧
    (∃ (p : Part) (k : Nat) (s : State), inService p s = true ∧ (portAt p k s).state = .active ∧ (portAt p k s).cred.getD 0 0 ≠ 0 ∧ (match (timePort p k s).lastSent with | some n => decide (n + 16000 ≤ s.now) | none => true) = true) ∧
    (∃ (k : Nat) (m : TimeMsg) (a : BitVec 40) (s : State), inService .tile s = true) ∧
    (∃ (m : TimeMsg) (a : BitVec 40) (s : State), inService .head s = true) ∧
    (∃ (k : Nat) (m : TimeMsg) (a : BitVec 40) (s : State), inService .head s = true ∧ k ≠ 32) ∧
    (∃ (k : Nat) (s : State), inService .tile s = true ∧ timeValid s.now (timePort .tile k s) = false) ∧
    (∃ (s : State), inService .head s = true ∧ timeValid s.now (timePort .head 32 s) = false ∧ (updTimePort .head 32 (fun x => { x with validSince := none }) s).head.mt.srcPort = 6) ∧
    (∃ (s : State), inService .tile s = true ∧ s.tile.mt.srcPort = 1 ∧ validSecond 0 s = true) ∧
    (∃ (s : State), inService .tile s = true ∧ s.tile.mt.servo = .holdover ∧ s.tile.mt.holdSince + 1000000 * s.tile.time.holdLimitMs ≤ wall s.tile.mt) ∧
    (∃ (x : Nat) (s : State), inService .head s = true ∧ s.head.time.twinOverSince = some x ∧ s.head.time.twinAlarm = false ∧ x + 1000000000 ≤ s.now) ∧
    (∃ (s : State), inService .head s = true ∧ s.head.time.twinOverSince = none ∧ s.head.time.twinAlarm = true) :=
  ⟨⟨5, { kind := .announce, transport := 0, domain := 127, clockIdentity := 1, portNumber := 1, seqId := 0 }, 0, { up with head.time.cfg.portMask := 63, head.time.cfg.domain := 127, head.time.cfg.transport := 0, head.time.cfg.role := 0 }, by decide +kernel⟩,
    ⟨4, { kind := .sync, transport := 0, domain := 127, clockIdentity := 1, portNumber := 1, seqId := 0 }, 0, { up with head.time.cfg.portMask := 63, head.time.cfg.domain := 127, head.time.cfg.transport := 0, head.mt.tsEn := true, head.time.masterNow := true, head.time.masterPort := 4, head.time.master := some { kind := .sync, transport := 0, domain := 127, clockIdentity := 1, portNumber := 1, seqId := 0 } }, by decide +kernel⟩,
    ⟨5, 0, { up with head.time.cfg.portMask := 63, head.time.cfg.role := 1, head.mt.tsEn := true }, by decide +kernel⟩,
    ⟨{ up with head.time.cfg.role := 3 }, by decide +kernel⟩,
    ⟨{ up with head.time.cfg.role := 2 }, by decide +kernel⟩,
    ⟨2, { up with head.time.masterNow := true, head.time.masterPort := 2, head.mt.srcPort := 2, head.mt.cnt := 0xFFFFFFFFFF }, by decide +kernel⟩,
    ⟨{ up with head.time.cfg.role := 3, head.mt.srcPort := 7, head.mt.cnt := 2000000000 }, by decide +kernel⟩,
    ⟨.tile, 1, updPort .tile 1 (fun g => { g with state := .active, cred := [1] }) up, by decide +kernel⟩,
    ⟨1, { seq := 255, tDep := 0, echoSeq := 7, tEchoArr := 0, state := 2, hops := 15, path := true, sec := none }, 0, up, by decide +kernel⟩,
    ⟨{ seq := 255, tDep := 0, echoSeq := 7, tEchoArr := 0, state := 2, hops := 15, path := true, sec := none }, 0, updTimePort .head 32 (fun x => { x with sent := [(7, 0)] }) up, by decide +kernel⟩,
    ⟨0, { seq := 255, tDep := 0, echoSeq := 7, tEchoArr := 0, state := 2, hops := 15, path := true, sec := none }, 0, up, by decide +kernel⟩,
    ⟨1, up, by decide +kernel⟩,
    ⟨{ up with head.mt.srcPort := 6 }, by decide +kernel⟩,
    ⟨updTimePort .tile 0 (fun x => { x with validSince := some 0, lastAt := 1000000000, last := some { seq := 0, tDep := 0, echoSeq := 0, tEchoArr := 0, state := 2, hops := 1, path := true, sec := none } }) { up with now := 1000000000, tile.mt.srcPort := 1 }, by decide +kernel⟩,
    ⟨{ up with tile.mt.servo := .holdover, tile.mt.cnt := 60000000000 }, by decide +kernel⟩,
    ⟨0, { up with now := 1000000000, head.time.twinOverSince := some 0 }, by decide +kernel⟩,
    ⟨{ up with head.time.twinAlarm := true }, by decide +kernel⟩⟩

/-- The hypotheses of AudioComplete can be met, those of each clause. -/
theorem test_met_AudioComplete :
    (∃ (c : Cmd) (s : State), Accepts specAuSetPort c s) ∧
    (∃ (c : Cmd) (s : State), Accepts specAuSetGroup c s) ∧
    (∃ (c : Cmd) (s : State), Accepts specAuSetSlots c s) ∧
    (∃ (c : Cmd) (s : State), Accepts specAuGetStatus c s) ∧
    (∃ (c : Cmd) (s : State), Accepts specAuGetStreamStats c s) ∧
    (∃ (g : Nat) (s : State), inService .head s = true ∧ g < 8 ∧ audioDue g s = true) ∧
    (∃ (p : Nat) (v : Word) (s : State), inService .head s = true) ∧
    (∃ (p n : Nat) (s : State), inService .head s = true ∧ p < 8 ∧ audioDue (auPort p s).group s = false ∧ isSending (auPort p s) = true ∧ (auPort p s).sentN = none ∧ n = tdmFrameAt (auGroup (auPort p s).group s).rate (wall s.head.mt)) ∧
    (∃ (p n m : Nat) (s : State), inService .head s = true ∧ p < 8 ∧ audioDue (auPort p s).group s = false ∧ isSending (auPort p s) = true ∧ (auPort p s).sentN = some m ∧ m < n ∧ n = tdmFrameAt (auGroup (auPort p s).group s).rate (wall s.head.mt)) ∧
    (∃ (p n : Nat) (s : State), inService .head s = true ∧ p < 8 ∧ audioDue (auPort p s).group s = true) ∧
    (∃ (s : State), inService .head s = true ∧ s.head.au.pllLock = true) ∧
    (∃ (s : State), inService .head s = true ∧ s.head.au.pllLock = false) :=
  ⟨⟨hc ([7, 7, 32, 0, 1, 1, 0, 0] ++ zeros 8 ++ leBytes 4 65536), up, by decide +kernel⟩,
    ⟨hc ([7, 1, 1, 63] ++ leBytes 2 4096 ++ [0, 0] ++ leBytes 4 1000000000), up, by decide +kernel⟩,
    ⟨hc (zeros 72), up, by decide +kernel⟩,
    ⟨hc [7, 0, 0, 0], up, by decide +kernel⟩,
    ⟨hc [0x87, 1, 0, 0], up, by decide +kernel⟩,
    ⟨7, updAuPort 7 (fun p => { p with en := true, group := 7 }) up, by decide +kernel⟩,
    ⟨7, 0xFFFFFFFF, up, by decide +kernel⟩,
    ⟨7, 0, updAuGroup 7 (fun q => { q with fired := some 0 }) (updAuPort 7 (fun p => { p with en := true, held := false }) up), by decide +kernel⟩,
    ⟨7, 48, 47, updAuGroup 7 (fun q => { q with fired := some 1 }) (updAuPort 7 (fun p => { p with en := true, held := false, sentN := some 47 }) { up with head.mt.cnt := 1000000 }), by decide +kernel⟩,
    ⟨7, 48, updAuPort 7 (fun p => { p with en := true, group := 7 }) up, by decide +kernel⟩,
    ⟨{ up with head.au.pllLock := true }, by decide +kernel⟩,
    ⟨{ up with head.au.pllLock := false }, by decide +kernel⟩⟩

/-- The hypotheses of FoyerCommandsComplete can be met, those of each clause. -/
theorem test_met_FoyerCommandsComplete :
    (∃ (c : Cmd) (s : State), Accepts specFySetPort c s) ∧
    (∃ (c : Cmd) (s : State), Accepts specFySetSubport c s) ∧
    (∃ (c : Cmd) (s : State), Accepts specFyGetPort c s) ∧
    (∃ (c : Cmd) (s : State), Accepts specFySetVideoStream c s) ∧
    (∃ (c : Cmd) (s : State), Accepts specFySetAudioStream c s) ∧
    (∃ (c : Cmd) (s : State), Accepts specFySetAncStream c s) ∧
    (∃ (c : Cmd) (s : State), Accepts specFyStreamCtl c s) ∧
    (∃ (c : Cmd) (s : State), Accepts specFyGetStreamStats c s) ∧
    (∃ (c : Cmd) (s : State), Accepts specFySurfaceCreate c s) ∧
    (∃ (c : Cmd) (s : State), Accepts specFySurfaceDestroy c s) :=
  ⟨⟨hc [3, 3, 0, 0], up, by decide +kernel⟩,
    ⟨hc ([0, 0] ++ leBytes 2 4094 ++ zeros 24), ((fun s => updFyPort 0 (fun p => { p with mode := 1 }) s) up), by decide +kernel⟩,
    ⟨hc [3], up, by decide +kernel⟩,
    ⟨hc ([63, 2, 12, 1] ++ leBytes 2 8192 ++ leBytes 2 4320 ++ [1, 2, 255, 8, 0xFF, 127] ++ leBytes 2 10000 ++ zeros 36 ++ [0xFF] ++ zeros 43 ++ [3, 2, 1, 0]), ((fun s => updFyPort 0 (fun p => { p with mode := 1 }) s) up), by decide +kernel⟩,
    ⟨hc ([63, 1, 1, 64, 127, 3] ++ leBytes 2 10000 ++ zeros 36 ++ [0xFF] ++ zeros 47), ((fun s => updFyPort 0 (fun p => { p with mode := 1 }) s) up), by decide +kernel⟩,
    ⟨hc ([63, 0xFF, 127, 0] ++ leBytes 2 10000 ++ zeros 38 ++ [0xFF] ++ zeros 47), ((fun s => updFyPort 0 (fun p => { p with mode := 1 }) s) up), by decide +kernel⟩,
    ⟨hc [63, 2, 1, 0], up, by decide +kernel⟩,
    ⟨hc [63, 2, 1, 0], up, by decide +kernel⟩,
    ⟨hc ([1, 0, 0, 0] ++ leBytes 2 16 ++ leBytes 2 16 ++ leBytes 4 256 ++ zeros 16), up, by decide +kernel⟩,
    ⟨hc [1, 0, 0, 0], ((fun s => { s with head.fy.surfaces := [(1, surf)] }) up), by decide +kernel⟩⟩

/-- The hypotheses of FoyerEventsComplete can be met, those of each clause. -/
theorem test_met_FoyerEventsComplete :
    (∃ (k : Nat) (f : EthFrame) (s : State), inService .head s = true ∧ subLink k s = true ∧ (f.fcsOk = false ∨ f.bytes < 64 ∨ 9216 < f.bytes)) ∧
    (∃ (k : Nat) (f : EthFrame) (s : State), inService .head s = true ∧ subLink k s = true ∧ f.fcsOk = true ∧ 64 ≤ f.bytes ∧ f.bytes ≤ 9216 ∧ f.vlan = (if (s.head.fy.subs.getD k {}).vlan = 0 then none else some (s.head.fy.subs.getD k {}).vlan) ∧ f.kind = .arp ∧ (s.head.fy.subs.getD k {}).ipv4 ≠ 0 ∧ firmwareGone s = false) ∧
    (∃ (k : Nat) (f : EthFrame) (a b p : Nat) (s : State), inService .head s = true ∧ subLink k s = true ∧ f.fcsOk = true ∧ 64 ≤ f.bytes ∧ f.bytes ≤ 9216 ∧ f.vlan = (if (s.head.fy.subs.getD k {}).vlan = 0 then none else some (s.head.fy.subs.getD k {}).vlan) ∧ f.kind = .stream a b p ∧ takesPacket a b p s = true ∧ pathSub a p (streamAt a b s) = k) ∧
    (∃ (k p : Nat) (v : VideoPkt) (s : State), inService .head s = true ∧ takesPacket 0 k p s = true) ∧
    (∃ (k : Nat) (r : Word) (f : OpenFrame) (x : Nat) (s : State), inService .head s = true ∧ (videoAt k s).frames.find? (fun f => f.rtp == r) = some f ∧ f.laterAt = some x ∧ x + diffMax 0 (streamAt 0 k s) ≤ wall s.head.mt) ∧
    (∃ (k p : Nat) (a : AudioPkt) (s : State), inService .head s = true ∧ takesPacket 1 k p s = true ∧ a.pt = fld (streamAt 1 k (packetOn 1 k p a.bytes s)).cfg 4 1 ∧ (streamAt 1 k (packetOn 1 k p a.bytes s)).seqs.contains a.seq.toNat = false) ∧
    (∃ (k p : Nat) (a : AncPkt) (s : State), inService .head s = true ∧ takesPacket 2 k p s = true ∧ a.pt = fld (streamAt 2 k (packetOn 2 k p a.bytes s)).cfg 2 1 ∧ (streamAt 2 k (packetOn 2 k p a.bytes s)).seqs.contains a.seq.toNat = false) ∧
    (∃ (k n : Nat) (s : State), inService .head s = true ∧ k < 64 ∧ (streamAt 0 k s).en = true ∧ (videoAt k s).lost = false ∧ ticksRun s = true ∧ s.head.mt.lastN = some n ∧ (videoAt k s).fromTick + fld (streamAt 0 k s).cfg 10 1 ≤ n + 1 ∧ (videoAt k s).bound = none) ∧
    (∃ (a k : Nat) (s : State), inService .head s = true ∧ a < 3 ∧ k < 64 ∧ (streamAt a k s).en = true ∧ hasPath a 0 (streamAt a k s) = true ∧ hasPath a 1 (streamAt a k s) = true ∧ (streamAt a k s).lost1 = false ∧ (streamAt a k s).seen1 = some 0 ∧ 100000000 ≤ wall s.head.mt ∧ (streamAt a k s).seen0 = some (wall s.head.mt)) ∧
    (∃ (a k : Nat) (s : State), inService .head s = true ∧ a < 3 ∧ k < 64 ∧ (streamAt a k s).en = true ∧ hasPath a 0 (streamAt a k s) = true ∧ hasPath a 1 (streamAt a k s) = true ∧ (streamAt a k s).lost0 = false ∧ (streamAt a k s).seen0 = some 0 ∧ 100000000 ≤ wall s.head.mt ∧ (streamAt a k s).seen1 = some (wall s.head.mt)) ∧
    (∃ (k : Nat) (s : State), inService .head s = true ∧ isProvided k s = true ∧ subLink k s = false) ∧
    (∃ (k : Nat) (s : State), inService .head s = true ∧ subLink k s = true) :=
  ⟨⟨15, { bytes := 9217, kind := .other }, updFyPort 3 (fun p => { p with mode := 3, linkUp := 15 }) up, by decide +kernel⟩,
    ⟨0, { bytes := 64, kind := .arp }, { streaming 0 with head.fy.subs := [{ ipv4 := 1 }] }, by decide +kernel⟩,
    ⟨4, { bytes := 1400, kind := .stream 0 63 1 }, 0, 63, 1, streaming 0, by decide +kernel⟩,
    ⟨63, 1, { rtp := 0, seq := 0, pt := 96, rxTime := 0, bytes := 1400 }, streaming 0, by decide +kernel⟩,
    ⟨63, 0xFFFFFFFF, { rtp := 0xFFFFFFFF, buf := none, laterAt := some 0 }, 0, updVideo 63 (fun v => { v with frames := [{ rtp := 0xFFFFFFFF, buf := none, laterAt := some 0 }] }) (streaming 0), by decide +kernel⟩,
    ⟨63, 1, { rtp := 0, seq := 0xFFFF, pt := 0, frames := [], rxTime := 0 }, streaming 1, by decide +kernel⟩,
    ⟨63, 0, { rtp := 0, seq := 0xFFFFFFFF, pt := 0, anc := [], rxTime := 0 }, streaming 2, by decide +kernel⟩,
    ⟨63, 4, updVideo 63 (fun v => { v with fromTick := 3 }) (streaming 0), by decide +kernel⟩,
    ⟨2, 63, updStream 2 63 (fun x => { x with seen1 := some 0, seen0 := some 100000000 }) (streaming 2), by decide +kernel⟩,
    ⟨1, 63, updStream 1 63 (fun x => { x with seen0 := some 0, seen1 := some 100000000 }) (streaming 1), by decide +kernel⟩,
    ⟨12, updFyPort 3 (fun p => { p with mode := 3 }) up, by decide +kernel⟩,
    ⟨15, updFyPort 3 (fun p => { p with mode := 3, linkUp := 15 }) up, by decide +kernel⟩⟩

/-- The hypotheses of PorchCommandsComplete can be met, those of each clause. -/
theorem test_met_PorchCommandsComplete :
    (∃ (c : Cmd) (s : State), Accepts specPoNop c s) ∧
    (∃ (c : Cmd) (s : State), Accepts specPoGetInfo c s) ∧
    (∃ (c : Cmd) (s : State), Accepts specPoEventRead c s) ∧
    (∃ (c : Cmd) (s : State), Accepts specPoEventSubscribe c s) ∧
    (∃ (c : Cmd) (s : State), Accepts specPoAbort c s) ∧
    (∃ (c : Cmd) (s : State), Accepts specPoTileConfig c s) ∧
    (∃ (c : Cmd) (s : State), Accepts specPoRegRead c s) ∧
    (∃ (c : Cmd) (s : State), Accepts specPoRegWrite c s) ∧
    (∃ (c : Cmd) (s : State), Accepts specPoRestart c s) ∧
    (∃ (c : Cmd) (s : State), inService c.part s = true) :=
  ⟨⟨hc (zeros 0), up, by decide +kernel⟩,
    ⟨hc (zeros 0), up, by decide +kernel⟩,
    ⟨hc [0, 0, 0, 0, 127, 0, 4, 0], up, by decide +kernel⟩,
    ⟨hc [255, 0, 0, 0], up, by decide +kernel⟩,
    ⟨hc [1, 0, 0, 0], up, by decide +kernel⟩,
    ⟨tc ([1, 7, 10, 0, 0, 255, 0, 0] ++ tickBytes 0 tp true 0), up, by decide +kernel⟩,
    ⟨hc [0xFC, 0xFF, 0xFF, 0xFF, 1, 0, 0, 0], up, by decide +kernel⟩,
    ⟨hc [0, 0, 0x40, 0, 1, 0, 0, 0, 255, 255, 255, 255], up, by decide +kernel⟩,
    ⟨hc [1, 0, 0, 0], up, by decide +kernel⟩,
    ⟨hc [], up, by decide +kernel⟩⟩

/-- The hypotheses of PorchQueueEventsComplete can be met, those of each clause. -/
theorem test_met_PorchQueueEventsComplete :
    (∃ (q : Nat) (count : Word) (packets : List (List Byte)) (s : State), inService .head s = true ∧ configAnswer s = .normal ∧ q < 16 ∧ (queueAt q s).en = true ∧ (queueAt q s).halted = false ∧ 2 ^ (queueAt q s).cqSize < (count - (queueAt q s).cqHead).toNat) ∧
    (∃ (q : Nat) (count : Word) (packets : List (List Byte)) (s : State), inService .head s = true ∧ configAnswer s = .normal ∧ ((queueAt q s).en = false ∨ (queueAt q s).halted = true ∨ 16 ≤ q)) ∧
    (∃ (q : Nat) (count : Word) (packets : List (List Byte)) (s : State), inService .head s = true ∧ configAnswer s = .normal ∧ q < 16 ∧ (queueAt q s).en = true ∧ (queueAt q s).halted = false ∧ (count - (queueAt q s).cqHead).toNat ≤ 2 ^ (queueAt q s).cqSize ∧ firmwareGone s = true) ∧
    (∃ (q : Nat) (count : Word) (packets : List (List Byte)) (s : State), inService .head s = true ∧ configAnswer s = .normal ∧ q < 16 ∧ (queueAt q s).en = true ∧ (queueAt q s).halted = false ∧ (count - (queueAt q s).cqHead).toNat ≤ 2 ^ (queueAt q s).cqSize ∧ firmwareGone s = false) ∧
    (∃ (q : Nat) (count : Word) (s : State), inService .head s = true ∧ configAnswer s = .normal ∧ (queueAt q s).en = true) ∧
    (∃ (q : Nat) (count : Word) (s : State), inService .head s = true ∧ configAnswer s = .normal ∧ (queueAt q s).en = false) ∧
    (∃ (q : Nat) (n : Word) (l : List (List Byte)) (s : State), inService .head s = true ∧ configAnswer s ≠ .normal) ∧
    (∃ (q : Nat) (n : Word) (s : State), inService .head s = true ∧ configAnswer s ≠ .normal) ∧
    (∃ (q : Nat) (v : Word) (s : State), inService .head s = true ∧ configAnswer s = .normal ∧ q < 16) ∧
    (∃ (q : Nat) (v : Word) (s : State), inService .head s = true ∧ configAnswer s ≠ .normal) ∧
    (∃ (q : Nat) (v : Word) (s : State), inService .head s = true ∧ configAnswer s = .normal ∧ q < 16) ∧
    (∃ (q : Nat) (v : Word) (s : State), inService .head s = true ∧ configAnswer s ≠ .normal) ∧
    (∃ (q : Nat) (r : Reply) (l : List Reply) (s : State), inService .head s = true ∧ (queueAt q s).replies = r :: l ∧ (queueAt q s).en = true ∧ rqFits (queueAt q s) (slotsFor r.params.length) = true) ∧
    (∃ (q : Nat) (r : Reply) (l : List Reply) (s : State), inService .head s = true ∧ (queueAt q s).replies = r :: l ∧ ((queueAt q s).en = false ∨ rqFits (queueAt q s) (slotsFor r.params.length) = false)) ∧
    (∃ (q : Nat) (s : State), inService .head s = true ∧ (queueAt q s).replies = []) ∧
    (∃ (q : Nat) (s : State), inService .head s = true ∧ 0 < (queueAt q s).unsignalled ∧ ((queueAt q s).firstUnsig + 1000 * (queueAt q s).coalUs.toNat ≤ wall s.head.mt ∨ max 1 (queueAt q s).coalCnt.toNat ≤ (queueAt q s).unsignalled) ∧ (queueAt q s).irqEn = true) ∧
    (∃ (q : Nat) (s : State), inService .head s = true ∧ 0 < (queueAt q s).unsignalled ∧ ((queueAt q s).firstUnsig + 1000 * (queueAt q s).coalUs.toNat ≤ wall s.head.mt ∨ max 1 (queueAt q s).coalCnt.toNat ≤ (queueAt q s).unsignalled) ∧ (queueAt q s).irqEn = false) ∧
    (∃ (q : Nat) (s : State), inService .head s = true ∧ ((queueAt q s).unsignalled = 0 ∨ (wall s.head.mt < (queueAt q s).firstUnsig + 1000 * (queueAt q s).coalUs.toNat ∧ (queueAt q s).unsignalled < max 1 (queueAt q s).coalCnt.toNat))) ∧
    (∃ (q : Nat) (s : State), inService .head s = true ∧ (queueAt q s).en = true ∧ (queueAt q s).halted = false ∧ (queueAt q s).unfetched.isEmpty = false ∧ atLimit (.queue q) s = false ∧ firmwareGone s = false) ∧
    (∃ (src : Source) (s : State), inService .head s = true ∧ (match src with | .queue q => (queueAt q s).unfetched = [] ∨ atLimit src s = true ∨ (queueAt q s).en = false ∨ (queueAt q s).halted = true ∨ firmwareGone s = true | _ => True)) ∧
    (∃ (w : RegAccess) (v : Word) (e : BitVec 4) (s : State), inService .head s = true ∧ configAnswer s = .normal ∧ e ≠ 0xF ∧ w.space ≠ .tileLocal) ∧
    (∃ (w : RegAccess) (v : Word) (e : BitVec 4) (s : State), inService .head s = true ∧ (configAnswer s ≠ .normal ∨ e = 0xF ∨ w.space = .tileLocal)) :=
  ⟨⟨15, 0xFFFFFFFF, [], updQueue 15 (fun k => { k with en := true }) answers, by decide +kernel⟩,
    ⟨15, 0xFFFFFFFF, [], answers, by decide +kernel⟩,
    ⟨0, 1, [zeros 64], updQueue 0 (fun k => { k with en := true }) { answers with head.at_.act := some { n := 0, slot := 0, phase := 2 } }, by decide +kernel⟩,
    ⟨0, 1, [zeros 64], updQueue 0 (fun k => { k with en := true }) answers, by decide +kernel⟩,
    ⟨15, 0xFFFFFFFF, updQueue 15 (fun k => { k with en := true }) answers, by decide +kernel⟩,
    ⟨15, 0xFFFFFFFF, answers, by decide +kernel⟩,
    ⟨15, 1, [], silent, by decide +kernel⟩,
    ⟨15, 1, silent, by decide +kernel⟩,
    ⟨15, 0xFFFFFFFF, answers, by decide +kernel⟩,
    ⟨15, 0xFFFFFFFF, silent, by decide +kernel⟩,
    ⟨15, 0xFFFFFFFF, answers, by decide +kernel⟩,
    ⟨15, 0xFFFFFFFF, silent, by decide +kernel⟩,
    ⟨15, { opcode := 0x101, tag := 0xFFFE, status := 0 }, [], updQueue 15 (fun k => { k with en := true, replies := [{ opcode := 0x101, tag := 0xFFFE, status := 0 }] }) up, by decide +kernel⟩,
    ⟨15, { opcode := 0x101, tag := 0xFFFE, status := 0 }, [], updQueue 15 (fun k => { k with replies := [{ opcode := 0x101, tag := 0xFFFE, status := 0 }] }) up, by decide +kernel⟩,
    ⟨15, up, by decide +kernel⟩,
    ⟨0, updQueue 0 (fun k => { k with unsignalled := 1, irqEn := true }) up, by decide +kernel⟩,
    ⟨15, updQueue 15 (fun k => { k with unsignalled := 1 }) up, by decide +kernel⟩,
    ⟨15, up, by decide +kernel⟩,
    ⟨0, updQueue 0 (fun k => { k with en := true, unfetched := [{ arrival := 0, bytes := zeros 64 }] }) up, by decide +kernel⟩,
    ⟨.session 7, up, by decide +kernel⟩,
    ⟨{ space := .bar4, addr := 0xFFFC }, 0xFFFFFFFF, 0, answers, by decide +kernel⟩,
    ⟨{ space := .bar4, addr := 0xFFFC }, 0xFFFFFFFF, 0xF, answers, by decide +kernel⟩⟩

/-- The hypotheses of PorchTransportEventsComplete can be met, those of each clause. -/
theorem test_met_PorchTransportEventsComplete :
    (∃ (r : TileReply) (s : State), inService .head s = true ∧ r.headB = s.head.sys.roleB) ∧
    (∃ (r : TileReply) (s : State), inService .head s = true ∧ r.headB ≠ s.head.sys.roleB) ∧
    (∃ (ch po tag : Nat) (e : Outst) (s : State), inService .head s = true ∧ s.head.po.outst.find? (fun e => e.tag == tag && e.final.isNone && e.legs.any (fun l => atTile ch po l && decide (l.sentAt.getD 0 + 250000000 ≤ wall s.head.mt))) = some e) ∧
    (∃ (ch po tag : Nat) (s : State), inService .head s = true ∧ s.head.po.outst.find? (fun e => e.tag == tag && e.final.isNone && e.legs.any (fun l => atTile ch po l && decide (l.sentAt.getD 0 + 250000000 ≤ wall s.head.mt))) = none) ∧
    (∃ (p : Part) (src : Source) (tag : Nat) (e : Outst) (s : State), inService p s = true ∧ (outstOf p (expireRetrains p s)).find? (fun e => e.src == src && e.tag == tag && e.final.isNone && decide (e.lastReply + (match p with | .head => if e.replied then 1000000000 else 2000000000 | .tile => 200000000) ≤ replyClock p src (expireRetrains p s))) = some e) ∧
    (∃ (p : Part) (src : Source) (tag : Nat) (s : State), inService p s = true ∧ (outstOf p (expireRetrains p s)).find? (fun e => e.src == src && e.tag == tag && e.final.isNone && decide (e.lastReply + (match p with | .head => if e.replied then 1000000000 else 2000000000 | .tile => 200000000) ≤ replyClock p src (expireRetrains p s))) = none) ∧
    (∃ (n : Nat) (b : Bool) (s : State), inService .head s = true ∧ (sessionAt n s).isOpen = true) ∧
    (∃ (n : Nat) (b : Bool) (s : State), inService .head s = true ∧ (sessionAt n s).isOpen = false) ∧
    (∃ (n : Nat) (s : State), inService .head s = true ∧ (sessionAt n s).isOpen = true ∧ (sessionAt n s).last + 600000000000 ≤ wall s.head.mt) ∧
    (∃ (n : Nat) (s : State), inService .head s = true ∧ ((sessionAt n s).isOpen = false ∨ wall s.head.mt < (sessionAt n s).last + 600000000000)) ∧
    (∃ (n l : Nat) (s : State), inService .head s = true ∧ (sessionAt n s).isOpen = true ∧ 4080 < l) ∧
    (∃ (n l : Nat) (s : State), inService .head s = true ∧ ((sessionAt n s).isOpen = false ∨ l ≤ 4080)) ∧
    (∃ (e : EventRec) (s : State), inService .head s = true ∧ ¬ (e.chain = s.tile.sys.chain ∧ e.position = s.tile.sys.position)) ∧
    (∃ (e : EventRec) (s : State), inService .head s = true ∧ e.chain = s.tile.sys.chain ∧ e.position = s.tile.sys.position) ∧
    (∃ (s : State), inService .head s = true) ∧
    (∃ (h : TlsHello) (n : Nat) (s : State), inService .head s = true ∧ firmwareGone s = false ∧ h.port = 4720 ∧ (List.range 8).find? (fun n => !(sessionAt n s).isOpen) = some n ∧ tlsAgrees h = true) ∧
    (∃ (h : TlsHello) (n : Nat) (s : State), inService .head s = true ∧ firmwareGone s = false ∧ h.port = 4720 ∧ (List.range 8).find? (fun n => !(sessionAt n s).isOpen) = some n ∧ tlsAgrees h = false) ∧
    (∃ (h : TlsHello) (s : State), inService .head s = true ∧ (firmwareGone s = true ∨ h.port ≠ 4720)) ∧
    (∃ (h : TlsHello) (s : State), inService .head s = true ∧ firmwareGone s = false ∧ h.port = 4720 ∧ (List.range 8).find? (fun n => !(sessionAt n s).isOpen) = none) :=
  ⟨⟨{ headB := false, reply := { opcode := 0x101, tag := 0, status := 0 } }, { up with head.sys.roleB := false }, by decide +kernel⟩,
    ⟨{ headB := true, reply := { opcode := 0x101, tag := 0, status := 0 } }, { up with head.sys.roleB := false }, by decide +kernel⟩,
    ⟨31, 16, 7, fwdEntry, { up with head.po.outst := [fwdEntry], head.mt.cnt := 250000000 }, by decide +kernel⟩,
    ⟨31, 16, 7, { up with head.po.outst := [fwdEntry], head.mt.cnt := 249999999 }, by decide +kernel⟩,
    ⟨.tile, .chain true 1, 0xFFFE, { src := .chain true 1, tag := 0xFFFE, opcode := 0x0A05 }, { up with tile.mt.cnt := 200000000, tile.po.outst := [{ src := .chain true 1, tag := 0xFFFE, opcode := 0x0A05 }] }, by decide +kernel⟩,
    ⟨.tile, .chain true 1, 0xFFFE, up, by decide +kernel⟩,
    ⟨7, true, openSession 7, by decide +kernel⟩,
    ⟨7, true, up, by decide +kernel⟩,
    ⟨7, { openSession 7 with head.mt.cnt := 600000000000 }, by decide +kernel⟩,
    ⟨7, openSession 7, by decide +kernel⟩,
    ⟨7, 4081, openSession 7, by decide +kernel⟩,
    ⟨7, 4080, openSession 7, by decide +kernel⟩,
    ⟨{ time := 0, block := 0x0C, severity := 4, code := 1, chain := 31, position := 16 }, up, by decide +kernel⟩,
    ⟨{ time := 0, block := 0x0C, severity := 4, code := 1, chain := 0, position := 1 }, up, by decide +kernel⟩,
    ⟨{ up with head.mt.cnt := 1000000000, head.po.rates := [({ pair := 0, chain := 0, position := 0, headB := false, fromTile := false, block := 3, code := 1 }, 101)] }, by decide +kernel⟩,
    ⟨{}, 7, { up with head.po.sessions := List.replicate 7 { isOpen := true } ++ [{}] }, by decide +kernel⟩,
    ⟨{ versions := [] }, 0, up, by decide +kernel⟩,
    ⟨{ port := 443 }, up, by decide +kernel⟩,
    ⟨{}, { up with head.po.sessions := List.replicate 8 { isOpen := true } }, by decide +kernel⟩⟩

/-- The hypotheses of TwinCommandsComplete can be met, those of each clause. -/
theorem test_met_TwinCommandsComplete :
    (∃ (c : Cmd) (s : State), Accepts specTwGetStatus c s) ∧
    (∃ (c : Cmd) (s : State), Accepts specTwSetMode c s) ∧
    (∃ (c : Cmd) (s : State), Accepts specTwHandover c s) ∧
    (∃ (c : Cmd) (s : State), Accepts specTwResync c s) :=
  ⟨⟨hc (zeros 0), up, by decide +kernel⟩,
    ⟨hc [1, 1, 255, 0, 244, 1, 254, 255, 255, 255, 0, 0], up, by decide +kernel⟩,
    ⟨hc [1, 0, 0, 0], up, by decide +kernel⟩,
    ⟨hc (zeros 0), ((fun s => { s with head.tw.role := .mirror }) up), by decide +kernel⟩⟩

/-- The hypotheses of TwinPairEventsComplete can be met, those of each clause. -/
theorem test_met_TwinPairEventsComplete :
    (∃ (s : State), inService .head s = true ∧ ownBeat s = true ∧ s.head.tw.beatAt + 10000 ≤ s.now) ∧
    (∃ (b : Bool) (s : State), inService .head s = true) ∧
    (∃ (s : State), inService .head s = true ∧ s.head.tw.lastRoleBeat = none ∧ s.head.tw.beat = true) ∧
    (∃ (x : Nat) (s : State), inService .head s = true ∧ s.head.tw.lastRoleBeat = some x ∧ s.now < x + 50000 ∧ s.head.tw.dbFaultBeat = false) ∧
    (∃ (s : State), inService .head s = true) ∧
    (∃ (s : State), inService .head s = true) ∧
    (∃ (x : Nat) (s : State), inService .head s = true ∧ s.head.tw.bothSince = some x ∧ x + 20000 ≤ s.now ∧ s.head.sys.roleB = true) ∧
    (∃ (x : Nat) (s : State), inService .head s = true ∧ s.head.tw.bothSince = some x ∧ x + 20000 ≤ s.now ∧ s.head.sys.roleB = false) ∧
    (∃ (s : State), inService .head s = true ∧ twinUpNow s = true ∧ s.head.tw.lastHello = none) ∧
    (∃ (h : Hello) (s : State), inService .head s = true ∧ twinUpNow s = true ∧ helloFault h s = 0 ∧ h.fwVersion = s.head.sys.fwVersion ∧ ticksRun s = true) ∧
    (∃ (h : Hello) (k : Nat) (s : State), inService .head s = true ∧ twinUpNow s = true ∧ helloFault h s = k + 1) ∧
    (∃ (s : State), inService .head s = true ∧ twinUpNow s = true ∧ s.head.tw.sentRole + 10000 ≤ s.now) ∧
    (∃ (c b : Bool) (r : Nat) (s : State), inService .head s = true ∧ twinUpNow s = true ∧ r ≠ 0) ∧
    (∃ (s : State), inService .head s = true ∧ s.head.tw.claimMode = false ∧ s.head.tw.dbClaim = true ∧ ticksRun s = true ∧ twinUpNow s = true ∧ ¬ s.head.tw.role = .alone) ∧
    (∃ (sn : Snapshot) (s : State), inService .head s = true ∧ s.head.tw.role = .joining ∧ s.head.tw.claimMode = false ∧ s.head.tw.joinFrame = none ∧ twinUpNow s = true ∧ ¬ frameNamed sn.m s < nextToClose s) ∧
    (∃ (sn : Snapshot) (s : State), inService .head s = true ∧ s.head.tw.role = .joining ∧ s.head.tw.claimMode = false ∧ s.head.tw.joinFrame = none ∧ twinUpNow s = true ∧ frameNamed sn.m s < nextToClose s) :=
  ⟨⟨{ up with now := 10000, head.mt.tick := some tp }, by decide +kernel⟩,
    ⟨true, up, by decide +kernel⟩,
    ⟨{ up with head.tw.beat := true }, by decide +kernel⟩,
    ⟨0, { up with now := 49999, head.tw.lastRoleBeat := some 0 }, by decide +kernel⟩,
    ⟨up, by decide +kernel⟩,
    ⟨up, by decide +kernel⟩,
    ⟨0, { up with now := 20000, head.sys.roleB := true, head.tw.bothSince := some 0 }, by decide +kernel⟩,
    ⟨0, { up with now := 20000, head.tw.bothSince := some 0, head.sys.roleB := false }, by decide +kernel⟩,
    ⟨linked up, by decide +kernel⟩,
    ⟨{ pair := 0, roleB := true, claimMode := false, tick := some tp, claim := true, fwVersion := 0 }, linked (ticking 4 70000000), by decide +kernel⟩,
    ⟨{ pair := 7, roleB := true, claimMode := false, tick := none, claim := true, fwVersion := 0 }, 0, linked up, by decide +kernel⟩,
    ⟨{ linked up with now := 10000 }, by decide +kernel⟩,
    ⟨true, false, 6, linked up, by decide +kernel⟩,
    ⟨{ linked up with head.tw.claimMode := false, head.tw.dbClaim := true, head.mt.tick := some tp, head.tw.role := .publisher }, by decide +kernel⟩,
    ⟨{ m := 9, scene := scn }, { linked (ticking 4 70000000) with head.tw.role := .joining, head.time.cutN := 6 }, by decide +kernel⟩,
    ⟨{ m := 5, scene := scn }, { linked (ticking 4 70000000) with head.tw.role := .joining, head.time.cutN := 6 }, by decide +kernel⟩⟩

/-- The hypotheses of TwinForwardEventsComplete can be met, those of each clause. -/
theorem test_met_TwinForwardEventsComplete :
    (∃ (f : FwdCmd) (s : State), inService .head s = true ∧ isFollower s = true ∧ twinUpNow s = true ∧ takesForwarded s = true) ∧
    (∃ (id : Word) (w : FwdWait) (s : State), inService .head s = true ∧ s.head.tw.fwdWait.find? (fun w => w.id == id) = some w) ∧
    (∃ (id : Word) (w : FwdWait) (s : State), inService .head s = true ∧ s.head.tw.fwdWait.find? (fun w => w.id == id && decide (w.sentAt + 1000000 ≤ s.now)) = some w ∧ s.head.tw.role = .publisher) ∧
    (∃ (fn : Word) (count : Nat) (s : State), inService .head s = true ∧ count < 4294967296 ∧ frameNamed fn s = nextToClose s ∧ waitsForCut (frameNamed fn s) s = true ∧ twinUpNow s = true) ∧
    (∃ (n : Nat) (c : Int) (s : State), inService .head s = true ∧ ticksRun s = true ∧ n = nextToClose s ∧ waitsForCut n s = true ∧ cutoffOf s.head.mt n = some c ∧ c + 1000 * s.head.tw.cutWaitUs ≤ (wall s.head.mt : Int)) ∧
    (∃ (d : Digest) (s : State), inService .head s = true ∧ s.head.tw.claimMode = false ∧ twinUpNow s = true ∧ s.head.tw.role = .mirror ∧ s.head.tw.own.find? (fun x => x.fn == d.fn) = none) ∧
    (∃ (d x : Digest) (s : State), inService .head s = true ∧ s.head.tw.claimMode = false ∧ twinUpNow s = true ∧ s.head.tw.role = .publisher ∧ s.head.tw.own.find? (fun x => x.fn == d.fn) = some x) ∧
    (∃ (k : GPkt) (s : State), inService .head s = true ∧ twinUpNow s = true) ∧
    (∃ (p : TickPar) (w : Nat) (s : State), inService .head s = true ∧ s.head.mt.tick = some p ∧ s.head.tw.claimMode = true ∧ s.head.tw.role = .standby ∧ s.head.tw.autoTakeover = true ∧ s.head.tw.goActive = false ∧ s.head.tw.lastOtherTick = some w ∧ p.pNum + ((w : Int) + 50000) * p.pDen ≤ (wall s.head.mt : Int) * p.pDen) :=
  ⟨⟨{ frame := 9, id := 1, stamp := 0, key := 0, body := .loss 31 3 }, { linked (ticking 4 70000000) with head.tw.role := .mirror }, by decide +kernel⟩,
    ⟨0xFFFFFFFF, fwdWaiting, { up with head.tw.fwdWait := [fwdWaiting] }, by decide +kernel⟩,
    ⟨0xFFFFFFFF, fwdWaiting, { up with head.tw.fwdWait := [fwdWaiting], now := 1000000, head.tw.role := .publisher }, by decide +kernel⟩,
    ⟨6, 0xFFFFFFFF, { linked (ticking 4 70000000) with head.tw.role := .mirror, head.time.cutN := 6 }, by decide +kernel⟩,
    ⟨6, 81333335, { ticking 4 81383335 with head.tw.role := .mirror, head.time.cutN := 6 }, by decide +kernel⟩,
    ⟨{ fn := 0xFFFFFFFF, stateCrc := 0, q := [], wl12 := 0, sigs := [] }, { linked up with head.tw.claimMode := false, head.tw.role := .mirror, head.tw.own := [] }, by decide +kernel⟩,
    ⟨{ fn := 0xFFFFFFFF, stateCrc := 0, q := [], wl12 := 0, sigs := [] }, { fn := 0xFFFFFFFF, stateCrc := 1, q := [], wl12 := 0, sigs := [] }, { linked up with head.tw.claimMode := false, head.tw.role := .publisher, head.tw.own := [{ fn := 0xFFFFFFFF, stateCrc := 1, q := [], wl12 := 0, sigs := [] }] }, by decide +kernel⟩,
    ⟨{ cls := 5, typ := 4, len := 5, headB := false, pair := 0, chain := 31, position := 16, payload := zeros 16 }, linked up, by decide +kernel⟩,
    ⟨tp, 0, { ticking 4 16716667 with head.tw.claimMode := true, head.tw.role := .standby, head.tw.lastOtherTick := some 0 }, by decide +kernel⟩⟩

/-- The hypotheses of RegisterWriteCompletes can be met, those of each clause. -/
theorem test_met_RegisterWriteCompletes :
    (∃ (a : Nat) (v : Word) (s : State), inService .head s = true ∧ configAnswer s = .normal ∧ a % 4 = 0) ∧
    (∃ (w : RegAccess) (v : Word) (s : State), inService .head s = true ∧ configAnswer s = .normal ∧ w.space ≠ .tileLocal ∧ w.addr % 4 = 0) ∧
    (∃ (w : RegAccess) (v : Word) (s : State), inService .head s = true ∧ configAnswer s ≠ .normal ∧ w.space ≠ .tileLocal) ∧
    (∃ (a : Nat) (v : Word) (s : State), inService .head s = true ∧ configAnswer s = .normal ∧ a % 4 = 0 ∧ a < 0x10000) ∧
    (∃ (a : Nat) (v : Word) (s : State), inService .tile s = true ∧ a % 4 = 0) ∧
    (∃ (a : Nat) (l : List Word) (v : Word) (s : State), inService .tile s = true ∧ a % 4 = 0) ∧
    (∃ (w : RegAccess) (v : Word) (s : State), w.addr % 4 ≠ 0) :=
  ⟨⟨0x400000, 0xFFFFFFFF, answers, by decide +kernel⟩,
    ⟨{ space := .bar0, addr := 0x400000, more := [1, 2] }, 0xFFFFFFFF, answers, by decide +kernel⟩,
    ⟨{ space := .bar0, addr := 0x400000 }, 0xFFFFFFFF, silent, by decide +kernel⟩,
    ⟨0xFFFC, 0xFFFFFFFF, answers, by decide +kernel⟩,
    ⟨0x900000, 0xFFFFFFFF, up, by decide +kernel⟩,
    ⟨0x900000, [1], 0xFFFFFFFF, up, by decide +kernel⟩,
    ⟨{ space := .bar0, addr := 3 }, 1, up, by decide +kernel⟩⟩

/-- The hypotheses of AtticCommandsComplete can be met, those of each clause. -/
theorem test_met_AtticCommandsComplete :
    (∃ (c : Cmd) (s : State), Accepts specAtGetInfo c s) ∧
    (∃ (c : Cmd) (s : State), Accepts specAtGetCert c s) ∧
    (∃ (c : Cmd) (s : State), Accepts specAtGetCsr c s) ∧
    (∃ (c : Cmd) (s : State), HeadAccepts { specAtSetCert with state := fun _ _ => none } c s) ∧
    (∃ (c : Cmd) (s : State), Accepts specAtSetTrust c s) ∧
    (∃ (c : Cmd) (s : State), Accepts specAtChallenge c s) ∧
    (∃ (c : Cmd) (s : State), Accepts specAtEnrol c s) ∧
    (∃ (c : Cmd) (s : State), Accepts specAtStageBegin c s) ∧
    (∃ (c : Cmd) (s : State), Accepts specAtStageData c s) ∧
    (∃ (c : Cmd) (s : State), Accepts specAtStageVerify c s) ∧
    (∃ (c : Cmd) (s : State), Accepts specAtStageAbort c s) ∧
    (∃ (c : Cmd) (s : State), Accepts specAtActivate c s) ∧
    (∃ (c : Cmd) (s : State), Accepts specAtConfirm c s) ∧
    (∃ (c : Cmd) (s : State), Accepts specAtRollback c s) ∧
    (∃ (c : Cmd) (s : State), Accepts specAtTileReload c s) ∧
    (∃ (c : Cmd) (s : State), Accepts specAtTileStageBegin c s) ∧
    (∃ (c : Cmd) (s : State), Accepts specAtTileBoot c s) ∧
    (∃ (c : Cmd) (s : State), Accepts specAtTileStageAbort c s) :=
  ⟨⟨hc (zeros 0), up, by decide +kernel⟩,
    ⟨hc [3, 0, 255, 255], up, by decide +kernel⟩,
    ⟨hc (zeros 0), up, by decide +kernel⟩,
    ⟨hc [1, 0, 1, 0, 48], up, by decide +kernel⟩,
    ⟨hc [15, 1, 0, 0, 48], up, by decide +kernel⟩,
    ⟨hc (zeros 68), up, by decide +kernel⟩,
    ⟨hc [0, 0, 2, 1], up, by decide +kernel⟩,
    ⟨hc [0, 0, 0, 16, 0, 0, 0, 0], up, by decide +kernel⟩,
    ⟨hc ([255, 255, 255, 15, 1, 0, 0, 0, 0, 0, 0, 0] ++ zeros 8 ++ [90]), ((fun s => { s with head.at_.staging := some { src := .queue 0, slot := 1, total := 268435456 } }) up), by decide +kernel⟩,
    ⟨hc (zeros 0), up, by decide +kernel⟩,
    ⟨hc (zeros 0), up, by decide +kernel⟩,
    ⟨hc (zeros 0), ((fun s => { s with head.at_.boot := { s.head.at_.boot with states := [2, 2] } }) up), by decide +kernel⟩,
    ⟨hc (zeros 0), ((fun s => { s with head.at_.unreadable := false }) up), by decide +kernel⟩,
    ⟨hc (zeros 0), ((fun s => { s with head.at_.boot := { s.head.at_.boot with states := [4, 4] } }) up), by decide +kernel⟩,
    ⟨hc [0xFF, 0xFF, 0, 0], ((fun s => { s with head.en := [{ chain := 31, position := 16, here := true, genuine := true }] }) up), by decide +kernel⟩,
    ⟨tc (zeros 0), up, by decide +kernel⟩,
    ⟨tc (zeros 256), ((fun s => { s with tile.at_.lock := some (false, 0) }) up), by decide +kernel⟩,
    ⟨tc (zeros 0), up, by decide +kernel⟩⟩

/-- The hypotheses of AtticEventsComplete can be met, those of each clause. -/
theorem test_met_AtticEventsComplete :
    (∃ (s : State), inService .head s = true ∧ (127 ≤ s.head.po.logPending.length ∨ logDue s = true)) ∧
    (∃ (m : LinkState) (s : State), inService .head s = true) ∧
    (∃ (b : Bool) (s : State), inService .head s = true) ∧
    (∃ (b : Bool) (s : State), inService .tile s = true) ∧
    (∃ (p : Part) (s : State), inService p s = true) ∧
    (∃ (a : Activation) (s : State), inService .head s = true ∧ s.head.at_.act = some a ∧ a.phase = 0 ∧ cutoffOf s.head.mt a.n = none) ∧
    (∃ (a : Activation) (c : Int) (s : State), inService .head s = true ∧ s.head.at_.act = some a ∧ a.phase = 1 ∧ tickOf s.head.mt a.n = some c ∧ c ≤ (wall s.head.mt : Int)) ∧
    (∃ (a : Activation) (s : State), inService .head s = true ∧ s.head.at_.act = some a ∧ 2 ≤ a.phase ∧ a.fallback = false) ∧
    (∃ (s : State), inService .head s = true ∧ slotState s.head.at_.running s = 3 ∧ s.head.at_.confirming = false ∧ s.head.at_.act = none ∧ healthGood s = true) ∧
    (∃ (s : State), inService .head s = true ∧ slotState s.head.at_.running s = 3 ∧ s.head.at_.act = none ∧ s.head.at_.trialSince + 1000000000 * s.head.at_.healthWindow ≤ s.now ∧ s.head.mt.tick = none) ∧
    (∃ (t : Nat) (o : NvOp) (l : List NvOp) (s : State), inService .tile s = true ∧ (nvOf .tile s).heldSince = some t ∧ (nvOf .tile s).ops = o :: l ∧ (nvOf .tile s).busy = false ∧ s.tile.ht.inputLow = true ∧ t + 1000000000 ≤ s.now) ∧
    (∃ (x : Bool × Nat) (s : State), inService .tile s = true ∧ s.tile.at_.lock = some x ∧ x.2 + 2000000000 ≤ s.now) ∧
    (∃ (ch po : Nat) (r : ChallengeReply) (e : TileEnt) (s : State), inService .head s = true ∧ tileEnt ch po s = some e ∧ present e = true ∧ e.reversed = false ∧ s.head.at_.recovery = false ∧ firmwareGone s = false) ∧
    (∃ (k : Nat) (s : State), inService .tile s = true ∧ k < 3 ∧ s.tile.at_.railStep = k + 1 ∧ s.tile.at_.railAt ≤ s.now ∧ s.tile.sys.loaded = true ∧ s.tile.ht.inputLow = false) :=
  ⟨⟨{ up with head.mt.cnt := 10000000, head.po.logPending := [{ time := 0, block := 1, severity := 4, code := 1 }] }, by decide +kernel⟩,
    ⟨{ chain := 31, position := 16, port := 1, state := 5, laneMask := 3, rate := 2 }, up, by decide +kernel⟩,
    ⟨true, up, by decide +kernel⟩,
    ⟨false, up, by decide +kernel⟩,
    ⟨.tile, up, by decide +kernel⟩,
    ⟨{ n := 0, slot := 1 }, { up with head.at_.act := some { n := 0, slot := 1 }, head.mt.tick := none, head.mt.pendTicks := [] }, by decide +kernel⟩,
    ⟨{ n := 6, slot := 1, phase := 1 }, 100000002, { ticking 5 100000002 with head.at_.act := some { n := 6, slot := 1, phase := 1 } }, by decide +kernel⟩,
    ⟨{ n := 0, slot := 1, phase := 2 }, { up with head.at_.act := some { n := 0, slot := 1, phase := 2 } }, by decide +kernel⟩,
    ⟨{ up with head.at_.running := 0, head.at_.boot := { up.head.at_.boot with states := [3, 4] }, head.at_.unreadable := false, head.at_.confirmMode := false, head.at_.toRun := [], head.cl.op := none, head.cl.usable := 15, head.cl.point := 0, head.at_.confirming := false, head.at_.act := none }, by decide +kernel⟩,
    ⟨{ up with head.at_.running := 0, head.at_.boot := { up.head.at_.boot with states := [3, 4] }, head.at_.trialSince := 0, head.at_.healthWindow := 1, now := 1000000000, head.at_.act := none, head.mt.tick := none }, by decide +kernel⟩,
    ⟨0, { kind := .eraseSlot 0 }, [], { up with now := 1000000000, tile.ht.inputLow := true, tile.at_.nv := { up.tile.at_.nv with heldSince := some 0, busy := false, ops := [{ kind := .eraseSlot 0 }] } }, by decide +kernel⟩,
    ⟨(true, 0), { up with now := 2000000000, tile.at_.lock := some (true, 0) }, by decide +kernel⟩,
    ⟨31, 16, { loaded := true, serial := [] }, { chain := 31, position := 16, here := true }, { up with head.en := [{ chain := 31, position := 16, here := true }], head.at_.recovery := false }, by decide +kernel⟩,
    ⟨2, { up with tile.at_.railStep := 3, tile.at_.railAt := 0, tile.sys.loaded := true, tile.ht.inputLow := false }, by decide +kernel⟩⟩

/-- The hypotheses of FrameEventsComplete can be met, those of each clause. -/
theorem test_met_FrameEventsComplete :
    (∃ (n : Nat) (s : State), inService .head s = true ∧ specDue n s = true) ∧
    (∃ (n : Nat) (s : State), inService .head s = true ∧ cutDue n s = true) ∧
    (∃ (n : Nat) (r : FrameRec) (s : State), inService .head s = true ∧ openDue n s = true ∧ recOf n s = some r) ∧
    (∃ (n : Nat) (s : State), inService .head s = true ∧ openDue n s = true ∧ recOf n s = none) ∧
    (∃ (n : Nat) (s : State), inService .head s = true ∧ closeDue n s = true) ∧
    (∃ (n : Nat) (x : TickPar) (s : State), inService .head s = true ∧ n = nextTick s.head.mt ∧ parFor s.head.mt n = some x ∧ tickAt x n ≤ (wall s.head.mt : Int) ∧ n < s.head.time.closeN) ∧
    (∃ (n : Nat) (x : TickPar) (s : State), inService .tile s = true ∧ n = nextTick s.tile.mt ∧ parFor s.tile.mt n = some x ∧ tickAt x n ≤ (wall s.tile.mt : Int)) ∧
    (∃ (n : Nat) (t : Int) (s : State), inService .tile s = true ∧ n = nextTick s.tile.mt ∧ parFor s.tile.mt n = none ∧ edgeOf s.tile.mt n = some t ∧ t ≤ (wall s.tile.mt : Int)) ∧
    (∃ (n : Nat) (t : Int) (s : State), inService .head s = true ∧ n = nextTick s.head.mt ∧ parFor s.head.mt n = none ∧ edgeOf s.head.mt n = some t ∧ t ≤ (wall s.head.mt : Int)) :=
  ⟨⟨7, { ticking 5 83333335 with head.time.specN := 7, head.time.cutN := 7 }, by decide +kernel⟩,
    ⟨6, { ticking 4 81333335 with head.time.cutN := 6 }, by decide +kernel⟩,
    ⟨6, { rec5 with n := 6 }, { ticking 5 83333335 with head.time.openN := 6, head.time.cutN := 7, head.pl.frames := [{ rec5 with n := 6 }] }, by decide +kernel⟩,
    ⟨6, { ticking 5 83333335 with head.time.openN := 6, head.time.cutN := 7, head.pl.frames := [] }, by decide +kernel⟩,
    ⟨6, { ticking 5 99500002 with head.time.closeN := 6, head.time.openN := 7 }, by decide +kernel⟩,
    ⟨6, tp, { ticking 5 100000002 with head.time.closeN := 7 }, by decide +kernel⟩,
    ⟨6, tp, ticking 5 100000002, by decide +kernel⟩,
    ⟨6, 100000002, { ticking 5 100000002 with tile.mt.pendTicks := [{ s := 6, par := none }] }, by decide +kernel⟩,
    ⟨6, 100000002, { ticking 5 100000002 with head.mt.pendTicks := [{ s := 6, par := none }] }, by decide +kernel⟩⟩

/-- The hypotheses of ResetEventsComplete can be met, those of each clause. -/
theorem test_met_ResetEventsComplete :
    (∃ (s : State), s.head.sys.por = false) ∧
    (∃ (b : BootInput) (s : State), s.head.sys.por = true) ∧
    (∃ (k : Nat) (s : State), k < 3 ∧ s.head.sys.supplyBad = false) ∧
    (∃ (b : BootInput) (s : State), s.head.sys.supplyBad = true) ∧
    (∃ (s : State), s.head.sys.perst = false) ∧
    (∃ (s : State), s.head.sys.perst = true) ∧
    (∃ (b : BootInput) (s : State), s.tile.sys.vinOn = false) ∧
    (∃ (s : State), s.tile.sys.vinOn = true) ∧
    (∃ (x : Nat) (s : State), s.tile.sys.vcoreFaultAt = some x ∧ x + 100000000 ≤ s.now ∧ s.tile.sys.vinOn = true) ∧
    (∃ (k : Nat) (s : State), inService .tile s = true ∧ k < 2 ∧ s.tile.gl.all (fun g => g.state == .disabled) = true) ∧
    (∃ (c n : Nat) (s : State), aonRuns .head s = true ∧ (chOf .head s).tripped = false ∧ tripCauseHolds .head c n s = true) ∧
    (∃ (c n : Nat) (s : State), aonRuns .tile s = true ∧ (chOf .tile s).tripped = false ∧ tripCauseHolds .tile c n s = true) ∧
    (∃ (x : Nat) (s : State), (chOf .head s).coolSince = some x ∧ (chOf .head s).tripped = true ∧ x + 10000000000 ≤ s.now ∧ tripsAtLast (chOf .head s) < 3) ∧
    (∃ (x : Nat) (s : State), (chOf .tile s).coolSince = some x ∧ (chOf .tile s).tripped = true ∧ x + 10000000000 ≤ s.now ∧ tripsAtLast (chOf .tile s) < 3 ∧ s.tile.sys.vinOn = true) ∧
    (∃ (p : Part) (s : State), inService p s = true) :=
  ⟨⟨{ up with head.sys.por := false }, by decide +kernel⟩,
    ⟨{ twsel := true, readings := [] }, { up with head.sys.por := true }, by decide +kernel⟩,
    ⟨2, { up with head.sys.supplyBad := false }, by decide +kernel⟩,
    ⟨{ twsel := true, readings := [] }, { up with head.sys.supplyBad := true }, by decide +kernel⟩,
    ⟨{ up with head.sys.perst := false }, by decide +kernel⟩,
    ⟨{ up with head.sys.perst := true }, by decide +kernel⟩,
    ⟨{ twsel := true, readings := [] }, { up with tile.sys.vinOn := false }, by decide +kernel⟩,
    ⟨{ up with tile.sys.vinOn := true }, by decide +kernel⟩,
    ⟨0, { up with now := 100000000, tile.sys.vinOn := true, tile.sys.vcoreFaultAt := some 0 }, by decide +kernel⟩,
    ⟨1, { up with tile.gl := up.tile.gl.map (fun g => { g with state := .disabled }) }, by decide +kernel⟩,
    ⟨1, 15, up, by decide +kernel⟩,
    ⟨1, 0, up, by decide +kernel⟩,
    ⟨0, { up with now := 10000000000, head.ch.tripped := true, head.ch.coolSince := some 0 }, by decide +kernel⟩,
    ⟨0, { up with now := 10000000000, tile.sys.vinOn := true, tile.ch.tripped := true, tile.ch.coolSince := some 0 }, by decide +kernel⟩,
    ⟨.tile, up, by decide +kernel⟩⟩

/-- The hypotheses of StepIdle can be met, those of each clause. -/
theorem test_met_StepIdle :
    (∃ s : State, s.pending = []) :=
  ⟨State.reset, by decide +kernel⟩

/-- The hypotheses of StepKeepsInv can be met, those of each clause. -/
theorem test_met_StepKeepsInv :
    (∃ s t : State, Inv s ∧ step s = .next t) :=
  ⟨State.reset, idle State.reset, ⟨by decide, by decide, by decide, by decide, by decide⟩, rfl⟩

/-- The hypotheses of WallTimeFormula can be met, those of each clause. -/
theorem test_met_WallTimeFormula :
    (∃ (p : Part) (s : State), inService p s = true) :=
  ⟨.tile, up, by decide +kernel⟩

/-- The hypotheses of RateKeepsWallTime can be met, those of each clause. -/
theorem test_met_RateKeepsWallTime :
    (∃ (p : Part) (v : Word) (s : State), inService p s = true ∧ (mtOf p s).manual = true) :=
  ⟨.head, 0x80000000, { up with head.mt.manual := true }, by decide +kernel⟩

/-- The hypotheses of TickInstants can be met, those of each clause. -/
theorem test_met_TickInstants :
    (∃ (p : Part) (n : Nat) (x : TickPar) (s : State), inService p s = true ∧ parFor (mtOf p s) n = some x ∧ (wallOf p s : Int) < tickAt x n) ∧
    (∃ x : TickPar, 0 < x.pDen) :=
  ⟨⟨.tile, 5, tp, ticking 4 83333334, by decide +kernel⟩,
    ⟨{ tp with pDen := 65535 }, by decide⟩⟩

/-- The hypotheses of RefreshCycles can be met, those of each clause. -/
theorem test_met_RefreshCycles :
    (∃ x : TickPar, 0 < x.pDen ∧ 0 < x.slots) ∧
    (∃ (x : TickPar) (n j : Nat), 0 < x.pDen ∧ 0 < cyclesOf x) :=
  ⟨⟨{ tp with pDen := 65535 }, by decide⟩,
    ⟨tp, 4, 63, by decide⟩⟩

/-- The hypotheses of QueueEnable can be met, those of each clause. -/
theorem test_met_QueueEnable :
    (∃ (q : Nat) (v : Word) (s : State), inService .head s = true ∧ configAnswer s = .normal ∧ q < 16 ∧ q < s.head.po.queues.length ∧ (queueAt q s).en = false) ∧
    (∃ (q : Nat) (v : Word) (s : State), inService .head s = true ∧ configAnswer s = .normal ∧ q < 16 ∧ (queueAt q s).en = true) ∧
    (∃ (q : Nat) (count : Word) (packets : List (List Byte)) (s : State), (queueAt q s).en = false) :=
  ⟨⟨15, 0xFFFFFFFF, up, by decide +kernel⟩,
    ⟨15, 0, updQueue 15 (fun k => { k with en := true }) up, by decide +kernel⟩,
    ⟨0, 1, [zeros 64], up, by decide +kernel⟩⟩

/-- The hypotheses of RingPadding can be met, those of each clause. -/
theorem test_met_RingPadding :
    (∃ (size n : Nat) (tail : BitVec 32), size ≤ 14 ∧ n ≤ 2 ^ size) :=
  ⟨14, 64, 0xFFFFFFFF, by decide⟩

/-- The hypotheses of FirstFailureIsRefused can be met, those of each clause. -/
theorem test_met_FirstFailureIsRefused :
    (∃ (o : OpSpec) (c : Cmd) (s : State) (e : Err), c.part = .head ∧ inService .head s = true ∧ firmwareGone s = false ∧ mustWait o.opcode (stamped o.opcode c s) s = false ∧ toHead (stamped o.opcode c s) = true ∧ headErr o (stamped o.opcode c s) s = some e) :=
  ⟨specPoGetInfo, hc [0], up, { status := stBadParam }, by decide +kernel⟩

/-- The hypotheses of EventRecords can be met, those of each clause. -/
theorem test_met_EventRecords :
    (∃ (e : EventRec) (s : State) (n : Nat), ¬ (e.block = 0x01 ∧ e.code = 0x0008) ∧ s.head.po.rateSec = wall s.head.mt / 10 ^ 9 ∧ (getKey s.head.po.rates (rateKey e)).getD 0 = n) ∧
    (∃ (e : EventRec) (s : State) (n : Nat), ¬ (e.block = 0x01 ∧ e.code = 0x0008) ∧ s.head.po.rateSec = wall s.head.mt / 10 ^ 9 ∧ (getKey s.head.po.rates (rateKey e)).getD 0 = n) ∧
    (∃ s : State, s.tile.po.events.length < 64) ∧
    (∃ s : State, 64 ≤ s.tile.po.events.length) :=
  ⟨⟨{ time := 0, block := 3, severity := 3, code := 1 }, { up with head.po.rates := [(rateKey { time := 0, block := 3, severity := 3, code := 1 }, 100)] }, 100, by decide +kernel⟩,
    ⟨{ time := 0, block := 3, severity := 3, code := 1 }, { up with head.po.rates := [(rateKey { time := 0, block := 3, severity := 3, code := 1 }, 99)] }, 99, by decide +kernel⟩,
    ⟨up, by decide⟩,
    ⟨{ up with tile.po.events := List.replicate 64 { time := 0, block := 3, severity := 3, code := 1 } }, by decide +kernel⟩⟩

/-- The hypotheses of CreditsAndReplay can be met, those of each clause. -/
theorem test_met_CreditsAndReplay :
    (∃ (p : Part) (k : Nat) (x : GPkt) (s : State), k < (portsOf p s).length ∧ x.cls < (portAt p k s).cred.length ∧ canStart (portAt p k s) x = true) :=
  ⟨.head, 32, { cls := 5, typ := 0xA, len := 9362 }, updPort .head 32 (fun g => { g with cred := [0, 0, 0, 0, 0, 100], credShared := 9262, seqNext := 4095 }) up, by decide +kernel⟩

/-- The hypotheses of ChangesKeepOrder can be met, those of each clause. -/
theorem test_met_ChangesKeepOrder :
    (∃ (x : Pend) (l : List Pend), l.Pairwise (fun a b => pendBefore b a = false)) :=
  ⟨{ frame := 5, eff := 1, rank := 0, sub := 15, seq := 1, change := .loss 31 1 }, [{ frame := 5, eff := 1, rank := 1, sub := 0, seq := 0, change := .loss 31 0 }], by decide⟩

/-- The hypotheses of CellarWrites can be met, those of each clause. -/
theorem test_met_CellarWrites :
    (∃ (r : CellarReq) (d : List Byte) (s : State), inService .head s = true ∧ cellarReqWf r = true ∧ r.write = some d ∧ isServed r.addr d.length s = true ∧ Memory.wf s.head.cl.mem = true) :=
  ⟨{ cls := 3, req := .bar2, addr := 0x9FFFFFFF9, write := some [1, 0, 255] }, [1, 0, 255], up, by decide +kernel⟩

/-- The hypotheses of ReadCommandsFrame can be met, those of each clause. -/
theorem test_met_ReadCommandsFrame :
    (∃ (i : Instr) (s t : State), isReport i = true ∧ exec i s = .next t) :=
  ⟨.atChallenge (hc []), up, _, rfl, rfl⟩

/-- The hypotheses of SettingFrames can be met, those of each clause. -/
theorem test_met_SettingFrames :
    (∃ (c : Cmd) (s t : State), exec (.lpSetScan c) s = .next t) ∧
    (∃ (c : Cmd) (s t : State), exec (.lpSetCurrent c) s = .next t ∨ exec (.lpFade c) s = .next t) ∧
    (∃ (c : Cmd) (s t : State), exec (.ldSetLimits c) s = .next t ∨ exec (.lrSetDrift c) s = .next t) ∧
    (∃ (c : Cmd) (s t : State), exec (.htSetCoef c) s = .next t ∨ exec (.htSetLead c) s = .next t) ∧
    (∃ (c : Cmd) (s t : State), exec (.auSetPort c) s = .next t ∨ exec (.auSetGroup c) s = .next t) ∧
    (∃ (c : Cmd) (s t : State), exec (.fySetSubport c) s = .next t ∨ exec (.plLeaseGuard c) s = .next t) ∧
    (∃ (c : Cmd) (s t : State), exec (.mtSetTod c) s = .next t) ∧
    (∃ (c : Cmd) (s t : State), exec (.mtSetPtp c) s = .next t) ∧
    (∃ (c : Cmd) (s t : State), exec (.clSetScrub c) s = .next t ∨ exec (.clInjectError c) s = .next t) ∧
    (∃ (c : Cmd) (s t : State), exec (.ppSetStatusRing c) s = .next t) ∧
    (∃ (c : Cmd) (s t : State), exec (.dwSetTable c) s = .next t) ∧
    (∃ (c : Cmd) (s t : State), exec (.atConfirm c) s = .next t) :=
  ⟨⟨tc [31, 0, 0, 0], up, _, rfl⟩,
    ⟨tc [15, 0, 0, 0, 255, 255, 7, 0], up, _, .inl rfl⟩,
    ⟨tc [0x60, 0x6D, 200, 0, 200, 0, 160, 15], up, _, .inl rfl⟩,
    ⟨tc [0xE8, 3, 0, 0], up, _, .inr rfl⟩,
    ⟨hc (zeros 12), up, _, .inr rfl⟩,
    ⟨hc (zeros 28), up, _, .inl rfl⟩,
    ⟨hc (zeros 6), up, _, rfl⟩,
    ⟨hc (zeros 20), up, _, rfl⟩,
    ⟨hc [0, 0, 1, 0], up, _, .inl rfl⟩,
    ⟨hc (zeros 16), up, _, rfl⟩,
    ⟨tc (zeros 12), up, _, rfl⟩,
    ⟨hc [], up, _, rfl⟩⟩

/-- The hypotheses of LinkAcceptsOnce can be met, those of each clause. -/
theorem test_met_LinkAcceptsOnce :
    (∃ (i : Instr) (f : Option Via → Instr) (v : Via) (s : State), carried i = some f ∧ inService .head s = true ∧ (portAt .head v.port s).state = .active ∧ v.pkt.seq = (portAt .head v.port s).seqExp ∧ packetBad v.pkt = false ∧ (v.port = 32 ∨ v.pkt.headB = s.head.sys.roleB)) ∧
    (∃ (i : Instr) (f : Option Via → Instr) (v : Via) (s : State), carried i = some f ∧ inService .head s = true ∧ (portAt .head v.port s).state = .active ∧ v.pkt.seq = (portAt .head v.port s).seqExp ∧ packetBad v.pkt = false ∧ v.port ≠ 32 ∧ v.pkt.headB ≠ s.head.sys.roleB) ∧
    (∃ (i : Instr) (f : Option Via → Instr) (v : Via) (s : State), carried i = some f ∧ inService .head s = true ∧ (portAt .head v.port s).state = .active ∧ v.pkt.seq = (portAt .head v.port s).seqExp ∧ packetBad v.pkt = true ∧ ¬ (v.port = 32 ∧ v.pkt.cls = 5)) ∧
    (∃ (i : Instr) (f : Option Via → Instr) (v : Via) (s : State), carried i = some f ∧ inService .head s = true ∧ ((portAt .head v.port s).state ≠ .active ∨ seqDiff v.pkt.seq (portAt .head v.port s).seqExp < 0)) ∧
    (∃ (i : Instr) (f : Option Via → Instr) (v : Via) (s : State), carried i = some f ∧ inService .head s = true ∧ (portAt .head v.port s).state = .active ∧ 0 < seqDiff v.pkt.seq (portAt .head v.port s).seqExp) ∧
    (∃ (o : OpSpec) (c : Cmd) (b : Bool) (port : Nat) (q : BitVec 12) (s : State), c.part = .tile ∧ inService .tile s = true ∧ c.link = some q ∧ c.src = .chain b port ∧ (portAt .tile port s).state = .active ∧ q = (portAt .tile port s).seqExp ∧ packetBad (cmdPacket o c q b) = false) :=
  ⟨⟨.fwdAckReceived { msg := 0xFFFFFFFF }, _, { port := 31, pkt := { cls := 2, typ := 2, len := 2, seq := 4095 } }, updPort .head 31 (fun g => { g with state := .active, seqExp := 4095 }) up, rfl, by decide +kernel⟩,
    ⟨.passedReceived { msg := { cls := 5, typ := 4, len := 5 } }, _, { port := 0, pkt := { cls := 3, typ := 1, len := 826, headB := true } }, updPort .head 0 (fun g => { g with state := .active, seqExp := 0 }) { up with head.sys.roleB := false }, rfl, by decide +kernel⟩,
    ⟨.passedReceived { msg := { cls := 5, typ := 4, len := 5 } }, _, { port := 32, pkt := { cls := 3, typ := 1, len := 827 } }, updPort .head 32 (fun g => { g with state := .active, seqExp := 0 }) up, rfl, by decide +kernel⟩,
    ⟨.passedReceived { msg := { cls := 5, typ := 4, len := 5 } }, _, { port := 0, pkt := { cls := 3, typ := 1, len := 826, seq := 2048 } }, updPort .head 0 (fun g => { g with state := .active, seqExp := 0 }) up, rfl, by decide +kernel⟩,
    ⟨.passedReceived { msg := { cls := 5, typ := 4, len := 5 } }, _, { port := 0, pkt := { cls := 3, typ := 1, len := 826, seq := 2047 } }, updPort .head 0 (fun g => { g with state := .active, seqExp := 0 }) up, rfl, by decide +kernel⟩,
    ⟨specPoNop, { tc [] with src := .chain true 1, link := some 4095 }, true, 1, 4095, updPort .tile 1 (fun g => { g with state := .active, seqExp := 4095 }) up, by decide +kernel⟩⟩

/-! ## Values worked out from the spec -/

/-- R26: at 60 Hz, P_NUM 50 000 000 and P_DEN 3, tick 1 lies at 16 666 666 ns and tick 3 at 50 000 000 ns. -/
theorem test_tick_60 : tickAt { tp with pNum := 50000000, pDen := 3 } 1 = 16666666 ∧
    tickAt { tp with pNum := 50000000, pDen := 3 } 3 = 50000000 := by decide

/-- R39's table: K is 64 at 60 Hz and 32 at 119.88 Hz in the class of 3 840 Hz, 640 at 23.976 Hz in that of 15 360 Hz with four slot images. -/
theorem test_cycles : cyclesOf { tp with pNum := 50000000, pDen := 3 } = 64 ∧
    cyclesOf { tp with pNum := 25025000, pDen := 3 } = 32 ∧
    cyclesOf { tp with pNum := 125125000, pDen := 3, refresh := 2, slots := 4 } = 640 := by decide

/-- R44: a rate above the limit is clamped, in manual mode. -/
theorem test_rate_clamp : (rateWrite .head 0x7FFFFFFF { up with head.mt.manual := true }).head.mt.rate = 549755813 := by decide +kernel

/-- R107: an empty packet fills one slot, one of 49 parameter bytes two. -/
theorem test_slots : slotsFor 0 = 1 ∧ slotsFor 48 = 1 ∧ slotsFor 49 = 2 ∧ slotsFor 4080 = 64 := by decide

/-- R81, R85: a command in recovery of no role, whose parameters are too long, is refused with BAD_PARAM. -/
theorem test_no_fits : (headErr specPoGetInfo (hc [0]) up).map (fun e => e.status) = some stBadParam := by decide +kernel

/-- A step runs the front command and takes it off the queue; an empty queue counts the clock. -/
theorem test_step_pops : (match step { up with pending := [.porNAssert, .perstAssert] } with
    | .next t => decide (t.pending = [.perstAssert]) | _ => false) = true ∧
    (match step up with | .next t => decide (t.now = up.now + 1) | _ => false) = true := by decide +kernel

/-- The worked examples of R623: C17_TX1_P is CL20, E2_RX3_P is BG4 and its negative ball BH4, PE_TX15_N is CA66. -/
theorem test_head_balls : headBall (.chain 17 1 true false) = { row := 68, col := 20 } ∧ rowName 68 = "CL" ∧
    headBall (.eth 2 3 false false) = { row := 45, col := 4 } ∧ rowName 45 = "BG" ∧ rowName 46 = "BH" ∧
    headBall (.pcie 15 true true) = { row := 58, col := 66 } ∧ rowName 58 = "CA" := by decide

/-- The worked example of R625: sink 37 is the ball B7, ANODE_R_64 is AY71. -/
theorem test_tile_balls : tileBall (.sink 37) = { row := 2, col := 7 } ∧ tileBall (.anode 0 64) = { row := 38, col := 71 } ∧
    rowName 38 = "AY" := by decide

/-- R446's worked example: sink 37 starts 140 ns into its row slot, runs 63 ns in cycle 0, then 1 ns at level 2. -/
theorem test_sink_level :
    let s := { up with tile.lp.dark := false, tile.lp.row := some 64, tile.lp.lit := [{ sink := 37, w := 63, pulses := [2] }] }
    [sinkLevel 37 139 s, sinkLevel 37 140 s, sinkLevel 37 202 s, sinkLevel 37 203 s, sinkLevel 37 204 s] = [0, 16, 16, 3, 0] ∧
      rowClosed 0 1888 59 s = none ∧ rowClosed 0 1888 60 s = some 64 ∧ rowClosed 0 1888 1868 s = none := by decide +kernel

/-- R326: the bit 1 alone comes again 39 and 58 bits later, and what is scrambled is descrambled from the same bits before it. -/
theorem test_scramble : (scramble 0 1).1 = BitVec.ofNat 64 (1 + 2 ^ 39 + 2 ^ 58) ∧ (descramble 0 (scramble 0 1).1).1 = 1 ∧
    (descramble 0x3FFFFFFFFFFFFFF (scramble 0x3FFFFFFFFFFFFFF 0x123456789ABCDEF0).1).1 = 0x123456789ABCDEF0 := by decide +kernel

/-- R58's worked example: D is 17.500 ns and the offset sample −2.000 ns. -/
theorem test_delay :
    let t1 : BitVec 40 := BitVec.ofNat 40 (1000000000 * 256)
    let t2 : BitVec 40 := BitVec.ofNat 40 (1000000019 * 256 + 128)
    let t3 : BitVec 40 := BitVec.ofNat 40 (999984000 * 256)
    let t4 : BitVec 40 := BitVec.ofNat 40 (999984015 * 256 + 128)
    let m : TimeMsg := { seq := 1, tDep := t1, echoSeq := 7, tEchoArr := t4, state := 2, hops := 3, path := true, sec := none }
    exchangeDelay 0 { sent := [(7, t3)] } m t2 = some 4480 ∧ timeOffset 1000000020 m t2 4480 = -512 := by decide +kernel

end Sys2Proof.Tests
end

/-!
What one step does: on an empty queue the clocks count (log entry 2); otherwise the command at the front runs on the state with
the queue's rest (log entry 81).
-/
namespace Sys2Proof.Proofs

open Sys2Proof.Machine Sys2Proof.Laws

variable {s : State}

@[simp] theorem idle_now (s : State) : (idle s).now = s.now + 1 := rfl

@[simp] theorem idle_pending (s : State) : (idle s).pending = s.pending := (idle_keeps s).pend

theorem freeCtr_le_idle (s : State) : s.freeCtr ≤ (idle s).freeCtr := (idle_keeps s).free

theorem step_of_pending_nil (h : s.pending = []) : step s = .next (idle s) := by
  simp only [step, h]

theorem step_of_pending_cons {c : Instr} {rest : List Instr} (h : s.pending = c :: rest) :
    step s = exec c { s with pending := rest } := by
  simp only [step, h]

/-- A command at the front answers a next state, and `Keeps` relates that state to the one with the queue's rest. -/
theorem step_goes_of_pending_cons {c : Instr} {rest : List Instr} (h : s.pending = c :: rest) :
    Goes { s with pending := rest } (step s) := by
  rw [step_of_pending_cons h]
  exact exec_keeps c (Keeps.refl _)

/-- Settles O39. The queue is the model's own form (log entry 81). -/
theorem stepRunsFront : Obligations.StepRunsFront := by
  intro s c
  exact step_of_pending_cons rfl

/-- Settles O42, by whether a command waits. What an idle step keeps is `idle_keeps`, what a command keeps is `exec_keeps`; an event
that is not due still answers a next state (log entry 8). -/
theorem stepAnswers : Obligations.StepAnswers := by
  intro s
  cases h : s.pending with
  | nil => exact ⟨idle s, step_of_pending_nil h, by simp [h], freeCtr_le_idle s, by simp⟩
  | cons c rest =>
    obtain ⟨t, hstep, hkeeps⟩ := step_goes_of_pending_cons h
    exact ⟨t, hstep, hkeeps.pend, hkeeps.free, by simpa using hkeeps.now⟩

end Sys2Proof.Proofs

/-!
The instants of ticks and refresh cycles as exact rationals (R26, R39).
-/
namespace Sys2Proof.Proofs

open Sys2Proof.Machine

/-- R26, for every frame: `Int` division rounds down, before N_O too. -/
theorem tickAt_eq_floor (x : TickPar) (n : Nat) :
    tickAt x n = x.origin + ⌊(((n : ℚ) - x.nO) * x.pNum) / x.pDen⌋ := by
  rw [tickAt, ← Rat.floor_intCast_div_natCast]
  push_cast
  rfl

theorem tickAt_le_exact (x : TickPar) (n : Nat) :
    (tickAt x n : ℚ) ≤ x.origin + (((n : ℚ) - x.nO) * x.pNum) / x.pDen := by
  rw [tickAt_eq_floor, Int.cast_add]
  gcongr
  exact Int.floor_le _

theorem exact_lt_tickAt_add_one (x : TickPar) (n : Nat) :
    x.origin + (((n : ℚ) - x.nO) * x.pNum) / x.pDen < (tickAt x n : ℚ) + 1 := by
  rw [tickAt_eq_floor, Int.cast_add, add_assoc]
  gcongr
  exact Int.lt_floor_add_one _

/-- Rounding to the nearest whole number with halves rounded up, as one division of naturals. -/
theorem natDiv_eq_floor_add_half (a : ℕ) {d : ℕ} (hd : 0 < d) :
    (((2 * a + d) / (2 * d) : ℕ) : ℤ) = ⌊(a : ℚ) / d + 1 / 2⌋ := by
  have hhalf : (a : ℚ) / d + 1 / 2 = ((2 * a + d : ℕ) : ℚ) / ((2 * d : ℕ) : ℚ) := by
    push_cast
    field_simp
  rw [hhalf, Rat.floor_natCast_div_natCast, Int.natCast_div]

/-- K of R39: the multiple of S nearest to the class times P. -/
theorem cyclesOf_eq_floor {x : TickPar} (hden : 0 < x.pDen) (hslots : 0 < x.slots) :
    (cyclesOf x : Int) =
      x.slots * ⌊(3840 * 2 ^ x.refresh * ((x.pNum : ℚ) / x.pDen / 10 ^ 9)) / x.slots + 1 / 2⌋ := by
  have hd : 0 < x.slots * x.pDen * 1000000000 := by positivity
  have hquot : (3840 * 2 ^ x.refresh * ((x.pNum : ℚ) / x.pDen / 10 ^ 9)) / x.slots =
      ((3840 * 2 ^ x.refresh * x.pNum : ℕ) : ℚ) / ((x.slots * x.pDen * 1000000000 : ℕ) : ℚ) := by
    push_cast
    field_simp
    norm_num
  rw [hquot, ← natDiv_eq_floor_add_half _ hd, ← Nat.cast_mul]
  simp only [cyclesOf, mul_assoc]

theorem cycleStart_eq_floor (x : TickPar) (n j : Nat) :
    cycleStart x n j =
      x.origin + ⌊((((n : ℚ) - x.nO) * cyclesOf x + j) * x.pNum) / (cyclesOf x * x.pDen)⌋ := by
  rw [cycleStart, ← Nat.cast_mul, ← Rat.floor_intCast_div_natCast]
  push_cast
  rfl

/-- Settles O47. K is log entry 84's reading of R39. -/
theorem refreshCycles : Obligations.RefreshCycles :=
  ⟨fun _ ⟨hden, hslots⟩ => cyclesOf_eq_floor hden hslots, fun x n j _ => cycleStart_eq_floor x n j⟩

end Sys2Proof.Proofs

/-!
The instants of the tick timeline: what each does once it is due, and that a tick which has not come does nothing (R26, R29, R66).
-/
namespace Sys2Proof.Proofs

open Sys2Proof.Machine

variable {n : Nat} {t : Int} {x : TickPar} {m : Mantel} {s : State}

theorem onPart_of_inService {p : Part} (f : State → State) (hs : inService p s = true) :
    onPart p f s = .next (f s) := by
  rw [onPart, if_pos hs]

/-! ## SPEC, CUTOFF, PUSH_OPEN and PUSH_CLOSE -/

theorem exec_spec_of_due (hs : inService .head s = true) (hdue : specDue n s = true) :
    exec (.spec n) s = .next (if s.head.time.cutN = n then openSpec n s else { s with head.time.specN := n + 1 }) :=
  (onPart_of_inService _ hs).trans (by rw [if_pos hdue])

theorem exec_cutoff_of_due (hs : inService .head s = true) (hdue : cutDue n s = true) :
    exec (.cutoff n) s = .next (twinEval (handOff n (sendCut n (decideFormats n (closeTwin n s))))) :=
  (onPart_of_inService _ hs).trans (by rw [if_pos hdue])

theorem exec_pushOpen_of_recOf_some {r : FrameRec} (hs : inService .head s = true) (hdue : openDue n s = true)
    (hrec : recOf n s = some r) :
    exec (.pushOpen n) s = .next (sendSnapshot (n + 1) (openPush n (powerLate n (governorPoint n (joinAt n s))))) :=
  (onPart_of_inService _ hs).trans (by simp only [hdue, hrec, if_true])

theorem exec_pushOpen_of_recOf_none (hs : inService .head s = true) (hdue : openDue n s = true)
    (hrec : recOf n s = none) :
    exec (.pushOpen n) s = .next { joinAt n s with head.time.openN := n + 1 } :=
  (onPart_of_inService _ hs).trans (by simp only [hdue, hrec, if_true])

theorem exec_pushClose_of_due (hs : inService .head s = true) (hdue : closeDue n s = true) :
    exec (.pushClose n) s = .next (sendDigest n (closePush n s)) :=
  (onPart_of_inService _ hs).trans (by rw [if_pos hdue])

/-! ## TICK -/

theorem exec_tick_head (hs : inService .head s = true) : exec (.tick .head n) s = .next (headTick n s) :=
  onPart_of_inService _ hs

theorem exec_tick_tile (hs : inService .tile s = true) : exec (.tick .tile n) s = .next (tileTick n s) :=
  onPart_of_inService _ hs

theorem edgeOf_of_parFor (hpar : parFor m n = some x) : edgeOf m n = some (tickAt x n) := by
  simp only [edgeOf, hpar]

theorem headTick_of_wall_lt (hedge : edgeOf s.head.mt n = some t) (hwall : (wall s.head.mt : Int) < t) :
    headTick n s = s := by
  simp only [headTick, hedge, hwall, or_true, if_true]

theorem tileTick_of_wall_lt (hedge : edgeOf s.tile.mt n = some t) (hwall : (wall s.tile.mt : Int) < t) :
    tileTick n s = s := by
  simp only [tileTick, hedge, hwall, or_true, if_true]

/-- A tick that is the next of its part and has come passes the guard of log entry 9. -/
theorem tick_guard (hnext : n = nextTick m) (hcome : t ≤ (wall m : Int)) :
    ¬ (n ≠ nextTick m ∨ (wall m : Int) < t) :=
  not_or.mpr ⟨not_not.mpr hnext, not_lt.mpr hcome⟩

theorem headTick_eq_headFlip (hnext : n = nextTick s.head.mt) (hpar : parFor s.head.mt n = some x)
    (hcome : tickAt x n ≤ (wall s.head.mt : Int)) (hclosed : n < s.head.time.closeN) :
    headTick n s = headFlip n (tickAt x n) s := by
  simp only [headTick, edgeOf_of_parFor hpar, if_neg (tick_guard hnext hcome), hpar, Option.isNone_some,
    Bool.false_eq_true, if_false, if_pos hclosed]

theorem headTick_eq_headStop (hnext : n = nextTick s.head.mt) (hpar : parFor s.head.mt n = none)
    (hedge : edgeOf s.head.mt n = some t) (hcome : t ≤ (wall s.head.mt : Int)) :
    headTick n s = headStop n s := by
  simp only [headTick, hedge, if_neg (tick_guard hnext hcome), hpar, Option.isNone_none, if_true]

theorem tileTick_eq_tileFlip (hnext : n = nextTick s.tile.mt) (hpar : parFor s.tile.mt n = some x)
    (hcome : tickAt x n ≤ (wall s.tile.mt : Int)) : tileTick n s = tileFlip n x s := by
  simp only [tileTick, edgeOf_of_parFor hpar, if_neg (tick_guard hnext hcome), hpar]

theorem tileTick_eq_tileStop (hnext : n = nextTick s.tile.mt) (hpar : parFor s.tile.mt n = none)
    (hedge : edgeOf s.tile.mt n = some t) (hcome : t ≤ (wall s.tile.mt : Int)) :
    tileTick n s = tileStop n t s := by
  simp only [tileTick, hedge, if_neg (tick_guard hnext hcome), hpar]

/-- No part flips before the instant of its tick (log entry 8). -/
theorem exec_tick_of_wall_lt {p : Part} (hs : inService p s = true) (hpar : parFor (mtOf p s) n = some x)
    (hwall : (wallOf p s : Int) < tickAt x n) : exec (.tick p n) s = .next s := by
  cases p with
  | head => rw [exec_tick_head hs, headTick_of_wall_lt (edgeOf_of_parFor hpar) hwall]
  | tile => rw [exec_tick_tile hs, tileTick_of_wall_lt (edgeOf_of_parFor hpar) hwall]

/-- Settles O46. -/
theorem tickInstants : Obligations.TickInstants :=
  ⟨fun x n _ => ⟨tickAt_eq_floor x n, tickAt_le_exact x n, exact_lt_tickAt_add_one x n⟩,
    fun _ _ _ _ ⟨hs, hpar, hwall⟩ => exec_tick_of_wall_lt hs hpar hwall⟩

/-- Settles O37. Instants that come late are log entry 9's, the formats decided at the cutoff log entry 92's. -/
theorem frameEventsComplete : Obligations.FrameEventsComplete := by
  refine ⟨fun _ _ ⟨hs, hdue⟩ => exec_spec_of_due hs hdue,
    fun _ _ ⟨hs, hdue⟩ => exec_cutoff_of_due hs hdue,
    fun _ _ _ ⟨hs, hdue, hrec⟩ => exec_pushOpen_of_recOf_some hs hdue hrec,
    fun _ _ ⟨hs, hdue, hrec⟩ => exec_pushOpen_of_recOf_none hs hdue hrec,
    fun _ _ ⟨hs, hdue⟩ => exec_pushClose_of_due hs hdue,
    ?headFlip, ?tileFlip, ?tileStop, ?headStop⟩
  case headFlip =>
    rintro n x s ⟨hs, hnext, hpar, hcome, hclosed⟩
    rw [exec_tick_head hs, headTick_eq_headFlip hnext hpar hcome hclosed]
  case tileFlip =>
    rintro n x s ⟨hs, hnext, hpar, hcome⟩
    rw [exec_tick_tile hs, tileTick_eq_tileFlip hnext hpar hcome]
  case tileStop =>
    rintro n t s ⟨hs, hnext, hpar, hedge, hcome⟩
    rw [exec_tick_tile hs, tileTick_eq_tileStop hnext hpar hedge hcome]
  case headStop =>
    rintro n t s ⟨hs, hnext, hpar, hedge, hcome⟩
    rw [exec_tick_head hs, headTick_eq_headStop hnext hpar hedge hcome]

end Sys2Proof.Proofs

/-!
Wall time from the base pair and RATE (R43), and what a new RATE leaves of it (R44, R45).
-/
namespace Sys2Proof.Proofs

open Sys2Proof.Machine

variable {p : Part} {s : State}

theorem unsigned_natCast (w a : Nat) : unsigned w (a : Int) = a % 2 ^ w := by
  rw [unsigned, ← Int.natCast_mod, Int.toNat_natCast]

theorem natCast_unsigned (w : Nat) (v : Int) : (unsigned w v : Int) = v % 2 ^ w := by
  rw [unsigned, Int.toNat_of_nonneg (Int.emod_nonneg _ (by positivity))]
  push_cast
  rfl

/-- The counter's distance from c_B, as the signed difference modulo 2^64. -/
theorem natCast_toNat_sub {w : Nat} (a b : BitVec w) :
    ((a - b).toNat : Int) = ((a.toNat : Int) - b.toNat) % 2 ^ w := by
  have hb : b.toNat ≤ 2 ^ w := b.isLt.le
  rw [BitVec.toNat_sub, Int.natCast_mod]
  push_cast [Nat.cast_sub hb]
  rw [show (2 ^ w - b.toNat + a.toNat : Int) = a.toNat - b.toNat + 2 ^ w by ring, Int.add_emod_right]

/-- R43 as it is written, for every base pair and RATE. -/
theorem wallAt_eq_floor (m : Mantel) (c : BitVec 64) :
    (wallAt m c : Int) =
      ((m.wB.toNat : Int) + ((c.toNat : Int) - m.cB.toNat) % 2 ^ 64 +
        ⌊(((((c.toNat : Int) - m.cB.toNat) % 2 ^ 64) * m.rate : Int) : ℚ) / 2 ^ 40⌋) % 2 ^ 64 := by
  have hfloor (a : Int) : ⌊(a : ℚ) / 2 ^ 40⌋ = a / 1099511627776 := by
    rw [show (2 ^ 40 : ℚ) = ((1099511627776 : ℕ) : ℚ) by norm_num, Rat.floor_intCast_div_natCast]
    rfl
  rw [wallAt, natCast_unsigned, natCast_toNat_sub, hfloor]

theorem wallAt_lt (m : Mantel) (c : BitVec 64) : wallAt m c < 2 ^ 64 := by
  have h := Int.emod_lt_of_pos ((m.wB.toNat : Int) + (c - m.cB).toNat + ((c - m.cB).toNat * m.rate) / 1099511627776)
    (show (0 : Int) < 2 ^ 64 by norm_num)
  rw [← natCast_unsigned] at h
  exact_mod_cast h

theorem wall_lt (m : Mantel) : wall m < 2 ^ 64 := wallAt_lt m m.cnt

/-- At the base pair's own counter value wall time is W_B, whatever RATE is. -/
theorem wallAt_cB (m : Mantel) : wallAt m m.cB = m.wB.toNat := by
  have hW : m.wB.toNat % 2 ^ 64 = m.wB.toNat := Nat.mod_eq_of_lt m.wB.isLt
  simp only [wallAt, BitVec.sub_self, BitVec.toNat_zero, Nat.cast_zero, Int.zero_mul, Int.zero_ediv, add_zero,
    unsigned_natCast, hW]

/-! ## A new RATE -/

variable (r : Int) (m : Mantel)

theorem clampI_eq_max_min {lo hi : Int} (h : lo ≤ hi) (v : Int) : clampI lo hi v = max lo (min hi v) := by
  unfold clampI
  split_ifs <;> omega

@[simp] theorem setRate_rate : (setRate r m).rate = clampRate r := rfl
@[simp] theorem setRate_cnt : (setRate r m).cnt = m.cnt := rfl
@[simp] theorem setRate_cB : (setRate r m).cB = m.cnt := rfl

theorem clampRate_eq_max_min : clampRate r = max (-549755813) (min 549755813 r) := clampI_eq_max_min (by norm_num) r

theorem setRate_wB_toNat : (setRate r m).wB.toNat = wall m :=
  (BitVec.toNat_ofNat _ _).trans (Nat.mod_eq_of_lt (wall_lt m))

/-- Wall time is continuous across a change of RATE (R45): the new base pair stands at the counter. -/
theorem wall_setRate : wall (setRate r m) = wall m :=
  (wallAt_cB (setRate r m)).trans (setRate_wB_toNat r m)

@[simp] theorem mtOf_setMt (p : Part) (s : State) : mtOf p (setMt p m s) = m := by
  cases p <;> rfl

theorem exec_mtRateWrite_of_manual (hs : inService p s = true) (hm : (mtOf p s).manual = true) (v : Word) :
    exec (.mtRateWrite p v) s = .next (setMt p (setRate v.toInt (mtOf p s)) s) :=
  (onPart_of_inService _ hs).trans (by rw [rateWrite, if_pos hm])

/-- Settles O45. -/
theorem rateKeepsWallTime : Obligations.RateKeepsWallTime := by
  refine ⟨fun p v s ⟨hs, hm⟩ => ⟨_, exec_mtRateWrite_of_manual hs hm v, ?_⟩, fun m r =>
    ⟨clampRate_eq_max_min r, wall_setRate r m, rfl, setRate_wB_toNat r m⟩⟩
  simp only [wallOf, mtOf_setMt, setRate_rate, setRate_cB, clampRate_eq_max_min, setRate_wB_toNat, wall_setRate,
    true_and]
  rw [← clampRate_eq_max_min]
  rfl

/-! ## A read of MT_CNT_LO -/

theorem exec_mtCntLoRead (hs : inService p s = true) : exec (.mtCntLoRead p) s = .next (cntLoRead p s).2 :=
  onPart_of_inService (fun s => (cntLoRead p s).2) hs

/-- Settles O44. -/
theorem wallTimeFormula : Obligations.WallTimeFormula := by
  refine ⟨wallAt_eq_floor, fun p s hs => ⟨_, exec_mtCntLoRead hs, ?_⟩⟩
  have hW : wall (mtOf p s) < 2 ^ 64 := wall_lt _
  simp only [cntLoRead, mtOf_setMt, wallOf, BitVec.toNat_ofNat, and_true]
  constructor <;> omega

end Sys2Proof.Proofs

/-!
What a command may change: one block of the state, and traffic.
-/
namespace Sys2Proof.Proofs

open Sys2Proof.Machine Sys2Proof.Safety Sys2Proof.Laws

/-- A block of the state: how it is read and how it is replaced. It holds no traffic. -/
structure Block (β : Type) where
  get : State → β
  set : β → State → State
  get_set : ∀ b s, get (set b s) = b := by intros; rfl
  set_get : ∀ s, set (get s) s = s := by intros; rfl
  set_set : ∀ b b' s, set b (set b' s) = set b s := by intros; rfl
  get_still : ∀ s, get (still s) = get s := by intros; rfl
  still_set : ∀ b s, still (set b s) = set b (still s) := by intros; rfl

/-- `t` differs from `s` in the block and in traffic at most. -/
def Block.Changes {β : Type} (B : Block β) (s t : State) : Prop := ∃ b, still t = still (B.set b s)

namespace Block

section
variable {β : Type} {B : Block β} {s t u : State}

theorem changes_of_still (h : still t = still s) : B.Changes s t := ⟨B.get s, by rw [B.set_get, h]⟩

theorem Changes.refl (s : State) : B.Changes s s := changes_of_still rfl

theorem changes_set (b : β) (s : State) : B.Changes s (B.set b s) := ⟨b, rfl⟩

theorem Changes.trans (h : B.Changes s t) (k : B.Changes t u) : B.Changes s u := by
  obtain ⟨a, ha⟩ := h
  obtain ⟨b, hb⟩ := k
  exact ⟨b, by rw [hb, B.still_set, ha, ← B.still_set, B.set_set]⟩

theorem Changes.then_still (h : B.Changes s t) (k : still u = still t) : B.Changes s u := h.trans (changes_of_still k)

theorem Changes.ite {p : Prop} [Decidable p] (h : B.Changes s t) (k : B.Changes s u) :
    B.Changes s (if p then t else u) := by
  split
  · exact h
  · exact k

theorem changes_foldl {α : Type} {f : State → α → State} (h : ∀ s a, B.Changes s (f s a)) :
    ∀ (l : List α) (s : State), B.Changes s (l.foldl f s)
  | [], s => Changes.refl s
  | a :: l, s => (h s a).trans (changes_foldl h l (f s a))

/-- The block of `t` put into `s` gives `t` but for traffic. -/
theorem Changes.still_eq (h : B.Changes s t) : still t = still (B.set (B.get t) s) := by
  obtain ⟨b, hb⟩ := h
  have hget : B.get t = b := by rw [← B.get_still, hb, B.get_still, B.get_set]
  rw [hget, hb]

/-- A command whose effect on a part that takes it stays in a block. -/
theorem frame_of_run {o : OpSpec} (hrun : ∀ c s, B.Changes s (o.run c s)) {c : Cmd} (h : runCmd o c s = .next t) :
    still t = still (B.set (B.get t) s) :=
  runCmd_frame B.get B.set B.still_set B.get_still B.set_get (fun c s => (hrun c s).still_eq) h

theorem changes_ok (h : B.Changes s t) (c : Cmd) (op : Nat) (l : List Byte) : B.Changes s (ok c op l t) :=
  h.then_still (still_ok c op l t)

theorem changes_okTarget (h : B.Changes s t) (c : Cmd) (op : Nat) (f : Option (Nat × Bool)) :
    B.Changes s (okTarget c op f t) :=
  h.then_still (still_okTarget c op f t)

end

/-! ## The blocks of the settings -/

def lamp : Block Lamp where
  get s := s.tile.lp
  set b s := { s with tile.lp := b }

def landing : Block (Landing × Larder) where
  get s := (s.tile.ld, s.tile.lr)
  set b s := { s with tile.ld := b.1, tile.lr := b.2 }

def hearth : Block Hearth where
  get s := s.tile.ht
  set b s := { s with tile.ht := b }

def audio : Block Audio where
  get s := s.head.au
  set b s := { s with head.au := b }

def foyer : Block Foyer where
  get s := s.head.fy
  set b s := { s with head.fy := b }

def time : Block HeadTime where
  get s := s.head.time
  set b s := { s with head.time := b }

/-- The Head's Mantel with its time of day and PTP, and the counter of free values, from which a mean RATE is rounded
(log entry 3). -/
def mantel : Block (HeadTime × Mantel × Nat) where
  get s := (s.head.time, s.head.mt, s.freeCtr)
  set b s := { s with head.time := b.1, head.mt := b.2.1, freeCtr := b.2.2 }

def cellar : Block Cellar where
  get s := s.head.cl
  set b s := { s with head.cl := b }

def push : Block Push where
  get s := s.head.pp
  set b s := { s with head.pp := b }

/-- Dumbwaiter on both parts. -/
def dumbwaiters : Block (Dw × Dw) where
  get s := (s.head.dw, s.tile.dw)
  set b s := { s with head.dw := b.1, tile.dw := b.2 }

def attic : Block Attic where
  get s := s.head.at_
  set b s := { s with head.at_ := b }

/-! ## What the operations of a block change -/

section
variable (s : State)

theorem lamp_updLp (f : Lamp → Lamp) : lamp.Changes s (updLp f s) := changes_set (B := lamp) _ s

theorem lamp_startFades (n : Nat) (a : Int) : lamp.Changes s (startFades n a s) := lamp_updLp s _

theorem lamp_stepFade (a : Int) : lamp.Changes s (stepFade a s) := by
  unfold stepFade
  split
  · exact .refl s
  · exact lamp_updLp s _

theorem landing_updLd (f : Landing → Landing) : landing.Changes s (updLd f s) := changes_set (B := landing) (_, _) s

theorem landing_updLr (f : Larder → Larder) : landing.Changes s (updLr f s) := changes_set (B := landing) (_, _) s

theorem landing_limitsNow : landing.Changes s (limitsNow s) :=
  .ite ((landing_updLd s _).trans (landing_updLr _ _)) (.refl s)

theorem hearth_updHt (f : Hearth → Hearth) : hearth.Changes s (updHt f s) := changes_set (B := hearth) _ s

theorem hearth_coefWrite (bank n w : Nat) (v : Word) : hearth.Changes s (coefWrite bank n w v s) := hearth_updHt s _

theorem audio_updAu (f : Audio → Audio) : audio.Changes s (updAu f s) := changes_set (B := audio) _ s

theorem foyer_updFy (f : Foyer → Foyer) : foyer.Changes s (updFy f s) := changes_set (B := foyer) _ s

theorem cellar_updStack (k : Nat) (f : Stack → Stack) : cellar.Changes s (updStack k f s) := changes_set (B := cellar) _ s

theorem cellar_ceRate (k : Nat) : cellar.Changes s (ceRate k s) :=
  .ite ((cellar_updStack s k _).then_still (still_post _ _ _ _ _ _ _)) (.refl s)

theorem dumbwaiters_updDw (p : Part) (f : Dw → Dw) : dumbwaiters.Changes s (updDw p f s) := by
  cases p with
  | head => exact changes_set (B := dumbwaiters) (_, _) s
  | tile => exact changes_set (B := dumbwaiters) (_, _) s

theorem mantel_setMt (m : Mantel) : mantel.Changes s (setMt .head m s) := changes_set (B := mantel) (_, _, _) s

theorem mantel_enterHoldover : mantel.Changes s (enterHoldover .head s) :=
  .ite (.refl s) (((changes_set (B := mantel) (_, _, _) s).trans (mantel_setMt (draw s).2 _)).then_still (still_post _ _ _ _ _ _ _))

theorem mantel_newInstance : mantel.Changes s (newInstance s) :=
  have h := changes_set (B := mantel) (_, _, _) s
  .ite (h.trans (mantel_enterHoldover _)) h

theorem mantel_setPtp (cfg : PtpCfg) : mantel.Changes s (setPtp cfg s) :=
  have h := changes_set (B := mantel) (_, _, _) s
  .ite h (h.trans (mantel_newInstance _))

end

end Block

open Block

/-- Settles O58, block by block: the run of each opcode stays in its block (for DW_SET_TABLE Dumbwaiter on both parts, as the
statement has it). -/
theorem settingFrames : Obligations.SettingFrames := by
  refine ⟨fun c s t h => ?lamp, fun c s t h => ?landing, fun c s t h => ?hearth, fun c s t h => ?audio,
    fun c s t h => ?foyer, fun c s t h => ?time, fun c s t h => ?ptp, fun c s t h => ?cellar, fun c s t h => ?push,
    fun c s t h => ?dumbwaiter, fun c s t h => ?attic⟩
  case lamp =>
    rcases h with h | h | h | h | h
    · refine lamp.frame_of_run (o := specLpSetCurrent) (fun c s => changes_okTarget ?_ _ _ _) h
      split
      · exact lamp_updLp s _
      · exact lamp_updLp s _
    · exact lamp.frame_of_run (o := specLpFade) (fun c s => changes_okTarget (.ite
        ((lamp_updLp s _).trans ((lamp_startFades _ _ _).trans (lamp_stepFade _ _))) (lamp_updLp s _)) _ _ _) h
    · exact lamp.frame_of_run (o := specLpSetWaveform) (fun c s => changes_ok (lamp_updLp s _) _ _ _) h
    · exact lamp.frame_of_run (o := specLpSetScan) (fun c s => changes_ok (lamp_updLp s _) _ _ _) h
    · exact lamp.frame_of_run (o := specLpSetDetect) (fun c s => changes_ok (lamp_updLp s _) _ _ _) h
  case landing =>
    rcases h with h | h
    · exact landing.frame_of_run (o := specLdSetLimits)
        (fun c s => changes_ok ((landing_updLd s _).trans (landing_limitsNow _)) _ _ _) h
    · exact landing.frame_of_run (o := specLrSetDrift)
        (fun c s => changes_ok ((landing_updLd s _).trans ((landing_updLr _ _).trans (landing_limitsNow _))) _ _ _) h
  case hearth =>
    rcases h with h | h | h | h
    · exact hearth.frame_of_run (o := specHtSetCoef)
        (fun c s => changes_ok (changes_foldl (fun a _ => hearth_coefWrite a _ _ _ _) _ s) _ _ _) h
    · exact hearth.frame_of_run (o := specHtSwapBank)
        (fun c s => changes_okTarget (.ite (.refl s) (hearth_updHt s _)) _ _ _) h
    · exact hearth.frame_of_run (o := specHtClearFault)
        (fun c s => changes_ok (changes_foldl (fun a _ => .ite (hearth_updHt a _) (.refl a)) _ s) _ _ _) h
    · exact hearth.frame_of_run (o := specHtSetLead) (fun c s => changes_ok (hearth_updHt s _) _ _ _) h
  case audio =>
    rcases h with h | h
    · exact audio.frame_of_run (o := specAuSetPort) (fun c s => changes_ok (audio_updAu s _) _ _ _) h
    · exact audio.frame_of_run (o := specAuSetGroup) (fun c s => changes_ok (audio_updAu s _) _ _ _) h
  case foyer =>
    rcases h with h | h | h | h | h
    · exact foyer.frame_of_run (o := specFySetSubport) (fun c s => changes_ok (foyer_updFy s _) _ _ _) h
    · exact foyer.frame_of_run (o := specFySetVideoStream) (fun c s => changes_ok
        ((foyer_updFy s _).trans ((foyer_updFy _ _).trans (foyer_updFy _ _))) _ _ _) h
    · exact foyer.frame_of_run (o := specFySetAudioStream) (fun c s => changes_ok (foyer_updFy s _) _ _ _) h
    · exact foyer.frame_of_run (o := specFySetAncStream) (fun c s => changes_ok (foyer_updFy s _) _ _ _) h
    · exact foyer.frame_of_run (o := specPlLeaseGuard) (fun c s => changes_ok (changes_set _ s) _ _ _) h
  case time =>
    exact Block.time.frame_of_run (o := specMtSetTod) (fun c s => changes_ok (changes_set _ s) _ _ _) h
  case ptp =>
    exact mantel.frame_of_run (o := specMtSetPtp) (fun c s => changes_ok (mantel_setPtp s _) _ _ _) h
  case cellar =>
    rcases h with h | h | h
    · exact cellar.frame_of_run (o := specClSetScrub) (fun c s => changes_ok
        ((changes_set _ s).trans ((cellar_ceRate _ _).trans (cellar_ceRate _ _))) _ _ _) h
    · exact cellar.frame_of_run (o := specClInjectError) (fun c s => changes_ok (changes_set _ s) _ _ _) h
    · exact cellar.frame_of_run (o := specClGetErrors)
        (fun c s => changes_ok (.ite (cellar_updStack s _ _) (.refl s)) _ _ _) h
  case push =>
    exact push.frame_of_run (o := specPpSetStatusRing) (fun c s => changes_ok (changes_set _ s) _ _ _) h
  case dumbwaiter =>
    exact dumbwaiters.frame_of_run (o := specDwSetTable) (fun c s => changes_ok (dumbwaiters_updDw s _ _) _ _ _) h
  case attic =>
    exact attic.frame_of_run (o := specAtConfirm)
      (fun c s => changes_ok (.ite (changes_set _ s) (.refl s)) _ _ _) h

end Sys2Proof.Proofs

/-!
What an idle step and reset leave, and what Mantel's commands, registers and events do once their conditions hold (R42 to R79).
-/
namespace Sys2Proof.Proofs

open Sys2Proof.Machine Sys2Proof.Laws

variable {p : Part} {k u : Nat} {m : PtpMsg} {x : Int} {s : State}

/-! ## An idle step and reset -/

/-- A part's Mantel after an idle step: its counter counts in service alone (R42). -/
def countIf (b : Bool) (m : Mantel) : Mantel := { m with cnt := if b then m.cnt + 1 else m.cnt }

theorem idle_eq (s : State) :
    idle s = { s with
      now := s.now + 1
      head.mt := countIf (inService .head s) s.head.mt
      tile.mt := countIf (inService .tile s) s.tile.mt } := by
  simp only [idle, inService, countIf, countOn, beq_iff_eq]
  split_ifs <;> rfl

/-- Settles O40. That an empty queue counts the clock is log entry 2's choice. -/
theorem stepIdle : Obligations.StepIdle := by
  intro s hnil
  refine ⟨idle s, step_of_pending_nil hnil, idle_now s, ?_⟩
  rw [idle_eq]
  exact ⟨rfl, rfl, rfl⟩

/-- Settles O59. That no command waits is log entry 81's form of the queue. -/
theorem resetValues : Obligations.ResetValues := by
  refine ⟨?counters, ?cellar, ⟨rfl, rfl, rfl, rfl, rfl, ?layerCount, ?layers, ?fences⟩, ?push, ?ports, ?twin, ?lamp, ?audio, ?queue⟩
  case counters => decide
  case cellar => decide
  case layerCount => decide
  case layers => decide
  case fences => rfl
  case push => decide
  case ports => decide
  case twin => rfl
  case lamp => decide
  case audio => decide
  case queue => rfl

/-! ## The commands -/

/-- Settles O22: each is the run of its opcode's row on the state in which the command is among the outstanding ones.
When MT_SET_PTP makes the PTP clock anew is log entry 90's. -/
theorem mantelCommandsComplete : Obligations.MantelCommandsComplete :=
  ⟨fun _ _ h => runCmd_of_accepts h, fun _ _ h => runCmd_of_accepts h, fun _ _ h => runCmd_of_accepts h,
    fun _ _ h => runCmd_of_accepts h, fun _ _ h => runCmd_of_accepts h, fun _ _ h => runCmd_of_accepts h,
    fun _ _ h => runCmd_of_accepts h, fun _ _ h => runCmd_of_accepts h⟩

/-! ## Registers and compare units -/

theorem exec_mtTrigArm (hs : inService p s = true) (hu : u < (mtOf p s).trigs.length) (v : Word) :
    exec (.mtTrigArm p u v) s = .next (trigCtlWrite p u v s) := by
  change execMtTrigArm p u v s = _
  rw [execMtTrigArm, onPart_of_inService _ hs, if_pos hu]

theorem exec_mtTrigTgtWrite (hs : inService p s = true) (hu : u < (mtOf p s).trigs.length) (hi : Bool) (v : Word) :
    exec (.mtTrigTgtWrite p u hi v) s = .next (trigTgtWrite p u hi v s) := by
  change execMtTrigTgtWrite p u hi v s = _
  rw [execMtTrigTgtWrite, onPart_of_inService _ hs, if_pos hu]

/-- A unit fires once its target has come and neither a generator nor a unit of a lower number is due (R70). -/
theorem exec_triggerFire (hs : inService p s = true) (hu : u < (mtOf p s).trigs.length)
    (harm : ((mtOf p s).trigs.getD u {}).arm = true) (hcome : trigTarget ((mtOf p s).trigs.getD u {}) ≤ wallOf p s)
    (hgen : generatorDue p s = false) (hlower : (List.range u).any (fun v => trigDue p v s) = false) :
    exec (.triggerFire p u) s = .next (fireTrig p u false s) := by
  change execTriggerFire p u s = _
  rw [execTriggerFire, onPart_of_inService _ hs, if_pos ⟨hu, harm, hcome, Bool.eq_false_iff.mp hgen, Bool.eq_false_iff.mp hlower⟩]

/-- Settles O23. How a unit fires again and late is log entry 88's. -/
theorem mantelRegisterEventsComplete : Obligations.MantelRegisterEventsComplete := by
  refine ⟨fun p s hs => exec_mtCntLoRead hs, fun p v s ⟨hs, hm⟩ => exec_mtRateWrite_of_manual hs hm v,
    fun p s hs => onPart_of_inService (holdSet p) hs, fun p s hs => onPart_of_inService (servoManual p) hs,
    fun p u v s ⟨hs, hu⟩ => exec_mtTrigArm hs hu v, fun p u hi v s ⟨hs, hu⟩ => exec_mtTrigTgtWrite hs hu hi v, ?fire⟩
  case fire =>
    rintro p u s ⟨hs, hu, harm, hcome, hgen, hlower⟩
    exact exec_triggerFire hs hu harm hcome hgen hlower

/-! ## PTP and 1PPS -/

/-- PTP takes what comes to a port of its own, with its domain and transport. -/
def Hears (k : Nat) (m : PtpMsg) (s : State) : Prop :=
  m.domain = s.head.time.cfg.domain ∧ m.transport = s.head.time.cfg.transport ∧ s.head.time.cfg.portMask.getLsbD k = true ∧
    ptpPortOff k s = false

theorem ptpMessage_announce (h : Hears k m s) (hkind : m.kind = .announce) (hrole : s.head.time.cfg.role ≠ 3) :
    ptpMessage k m x s = chooseMaster (addForeign k m s) := by
  obtain ⟨hdom, htr, hmask, hport⟩ := h
  simp [ptpMessage, hdom, htr, hmask, hport, hkind, hrole]

theorem ptpMessage_oneStepSync (h : Hears k m s) (hkind : m.kind = .sync) (hone : m.twoStep = false)
    (hmaster : fromMaster k m s = true) (hts : s.head.mt.tsEn = true) :
    ptpMessage k m x s = syncSample k (256 * m.originTs + m.correction) (rxTs k x s) s := by
  obtain ⟨hdom, htr, hmask, hport⟩ := h
  simp [ptpMessage, hdom, htr, hmask, hport, hkind, hone, hmaster, hts]

theorem exec_ptpMessageReceived (hs : inService .head s = true) :
    exec (.ptpMessageReceived k m x) s = .next (ptpMessage k m x s) :=
  onPart_of_inService _ hs

theorem exec_ptpMessageSend_sync (hs : inService .head s = true) (hmask : s.head.time.cfg.portMask.getLsbD k = true)
    (hport : ptpPortOff k s = false) (hrole : s.head.time.cfg.role = 1)
    (hslave : ¬ (s.head.time.masterNow = true ∧ s.head.time.masterPort = k)) (hts : s.head.mt.tsEn = true) :
    exec (.ptpMessageSend k .sync x) s = .next (emit .head
      (.eth k (if s.head.time.cfg.flags.getLsbD 0 then 0 else 8) [s.head.time.txSeq, s.head.time.cfg.domain, txTs k x s])
      { s with head.time.txSeq := (s.head.time.txSeq + 1) % 65536 }) := by
  have hoff : ¬ (¬ s.head.time.cfg.portMask.getLsbD k = true ∨ ptpPortOff k s = true) :=
    not_or.mpr ⟨not_not.mpr hmask, Bool.eq_false_iff.mp hport⟩
  change execPtpMessageSend k .sync x s = _
  rw [execPtpMessageSend, onPart_of_inService _ hs, if_neg hoff]
  exact congrArg _ (if_pos ⟨⟨.inl hrole, hslave⟩, hts⟩)

theorem exec_ppsInEdge_of_grandmaster (hs : inService .head s = true) (hrole : s.head.time.cfg.role = 3) :
    exec .ppsInEdge s = .next (
      let w := wall s.head.mt
      let off : Int := 256 * ((s.head.time.todSec.toNat * 1000000000 : Nat) - (w : Int))
      let s2 := headSource 7 { s with
        head.time.ppsLast := w, head.time.ppsSeen := true, head.time.todSec := s.head.time.todSec + 1
        head.time.ppsOffset := -off }
      if s2.head.mt.srcPort = 7 then offsetSample .head off s2 else s2) := by
  change execPpsInEdge s = _
  rw [execPpsInEdge, onPart_of_inService _ hs, if_neg (not_not.mpr hrole)]

theorem exec_ppsInEdge_of_not_grandmaster (hs : inService .head s = true) (hrole : s.head.time.cfg.role ≠ 3) :
    exec .ppsInEdge s = .next s := by
  change execPpsInEdge s = _
  rw [execPpsInEdge, onPart_of_inService _ hs, if_pos hrole]

theorem exec_announceTimeout (hs : inService .head s = true) (hnow : s.head.time.masterNow = true)
    (hport : s.head.time.masterPort = k)
    (hdue : s.head.time.lastAnnounce + s.head.time.cfg.announceTimeout * logInterval s.head.time.cfg.logAnnounce ≤ wall s.head.mt) :
    exec (.announceTimeout k) s = .next (chooseMaster s) := by
  change execAnnounceTimeout k s = _
  rw [execAnnounceTimeout, onPart_of_inService _ hs, if_pos ⟨hnow, hport, hdue⟩]

theorem exec_ppsLossTimeout (hs : inService .head s = true) (hsrc : s.head.mt.srcPort = 7)
    (hdue : s.head.time.ppsLast + 2000000000 ≤ wall s.head.mt) :
    exec .ppsLossTimeout s = .next (enterHoldover .head s) := by
  change execPpsLossTimeout s = _
  rw [execPpsLossTimeout, onPart_of_inService _ hs, if_pos ⟨hsrc, hdue⟩]

/-! ## Chain time -/

theorem exec_timeSourceInvalid_tile (hs : inService .tile s = true) (hval : timeValid s.now (timePort .tile k s) = false) :
    exec (.timeSourceInvalid .tile k) s =
      .next (tileHops (tileReselect (updTimePort .tile k (fun x => { x with validSince := none }) s))) := by
  change execTimeSourceInvalid .tile k s = _
  rw [execTimeSourceInvalid, onPart_of_inService _ hs, if_neg (Bool.eq_false_iff.mp hval)]

theorem exec_timeSourceInvalid_twin (hs : inService .head s = true) (hval : timeValid s.now (timePort .head 32 s) = false)
    (hsrc : (updTimePort .head 32 (fun x => { x with validSince := none }) s).head.mt.srcPort = 6) :
    exec (.timeSourceInvalid .head 32) s =
      .next (enterHoldover .head (updTimePort .head 32 (fun x => { x with validSince := none }) s)) := by
  change execTimeSourceInvalid .head 32 s = _
  rw [execTimeSourceInvalid, onPart_of_inService _ hs, if_neg (Bool.eq_false_iff.mp hval)]
  exact congrArg _ (if_pos ⟨rfl, hsrc⟩)

theorem exec_timeSourceReturn (hs : inService .tile s = true) (hsrc : s.tile.mt.srcPort = 1)
    (hval : validSecond 0 s = true) :
    exec .timeSourceReturn s = .next (tileHops { s with tile.mt.srcPort := 0, tile.time.changed := true }) := by
  change execTimeSourceReturn s = _
  rw [execTimeSourceReturn, onPart_of_inService _ hs, if_pos ⟨hsrc, hval⟩]

theorem exec_holdoverExpired (hs : inService .tile s = true) (hservo : s.tile.mt.servo = .holdover)
    (hdue : s.tile.mt.holdSince + 1000000 * s.tile.time.holdLimitMs ≤ wall s.tile.mt) :
    exec .holdoverExpired s = .next (post .tile 0x02 3 0x0005 0 (BitVec.ofNat 64 (wall s.tile.mt - s.tile.mt.holdSince))
      (darken 4 { s with tile.mt.servo := .expired })) := by
  change execHoldoverExpired s = _
  rw [execHoldoverExpired, onPart_of_inService _ hs, if_pos ⟨hservo, hdue⟩]

theorem exec_twinTimeAlarm_set {t : Nat} (hs : inService .head s = true) (hover : s.head.time.twinOverSince = some t)
    (hclear : s.head.time.twinAlarm = false) (hdue : t + 1000000000 ≤ s.now) :
    exec .twinTimeAlarm s = .next (post .head 0x02 2 0x0006 1 (s.head.time.twinOffset.signExtend 64)
      { s with head.time.twinAlarm := true }) := by
  change execTwinTimeAlarm s = _
  simp only [execTwinTimeAlarm, onPart_of_inService _ hs, hover, if_pos (And.intro (Bool.eq_false_iff.mp hclear) hdue)]

theorem exec_twinTimeAlarm_clear (hs : inService .head s = true) (hover : s.head.time.twinOverSince = none)
    (hset : s.head.time.twinAlarm = true) :
    exec .twinTimeAlarm s = .next (post .head 0x02 2 0x0006 0 (s.head.time.twinOffset.signExtend 64)
      { s with head.time.twinAlarm := false }) := by
  change execTwinTimeAlarm s = _
  simp only [execTwinTimeAlarm, onPart_of_inService _ hs, hover, if_pos hset]

/-- Settles O24. What a TIME message carries and records is log entries 15 and 83's, the PTP arithmetic log entries 16 and 17's. -/
theorem mantelTimeEventsComplete : Obligations.MantelTimeEventsComplete := by
  refine ⟨?announce, ?sync, ?syncSend, fun s ⟨hs, hrole⟩ => exec_ppsInEdge_of_grandmaster hs hrole,
    fun s ⟨hs, hrole⟩ => exec_ppsInEdge_of_not_grandmaster hs hrole,
    fun k s ⟨hs, hnow, hport, hdue⟩ => exec_announceTimeout hs hnow hport hdue,
    fun s ⟨hs, hsrc, hdue⟩ => exec_ppsLossTimeout hs hsrc hdue, ?timeSend, ?timeTile, ?timeTwin, ?timeHead,
    fun k s ⟨hs, hval⟩ => exec_timeSourceInvalid_tile hs hval,
    fun s ⟨hs, hval, hsrc⟩ => exec_timeSourceInvalid_twin hs hval hsrc,
    fun s ⟨hs, hsrc, hval⟩ => exec_timeSourceReturn hs hsrc hval,
    fun s ⟨hs, hservo, hdue⟩ => exec_holdoverExpired hs hservo hdue,
    fun t s ⟨hs, hover, hclear, hdue⟩ => exec_twinTimeAlarm_set hs hover hclear hdue,
    fun s ⟨hs, hover, hset⟩ => exec_twinTimeAlarm_clear hs hover hset⟩
  case announce =>
    rintro k m x s ⟨hs, hdom, htr, hmask, hport, hkind, hrole⟩
    rw [exec_ptpMessageReceived hs, ptpMessage_announce ⟨hdom, htr, hmask, hport⟩ hkind hrole]
  case sync =>
    rintro k m x s ⟨hs, hdom, htr, hmask, hport, hkind, hone, hmaster, hts⟩
    rw [exec_ptpMessageReceived hs, ptpMessage_oneStepSync ⟨hdom, htr, hmask, hport⟩ hkind hone hmaster hts]
  case syncSend =>
    rintro k x s ⟨hs, hmask, hport, hrole, hslave, hts⟩
    exact exec_ptpMessageSend_sync hs hmask hport hrole hslave hts
  case timeSend =>
    rintro p k s ⟨hs, hactive, hcred, hdue⟩
    change execTimeMessageSend p k s = _
    rw [execTimeMessageSend, onPart_of_inService _ hs]
    exact congrArg _ (if_neg (not_or.mpr ⟨not_not.mpr hactive, not_or.mpr ⟨not_not.mpr hdue, hcred⟩⟩))
  case timeTile =>
    intro k m a s hs
    change execTimeMessageReceived .tile k m a s = _
    rw [execTimeMessageReceived, onPart_of_inService _ hs]
    rfl
  case timeTwin =>
    intro m a s hs
    change execTimeMessageReceived .head 32 m a s = _
    rw [execTimeMessageReceived, onPart_of_inService _ hs]
    rfl
  case timeHead =>
    rintro k m a s ⟨hs, hk⟩
    change execTimeMessageReceived .head k m a s = _
    rw [execTimeMessageReceived, onPart_of_inService _ hs]
    exact congrArg _ (if_neg hk)

end Sys2Proof.Proofs

/-!
The invariant of a run, from what every command keeps.
-/
namespace Sys2Proof.Proofs

open Sys2Proof.Machine Sys2Proof.Safety Sys2Proof.Laws

variable {s t : State}

/-- Settles O41. -/
theorem resetMeetsInv : Obligations.ResetMeetsInv where
  cellar := rfl
  tileMem := rfl
  log := Nat.zero_le _
  events := Nat.zero_le _
  queue := rfl

theorem inv_of_keeps (hk : Keeps s t) (hs : Inv s) : Inv t where
  cellar := hk.mem hs.cellar
  tileMem := hk.tmem hs.tileMem
  log := hk.log hs.log
  events := hk.ev hs.events
  queue := by rw [hk.pend]; exact hs.queue

/-- The invariant does not read the clock, which is all that `idle_keeps` sets back. -/
theorem inv_idle (hs : Inv s) : Inv (idle s) :=
  have h := inv_of_keeps (idle_keeps s) hs
  ⟨h.cellar, h.tileMem, h.log, h.events, h.queue⟩

theorem inv_rest {c : Instr} {rest : List Instr} (h : s.pending = c :: rest) (hs : Inv s) : Inv { s with pending := rest } where
  cellar := hs.cellar
  tileMem := hs.tileMem
  log := hs.log
  events := hs.events
  queue := by
    have hall := hs.queue
    rw [h, List.all_cons, Bool.and_eq_true] at hall
    exact hall.2

/-- Settles O43: an idle step moves the clocks alone, and a command keeps what `Keeps` names (`exec_keeps`). -/
theorem stepKeepsInv : Obligations.StepKeepsInv := by
  intro s t hs hstep
  cases h : s.pending with
  | nil =>
    rw [step_of_pending_nil h, Host.Outcome.next.injEq] at hstep
    exact hstep ▸ inv_idle hs
  | cons c rest =>
    obtain ⟨u, hu, hkeeps⟩ := step_goes_of_pending_cons h
    rw [hu, Host.Outcome.next.injEq] at hstep
    exact hstep ▸ inv_of_keeps hkeeps (inv_rest h hs)

end Sys2Proof.Proofs

/-!
The slots of a ring (R107, R108) and the checks of a command (R85, R98).
-/
namespace Sys2Proof.Proofs

open Sys2Proof.Machine Sys2Proof.Safety Sys2Proof.Laws

variable {o : OpSpec} {c : Cmd} {s : State} {e : Err}

/-! ## Padding -/

theorem natCast_slotsFor (n : Nat) : (slotsFor n : Int) = ⌈((16 + n : Nat) : ℚ) / 64⌉ := by
  rw [slotsFor, ceilDiv, show (64 : ℚ) = ((64 : ℕ) : ℚ) by norm_num, Rat.ceil_natCast_div_natCast]
  omega

/-- A ring's size divides 2^32, so the slot of a count survives the count's wrap. -/
theorem toNat_add_ofNat_mod_two_pow {size : Nat} (hsize : size ≤ 14) (tail : BitVec 32) (n : Nat) :
    (tail + BitVec.ofNat 32 n).toNat % 2 ^ size = (tail.toNat + n) % 2 ^ size := by
  rw [BitVec.toNat_add, BitVec.toNat_ofNat, Nat.add_mod_mod]
  exact Nat.mod_mod_of_dvd _ (pow_dvd_pow 2 (by omega))

theorem padSlots_of_wraps {size n : Nat} {tail : BitVec 32} (h : 2 ^ size < tail.toNat % 2 ^ size + n) :
    padSlots size tail n = 2 ^ size - tail.toNat % 2 ^ size := if_pos h

theorem padSlots_of_fits {size n : Nat} {tail : BitVec 32} (h : ¬ 2 ^ size < tail.toNat % 2 ^ size + n) :
    padSlots size tail n = 0 := if_neg h

/-- Padding leads to the ring's end: what comes after it starts at slot 0. -/
theorem add_rest_mod_eq_zero {m : Nat} (hm : 0 < m) (a : Nat) : (a + (m - a % m)) % m = 0 := by
  have hlt := Nat.mod_lt a hm
  have h : a + (m - a % m) = m * (a / m + 1) := by
    have := Nat.mod_add_div a m
    rw [Nat.mul_add]
    omega
  rw [h, Nat.mul_mod_right]

/-- Settles O49. -/
theorem ringPadding : Obligations.RingPadding := by
  refine ⟨natCast_slotsFor, fun size n tail ⟨hsize, hn⟩ => ?_⟩
  have hpos : tail.toNat % 2 ^ size < 2 ^ size := Nat.mod_lt _ (Nat.two_pow_pos size)
  rw [toNat_add_ofNat_mod_two_pow hsize]
  by_cases h : 2 ^ size < tail.toNat % 2 ^ size + n
  · rw [padSlots_of_wraps h, add_rest_mod_eq_zero (Nat.two_pow_pos size)]
    omega
  · rw [padSlots_of_fits h, Nat.add_zero]
    omega

/-! ## The first check that fails -/

theorem firstErr_eq_some_iff : ∀ l : List (Option Err), firstErr l = some e ↔
    ∃ k, k < l.length ∧ l.getD k none = some e ∧ ∀ j, j < k → l.getD j none = none
  | [] => by simp [firstErr]
  | some x :: r => by
    constructor
    · intro h
      exact ⟨0, Nat.succ_pos _, h, fun j hj => absurd hj (Nat.not_lt_zero j)⟩
    · rintro ⟨k, -, hk, hbefore⟩
      cases k with
      | zero => exact hk
      | succ k => exact absurd (hbefore 0 (Nat.succ_pos k)) (Option.some_ne_none x)
  | none :: r => by
    refine (firstErr_eq_some_iff r).trans ⟨?_, ?_⟩
    · rintro ⟨k, hlt, hk, hbefore⟩
      refine ⟨k + 1, Nat.succ_lt_succ hlt, hk, fun j hj => ?_⟩
      cases j with
      | zero => rfl
      | succ j => exact hbefore j (Nat.lt_of_succ_lt_succ hj)
    · rintro ⟨k, hlt, hk, hbefore⟩
      cases k with
      | zero => exact absurd hk.symm (Option.some_ne_none e)
      | succ k => exact ⟨k, Nat.lt_of_succ_lt_succ hlt, hk, fun j hj => hbefore (j + 1) (Nat.succ_lt_succ hj)⟩

theorem runCmd_of_headErr (hp : c.part = .head) (hs : inService .head s = true) (hgone : firmwareGone s = false)
    (hwait : mustWait o.opcode (stamped o.opcode c s) s = false) (hto : toHead (stamped o.opcode c s) = true)
    (he : headErr o (stamped o.opcode c s) s = some e) :
    runCmd o c s = .next (refuse (stamped o.opcode c s) o.opcode e (take o.opcode (stamped o.opcode c s) s)) := by
  simp [runCmd, hp, hs, headRun, hgone, hwait, hto, he]

/-! ## The parameter area of an error reply -/

@[simp] theorem length_leBytes : ∀ n v : Nat, (leBytes n v).length = n
  | 0, _ => rfl
  | n + 1, v => congrArg Nat.succ (length_leBytes n (v / 256))

theorem leNat_leBytes : ∀ n v : Nat, leNat (leBytes n v) = v % 256 ^ n
  | 0, v => (Nat.mod_one v).symm
  | n + 1, v => by
    rw [leBytes, leNat, leNat_leBytes n, BitVec.toNat_ofNat, pow_succ' 256 n, Nat.mod_mul]

/-- A field that stands between two byte strings. -/
theorem fld_leBytes_between (a r : List Byte) {i n : Nat} (v : Nat) (hi : a.length = i) :
    fld (a ++ (leBytes n v ++ r)) i n = v % 256 ^ n := by
  rw [fld, List.drop_left' hi, List.take_left' (length_leBytes n v), leNat_leBytes]

theorem errParams_length (e : Err) : e.params.length = 8 := by simp [Err.params]

theorem errParams_fields (e : Err) : fld e.params 0 2 = e.reason % 65536 ∧ fld e.params 2 2 = e.field % 65536 ∧
    fld e.params 4 4 = e.detail % 4294967296 := by
  have hassoc : e.params = leBytes 2 e.reason ++ (leBytes 2 e.field ++ leBytes 4 e.detail) := List.append_assoc _ _ _
  refine ⟨?_, ?_, ?_⟩
  · rw [hassoc]
    exact fld_leBytes_between [] _ _ rfl
  · rw [hassoc]
    exact fld_leBytes_between (leBytes 2 e.reason) _ _ (length_leBytes _ _)
  · rw [Err.params, ← List.append_nil (leBytes 4 e.detail)]
    exact fld_leBytes_between _ [] _ (by simp)

/-- Settles O50. -/
theorem firstFailureIsRefused : Obligations.FirstFailureIsRefused := by
  refine ⟨fun o c s e => firstErr_eq_some_iff _, fun o c s e ⟨hp, hs, hgone, hwait, hto, he⟩ => ?_,
    fun e => ⟨errParams_length e, errParams_fields e⟩⟩
  exact ⟨runCmd_of_headErr hp hs hgone hwait hto he, (still_finish _ _ _ _).trans (still_take _ _ _)⟩

end Sys2Proof.Proofs

/-!
The order of final replies (R99), the event log (R132 to R135) and the control of a queue (R111).
-/
namespace Sys2Proof.Proofs

open Sys2Proof.Machine Sys2Proof.Safety Sys2Proof.Laws

variable {s : State}

/-! ## Final replies in submission order -/

theorem sameGroup_trans {a b c : Outst} (h : sameGroup a b = true) (k : sameGroup b c = true) : sameGroup a c = true := by
  simp only [sameGroup, Bool.and_eq_true, beq_iff_eq] at *
  obtain ⟨⟨⟨hsrc, hop⟩, hchain⟩, hpos⟩ := h
  obtain ⟨⟨⟨ksrc, kop⟩, kchain⟩, kpos⟩ := k
  exact ⟨⟨⟨hsrc.trans ksrc, hop.trans kop⟩, hchain.trans kchain⟩, hpos.trans kpos⟩

/-- One of the earlier commands `pre` is of the entry's group and has no final reply yet. -/
def behindOpen (pre : List Outst) (e : Outst) : Bool := pre.any (fun b => b.final.isNone && sameGroup e b)

/-- The entry at a place of the list `l` stays outstanding when final replies are released. -/
def staysIn (l : List Outst) (x : Outst × Nat) : Bool := x.1.final.isNone || behindOpen (l.take x.2) x.1

/-- The final reply with which an entry leaves, unless it is discarded. -/
def leaving (x : Outst × Nat) : Option (Source × Reply) :=
  if x.1.discard then none else x.1.final.map (fun r => (x.1.src, r))

/-- `kept` holds back the same entries as all the earlier commands `pre` do: an entry is kept either without a final reply of its
own or behind one of its group that has none. -/
def HoldsAs (pre kept : List Outst) : Prop := ∀ x, kept.any (sameGroup x) = behindOpen pre x

theorem HoldsAs.keep_open {pre kept : List Outst} {e : Outst} (h : HoldsAs pre kept) (he : e.final = none) :
    HoldsAs (pre ++ [e]) (kept ++ [e]) := fun x => by
  simp [behindOpen, List.any_append, he, h x]

theorem HoldsAs.keep_behind {pre kept : List Outst} {e : Outst} (h : HoldsAs pre kept) {r : Reply} (he : e.final = some r)
    (hbehind : behindOpen pre e = true) : HoldsAs (pre ++ [e]) (kept ++ [e]) := fun x => by
  have hx : sameGroup x e = true → behindOpen pre x = true := by
    intro hxe
    obtain ⟨b, hb, hopen⟩ := List.any_eq_true.mp hbehind
    rw [Bool.and_eq_true] at hopen
    exact List.any_eq_true.mpr ⟨b, hb, by rw [hopen.1, sameGroup_trans hxe hopen.2]; rfl⟩
  have happ : behindOpen (pre ++ [e]) x = behindOpen pre x := by simp [behindOpen, he]
  rw [List.any_append, h x, happ, List.any_cons, List.any_nil, Bool.or_false]
  cases hxe : sameGroup x e with
  | false => exact Bool.or_false _
  | true => rw [hx hxe, Bool.or_true]

theorem HoldsAs.drop_final {pre kept : List Outst} {e : Outst} (h : HoldsAs pre kept) {r : Reply} (he : e.final = some r) :
    HoldsAs (pre ++ [e]) kept := fun x => by
  simp [behindOpen, he, h x]

/-- What is released of the rest `l` of a list, once its first part `pre` has been gone through. -/
theorem flushReplies_eq (p : Part) : ∀ (l pre kept : List Outst) (s : State), HoldsAs pre kept →
    flushReplies p l kept s =
      (kept ++ ((l.zipIdx pre.length).filter (staysIn (pre ++ l))).map Prod.fst,
        (((l.zipIdx pre.length).filter (fun x => !staysIn (pre ++ l) x)).filterMap leaving).foldl
          (fun s r => deliver p r.1 r.2 s) s)
  | [], pre, kept, s, _ => by simp [flushReplies]
  | e :: r, pre, kept, s, h => by
    have ih := fun kept' s' => flushReplies_eq p r (pre ++ [e]) kept' s'
    have hstay : staysIn (pre ++ e :: r) (e, pre.length) = (e.final.isNone || behindOpen pre e) := by
      rw [staysIn, List.take_left' rfl]
    simp only [List.append_assoc, List.singleton_append, List.length_append, List.length_singleton] at ih
    rw [List.zipIdx_cons]
    unfold flushReplies
    split
    · rename_i rep he
      split
      · rename_i hkept
        have hbehind : behindOpen pre e = true := (h e).symm.trans hkept
        simp [ih _ _ (h.keep_behind he hbehind), hstay, hbehind]
      · rename_i hkept
        have hbehind : behindOpen pre e = false := (h e).symm.trans (Bool.eq_false_iff.mpr hkept)
        rw [ih _ _ (h.drop_final he)]
        by_cases hd : e.discard <;> simp [hstay, hbehind, he, leaving, hd]
    · rename_i he
      simp [ih _ _ (h.keep_open he), hstay, he]

/-- Settles O51. -/
theorem repliesKeepOrder : Obligations.RepliesKeepOrder := by
  intro p l s stays
  have h := flushReplies_eq p l [] [] s (fun _ => rfl)
  rw [h]
  exact ⟨rfl, rfl⟩

/-! ## The event log -/

/-- The log, the next SEQ and the counts of R134. -/
def logOf (s : State) : List EventRec × BitVec 32 × List (RateKey × Nat) := (s.head.po.log, s.head.po.nextSeq, s.head.po.rates)

@[simp] theorem logOf_emit (p : Part) (x : Out) (s : State) : logOf (emit p x s) = logOf s := by cases p <;> rfl

@[simp] theorem logOf_updQueue (k : Nat) (f : Queue → Queue) (s : State) : logOf (updQueue k f s) = logOf s := rfl

@[simp] theorem logOf_noteFull (k : Nat) (s : State) : logOf (noteFull k s) = logOf s := rfl

@[simp] theorem logOf_signalReply (k : Nat) (s : State) : logOf (signalReply k s) = logOf s := by
  unfold signalReply
  dsimp only
  split
  · split <;> simp
  · simp

@[simp] theorem logOf_ringWrite (k : Nat) (r : Reply) (s : State) : logOf (ringWrite k r s) = logOf s := by
  unfold ringWrite
  dsimp only
  simp only [logOf_noteFull, logOf_signalReply, logOf_emit, logOf_updQueue]
  split <;> simp

theorem logOf_deliver_session (n : Nat) (r : Reply) (s : State) : logOf (deliver .head (.session n) r s) = logOf s := by
  unfold deliver
  dsimp only
  split <;> rfl

/-- A notification leaves the log as it stands. -/
theorem logOf_notify (src : Source) (e : EventRec) (s : State) : logOf (notify src e s) = logOf s := by
  unfold notify
  split
  · split <;> simp
  · exact logOf_deliver_session _ _ _
  · rfl

theorem logOf_foldl {α : Type} {f : State → α → State} (h : ∀ s x, logOf (f s x) = logOf s) :
    ∀ (l : List α) (s : State), logOf (l.foldl f s) = logOf s
  | [], _ => rfl
  | x :: l, s => (logOf_foldl h l (f s x)).trans (h s x)

theorem logOf_logRecord (e : EventRec) (s : State) : logOf (logRecord e s) =
    ({ e with seq := s.head.po.nextSeq } :: s.head.po.log.take 65535, s.head.po.nextSeq + 1, s.head.po.rates) := by
  unfold logRecord
  refine (logOf_foldl (fun t u => ?_) _ _).trans rfl
  split
  · exact logOf_notify _ _ _
  · rfl

theorem rollSecond_of_same_second (h : s.head.po.rateSec = wall s.head.mt / 10 ^ 9) : rollSecond s = s := by
  rw [rollSecond]
  exact if_pos h.symm

/-- A record's combination has one more in this second. -/
def counted (e : EventRec) (n : Nat) (s : State) : State :=
  { s with head.po.rates := putKey s.head.po.rates (rateKey e) (n + 1) }

/-- A record that R134 limits, in the second of the one before. -/
theorem insertEvent_of_limited {e : EventRec} {n : Nat} (hlim : ¬ (e.block = 0x01 ∧ e.code = 0x0008))
    (hsec : s.head.po.rateSec = wall s.head.mt / 10 ^ 9) (hn : (getKey s.head.po.rates (rateKey e)).getD 0 = n) :
    insertEvent e s = if n < 100 then logRecord e (counted e n s) else counted e n s := by
  unfold insertEvent
  dsimp only
  rw [rollSecond_of_same_second hsec, if_neg hlim, hn]
  rfl

theorem getKey_putKey_same {κ ν : Type} [DecidableEq κ] (l : List (κ × ν)) (k : κ) (v : ν) : getKey (putKey l k v) k = some v := by
  unfold putKey
  split
  · rename_i h
    induction l with
    | nil => simp at h
    | cons x r ih =>
      by_cases hx : x.1 = k
      · simp [getKey, hx]
      · have hr := ih (by simpa [hx] using h)
        simpa [getKey, hx] using hr
  · rename_i h
    have hnone : l.find? (fun e => e.1 == k) = none :=
      List.find?_eq_none.mpr fun x hx hk => h (List.any_eq_true.mpr ⟨x, hx, hk⟩)
    simp [getKey, List.find?_append, hnone]

theorem post_tile (b v c : Nat) (x : BitVec 32) (y : BitVec 64) (s : State) : post .tile b v c x y s =
    if s.tile.po.events.length < 64 then { s with tile.po.events := s.tile.po.events ++ [mkEvent .tile b v c x y s] }
    else { s with tile.po.lost := s.tile.po.lost + 1 } := rfl

/-- Settles O52. -/
theorem eventRecords : Obligations.EventRecords := by
  refine ⟨fun e s n ⟨hlim, hsec, hn⟩ => ⟨?counts, fun hlt => ?logged, fun hge => ?limited, still_insertEvent e s⟩,
    fun b v c x y s => ⟨fun h => (post_tile ..).trans (if_pos h), fun h => (post_tile ..).trans (if_neg (Nat.not_lt.mpr h))⟩⟩
  case counts =>
    have hrates : (insertEvent e s).head.po.rates = putKey s.head.po.rates (rateKey e) (n + 1) := by
      rw [insertEvent_of_limited hlim hsec hn]
      split
      · exact congrArg (fun l => l.2.2) (logOf_logRecord e (counted e n s))
      · rfl
    rw [hrates, getKey_putKey_same]
  case logged =>
    rw [insertEvent_of_limited hlim hsec hn, if_pos hlt]
    have h := logOf_logRecord e (counted e n s)
    exact ⟨congrArg Prod.fst h, congrArg (fun l => l.2.1) h⟩
  case limited =>
    rw [insertEvent_of_limited hlim hsec hn, if_neg (Nat.not_lt.mpr hge)]
    exact ⟨rfl, rfl⟩

end Sys2Proof.Proofs

/-!
PO_Q_CTL (R111), and the commands that only report (R84, R88, R99).
-/
namespace Sys2Proof.Proofs

open Sys2Proof.Machine Sys2Proof.Safety Sys2Proof.Laws

variable {q : Nat} {s t : State}

/-! ## Queues -/

theorem queueAt_updQueue_same (f : Queue → Queue) (h : q < s.head.po.queues.length) :
    queueAt q (updQueue q f s) = f (queueAt q s) :=
  upd_getD_same _ _ _ _ h

theorem queueAt_updQueue_other (f : Queue → Queue) {k : Nat} (h : k ≠ q) : queueAt k (updQueue q f s) = queueAt k s :=
  upd_getD_other _ _ _ _ _ h

@[simp] theorem updQueue_queues_length (f : Queue → Queue) (s : State) :
    (updQueue q f s).head.po.queues.length = s.head.po.queues.length := upd_length _ _ _

/-- A queue that is enabled exists. -/
theorem queue_exists (h : (queueAt q s).en = true) : q < s.head.po.queues.length := by
  by_contra hq
  have hnone : s.head.po.queues[q]? = none := List.getElem?_eq_none (Nat.not_lt.mp hq)
  simp [queueAt, List.getD, hnone] at h

@[simp] theorem queueAt_dropSource (src : Source) (k : Nat) (s : State) : queueAt k (dropSource src s) = queueAt k s := rfl

/-- A queue whose EN has just been set: all four counts are 0 (R111). -/
def queueOpened (k : Queue) : Queue :=
  { k with
    en := true, halted := false, cqTail := 0, cqHead := 0, rqTail := 0, rqHead := 0, unfetched := [], replies := [],
    unsignalled := 0, fullSince := none }

/-- A queue whose EN has just been cleared (R111). -/
def queueClosed (k : Queue) : Queue := { k with en := false, replies := [], unfetched := [], unsignalled := 0, fullSince := none }

theorem qCtlWrite_opens {v : Word} (hv : v.getLsbD 0 = true) (hen : (queueAt q s).en = false) :
    qCtlWrite q v s = updQueue q queueOpened (updQueue q (qCtlFields v) s) := by
  simp only [qCtlWrite, hv, hen, if_true, Bool.false_eq_true, if_false]
  rfl

theorem qCtlWrite_closes {v : Word} (hv : v.getLsbD 0 = false) (hen : (queueAt q s).en = true) :
    qCtlWrite q v s = dropSource (.queue q) (updQueue q queueClosed (updQueue q (qCtlFields v) s)) := by
  simp only [qCtlWrite, hv, hen, if_true, Bool.false_eq_true, if_false]
  rfl

theorem fromHost_of_normal (f : State → State) (hc : configAnswer s = .normal) : fromHost f s = f s := if_pos hc

theorem fromHost_of_not_normal (f : State → State) (hc : configAnswer s ≠ .normal) : fromHost f s = s := if_neg hc

/-- An access of the host to the Head, once its endpoint answers (log entry 77). -/
theorem onPart_fromHost (f : State → State) (hs : inService .head s = true) (hc : configAnswer s = .normal) :
    onPart .head (fromHost f) s = .next (f s) := by
  rw [onPart_of_inService _ hs, fromHost_of_normal f hc]

theorem onPart_fromHost_of_not_normal (f : State → State) (hs : inService .head s = true) (hc : configAnswer s ≠ .normal) :
    onPart .head (fromHost f) s = .next s := by
  rw [onPart_of_inService _ hs, fromHost_of_not_normal f hc]

/-- An event that leaves the state as it is, whether or not the part is in service. -/
theorem onPart_of_eq_self {p : Part} {f : State → State} (h : f s = s) : onPart p f s = .next s := by
  rw [onPart, h, ite_self]

theorem exec_poQEnable (hs : inService .head s = true) (hc : configAnswer s = .normal) (hq : q < 16) (v : Word) :
    exec (.poQEnable q v) s = .next (qCtlWrite q (v ||| 1#32) s) :=
  (onPart_fromHost _ hs hc).trans (by rw [if_pos hq])

theorem exec_poQDisable (hs : inService .head s = true) (hc : configAnswer s = .normal) (hq : q < 16) (v : Word) :
    exec (.poQDisable q v) s = .next (qCtlWrite q (v &&& ~~~1#32) s) :=
  (onPart_fromHost _ hs hc).trans (by rw [if_pos hq])

theorem cqTail_of_off {count : Word} {l : List (List Byte)} (h : (queueAt q s).en = false ∨ (queueAt q s).halted = true) :
    cqTail q count l s = s := by
  rw [cqTail]
  exact if_pos (h.imp_left Bool.eq_false_iff.mp)

/-- Settles O48. -/
theorem queueEnable : Obligations.QueueEnable := by
  refine ⟨fun q v s ⟨hs, hc, hq, hlen, hen⟩ => ?enable, fun q v s ⟨hs, hc, hq, hen⟩ => ?disable, fun q count l s hen => ?doorbell⟩
  case enable =>
    have hlen' : q < (updQueue q (qCtlFields (v ||| 1#32)) s).head.po.queues.length := by rwa [updQueue_queues_length]
    rw [exec_poQEnable hs hc hq, qCtlWrite_opens (by simp) hen]
    refine ⟨_, rfl, ?_⟩
    simp only [queueAt_updQueue_same queueOpened hlen']
    exact ⟨rfl, rfl, rfl, rfl, rfl,
      fun k hk => (queueAt_updQueue_other _ hk).trans (queueAt_updQueue_other _ hk), rfl⟩
  case disable =>
    have hlen' : q < (updQueue q (qCtlFields (v &&& ~~~1#32)) s).head.po.queues.length := by
      rw [updQueue_queues_length]
      exact queue_exists hen
    rw [exec_poQDisable hs hc hq, qCtlWrite_closes (by simp) hen]
    refine ⟨_, rfl, ?_⟩
    simp only [queueAt_dropSource, queueAt_updQueue_same queueClosed hlen']
    exact ⟨rfl, rfl, rfl, fun k hk => (queueAt_updQueue_other _ hk).trans (queueAt_updQueue_other _ hk), rfl⟩
  case doorbell =>
    refine onPart_of_eq_self ?_
    rw [fromHost, cqTail_of_off (.inl hen), ite_self, ite_self]

/-! ## Reports -/

/-- A command whose effect on a part that takes it is traffic alone. -/
theorem still_runCmd {o : OpSpec} (hrun : ∀ d u, still (o.run d u) = still u) {c : Cmd} (h : runCmd o c s = .next t) :
    still t = still s := by
  rcases runCmd_cases h with h | ⟨d, u, hu, rfl⟩
  · exact h
  · rw [hrun, hu]

theorem still_specLrRead (c : Cmd) (s : State) : still (specLrRead.run c s) = still s := by
  unfold specLrRead
  dsimp only
  split
  · exact still_ok _ _ _ _
  · split
    · exact still_ok _ _ _ _
    · exact still_failed _ _ _ _ _

/-- Each command that only reports is the row of its opcode, whose effect is the reply. -/
theorem isReport_row {i : Instr} (h : isReport i = true) :
    ∃ (o : OpSpec) (c : Cmd), (∀ s, exec i s = runCmd o c s) ∧ ∀ d u, still (o.run d u) = still u := by
  cases i with
  | lrRead c => exact ⟨specLrRead, c, fun _ => rfl, still_specLrRead⟩
  | poNop c | poGetInfo c | poEventRead c | mtGetTime c | mtGetTick c | mtGetPtp c | fyGetPort c | clGetInfo c | plGetTile c
  | plGetLayer c | plFenceGet c | plGetPower c | plGetPixset c | plSigRead c | ppGetChain c | glGetPort c | twGetStatus c
  | ldGetStatus c | ldRead c | lpGetStatus c | lpGetTrim c | lpGetDead c | htGetCoef c | dwGetChannel c | auGetStatus c
  | chGetStatus c | chGetField c | chGetTrim c | atGetInfo c | atGetCert c | atGetCsr c | atChallenge c =>
    exact ⟨_, c, fun _ => rfl, fun _ _ => still_ok _ _ _ _⟩
  | _ => exact absurd h Bool.false_ne_true

/-- Settles O57. -/
theorem readCommandsFrame : Obligations.ReadCommandsFrame := by
  intro i s t ⟨hreport, hexec⟩
  obtain ⟨o, c, hrow, hrun⟩ := isReport_row hreport
  exact still_runCmd hrun ((hrow s).symm.trans hexec)

end Sys2Proof.Proofs

/-!
Porch's commands once a part accepts them, and the events of its queues (R95 to R112, R124).
-/
namespace Sys2Proof.Proofs

open Sys2Proof.Machine Sys2Proof.Safety Sys2Proof.Laws

variable {q : Nat} {c : Cmd} {count : Word} {packets : List (List Byte)} {r : Reply} {l : List Reply} {s : State}

/-! ## The commands -/

/-- A PO_ABORT that a part accepts is not one that the Head matches for a Tile. -/
theorem exec_poAbort_of_accepts (h : Accepts specPoAbort c s) : exec (.poAbort c) s = runCmd specPoAbort c s := by
  change execPoAbort c s = _
  refine if_neg ?_
  rintro ⟨hp, -, -, hto, -⟩
  rcases h with ⟨-, -, -, -, -, htoHead, -⟩ | ⟨hpart, -⟩
  · exact hto htoHead
  · exact absurd (hpart.symm.trans hp) (by decide)

/-- Settles O28. That PO_ABORT answers BUSY for a command that its Tile has started is log entry 24's choice. -/
theorem porchCommandsComplete : Obligations.PorchCommandsComplete :=
  ⟨fun _ _ h => runCmd_of_accepts h, fun _ _ h => runCmd_of_accepts h, fun _ _ h => runCmd_of_accepts h,
    fun _ _ h => runCmd_of_accepts h, fun _ _ h => (exec_poAbort_of_accepts h).trans (runCmd_of_accepts h),
    fun _ _ h => runCmd_of_accepts h, fun _ _ h => runCmd_of_accepts h, fun _ _ h => runCmd_of_accepts h,
    fun _ _ h => runCmd_of_accepts h, fun c _ hs => onPart_of_inService (touchSession c) hs⟩

/-! ## Doorbells -/

/-- The queue is enabled and not halted: its doorbells are heard. -/
theorem cqTail_guard (hen : (queueAt q s).en = true) (hhalt : (queueAt q s).halted = false) :
    ¬ (¬ (queueAt q s).en = true ∨ (queueAt q s).halted = true) :=
  not_or.mpr ⟨not_not.mpr hen, Bool.eq_false_iff.mp hhalt⟩

theorem cqTail_of_overrun (hen : (queueAt q s).en = true) (hhalt : (queueAt q s).halted = false)
    (hover : 2 ^ (queueAt q s).cqSize < (count - (queueAt q s).cqHead).toNat) :
    cqTail q count packets s = ringFault q count s := by
  rw [cqTail, if_neg (cqTail_guard hen hhalt), if_pos hover]

/-- The packets of a doorbell, as it stamps them (R91). -/
def freshPackets (packets : List (List Byte)) (s : State) : List RingPkt :=
  packets.map (fun b => { arrival := wall s.head.mt, bytes := b })

theorem cqTail_of_gone (hen : (queueAt q s).en = true) (hhalt : (queueAt q s).halted = false)
    (hroom : (count - (queueAt q s).cqHead).toNat ≤ 2 ^ (queueAt q s).cqSize) (hgone : firmwareGone s = true) :
    cqTail q count packets s = updQueue q (fun k => { k with unfetched := k.unfetched ++ freshPackets packets s })
      (updQueue q (fun k => { k with cqTail := count }) s) := by
  rw [cqTail, if_neg (cqTail_guard hen hhalt), if_neg (Nat.not_lt.mpr hroom), if_pos hgone]
  rfl

theorem cqTail_of_running (hen : (queueAt q s).en = true) (hhalt : (queueAt q s).halted = false)
    (hroom : (count - (queueAt q s).cqHead).toNat ≤ 2 ^ (queueAt q s).cqSize) (hgone : firmwareGone s = false) :
    cqTail q count packets s = writeConsumer q (fetchAll q ((queueAt q s).unfetched ++ freshPackets packets s)
      (updQueue q (fun k => { k with cqTail := count }) s)) := by
  rw [cqTail, if_neg (cqTail_guard hen hhalt), if_neg (Nat.not_lt.mpr hroom), if_neg (Bool.eq_false_iff.mp hgone)]
  rfl

theorem exec_poCqTail (hs : inService .head s = true) (hc : configAnswer s = .normal) (hq : q < 16) :
    exec (.poCqTail q count packets) s = .next (cqTail q count packets s) :=
  (onPart_fromHost _ hs hc).trans (congrArg _ (if_pos hq))

theorem exec_poCqTail_of_deaf (hs : inService .head s = true) (hc : configAnswer s = .normal)
    (hoff : (queueAt q s).en = false ∨ (queueAt q s).halted = true ∨ 16 ≤ q) : exec (.poCqTail q count packets) s = .next s := by
  by_cases hq : q < 16
  · rw [exec_poCqTail hs hc hq, cqTail_of_off (hoff.imp_right (fun h => h.resolve_right (Nat.not_le.mpr hq)))]
  · exact (onPart_fromHost _ hs hc).trans (congrArg _ (if_neg hq))

theorem exec_poRqHead (hs : inService .head s = true) (hc : configAnswer s = .normal) :
    exec (.poRqHead q count) s = .next (if (queueAt q s).en then
      noteRoom q (updQueue q (fun k => { k with rqHead := count }) s) else s) :=
  onPart_fromHost _ hs hc

/-! ## Reply rings and signals -/

theorem exec_replyWrite_of_room (hs : inService .head s = true) (hr : (queueAt q s).replies = r :: l)
    (hen : (queueAt q s).en = true) (hfits : rqFits (queueAt q s) (slotsFor r.params.length) = true) :
    exec (.replyWrite q) s = .next (noteRoom q (ringWrite q r (updQueue q (fun k => { k with replies := l }) s))) := by
  change execReplyWrite q s = _
  rw [execReplyWrite, onPart_of_inService _ hs]
  simp only [hr, hen, hfits, and_self, if_true]

theorem exec_replyWrite_of_full (hs : inService .head s = true) (hr : (queueAt q s).replies = r :: l)
    (hwait : (queueAt q s).en = false ∨ rqFits (queueAt q s) (slotsFor r.params.length) = false) :
    exec (.replyWrite q) s = .next s := by
  change execReplyWrite q s = _
  rw [execReplyWrite, onPart_of_inService _ hs]
  simp only [hr]
  rw [if_neg (not_and_or.mpr (hwait.imp Bool.eq_false_iff.mp Bool.eq_false_iff.mp))]

theorem exec_replyWrite_of_none (hs : inService .head s = true) (hr : (queueAt q s).replies = []) :
    exec (.replyWrite q) s = .next s := by
  change execReplyWrite q s = _
  rw [execReplyWrite, onPart_of_inService _ hs]
  simp only [hr]

/-- A signal of a reply ring is due (R112, R129). -/
def SignalDue (q : Nat) (s : State) : Prop :=
  0 < (queueAt q s).unsignalled ∧ ((queueAt q s).firstUnsig + 1000 * (queueAt q s).coalUs.toNat ≤ wall s.head.mt ∨
    max 1 (queueAt q s).coalCnt.toNat ≤ (queueAt q s).unsignalled)

theorem exec_msixCoalesceExpiry_of_due (hs : inService .head s = true) (hdue : SignalDue q s) :
    exec (.msixCoalesceExpiry q) s = .next (if (queueAt q s).irqEn then
      emit .head (.msix q) (updQueue q (fun k => { k with unsignalled := 0 }) s)
      else updQueue q (fun k => { k with unsignalled := 0 }) s) :=
  (onPart_of_inService _ hs).trans (congrArg _ (if_pos hdue))

theorem exec_msixCoalesceExpiry_of_not_due (hs : inService .head s = true) (hdue : ¬ SignalDue q s) :
    exec (.msixCoalesceExpiry q) s = .next s :=
  (onPart_of_inService _ hs).trans (congrArg _ (if_neg hdue))

/-! ## Packets that waited, and partial writes -/

theorem exec_porchResumeTaking_queue (hs : inService .head s = true) :
    exec (.porchResumeTaking (.queue q)) s = .next (
      if (queueAt q s).en ∧ ¬ (queueAt q s).halted ∧ ¬ (queueAt q s).unfetched.isEmpty ∧ ¬ atLimit (.queue q) s ∧ ¬ firmwareGone s
      then writeConsumer q (fetchAll q (queueAt q s).unfetched s) else s) :=
  onPart_of_inService _ hs

theorem exec_barPartialWrite {w : RegAccess} {v : Word} {e : BitVec 4} (hs : inService .head s = true)
    (hc : configAnswer s = .normal) : exec (.barPartialWrite w v e) s = .next (if e = 0xF ∨ w.space = .tileLocal then s
      else post .head 0x01 2 0x0002 0 (BitVec.ofNat 64 w.addr) s) :=
  onPart_fromHost _ hs hc

/-- Settles O29. That an access before the endpoint answers does nothing is log entry 77's choice, that an event which is not due
does nothing log entry 8's. -/
theorem porchQueueEventsComplete : Obligations.PorchQueueEventsComplete := by
  refine ⟨?overrun, fun q n k s ⟨hs, hc, hoff⟩ => exec_poCqTail_of_deaf hs hc hoff, ?gone, ?running,
    fun q n s ⟨hs, hc, hen⟩ => (exec_poRqHead hs hc).trans (congrArg _ (if_pos hen)),
    fun q n s ⟨hs, hc, hen⟩ => (exec_poRqHead hs hc).trans (congrArg _ (if_neg (Bool.eq_false_iff.mp hen))),
    fun q n k s ⟨hs, hc⟩ => onPart_fromHost_of_not_normal _ hs hc,
    fun q n s ⟨hs, hc⟩ => onPart_fromHost_of_not_normal _ hs hc,
    fun q v s ⟨hs, hc, hq⟩ => exec_poQEnable hs hc hq v,
    fun q v s ⟨hs, hc⟩ => onPart_fromHost_of_not_normal _ hs hc,
    fun q v s ⟨hs, hc, hq⟩ => exec_poQDisable hs hc hq v,
    fun q v s ⟨hs, hc⟩ => onPart_fromHost_of_not_normal _ hs hc,
    fun q r l s ⟨hs, hr, hen, hfits⟩ => exec_replyWrite_of_room hs hr hen hfits,
    fun q r l s ⟨hs, hr, hwait⟩ => exec_replyWrite_of_full hs hr hwait,
    fun q s ⟨hs, hr⟩ => exec_replyWrite_of_none hs hr, ?signal, ?silent, ?early, ?resume, ?stay, ?partWrite, ?whole⟩
  case overrun =>
    rintro q n k s ⟨hs, hc, hq, hen, hhalt, hover⟩
    rw [exec_poCqTail hs hc hq, cqTail_of_overrun hen hhalt hover]
    rfl
  case gone =>
    rintro q n k s ⟨hs, hc, hq, hen, hhalt, hroom, hgone⟩
    rw [exec_poCqTail hs hc hq, cqTail_of_gone hen hhalt hroom hgone]
    rfl
  case running =>
    rintro q n k s ⟨hs, hc, hq, hen, hhalt, hroom, hgone⟩
    rw [exec_poCqTail hs hc hq, cqTail_of_running hen hhalt hroom hgone]
    rfl
  case signal =>
    rintro q s ⟨hs, hpos, hdue, hirq⟩
    rw [exec_msixCoalesceExpiry_of_due hs ⟨hpos, hdue⟩, if_pos hirq]
  case silent =>
    rintro q s ⟨hs, hpos, hdue, hirq⟩
    rw [exec_msixCoalesceExpiry_of_due hs ⟨hpos, hdue⟩, if_neg (Bool.eq_false_iff.mp hirq)]
  case early =>
    rintro q s ⟨hs, hnot⟩
    refine exec_msixCoalesceExpiry_of_not_due hs ?_
    rintro ⟨hpos, hdue⟩
    omega
  case resume =>
    rintro q s ⟨hs, hen, hhalt, hsome, hlim, hgone⟩
    rw [exec_porchResumeTaking_queue hs, if_pos ⟨hen, Bool.eq_false_iff.mp hhalt, Bool.eq_false_iff.mp hsome,
      Bool.eq_false_iff.mp hlim, Bool.eq_false_iff.mp hgone⟩]
  case stay =>
    rintro src s ⟨hs, hstay⟩
    cases src with
    | queue q =>
      refine (exec_porchResumeTaking_queue hs).trans (congrArg _ (if_neg ?_))
      rintro ⟨hen, hhalt, hsome, hlim, hgone⟩
      rcases hstay with h | h | h | h | h
      · exact hsome (by rw [h]; rfl)
      · exact hlim h
      · exact absurd hen (Bool.eq_false_iff.mp h)
      · exact hhalt h
      · exact hgone h
    | session n | chain b k | twin => exact onPart_of_inService id hs
  case partWrite =>
    rintro w v e s ⟨hs, hc, he, hsp⟩
    rw [exec_barPartialWrite hs hc, if_neg (not_or.mpr ⟨he, hsp⟩)]
  case whole =>
    rintro w v e s ⟨hs, h⟩
    rcases h with hc | h
    · exact onPart_fromHost_of_not_normal _ hs hc
    · by_cases hc : configAnswer s = .normal
      · rw [exec_barPartialWrite hs hc, if_pos h]
      · exact onPart_fromHost_of_not_normal _ hs hc

end Sys2Proof.Proofs

/-!
What reaches the Head over its links and from management sessions (R87 to R115, R132 to R135).
-/
namespace Sys2Proof.Proofs

open Sys2Proof.Machine Sys2Proof.Laws

variable {n k : Nat} {h : TlsHello} {s : State}

/-! ## Replies and records of Tiles -/

theorem exec_tileReplyReceived {r : TileReply} (hs : inService .head s = true) :
    exec (.tileReplyReceived { msg := r }) s =
      .next (if r.headB = s.head.sys.roleB then tileReply r.reply s else passOver (replyPacket r) s) :=
  onPart_of_inService _ hs

theorem exec_tileEventReceived {e : EventRec} (hs : inService .head s = true) :
    exec (.tileEventReceived { msg := e }) s = .next (if e.chain = s.tile.sys.chain ∧ e.position = s.tile.sys.position
      then forwardEvent e s else insertEvent { e with fromTile := true } s) :=
  onPart_of_inService _ hs

/-! ## Time-outs and PROGRESS -/

/-- An outstanding command that a Tile has left without a reply for 250 ms (R90). -/
def overdueAt (chain position tag : Nat) (s : State) : Option Outst :=
  s.head.po.outst.find? (fun e => e.tag == tag && e.final.isNone &&
    e.legs.any (fun l => atTile chain position l && decide (l.sentAt.getD 0 + 250000000 ≤ wall s.head.mt)))

theorem exec_tileCommandTimeout_of_some {chain position tag : Nat} {e : Outst} (hs : inService .head s = true)
    (he : overdueAt chain position tag s = some e) : exec (.tileCommandTimeout chain position tag) s =
      .next (endLeg e chain position stTimeout (replyTo (entryCmd e) e.opcode stTimeout ({ status := stTimeout } : Err).params)
        (post .head 0x01 2 0x0006 (BitVec.ofNat 32 (e.opcode + 65536 * tag)) 0 s)) := by
  unfold overdueAt at he
  change execTileCommandTimeout chain position tag s = _
  simp only [execTileCommandTimeout, onPart_of_inService _ hs, he]

theorem exec_tileCommandTimeout_of_none {chain position tag : Nat} (hs : inService .head s = true)
    (he : overdueAt chain position tag s = none) : exec (.tileCommandTimeout chain position tag) s = .next s := by
  unfold overdueAt at he
  change execTileCommandTimeout chain position tag s = _
  simp only [execTileCommandTimeout, onPart_of_inService _ hs, he]

/-- A command without a final reply that has reached its reply deadline (R103). -/
def progressDue (p : Part) (src : Source) (tag : Nat) (s : State) : Option Outst :=
  (outstOf p s).find? (fun e => e.src == src && e.tag == tag && e.final.isNone && decide (e.lastReply +
    (match p with | .head => if e.replied then 1000000000 else 2000000000 | .tile => 200000000) ≤ replyClock p src s))

/-- The PROGRESS reply of a command leaves, and its reply time starts again (R103, R104). -/
def sendProgress (p : Part) (src : Source) (e : Outst) (s : State) : State :=
  let n := progressTotal p e s
  let d := progressDone e n s
  let s1 := setOutst p (putFirst e { e with lastReply := wallOf p s, replied := true } (outstOf p s)) d.2
  if e.discard then s1
  else deliver p src
    { opcode := e.opcode, tag := e.tag, status := stProgress, flags := 9, pair := e.pair, chain := e.chain
      position := e.position, params := leBytes 4 d.1 ++ leBytes 4 n } s1

theorem exec_progressReply {p : Part} {src : Source} {tag : Nat} (hs : inService p s = true) : exec (.progressReply p src tag) s =
    .next (match progressDue p src tag (expireRetrains p s) with
      | none => expireRetrains p s
      | some e => sendProgress p src e (expireRetrains p s)) := by
  change execProgressReply p src tag s = _
  rw [execProgressReply, onPart_of_inService _ hs]
  rfl

theorem exec_progressReply_of_some {p : Part} {src : Source} {tag : Nat} {e : Outst} (hs : inService p s = true)
    (he : progressDue p src tag (expireRetrains p s) = some e) :
    exec (.progressReply p src tag) s = .next (sendProgress p src e (expireRetrains p s)) := by
  rw [exec_progressReply hs, he]

theorem exec_progressReply_of_none {p : Part} {src : Source} {tag : Nat} (hs : inService p s = true)
    (he : progressDue p src tag (expireRetrains p s) = none) :
    exec (.progressReply p src tag) s = .next (expireRetrains p s) := by
  rw [exec_progressReply hs, he]

/-! ## Management sessions -/

theorem exec_mgmtSessionClose {b : Bool} (hs : inService .head s = true) : exec (.mgmtSessionClose n b) s =
    .next (if (sessionAt n s).isOpen then closeSession n (if b then 2 else 0) s else s) :=
  onPart_of_inService _ hs

theorem exec_mgmtSessionIdleTimeout (hs : inService .head s = true) : exec (.mgmtSessionIdleTimeout n) s =
    .next (if (sessionAt n s).isOpen ∧ (sessionAt n s).last + 600000000000 ≤ wall s.head.mt then closeSession n 1 s else s) :=
  onPart_of_inService _ hs

theorem exec_poFramingError (hs : inService .head s = true) : exec (.poFramingError n k) s =
    .next (if (sessionAt n s).isOpen ∧ 4080 < k then
      closeSession n 3 (post .head 0x01 2 0x0003 (BitVec.ofNat 32 n) 0 (emit .head (.tlsAlert n) s)) else s) :=
  onPart_of_inService _ hs

/-- The lowest session number that is free (R113). -/
def freeSession (s : State) : Option Nat := (List.range 8).find? (fun n => !(sessionAt n s).isOpen)

/-- The Head listens: its firmware runs and the connection is to its port. -/
theorem listen_guard (hgone : firmwareGone s = false) (hport : h.port = 4720) : ¬ (firmwareGone s = true ∨ h.port ≠ 4720) :=
  not_or.mpr ⟨Bool.eq_false_iff.mp hgone, not_not.mpr hport⟩

theorem exec_mgmtSessionOpen_of_deaf (hs : inService .head s = true) (hdeaf : firmwareGone s = true ∨ h.port ≠ 4720) :
    exec (.mgmtSessionOpen h) s = .next s := by
  change execMgmtSessionOpen h s = _
  rw [execMgmtSessionOpen, onPart_of_inService _ hs, if_pos hdeaf]

theorem exec_mgmtSessionOpen_of_full (hs : inService .head s = true) (hgone : firmwareGone s = false) (hport : h.port = 4720)
    (hfree : freeSession s = none) : exec (.mgmtSessionOpen h) s = .next (emit .head .tcpReset s) := by
  unfold freeSession at hfree
  change execMgmtSessionOpen h s = _
  simp only [execMgmtSessionOpen, onPart_of_inService _ hs, if_neg (listen_guard hgone hport), hfree]

theorem exec_mgmtSessionOpen_of_no_agreement (hs : inService .head s = true) (hgone : firmwareGone s = false)
    (hport : h.port = 4720) (hfree : freeSession s = some n) (htls : tlsAgrees h = false) :
    exec (.mgmtSessionOpen h) s = .next s := by
  unfold freeSession at hfree
  change execMgmtSessionOpen h s = _
  simp only [execMgmtSessionOpen, onPart_of_inService _ hs, if_neg (listen_guard hgone hport), hfree,
    if_pos (Bool.eq_false_iff.mp htls)]

theorem exec_mgmtSessionOpen_of_agreement (hs : inService .head s = true) (hgone : firmwareGone s = false)
    (hport : h.port = 4720) (hfree : freeSession s = some n) (htls : tlsAgrees h = true) :
    exec (.mgmtSessionOpen h) s = .next (
      let anchors := s.head.at_.anchors.filterMap id
      let s1 := emit .head (.tlsCert (s.head.at_.ident.operational.getD s.head.at_.ident.device)) s
      if anchors.isEmpty ∨ ¬ Config.chains anchors h.cert then s1
      else post .head 0x01 1 0x0004 (BitVec.ofNat 32 n) (Config.fingerprint h.cert)
        { s1 with
          head.po.sessions := upd s1.head.po.sessions n (fun _ =>
            { isOpen := true, last := wall s.head.mt, fingerprint := Config.fingerprint h.cert }) }) := by
  unfold freeSession at hfree
  change execMgmtSessionOpen h s = _
  simp only [execMgmtSessionOpen, onPart_of_inService _ hs, if_neg (listen_guard hgone hport), hfree, if_neg (not_not.mpr htls)]

/-- Settles O30. That the record of the Tile of the model leaves its buffer is log entry 26's reading, the TLS session log entries
78 and 104's, and that an event which is not due does nothing log entry 8's. -/
theorem porchTransportEventsComplete : Obligations.PorchTransportEventsComplete := by
  refine ⟨fun r s ⟨hs, hb⟩ => (exec_tileReplyReceived hs).trans (congrArg _ (if_pos hb)),
    fun r s ⟨hs, hb⟩ => (exec_tileReplyReceived hs).trans (congrArg _ (if_neg hb)),
    fun ch po tag e s ⟨hs, he⟩ => exec_tileCommandTimeout_of_some hs he,
    fun ch po tag s ⟨hs, he⟩ => exec_tileCommandTimeout_of_none hs he, ?progress, ?noProgress,
    fun n b s ⟨hs, hopen⟩ => (exec_mgmtSessionClose hs).trans (congrArg _ (if_pos hopen)),
    fun n b s ⟨hs, hopen⟩ => (exec_mgmtSessionClose hs).trans (congrArg _ (if_neg (Bool.eq_false_iff.mp hopen))),
    fun n s ⟨hs, hopen, hlast⟩ => (exec_mgmtSessionIdleTimeout hs).trans (congrArg _ (if_pos ⟨hopen, hlast⟩)), ?notIdle,
    fun n l s ⟨hs, hopen, hlong⟩ => (exec_poFramingError hs).trans (congrArg _ (if_pos ⟨hopen, hlong⟩)), ?framed,
    fun e s ⟨hs, hother⟩ => (exec_tileEventReceived hs).trans (congrArg _ (if_neg hother)),
    fun e s ⟨hs, hown⟩ => (exec_tileEventReceived hs).trans (congrArg _ (if_pos hown)),
    fun s hs => onPart_of_inService _ hs,
    fun h n s ⟨hs, hgone, hport, hfree, htls⟩ => exec_mgmtSessionOpen_of_agreement hs hgone hport hfree htls,
    fun h n s ⟨hs, hgone, hport, hfree, htls⟩ => exec_mgmtSessionOpen_of_no_agreement hs hgone hport hfree htls,
    fun h s ⟨hs, hdeaf⟩ => exec_mgmtSessionOpen_of_deaf hs hdeaf,
    fun h s ⟨hs, hgone, hport, hfree⟩ => exec_mgmtSessionOpen_of_full hs hgone hport hfree⟩
  case progress =>
    rintro p src tag e s ⟨hs, he⟩
    exact exec_progressReply_of_some hs he
  case noProgress =>
    rintro p src tag s ⟨hs, he⟩
    exact exec_progressReply_of_none hs he
  case notIdle =>
    rintro n s ⟨hs, hnot⟩
    exact (exec_mgmtSessionIdleTimeout hs).trans
      (congrArg _ (if_neg (not_and_or.mpr (hnot.imp Bool.eq_false_iff.mp Nat.not_le.mpr))))
  case framed =>
    rintro n l s ⟨hs, hnot⟩
    exact (exec_poFramingError hs).trans
      (congrArg _ (if_neg (not_and_or.mpr (hnot.imp Bool.eq_false_iff.mp Nat.not_lt.mpr))))

end Sys2Proof.Proofs

/-!
The forwarding of commands between the Heads of a pair (R381 to R391), writes of registers (R124), and the events of activation,
of the non-volatile store and of a Tile's load (R564 to R608).
-/
namespace Sys2Proof.Proofs

open Sys2Proof.Machine Sys2Proof.Laws

variable {n : Nat} {s : State}

/-! ## Forwarded commands -/

theorem exec_fwdCmdReceived_of_follower (f : FwdCmd) (hs : inService .head s = true) (hfollows : isFollower s = true)
    (hup : twinUpNow s = true) : exec (.fwdCmdReceived { msg := f }) s = .next (
      let s1 := match f.body with | .cmd _ _ => twinSend 0x03 (leBytes 4 f.id.toNat) s | _ => s
      if takesForwarded s then fwdTaken f (updTw (fun t => { t with fwdCount := t.fwdCount + 1 }) s1) else s1) := by
  change execFwdCmdReceived { msg := f } s = _
  rw [execFwdCmdReceived, onPart_of_inService _ hs, overLink]
  exact congrArg _ (if_neg (not_or.mpr ⟨not_not.mpr hfollows, not_not.mpr hup⟩))

theorem exec_fwdAckReceived_of_waiting {id : Word} {w : FwdWait} (hs : inService .head s = true)
    (hw : s.head.tw.fwdWait.find? (fun w => w.id == id) = some w) : exec (.fwdAckReceived { msg := id }) s =
      .next (finish w.cmd w.opcode w.reply (updTw (fun t => { t with fwdWait := t.fwdWait.erase w }) s)) := by
  change execFwdAckReceived { msg := id } s = _
  rw [execFwdAckReceived, onPart_of_inService _ hs, overLink]
  simp only [hw]

theorem exec_fwdAckTimeout_of_publisher {id : Word} {w : FwdWait} (hs : inService .head s = true)
    (hw : s.head.tw.fwdWait.find? (fun w => w.id == id && decide (w.sentAt + 1000000 ≤ s.now)) = some w)
    (hrole : s.head.tw.role = .publisher) :
    exec (.fwdAckTimeout id) s = .next (evalClaim (setRole .alone (post .head 0x09 3 0x000A w.id 0 s))) := by
  change execFwdAckTimeout id s = _
  rw [execFwdAckTimeout, onPart_of_inService _ hs]
  simp only [hw, if_pos hrole]

theorem exec_cutReceived {fn : Word} {count : Nat} (hs : inService .head s = true) (hcount : count < 4294967296)
    (hnext : frameNamed fn s = nextToClose s) (hwaits : waitsForCut (frameNamed fn s) s = true) (hup : twinUpNow s = true) :
    exec (.cutReceived { msg := fn } count) s = .next (twinEval (closeTwin (frameNamed fn s) s)) := by
  change execCutReceived { msg := fn } count s = _
  rw [execCutReceived, onPart_of_inService _ hs, overLink]
  exact congrArg _ (if_pos ⟨hcount, hnext, hwaits, hup⟩)

theorem exec_cutWaitExpiry {c : Int} (hs : inService .head s = true) (hticks : ticksRun s = true) (hnext : n = nextToClose s)
    (hwaits : waitsForCut n s = true) (hcut : cutoffOf s.head.mt n = some c)
    (hdue : c + 1000 * s.head.tw.cutWaitUs ≤ (wall s.head.mt : Int)) : exec (.cutWaitExpiry n) s =
      .next (twinEval (closeTwin n (post .head 0x09 2 0x0009 0 (BitVec.ofNat 64 (n % 4294967296)) s))) := by
  change execCutWaitExpiry n s = _
  rw [execCutWaitExpiry, onPart_of_inService _ hs]
  simp only [hcut]
  rw [if_pos ⟨hticks, hnext, hwaits, decide_eq_true hdue⟩]

/-- A Head takes a DIGEST in mirror mode, as publisher or mirror, while the twin link is up (R386). -/
theorem exec_digestReceived (d : Digest) (hs : inService .head s = true) (hmode : s.head.tw.claimMode = false)
    (hup : twinUpNow s = true) (hrole : s.head.tw.role = .publisher ∨ s.head.tw.role = .mirror) :
    exec (.digestReceived { msg := d }) s = .next (match s.head.tw.own.find? (fun x => x.fn == d.fn) with
      | some x => compareDigest x d s
      | none => updTw (fun t => { t with theirs := d :: t.theirs.take 7 }) s) := by
  change execDigestReceived { msg := d } s = _
  rw [execDigestReceived, onPart_of_inService _ hs, overLink]
  exact congrArg _ (if_neg (not_or.mpr ⟨Bool.eq_false_iff.mp hmode, not_or.mpr ⟨not_not.mpr hup, not_not.mpr hrole⟩⟩))

theorem exec_passedReceived {k : GPkt} (hs : inService .head s = true) (hup : twinUpNow s = true) :
    exec (.passedReceived { msg := k }) s = .next (passedTaken k s) := by
  change execPassedReceived { msg := k } s = _
  rw [execPassedReceived, onPart_of_inService _ hs, overLink]
  exact congrArg _ (if_pos hup)

theorem exec_claimTakeoverTimeout {p : TickPar} {w : Nat} (hs : inService .head s = true) (htick : s.head.mt.tick = some p)
    (hmode : s.head.tw.claimMode = true) (hrole : s.head.tw.role = .standby) (hauto : s.head.tw.autoTakeover = true)
    (hgo : s.head.tw.goActive = false) (hother : s.head.tw.lastOtherTick = some w)
    (hdue : p.pNum + ((w : Int) + 50000) * p.pDen ≤ (wall s.head.mt : Int) * p.pDen) :
    exec .claimTakeoverTimeout s = .next (postTakeover (updTw (fun t => { t with goActive := true }) s)) := by
  change execClaimTakeoverTimeout s = _
  rw [execClaimTakeoverTimeout, onPart_of_inService _ hs]
  simp only [htick, hother]
  rw [if_pos ⟨hmode, hrole, hauto, Bool.eq_false_iff.mp hgo, decide_eq_true hdue⟩]

/-- Settles O33. The passed packet, and that CUT's count is not used, are log entry 41's readings. -/
theorem twinForwardEventsComplete : Obligations.TwinForwardEventsComplete := by
  refine ⟨?forwarded, fun id w s ⟨hs, hw⟩ => exec_fwdAckReceived_of_waiting hs hw,
    fun id w s ⟨hs, hw, hrole⟩ => exec_fwdAckTimeout_of_publisher hs hw hrole,
    fun fn count s ⟨hs, hcount, hnext, hwaits, hup⟩ => exec_cutReceived hs hcount hnext hwaits hup,
    fun n c s ⟨hs, hticks, hnext, hwaits, hcut, hdue⟩ => exec_cutWaitExpiry hs hticks hnext hwaits hcut hdue, ?kept, ?compared,
    fun k s ⟨hs, hup⟩ => exec_passedReceived hs hup,
    fun p w s ⟨hs, htick, hmode, hrole, hauto, hgo, hother, hdue⟩ =>
      exec_claimTakeoverTimeout hs htick hmode hrole hauto hgo hother hdue⟩
  case forwarded =>
    rintro f s ⟨hs, hfollows, hup, htakes⟩
    exact (exec_fwdCmdReceived_of_follower f hs hfollows hup).trans (congrArg _ (if_pos htakes))
  case kept =>
    rintro d s ⟨hs, hmode, hup, hrole, hown⟩
    simp only [exec_digestReceived d hs hmode hup (.inr hrole), hown]
  case compared =>
    rintro d x s ⟨hs, hmode, hup, hrole, hown⟩
    simp only [exec_digestReceived d hs hmode hup (.inl hrole), hown]

/-! ## Register writes -/

variable {w : RegAccess} {v : Word}

theorem spacePart_of_ne_tileLocal {sp : Space} (h : sp ≠ .tileLocal) : spacePart sp = .head := by
  cases sp with
  | tileLocal => exact absurd rfl h
  | _ => rfl

theorem spaceWrite_of_aligned (h : w.addr % 4 = 0) : spaceWrite w v s = spaceWords w.space w.addr (v :: w.more) s :=
  if_neg (not_not.mpr h)

theorem spaceWrite_of_unaligned (h : w.addr % 4 ≠ 0) : spaceWrite w v s = s := if_pos h

theorem exec_registerWrite_of_ne_tileLocal (h : w.space ≠ .tileLocal) :
    exec (.registerWrite w v) s = onPart .head (fromHost (spaceWrite w v)) s := by
  change execRegisterWrite w v s = _
  rw [execRegisterWrite, spacePart_of_ne_tileLocal h, if_neg h]

theorem exec_registerWrite_head (hs : inService .head s = true) (hc : configAnswer s = .normal) (hsp : w.space ≠ .tileLocal)
    (hal : w.addr % 4 = 0) : exec (.registerWrite w v) s = .next (spaceWords w.space w.addr (v :: w.more) s) := by
  rw [exec_registerWrite_of_ne_tileLocal hsp, onPart_fromHost _ hs hc, spaceWrite_of_aligned hal]

theorem exec_registerWrite_of_deaf (hs : inService .head s = true) (hc : configAnswer s ≠ .normal) (hsp : w.space ≠ .tileLocal) :
    exec (.registerWrite w v) s = .next s := by
  rw [exec_registerWrite_of_ne_tileLocal hsp, onPart_fromHost_of_not_normal _ hs hc]

theorem exec_registerWrite_tileLocal {a : Nat} {l : List Word} (hs : inService .tile s = true) (hal : a % 4 = 0) :
    exec (.registerWrite { space := .tileLocal, addr := a, more := l } v) s = .next (spaceWords .tileLocal a (v :: l) s) := by
  change onPart .tile (spaceWrite _ v) s = _
  rw [onPart_of_inService _ hs, spaceWrite_of_aligned hal]

/-- Only an aligned access is accepted (R124), in service or not. -/
theorem exec_registerWrite_of_unaligned (hal : w.addr % 4 ≠ 0) : exec (.registerWrite w v) s = .next s := by
  refine onPart_of_eq_self ?_
  split
  · exact spaceWrite_of_unaligned hal
  · rw [fromHost, spaceWrite_of_unaligned hal, ite_self]

/-- Settles O34. That an access before the endpoint answers changes nothing is log entry 77's choice. -/
theorem registerWriteCompletes : Obligations.RegisterWriteCompletes := by
  refine ⟨fun a v s ⟨hs, hc, hal⟩ => exec_registerWrite_head hs hc nofun hal,
    fun w v s ⟨hs, hc, hsp, hal⟩ => exec_registerWrite_head hs hc hsp hal,
    fun w v s ⟨hs, hc, hsp⟩ => exec_registerWrite_of_deaf hs hc hsp, ?queue,
    fun a v s ⟨hs, hal⟩ => exec_registerWrite_tileLocal hs hal, fun a l v s ⟨hs, hal⟩ => exec_registerWrite_tileLocal hs hal,
    fun w v s hal => exec_registerWrite_of_unaligned hal⟩
  case queue =>
    rintro a v s ⟨hs, hc, hal, ha⟩
    have hwords := exec_registerWrite_head (w := { space := .bar4, addr := a }) (v := v) hs hc nofun hal
    rw [hwords, spaceWords, spaceWords, spaceWord, if_pos ha]

/-! ## The log's pages -/

theorem exec_logPageWrite (hs : inService .head s = true) (hdue : 127 ≤ s.head.po.logPending.length ∨ logDue s = true) :
    exec .logPageWrite s = .next (nvPush .head [{ kind := .log (s.head.po.logPending.take 127) }]
      { s with head.po.logPending := s.head.po.logPending.drop 127 }) := by
  change execLogPageWrite s = _
  rw [execLogPageWrite, onPart_of_inService _ hs, if_pos hdue]

/-! ## Activation and confirmation -/

variable {a : Activation}

theorem exec_activateRestart_at_cutoff (hs : inService .head s = true) (hact : s.head.at_.act = some a) (hphase : a.phase = 0)
    (hcut : cutoffOf s.head.mt a.n = none) : exec (.activateRestart a.n) s = .next (atCutoff a s) := by
  change execActivateRestart a.n s = _
  rw [execActivateRestart, onPart_of_inService _ hs]
  simp [hact, hphase, hcut]

theorem exec_activateRestart_at_tick {c : Int} (hs : inService .head s = true) (hact : s.head.at_.act = some a)
    (hphase : a.phase = 1) (htick : tickOf s.head.mt a.n = some c) (hdue : c ≤ (wall s.head.mt : Int)) :
    exec (.activateRestart a.n) s = .next (atRestart a s) := by
  change execActivateRestart a.n s = _
  rw [execActivateRestart, onPart_of_inService _ hs]
  simp [hact, hphase, htick, hdue]

theorem exec_activateResume (hs : inService .head s = true) (hact : s.head.at_.act = some a) (hphase : 2 ≤ a.phase)
    (hback : a.fallback = false) : exec .activateResume s =
      .next (fetchWaiting (resumeFrames (startFirmware (countStart .head 0x09 { s with head.at_.act := none })))) := by
  change execActivateResume s = _
  rw [execActivateResume, onPart_of_inService _ hs]
  simp only [hact, if_neg (Nat.not_lt.mpr hphase), hback, Bool.false_eq_true, if_false]

theorem exec_healthConfirm (hs : inService .head s = true) (htrial : slotState s.head.at_.running s = 3)
    (hfirst : s.head.at_.confirming = false) (hact : s.head.at_.act = none) (hgood : healthGood s = true) :
    exec .healthConfirm s = .next (bootWrite s.head.at_.running 4 none { s with head.at_.confirming := true }) := by
  change execHealthConfirm s = _
  rw [execHealthConfirm, onPart_of_inService _ hs,
    if_pos ⟨htrial, Bool.eq_false_iff.mp hfirst, Option.isNone_iff_eq_none.mpr hact, hgood⟩]

theorem exec_healthWindowExpiry (hs : inService .head s = true) (htrial : slotState s.head.at_.running s = 3)
    (hact : s.head.at_.act = none) (hover : s.head.at_.trialSince + 1000000000 * s.head.at_.healthWindow ≤ s.now)
    (htick : s.head.mt.tick = none) :
    exec .healthWindowExpiry s = .next (post .head 0x10 3 0x0006 (slotInfo s.head.at_.running s).fwVersion 0
      { s with head.at_.act := some { n := 0, slot := idleSlot s, fallback := true } }) := by
  change execHealthWindowExpiry s = _
  rw [execHealthWindowExpiry, onPart_of_inService _ hs]
  simp [htrial, hact, Nat.not_lt.mpr hover, htick]

/-! ## The Tile's store, load and rails -/

theorem exec_inputLowWriteTimeout {t : Nat} {o : NvOp} {l : List NvOp} (hs : inService .tile s = true)
    (hheld : (nvOf .tile s).heldSince = some t) (hops : (nvOf .tile s).ops = o :: l) (hbusy : (nvOf .tile s).busy = false)
    (hlow : s.tile.ht.inputLow = true) (hdue : t + 1000000000 ≤ s.now) : exec .inputLowWriteTimeout s =
      .next (nvStart .tile (nvFail { o with reason := 7 } .tile
        (setNv .tile { nvOf .tile s with ops := l, heldSince := none } s))) := by
  change execInputLowWriteTimeout s = _
  rw [execInputLowWriteTimeout, onPart_of_inService _ hs]
  simp only [hheld, hops]
  rw [if_pos ⟨Bool.eq_false_iff.mp hbusy, hlow, hdue⟩]

theorem exec_tileLoadLockTimeout {x : Bool × Nat} (hs : inService .tile s = true) (hlock : s.tile.at_.lock = some x)
    (hdue : x.2 + 2000000000 ≤ s.now) : exec .tileLoadLockTimeout s = .next { s with tile.at_.lock := none } := by
  change execTileLoadLockTimeout s = _
  rw [execTileLoadLockTimeout, onPart_of_inService _ hs]
  simp only [hlock, if_pos hdue]

theorem exec_tileEnrolAndLoad {ch po : Nat} {r : ChallengeReply} {e : TileEnt} (hs : inService .head s = true)
    (he : tileEnt ch po s = some e) (hpresent : present e = true) (hrev : e.reversed = false)
    (hrom : s.head.at_.recovery = false) (hgone : firmwareGone s = false) :
    exec (.tileEnrolAndLoad ch po r) s = .next (challengeTile e r s) := by
  change execTileEnrolAndLoad ch po r s = _
  rw [execTileEnrolAndLoad, onPart_of_inService _ hs]
  simp only [he]
  rw [if_pos ⟨hpresent, Bool.eq_false_iff.mp hrev, Bool.eq_false_iff.mp hrom, Bool.eq_false_iff.mp hgone⟩]

theorem exec_ledRailEnableSequence {k : Nat} (hs : inService .tile s = true) (hk : k < 3)
    (hstep : s.tile.at_.railStep = k + 1) (hdue : s.tile.at_.railAt ≤ s.now) (hloaded : s.tile.sys.loaded = true)
    (hlow : s.tile.ht.inputLow = false) : exec (.ledRailEnableSequence k) s = .next (setEn ([1, 2, 0].getD k 0) true
      { s with tile.at_.railStep := if k = 2 then 0 else k + 2, tile.at_.railAt := s.now + 100000 }) := by
  change execLedRailEnableSequence k s = _
  rw [execLedRailEnableSequence, onPart_of_inService _ hs]
  exact congrArg _ (if_neg (not_or.mpr ⟨not_not.mpr hstep, not_or.mpr ⟨Nat.not_le.mpr hk, not_or.mpr ⟨Nat.not_lt.mpr hdue,
    not_or.mpr ⟨not_not.mpr hloaded, Bool.eq_false_iff.mp hlow⟩⟩⟩⟩))

/-- Settles O36. That the phases of an activation without ticks are due at once is log entry 74's reading. -/
theorem atticEventsComplete : Obligations.AtticEventsComplete :=
  ⟨fun _ ⟨hs, hdue⟩ => exec_logPageWrite hs hdue,
    fun m _ hs => onPart_of_inService (linkStateReceived m) hs,
    fun b _ hs => onPart_of_inService (headProgramDone b) hs,
    fun b _ hs => onPart_of_inService (nvProgramDone .tile b) hs,
    fun p _ hs => onPart_of_inService (nvEraseDone p) hs,
    fun _ _ ⟨hs, hact, hphase, hcut⟩ => exec_activateRestart_at_cutoff hs hact hphase hcut,
    fun _ _ _ ⟨hs, hact, hphase, htick, hdue⟩ => exec_activateRestart_at_tick hs hact hphase htick hdue,
    fun _ _ ⟨hs, hact, hphase, hback⟩ => exec_activateResume hs hact hphase hback,
    fun _ ⟨hs, htrial, hfirst, hact, hgood⟩ => exec_healthConfirm hs htrial hfirst hact hgood,
    fun _ ⟨hs, htrial, hact, hover, htick⟩ => exec_healthWindowExpiry hs htrial hact hover htick,
    fun _ _ _ _ ⟨hs, hheld, hops, hbusy, hlow, hdue⟩ => exec_inputLowWriteTimeout hs hheld hops hbusy hlow hdue,
    fun _ _ ⟨hs, hlock, hdue⟩ => exec_tileLoadLockTimeout hs hlock hdue,
    fun _ _ _ _ _ ⟨hs, he, hpresent, hrev, hrom, hgone⟩ => exec_tileEnrolAndLoad hs he hpresent hrev hrom hgone,
    fun _ _ ⟨hs, hk, hstep, hdue, hloaded, hlow⟩ => exec_ledRailEnableSequence hs hk hstep hdue hloaded hlow⟩

end Sys2Proof.Proofs

/-!
Foyer's commands once the Head accepts them, and the frames, packets, losses and links of its ports (R138 to R175).
-/
namespace Sys2Proof.Proofs

open Sys2Proof.Machine Sys2Proof.Laws

variable {kind k p n : Nat} {s : State}

/-! ## The commands -/

/-- Settles O26: each is the run of its opcode's row (R172, R173) on the state in which the command is among the outstanding ones.
That FY_SET_PORT leaves the PTP instance of its port stopped is log entry 90's reading. -/
theorem foyerCommandsComplete : Obligations.FoyerCommandsComplete :=
  ⟨fun _ _ h => runCmd_of_accepts h, fun _ _ h => runCmd_of_accepts h, fun _ _ h => runCmd_of_accepts h,
    fun _ _ h => runCmd_of_accepts h, fun _ _ h => runCmd_of_accepts h, fun _ _ h => runCmd_of_accepts h,
    fun _ _ h => runCmd_of_accepts h, fun _ _ h => runCmd_of_accepts h, fun _ _ h => runCmd_of_accepts h,
    fun _ _ h => runCmd_of_accepts h⟩

/-! ## Ethernet frames -/

variable {f : EthFrame}

theorem exec_ethFrameReceived_of_bad (hs : inService .head s = true) (hlink : subLink k s = true)
    (hbad : f.fcsOk = false ∨ f.bytes < 64 ∨ 9216 < f.bytes) :
    exec (.ethFrameReceived k f) s = .next (updFyPort (k / 4) (fun p => { p with rxBad := p.rxBad + 1 }) s) := by
  change execEthFrameReceived k f s = _
  rw [execEthFrameReceived, onPart_of_inService _ hs, if_neg (not_not.mpr hlink), if_pos (hbad.imp_left Bool.eq_false_iff.mp)]

/-- A linked sub-port takes a frame: its check sequence and length are good, and it carries the sub-port's VLAN (R139, R141). -/
structure FrameTaken (k : Nat) (f : EthFrame) (s : State) : Prop where
  link : subLink k s = true
  fcs : f.fcsOk = true
  long : 64 ≤ f.bytes
  short : f.bytes ≤ 9216
  vlan : f.vlan = if (s.head.fy.subs.getD k {}).vlan = 0 then none else some (s.head.fy.subs.getD k {}).vlan

theorem FrameTaken.good (h : FrameTaken k f s) : ¬ (¬ f.fcsOk = true ∨ f.bytes < 64 ∨ 9216 < f.bytes) :=
  not_or.mpr ⟨not_not.mpr h.fcs, not_or.mpr ⟨Nat.not_lt.mpr h.long, Nat.not_lt.mpr h.short⟩⟩

theorem exec_ethFrameReceived_arp (hs : inService .head s = true) (htaken : FrameTaken k f s) (hkind : f.kind = .arp)
    (haddr : (s.head.fy.subs.getD k {}).ipv4 ≠ 0) : exec (.ethFrameReceived k f) s = .next (answerFrame k 1 s) := by
  change execEthFrameReceived k f s = _
  rw [execEthFrameReceived, onPart_of_inService _ hs, if_neg (not_not.mpr htaken.link), if_neg htaken.good]
  simp only [if_neg (not_not.mpr htaken.vlan), hkind, if_pos haddr]

theorem exec_ethFrameReceived_stream (hs : inService .head s = true) (htaken : FrameTaken n f s) (hkind : f.kind = .stream kind k p)
    (htakes : takesPacket kind k p s = true) (hsub : pathSub kind p (streamAt kind k s) = n) : exec (.ethFrameReceived n f) s =
      .next (ingress (n / 4) { kind := kind, stream := k, path := p, bytes := f.bytes } s) := by
  change execEthFrameReceived n f s = _
  rw [execEthFrameReceived, onPart_of_inService _ hs, if_neg (not_not.mpr htaken.link), if_neg htaken.good]
  simp only [if_neg (not_not.mpr htaken.vlan), hkind, if_pos (And.intro htakes hsub)]

/-! ## Packets of streams -/

theorem exec_videoPacketReceived {v : VideoPkt} (hs : inService .head s = true) (htakes : takesPacket 0 k p s = true) :
    exec (.videoPacketReceived k p v) s =
      .next (videoPacket k p { v with rxTime := packetTime 0 k p v.rxTime s } (packetOn 0 k p v.bytes s)) :=
  (onPart_of_inService _ hs).trans (congrArg _ (if_pos htakes))

theorem exec_videoFrameCloseTimeout {r : Word} {f : OpenFrame} {t : Nat} (hs : inService .head s = true)
    (hopen : (videoAt k s).frames.find? (fun f => f.rtp == r) = some f) (hlater : f.laterAt = some t)
    (hdue : t + diffMax 0 (streamAt 0 k s) ≤ wall s.head.mt) :
    exec (.videoFrameCloseTimeout k r) s = .next (closeIncomplete k f s) := by
  change execVideoFrameCloseTimeout k r s = _
  rw [execVideoFrameCloseTimeout, onPart_of_inService _ hs]
  simp only [hopen, hlater, if_pos hdue]

/-- A packet of the stream's payload type whose sequence number is new writes its sample frames (R145, R162). -/
theorem exec_audioPacketReceived {a : AudioPkt} (hs : inService .head s = true) (htakes : takesPacket 1 k p s = true)
    (hpt : a.pt = fld (streamAt 1 k (packetOn 1 k p a.bytes s)).cfg 4 1)
    (hnew : (streamAt 1 k (packetOn 1 k p a.bytes s)).seqs.contains a.seq.toNat = false) :
    exec (.audioPacketReceived k p a) s = .next (
      let s1 := packetOn 1 k p a.bytes s
      let m := mediaIndex (fld (streamAt 1 k s1).cfg 2 1) a.rtp.toNat s1
      (List.range a.frames.length).foldl (fun t (i : Nat) => audioFrame k (m + (i : Int)) (a.frames.getD i []) t)
        (noteSeq 1 k a.seq.toNat s1)) := by
  change execAudioPacketReceived k p a s = _
  rw [execAudioPacketReceived, onPart_of_inService _ hs, if_neg (not_not.mpr htakes)]
  exact congrArg _ ((if_neg (not_not.mpr hpt)).trans (if_neg (Bool.eq_false_iff.mp hnew)))

/-- A packet of the stream's payload type whose sequence number is new has its ANC data packets taken (R146, R163). -/
theorem exec_ancPacketReceived {a : AncPkt} (hs : inService .head s = true) (htakes : takesPacket 2 k p s = true)
    (hpt : a.pt = fld (streamAt 2 k (packetOn 2 k p a.bytes s)).cfg 2 1)
    (hnew : (streamAt 2 k (packetOn 2 k p a.bytes s)).seqs.contains a.seq.toNat = false) :
    exec (.ancPacketReceived k p a) s =
      .next (a.anc.foldl (ancData k a.rtp) (noteSeq 2 k a.seq.toNat (packetOn 2 k p a.bytes s))) := by
  change execAncPacketReceived k p a s = _
  rw [execAncPacketReceived, onPart_of_inService _ hs, if_neg (not_not.mpr htakes)]
  exact congrArg _ ((if_neg (not_not.mpr hpt)).trans (if_neg (Bool.eq_false_iff.mp hnew)))

/-! ## Loss -/

/-- A lost stream that no layer is bound to is reported alone: LOSS_ACTION has no layer to act on (R159). -/
theorem exec_fyStreamLost_of_unbound (hs : inService .head s = true) (hk : k < 64) (hen : (streamAt 0 k s).en = true)
    (hfirst : (videoAt k s).lost = false) (hticks : ticksRun s = true) (hlast : s.head.mt.lastN = some n)
    (hdue : (videoAt k s).fromTick + fld (streamAt 0 k s).cfg 10 1 ≤ n + 1) (hbound : (videoAt k s).bound = none) :
    exec (.fyStreamLost k) s =
      .next (post .head 0x03 2 0x0003 (streamDet 0 k 0) 0 (updVideo k (fun v => { v with lost := true }) s)) := by
  change execFyStreamLost k s = _
  rw [execFyStreamLost, onPart_of_inService _ hs]
  simp only [hk, hen, hfirst, hticks, hlast, hdue, hbound, decide_true, Bool.not_false, Bool.and_true, not_true, if_false]

/-- The wall time from which a path's silence counts: its last packet, or the enabling of its stream. -/
def pathSeen (p : Nat) (x : Stream) : Option Nat := if p = 0 then x.seen0 else x.seen1

/-- The same of the stream's other path. -/
def otherSeen (p : Nat) (x : Stream) : Option Nat := if p = 0 then x.seen1 else x.seen0

/-- FY_PATH_LOST has been posted for a path. -/
def pathLost (p : Nat) (x : Stream) : Bool := if p = 0 then x.lost0 else x.lost1

/-- An enabled stream of two paths has had no packet on path `p` for 100 ms, and one on the other path in that time (R161). -/
structure PathGone (kind k p : Nat) (s : State) : Prop where
  kind_lt : kind < 3
  stream_lt : k < 64
  path_lt : p < 2
  en : (streamAt kind k s).en = true
  path0 : hasPath kind 0 (streamAt kind k s) = true
  path1 : hasPath kind 1 (streamAt kind k s) = true
  first : pathLost p (streamAt kind k s) = false
  quiet : ∀ t ∈ pathSeen p (streamAt kind k s), t + 100000000 ≤ wall s.head.mt
  alive : ∃ t ∈ otherSeen p (streamAt kind k s), wall s.head.mt < t + 100000000

theorem exec_fyPathLost_of_gone (hs : inService .head s = true) (h : PathGone kind k p s) :
    exec (.fyPathLost kind k p) s = .next (post .head 0x03 2 0x0005 (streamDet kind k p) 0
      (updStream kind k (fun x => if p = 0 then { x with lost0 := true } else { x with lost1 := true }) s)) := by
  change execFyPathLost kind k p s = _
  rw [execFyPathLost, onPart_of_inService _ hs]
  refine congrArg _ (if_pos ?_)
  simp only [Bool.and_eq_true, decide_eq_true_eq, Bool.not_eq_true']
  refine ⟨⟨⟨⟨⟨⟨⟨⟨h.kind_lt, h.stream_lt⟩, h.en⟩, h.path0⟩, h.path1⟩, h.path_lt⟩, h.first⟩, ?quiet⟩, ?alive⟩
  case quiet =>
    split
    · next t hseen => exact decide_eq_true (h.quiet t hseen)
    · rfl
  case alive =>
    obtain ⟨t, hseen, hwithin⟩ := h.alive
    rw [Option.mem_def, otherSeen] at hseen
    simp only [hseen, decide_eq_true hwithin]

/-! ## Links -/

theorem exec_fyLinkUp_of_down (hs : inService .head s = true) (hprov : isProvided k s = true) (hdown : subLink k s = false) :
    exec (.fyLinkUp k) s = .next (post .head 0x03 1 0x0001 (BitVec.ofNat 32 k) 0
      (updFyPort (k / 4) (fun p => { p with linkUp := p.linkUp ||| (1#4 <<< (k % 4)) }) s)) :=
  (onPart_of_inService _ hs).trans (congrArg _ (if_pos ⟨hprov, Bool.eq_false_iff.mp hdown⟩))

theorem exec_fyLinkDown_of_up (hs : inService .head s = true) (hup : subLink k s = true) :
    exec (.fyLinkDown k) s = .next (dropLink k s) :=
  (onPart_of_inService _ hs).trans (congrArg _ (if_pos hup))

/-- Settles O27. A sub-port's MAC address and the kinds of ANC data are log entry 39's presumptions, the receive timestamp of a
packet is log entry 17's reading. -/
theorem foyerEventsComplete : Obligations.FoyerEventsComplete := by
  refine ⟨fun k f s ⟨hs, hlink, hbad⟩ => exec_ethFrameReceived_of_bad hs hlink hbad, ?arp, ?stream,
    fun k p v s ⟨hs, htakes⟩ => exec_videoPacketReceived hs htakes,
    fun k r f x s ⟨hs, hopen, hlater, hdue⟩ => exec_videoFrameCloseTimeout hs hopen hlater hdue,
    fun k p a s ⟨hs, htakes, hpt, hnew⟩ => exec_audioPacketReceived hs htakes hpt hnew,
    fun k p a s ⟨hs, htakes, hpt, hnew⟩ => exec_ancPacketReceived hs htakes hpt hnew, ?streamLost, ?path1, ?path0,
    fun k s ⟨hs, hprov, hdown⟩ => exec_fyLinkUp_of_down hs hprov hdown, fun k s ⟨hs, hup⟩ => exec_fyLinkDown_of_up hs hup⟩
  case arp =>
    rintro k f s ⟨hs, hlink, hfcs, hlong, hshort, hvlan, hkind, haddr, hruns⟩
    rw [exec_ethFrameReceived_arp hs ⟨hlink, hfcs, hlong, hshort, hvlan⟩ hkind haddr, answerFrame,
      if_neg (Bool.eq_false_iff.mp hruns)]
  case stream =>
    rintro n f kind k p s ⟨hs, hlink, hfcs, hlong, hshort, hvlan, hkind, htakes, hsub⟩
    exact exec_ethFrameReceived_stream hs ⟨hlink, hfcs, hlong, hshort, hvlan⟩ hkind htakes hsub
  case streamLost =>
    rintro k n s ⟨hs, hk, hen, hfirst, hticks, hlast, hdue, hbound⟩
    exact exec_fyStreamLost_of_unbound hs hk hen hfirst hticks hlast hdue hbound
  case path1 =>
    rintro kind k s ⟨hs, hkind, hk, hen, hpath0, hpath1, hfirst, hseen, hwall, hother⟩
    exact exec_fyPathLost_of_gone hs ⟨hkind, hk, by decide, hen, hpath0, hpath1, hfirst, by simpa [pathSeen, hseen] using hwall,
      _, hother, Nat.lt_add_of_pos_right (by decide)⟩
  case path0 =>
    rintro kind k s ⟨hs, hkind, hk, hen, hpath0, hpath1, hfirst, hseen, hwall, hother⟩
    exact exec_fyPathLost_of_gone hs ⟨hkind, hk, by decide, hen, hpath0, hpath1, hfirst, by simpa [pathSeen, hseen] using hwall,
      _, hother, Nat.lt_add_of_pos_right (by decide)⟩

end Sys2Proof.Proofs

/-!
A write to Cellar: the words that it merges, the bytes that it stores, and what it leaves (R186, R187, R239).
-/
namespace Sys2Proof.Proofs

open Sys2Proof.Machine Sys2Proof.Safety Sys2Proof.Laws

variable {a b n w cls : Nat} {d : List Byte} {r : CellarReq} {s t : State}

/-! ## The words of a span -/

theorem wordOf_mem_wordsOf {i : Nat} (hi : i < n) : wordOf (a + i) ∈ wordsOf a n := by
  rw [wordsOf, if_neg (by omega), List.mem_map]
  exact ⟨(a + i) / 8 - a / 8, List.mem_range.mpr (by omega), by rw [wordOf]; omega⟩

theorem dvd_of_mem_wordsOf (h : w ∈ wordsOf a n) : 8 ∣ w := by
  rw [wordsOf] at h
  split at h
  · exact absurd h List.not_mem_nil
  · obtain ⟨i, -, rfl⟩ := List.mem_map.mp h
    exact Nat.dvd_mul_right 8 _

theorem mem_wordsOf_of_mem_badWords (h : w ∈ badWords a n s) : w ∈ wordsOf a n := (List.mem_filter.mp h).1

/-- A byte of another word lies outside the 8 bytes of a word. -/
theorem outside_of_wordOf_ne (hw : 8 ∣ w) (hb : wordOf b ≠ w) : b < w ∨ w + 8 ≤ b := by
  rw [wordOf] at hb
  omega

/-- A byte of a word that a span does not touch lies outside the span. -/
theorem outside_of_wordOf_not_mem (hb : wordOf b ∉ wordsOf a n) : b < a ∨ a + n ≤ b := by
  by_contra hin
  obtain ⟨i, rfl⟩ := Nat.exists_eq_add_of_le (show a ≤ b by omega)
  exact hb (wordOf_mem_wordsOf (by omega))

/-! ## What leaves the bytes -/

theorem cl_of_still (h : still t = still s) : t.head.cl = s.head.cl := by
  change (still t).head.cl = (still s).head.cl
  rw [h]

@[simp] theorem post_cl (p : Part) (e v c : Nat) (x : BitVec 32) (y : BitVec 64) (s : State) :
    (post p e v c x y s).head.cl = s.head.cl := cl_of_still (still_post p e v c x y s)

theorem foldl_mem {α : Type} {f : State → α → State} (h : ∀ u x, (f u x).head.cl.mem = u.head.cl.mem) :
    ∀ (l : List α) (s : State), (l.foldl f s).head.cl.mem = s.head.cl.mem
  | [], _ => rfl
  | x :: l, s => (foldl_mem h l (f s x)).trans (h s x)

@[simp] theorem setFlips_mem (l : List Nat) : (setFlips w l s).head.cl.mem = s.head.cl.mem := rfl

@[simp] theorem touch_mem : (touch a n s).head.cl.mem = s.head.cl.mem := foldl_mem (fun _ _ => by simp) _ s

@[simp] theorem ceRate_mem (k : Nat) : (ceRate k s).head.cl.mem = s.head.cl.mem := by
  unfold ceRate
  dsimp only
  split <;> simp

@[simp] theorem ceHit_mem : (ceHit w s).head.cl.mem = s.head.cl.mem := by simp [ceHit]

@[simp] theorem ueHit_mem : (ueHit cls w s).head.cl.mem = s.head.cl.mem := by simp [ueHit]

@[simp] theorem injectWord_mem : (injectWord w s).head.cl.mem = s.head.cl.mem := by
  unfold injectWord
  split <;> rfl

/-- Bit errors change the record of differing bits alone. -/
theorem applyUpsets_eq (l : List (Nat × List Nat)) (s : State) :
    ∃ fl, applyUpsets l s = { s with head.cl.flips := fl } := by
  refine List.foldlRecOn (motive := fun t : State => ∃ fl, t = { s with head.cl.flips := fl }) _ _ ⟨s.head.cl.flips, rfl⟩ ?_
  rintro _ ⟨fl, rfl⟩ u -
  exact ⟨_, rfl⟩

@[simp] theorem applyUpsets_mem (l : List (Nat × List Nat)) : (applyUpsets l s).head.cl.mem = s.head.cl.mem := by
  obtain ⟨fl, h⟩ := applyUpsets_eq l s
  rw [h]

/-- Whether stacks serve does not depend on bit errors. -/
@[simp] theorem isServed_applyUpsets (l : List (Nat × List Nat)) : isServed a n (applyUpsets l s) = isServed a n s := by
  obtain ⟨fl, h⟩ := applyUpsets_eq l s
  rw [h]
  rfl

@[simp] theorem leaseCheck_mem (writer : Nat) : (leaseCheck writer a n s).head.cl.mem = s.head.cl.mem := by
  refine foldl_mem (fun u e => ?_) _ s
  split
  · split
    · rw [post_cl]
    · rfl
  · rfl

/-! ## The bytes that a write stores -/

/-- A merge writes its own word's bytes at most: those of a word in uncorrectable error, as its bits stand (R187). -/
theorem memGet_mergeWord_other (hw : 8 ∣ w) (hb : wordOf b ≠ w) :
    memGet (mergeWord cls a n w s).head.cl.mem b = memGet s.head.cl.mem b := by
  unfold mergeWord
  split
  · rfl
  · split
    · have hraw : (rawWord w s).length = 8 := by simp [rawWord]
      refine (memGet_memPutAll_other _ _ _ ?_).trans (by rw [ueHit_mem])
      rw [hraw]
      exact outside_of_wordOf_ne hw hb
    · split
      · simp
      · rfl

/-- The state once a write has merged its words in error, before its data. -/
def mergedFor (cls a n : Nat) (s : State) : State :=
  (badWords a n s).foldl (fun t w => mergeWord cls a n w t) (touch a n s)

theorem mergedFor_keeps (cls a n : Nat) (s : State) : Keeps s (mergedFor cls a n s) :=
  Keeps.foldl _ (fun _ _ h => mergeWord_keeps _ _ _ _ h) _ (touch_keeps _ _ (Keeps.refl s))

theorem memGet_mergedFor_other (hb : wordOf b ∉ badWords a n s) :
    memGet (mergedFor cls a n s).head.cl.mem b = memGet s.head.cl.mem b := by
  refine List.foldlRecOn (motive := fun t : State => memGet t.head.cl.mem b = memGet s.head.cl.mem b) _ _ ?_ (fun t h w hw => ?_)
  · rw [touch_mem]
  · refine (memGet_mergeWord_other (dvd_of_mem_wordsOf (mem_wordsOf_of_mem_badWords hw)) ?_).trans h
    exact fun heq => hb (heq ▸ hw)

theorem writeNow_mem (hend : a + d.length ≤ cellarTop) :
    (writeNow cls a d s).head.cl.mem = memPutAll (mergedFor cls a d.length s).head.cl.mem a d := by
  have hall : d.take (cellarTop - a) = d := List.take_of_length_le (by omega)
  unfold writeNow
  rw [hall]
  exact foldl_mem (fun _ _ => injectWord_mem) _ _

@[simp] theorem serveWrite_mem : (serveWrite r d s).head.cl.mem = (writeNow r.cls r.addr d s).head.cl.mem := by
  unfold serveWrite
  dsimp only
  split_ifs <;> simp

theorem memGet_serveWrite_inside (hend : r.addr + d.length ≤ cellarTop) (hmem : Memory.wf s.head.cl.mem = true) {i : Nat}
    (hi : i < d.length) : memGet (serveWrite r d s).head.cl.mem (r.addr + i) = d[i] := by
  rw [serveWrite_mem, writeNow_mem hend]
  exact memGet_memPutAll d r.addr i hi ((mergedFor_keeps _ _ _ s).mem hmem)

theorem memGet_serveWrite_outside (hend : r.addr + d.length ≤ cellarTop) (hout : b < r.addr ∨ r.addr + d.length ≤ b)
    (hb : wordOf b ∉ badWords r.addr d.length s) :
    memGet (serveWrite r d s).head.cl.mem b = memGet s.head.cl.mem b := by
  rw [serveWrite_mem, writeNow_mem hend, memGet_memPutAll_other d r.addr _ hout]
  exact memGet_mergedFor_other hb

/-! ## What else a write changes -/

namespace Block

theorem cellar_setFlips (l : List Nat) : cellar.Changes s (setFlips w l s) := changes_set (B := cellar) _ s

theorem cellar_touch : cellar.Changes s (touch a n s) := changes_foldl (fun u _ => cellar_updStack u _ _) _ s

theorem cellar_ceHit : cellar.Changes s (ceHit w s) := (changes_set (B := cellar) _ s).trans (cellar_ceRate _ _)

theorem cellar_ueHit : cellar.Changes s (ueHit cls w s) :=
  (changes_set (B := cellar) _ s).then_still (still_post _ _ _ _ _ _ _)

theorem cellar_mergeWord : cellar.Changes s (mergeWord cls a n w s) :=
  .ite (cellar_setFlips _) (.ite (cellar_ueHit.trans (changes_set (B := cellar) _ _))
    (.ite (cellar_ceHit.trans (cellar_setFlips _)) (.refl s)))

theorem cellar_injectWord : cellar.Changes s (injectWord w s) := by
  unfold injectWord
  split
  · exact .refl s
  · exact changes_set (B := cellar) _ s

theorem cellar_writeNow : cellar.Changes s (writeNow cls a d s) :=
  ((cellar_touch.trans (changes_foldl (fun _ _ => cellar_mergeWord) _ _)).trans (changes_set (B := cellar) _ _)).trans
    (changes_foldl (fun _ _ => cellar_injectWord) _ _)

theorem cellar_applyUpsets (l : List (Nat × List Nat)) : cellar.Changes s (applyUpsets l s) :=
  changes_foldl (fun _ _ => cellar_setFlips _) l s

/-- Cellar and the note that a lease was violated (R239). -/
def cellarAndLease : Block (Cellar × Bool) where
  get s := (s.head.cl, s.head.pl.leaseViolated)
  set b s := { s with head.cl := b.1, head.pl.leaseViolated := b.2 }

theorem cellarAndLease_of_cellar (h : cellar.Changes s t) : cellarAndLease.Changes s t := by
  obtain ⟨b, hb⟩ := h
  exact ⟨(b, s.head.pl.leaseViolated), hb⟩

theorem cellarAndLease_leaseCheck (writer : Nat) : cellarAndLease.Changes s (leaseCheck writer a n s) := by
  refine changes_foldl (fun u e => ?_) _ s
  split
  · exact .ite ((changes_set (B := cellarAndLease) (_, _) u).then_still (still_post _ _ _ _ _ _ _)) (.refl u)
  · exact .refl u

theorem cellarAndLease_serveWrite : cellarAndLease.Changes s (serveWrite r d s) :=
  have h := cellarAndLease_of_cellar cellar_writeNow
  .ite (h.trans (cellarAndLease_leaseCheck 0)) (.ite (h.trans (cellarAndLease_leaseCheck 1)) h)

end Block

/-! ## The request -/

theorem exec_cellarRequest (hs : inService .head s = true) (hr : cellarReqWf r = true) :
    exec (.cellarRequest r) s = .next (submitReq r s) :=
  (onPart_of_inService _ hs).trans (congrArg _ (if_pos hr))

theorem exec_cellarRequest_write_served (hs : inService .head s = true) (hr : cellarReqWf r = true) (hd : r.write = some d)
    (hserved : isServed r.addr d.length (applyUpsets r.upsets s) = true) :
    exec (.cellarRequest r) s = .next (serveWrite r d (applyUpsets r.upsets s)) := by
  rw [exec_cellarRequest hs hr, submitReq, hd]
  exact congrArg _ (if_pos hserved)

/-- A request lies inside Cellar (R176). -/
theorem end_le_of_cellarReqWf (hr : cellarReqWf r = true) (hd : r.write = some d) : r.addr + d.length ≤ cellarTop := by
  rw [cellarReqWf, hd, Bool.and_eq_true, decide_eq_true_eq] at hr
  exact hr.2

/-- Settles O56: outside its own bytes a write changes only the words in error that it merges (`memGet_mergedFor_other`). The
memory's canonical form is log entry 5's. -/
theorem cellarWrites : Obligations.CellarWrites := by
  rintro r d s ⟨hs, hr, hd, hserved, hmem⟩
  have hend := end_le_of_cellarReqWf hr hd
  have hexec := exec_cellarRequest_write_served hs hr hd (by rwa [isServed_applyUpsets])
  have hmem' : Memory.wf (applyUpsets r.upsets s).head.cl.mem = true := by rwa [applyUpsets_mem]
  refine ⟨_, hexec, fun i hi => memGet_serveWrite_inside hend hmem' hi, fun b hb => ?otherWord, fun hnone b hout => ?noError, ?form,
    ?frame⟩
  case otherWord =>
    rw [memGet_serveWrite_outside hend (outside_of_wordOf_not_mem hb) (fun h => hb (mem_wordsOf_of_mem_badWords h)),
      applyUpsets_mem]
  case noError =>
    rw [memGet_serveWrite_outside hend hout (by rw [hnone]; exact List.not_mem_nil), applyUpsets_mem]
  case form => exact (serveWrite_keeps r d (Keeps.refl _)).mem hmem'
  case frame =>
    exact ((Block.cellarAndLease_of_cellar (Block.cellar_applyUpsets r.upsets)).trans Block.cellarAndLease_serveWrite).still_eq

end Sys2Proof.Proofs

/-!
Cellar's commands once the Head accepts them, its requests, and its own events (R181 to R206).
-/
namespace Sys2Proof.Proofs

open Sys2Proof.Machine Sys2Proof.Laws

variable {k n : Nat} {r : CellarReq} {d : List Byte} {o : ClOp} {s : State}

/-! ## The commands -/

/-- Settles O1: each is the run of its opcode's row (R204) on the state in which the command is among the outstanding ones. -/
theorem cellarCommandsComplete : Obligations.CellarCommandsComplete :=
  ⟨fun _ _ h => runCmd_of_accepts h, fun _ _ h => runCmd_of_accepts h, fun _ _ h => runCmd_of_accepts h,
    fun _ _ h => runCmd_of_accepts h, fun _ _ h => runCmd_of_accepts h, fun _ _ h => runCmd_of_accepts h,
    fun _ _ h => runCmd_of_accepts h⟩

/-! ## Requests -/

theorem exec_cellarRequest_of_not_wf (hs : inService .head s = true) (hr : cellarReqWf r = false) :
    exec (.cellarRequest r) s = .next s :=
  (onPart_of_inService _ hs).trans (congrArg _ (if_neg (Bool.eq_false_iff.mp hr)))

theorem exec_cellarRequest_read_served (hs : inService .head s = true) (hr : cellarReqWf r = true) (hread : r.write = none)
    (hserved : isServed r.addr r.len s = true) : exec (.cellarRequest r) s = .next (serveReq r s) := by
  rw [exec_cellarRequest hs hr, submitReq, hread]
  exact congrArg _ (if_pos hserved)

/-- A read with a stack that does not serve waits granule by granule (log entry 36). -/
theorem exec_cellarRequest_read_waits (hs : inService .head s = true) (hr : cellarReqWf r = true) (hread : r.write = none)
    (hserved : isServed r.addr r.len s = false) : exec (.cellarRequest r) s = .next (
      (pieces r.addr r.len).foldl (fun t g => if isServing (stackOf g.1 t) t then serveReq (pieceOf r g) t
        else queueReq (stackOf g.1 t) (pieceOf r g) t) s) := by
  rw [exec_cellarRequest hs hr, submitReq, hread]
  exact congrArg _ (if_neg (Bool.eq_false_iff.mp hserved))

/-- A write with a stack that does not serve waits granule by granule, after the bit errors that came with it (log entry 36). -/
theorem exec_cellarRequest_write_waits (hs : inService .head s = true) (hr : cellarReqWf r = true) (hd : r.write = some d)
    (hserved : isServed r.addr d.length (applyUpsets r.upsets s) = false) : exec (.cellarRequest r) s = .next (
      (pieces r.addr d.length).foldl (fun t g =>
        let q := pieceOf { r with write := some d, upsets := [] } g
        if isServing (stackOf g.1 t) t then serveWrite q (q.write.getD []) t else queueReq (stackOf g.1 t) q t)
        (applyUpsets r.upsets s)) := by
  rw [exec_cellarRequest hs hr, submitReq, hd]
  exact congrArg _ (if_neg (Bool.eq_false_iff.mp hserved))

/-! ## The BAR2 window -/

/-- The number of bytes of an access to BAR2. -/
def bar2Len (a : Bar2) : Nat := match a.write with | some d => d.length | none => a.len

theorem take_bar2Len (a : Bar2) : a.write.map (fun d => d.take (bar2Len a)) = a.write := by
  cases h : a.write with
  | none => rfl
  | some d => simp [bar2Len, h]

theorem exec_bar2Access_inside {a : Bar2} (hs : inService .head s = true) (hc : configAnswer s = .normal)
    (hend : a.offset + bar2Len a ≤ cellarEnd) (hoff : a.offset < cellarEnd) : exec (.bar2Access a) s = .next (submitReq
      { cls := 3, req := .bar2, addr := a.offset, write := a.write, len := bar2Len a } s) := by
  have hlen : min (bar2Len a) (cellarEnd - a.offset) = bar2Len a := by omega
  have hhere : ¬ (min (bar2Len a) (cellarEnd - a.offset) = 0 ∧ cellarEnd ≤ a.offset) := fun h => Nat.not_le.mpr hoff h.2
  change execBar2Access a s = _
  rw [execBar2Access, onPart_fromHost _ hs hc]
  refine congrArg _ ((if_pos (And.intro hend hoff)).trans ((if_neg hhere).trans ?_))
  change submitReq { cls := 3, req := .bar2, addr := a.offset
                     write := a.write.map (fun d => d.take (min (bar2Len a) (cellarEnd - a.offset)))
                     len := min (bar2Len a) (cellarEnd - a.offset) } s = _
  rw [hlen, take_bar2Len]

/-- Beyond Cellar's end for commands a read returns 0 and a write is ignored (R202). -/
theorem exec_bar2Access_beyond {a : Bar2} (hs : inService .head s = true) (hc : configAnswer s = .normal)
    (hoff : cellarEnd ≤ a.offset) : exec (.bar2Access a) s = .next (
      let s2 := post .head 0x04 2 0x000B 0 (BitVec.ofNat 64 a.offset) s
      match a.write with
      | some _ => s2
      | none => emit .head (.cellar .bar2 a.offset (zeros a.len) []) s2) := by
  have hroom : cellarEnd - a.offset = 0 := by omega
  have hout (m : Nat) : ¬ (a.offset + m ≤ cellarEnd ∧ a.offset < cellarEnd) := fun h => Nat.not_lt.mpr hoff h.2
  change execBar2Access a s = _
  rw [execBar2Access, onPart_fromHost _ hs hc]
  simp only [hroom, Nat.min_zero, true_and, if_pos hoff, if_neg (hout _), Nat.max_eq_left hoff, Nat.sub_zero]
  cases a.write <;> rfl

/-! ## Write-back and patrol scrub -/

theorem whenServed_of_isServed {cls a : Nat} {f : State → State} (h : isServed a n s = true) :
    whenServed cls [(a, n)] f s = f s := by
  simp only [whenServed, List.all_cons, h, List.all_nil, Bool.and_self, if_true]

theorem exec_ceWriteback_served {a : Nat} (hs : inService .head s = true) (hwait : s.head.cl.writeBack.contains (wordOf a) = true)
    (hserved : isServed (wordOf a) 8 s = true) : exec (.ceWriteback a) s = .next (injectWord (wordOf a) (setFlips (wordOf a) []
      (touch (wordOf a) 8 { s with head.cl.writeBack := s.head.cl.writeBack.filter (· ≠ wordOf a) }))) := by
  change execCeWriteback a s = _
  rw [execCeWriteback, onPart_of_inService _ hs]
  simp only [if_pos hwait, whenServed_of_isServed hserved]

/-- A write that came since has ended the wait for the word's write-back (R188, log entry 35). -/
theorem exec_ceWriteback_of_newer {a : Nat} (hs : inService .head s = true)
    (hwait : s.head.cl.writeBack.contains (wordOf a) = false) : exec (.ceWriteback a) s = .next s :=
  (onPart_of_inService _ hs).trans (congrArg _ (if_neg (Bool.eq_false_iff.mp hwait)))

/-- The bytes that a scrub of `w` words reads: to Cellar's end at most. -/
def scrubLen (w : Nat) (s : State) : Nat := min (8 * w) (cellarTop - s.head.cl.scrubPtr)

theorem exec_patrolScrub_served {w : Nat} (hs : inService .head s = true) (hen : s.head.cl.scrubEn = true)
    (hhours : s.head.cl.scrubHours ≠ 0) (hserved : isServed s.head.cl.scrubPtr (scrubLen w s) s = true) :
    exec (.patrolScrub w) s = .next { (readNow 4 s.head.cl.scrubPtr (scrubLen w s) s).2.2 with
      head.cl.scrubPtr := if cellarTop ≤ s.head.cl.scrubPtr + scrubLen w s then 0 else s.head.cl.scrubPtr + scrubLen w s } := by
  change execPatrolScrub w s = _
  rw [execPatrolScrub, onPart_of_inService _ hs, if_neg (not_or.mpr ⟨not_not.mpr hen, hhours⟩)]
  exact congrArg _ (whenServed_of_isServed hserved)

/-! ## Temperature -/

theorem exec_stackTempRead_good {t : Int} (hs : inService .head s = true) (hlow : -640 ≤ t) (hhigh : t ≤ 2400) :
    exec (.stackTempRead k (some t)) s = .next (
      let band := bandFor (stackAt k s).band t
      let s1 := updStack k (fun x => { x with band := band, temp := t }) s
      if band ≠ (stackAt k s).band then post .head 0x04 1 0x0003 (BitVec.ofNat 32 (k + 256 * band)) 0 s1 else s1) := by
  change execStackTempRead k (some t) s = _
  rw [execStackTempRead, if_pos hs]
  simp [stackTempRead, hlow, hhigh]

/-! ## Training and frequency points -/

/-- The training of a start has no command behind it (R196, R614). -/
theorem isStartRun_of_cmd (hcmd : o.cmd.isSome = true) : isStartRun o = false := by
  rw [isStartRun, ← Option.not_isSome, hcmd, Bool.not_true, Bool.and_false]

theorem isStartRun_of_change (htrain : o.train = false) : isStartRun o = false := by
  rw [isStartRun, htrain, Bool.false_and]

/-- A training at the point in use needs no change back (R204). -/
theorem finishTrain_here (hback : o.back = none) (st reason : Nat) :
    finishTrain o st reason s = endOp (opReply o.cmd 0x0403 st reason s) := by
  rw [finishTrain, hback]

theorem exec_trainingComplete_running {failed : Option Nat} (hs : inService .head s = true) (hop : s.head.cl.op = some o)
    (hrun : o.running = true) : exec (.trainingComplete failed) s =
      .next (match failed with | some pc => trainFail o pc s | none => trainDone o s) := by
  change execTrainingComplete failed s = _
  rw [execTrainingComplete, onPart_of_inService _ hs]
  cases failed <;> simp only [hop, hrun, not_true, if_false]

theorem trainDone_here (htrain : o.train = true) (hcmd : o.cmd.isSome = true) (hback : o.back = none) :
    trainDone o s = (
      let r : TrainRec := { temp0 := (stackAt 0 s).temp, temp1 := (stackAt 1 s).temp, serial := s.head.sys.serial }
      let s1 := writeSettings .head [(keyTrain, o.point, trainBytes r)] none
        { s with head.cl.records := upd s.head.cl.records o.point (fun _ => some r) }
      endOp (opReply o.cmd 0x0403 (if o.sensor then stFailed else stOk) 0x0003
        (post .head 0x04 0 0x0005 (BitVec.ofNat 32 o.point) 0 s1))) := by
  simp only [trainDone, isStartRun_of_cmd hcmd, htrain, Bool.false_eq_true, if_false, if_true, finishTrain_here hback]

theorem trainFail_here {pc : Nat} (hcmd : o.cmd.isSome = true) (hback : o.back = none) :
    trainFail o pc s = endOp (opReply o.cmd (if o.train then 0x0403 else 0x0402) stFailed 0x0002
      (post .head 0x04 3 0x0006 (BitVec.ofNat 32 (o.point + 256 * pc)) 0
        { s with head.cl.usable := s.head.cl.usable &&& ~~~(1#4 <<< o.point) })) := by
  simp only [trainFail, isStartRun_of_cmd hcmd, Bool.false_eq_true, if_false, finishTrain_here hback]
  split <;> rfl

theorem exec_freqChangeComplete_change (hs : inService .head s = true) (hop : s.head.cl.op = some o) (hrun : o.running = false)
    (htrain : o.train = false) : exec (.freqChangeComplete n) s =
      .next (endOp (opReply o.cmd 0x0402 (if o.sensor then stFailed else stOk) 0x0003 (setPoint o.point n s))) := by
  change execFreqChangeComplete n s = _
  rw [execFreqChangeComplete, onPart_of_inService _ hs]
  simp only [hop, hrun, htrain, isStartRun_of_change htrain, Bool.false_eq_true, or_self, not_false_eq_true, if_false, if_true]

/-! ## Self-refresh -/

/-- A stack is idle once no request has come for the idle time while ticks do not run (R200). -/
theorem isIdleStack_of_quiet (hauto : s.head.cl.autoSr = true) (hticks : ¬ ticksRun s)
    (hquiet : (stackAt k s).lastReq + 1000 * s.head.cl.idleUs.toNat ≤ s.now) : isIdleStack k s = true := by
  simp only [isIdleStack, hauto, hticks, hquiet, decide_true, Bool.not_false, Bool.and_self]

theorem exec_srAutoEntry_of_idle (hs : inService .head s = true) (hidle : isIdleStack k s = true)
    (hactive : (stackAt k s).state = .active) : exec (.srAutoEntry k) s =
      .next (updStack k (fun t => { t with state := .srEntering, auto := true, exitCmd := false }) s) :=
  (onPart_of_inService _ hs).trans (congrArg _ (if_pos ⟨hidle, hactive⟩))

theorem exec_srPointOfNoReturn_enters (hs : inService .head s = true) (hentering : (stackAt k s).state = .srEntering)
    (hgoes : (stackAt k s).auto = false ∨ isIdleStack k s = true) : exec (.srPointOfNoReturn k) s =
      .next (srReplies (post .head 0x04 0 0x0008 (BitVec.ofNat 32 k) 0 (updStack k (fun t =>
        { t with state := .selfRefresh, enteredAt := s.now, auto := false, fullPosted := false }) s))) := by
  have hstays : ¬ ((stackAt k s).state = .srEntering ∧ (stackAt k s).auto = true ∧ ¬ isIdleStack k s = true) := by
    rintro ⟨-, hauto, hbusy⟩
    exact hgoes.elim (Bool.eq_false_iff.mp · hauto) hbusy
  change execSrPointOfNoReturn k s = _
  rw [execSrPointOfNoReturn, onPart_of_inService _ hs, if_neg hstays, if_pos hentering]

theorem exec_srPointOfNoReturn_abandoned (hs : inService .head s = true) (hentering : (stackAt k s).state = .srEntering)
    (hauto : (stackAt k s).auto = true) (hbusy : isIdleStack k s = false) : exec (.srPointOfNoReturn k) s =
      .next (updStack k (fun t => { t with state := if s.head.cl.op.isSome then .training else .active, auto := false }) s) := by
  change execSrPointOfNoReturn k s = _
  rw [execSrPointOfNoReturn, onPart_of_inService _ hs, if_pos ⟨hentering, hauto, Bool.eq_false_iff.mp hbusy⟩]

theorem exec_srExit_of_due (hs : inService .head s = true) (hstate : (stackAt k s).state = .selfRefresh)
    (hdue : (stackAt k s).enteredAt + 2000 ≤ s.now) (hwanted : (stackAt k s).exitCmd = true ∨ ¬ (stackAt k s).queue.isEmpty) :
    exec (.srExit k) s = .next (updStack k (fun t => { t with state := .srExiting, forced := !t.queue.isEmpty }) s) :=
  (onPart_of_inService _ hs).trans (congrArg _ (if_pos ⟨hstate, hdue, hwanted⟩))

theorem exec_srExitComplete_of_exiting (hs : inService .head s = true) (hexiting : (stackAt k s).state = .srExiting) :
    exec (.srExitComplete k) s = .next (backInService k (post .head 0x04 0 0x0009
      (BitVec.ofNat 32 (k + 256 * b2n (stackAt k s).forced)) 0 (updStack k (fun t =>
        { t with state := if s.head.cl.op.isSome then .training else .active, exitCmd := false, lastReq := s.now }) s))) :=
  (onPart_of_inService _ hs).trans (congrArg _ (if_pos hexiting))

/-- Settles O2. That a request is served at once or waits granule by granule is log entry 36's choice, the payload of a training
record log entry 37's, that a BAR2 access takes effect once the endpoint answers log entry 77's, and that what is not due changes
nothing log entry 8's. -/
theorem cellarEventsComplete : Obligations.CellarEventsComplete := by
  refine ⟨fun r s ⟨hs, hr, hread, hserved⟩ => exec_cellarRequest_read_served hs hr hread hserved,
    fun r d s ⟨hs, hr, hd, hserved⟩ => exec_cellarRequest_write_served hs hr hd hserved,
    fun r s ⟨hs, hr⟩ => exec_cellarRequest_of_not_wf hs hr,
    fun r s ⟨hs, hr, hread, hserved⟩ => exec_cellarRequest_read_waits hs hr hread hserved,
    fun r d s ⟨hs, hr, hd, hserved⟩ => exec_cellarRequest_write_waits hs hr hd hserved,
    fun a s ⟨hs, hwait, hserved⟩ => exec_ceWriteback_served hs hwait hserved,
    fun a s ⟨hs, hwait⟩ => exec_ceWriteback_of_newer hs hwait,
    fun w s ⟨hs, hen, hhours, hserved⟩ => exec_patrolScrub_served hs hen hhours hserved,
    fun k t s ⟨hs, hlow, hhigh⟩ => exec_stackTempRead_good hs hlow hhigh, ?trained, ?trainFailed,
    fun o n s ⟨hs, hop, hrun, htrain⟩ => exec_freqChangeComplete_change hs hop hrun htrain, ?autoEntry,
    fun k s ⟨hs, hentering, hgoes⟩ => exec_srPointOfNoReturn_enters hs hentering hgoes,
    fun k s ⟨hs, hentering, hauto, hbusy⟩ => exec_srPointOfNoReturn_abandoned hs hentering hauto hbusy,
    fun k s ⟨hs, hstate, hdue, hwanted⟩ => exec_srExit_of_due hs hstate hdue hwanted,
    fun k s ⟨hs, hexiting⟩ => exec_srExitComplete_of_exiting hs hexiting, ?bar2,
    fun a s ⟨hs, hc, hoff⟩ => exec_bar2Access_beyond hs hc hoff⟩
  case trained =>
    rintro o s ⟨hs, hop, hrun, htrain, hcmd, hback⟩
    rw [exec_trainingComplete_running hs hop hrun]
    exact congrArg _ (trainDone_here htrain hcmd hback)
  case trainFailed =>
    rintro o pc s ⟨hs, hop, hrun, hcmd, hback⟩
    rw [exec_trainingComplete_running hs hop hrun]
    exact congrArg _ (trainFail_here hcmd hback)
  case autoEntry =>
    rintro k s ⟨hs, hauto, hticks, hactive, hquiet⟩
    exact exec_srAutoEntry_of_idle hs (isIdleStack_of_quiet hauto hticks hquiet) hactive
  case bar2 =>
    rintro a s ⟨hs, hc, hend, hoff⟩
    rw [Nat.add_comm] at hend
    exact exec_bar2Access_inside hs hc hend hoff

end Sys2Proof.Proofs

/-!
Parlour's accepted changes in the order of R217, its commands once the Head accepts them, and its own events (R207 to R250).
-/
namespace Sys2Proof.Proofs

open Sys2Proof.Machine Sys2Proof.Safety Sys2Proof.Laws

variable {o : OpSpec} {c : Cmd} {e : Err} {k : PaneKey} {n w q : Nat} {r : FrameRec} {s : State}

/-! ## The order of accepted changes (R217) -/

/-- What R217 orders changes by: frame, effective timestamp, kind of source, number of source and order of submission. -/
def pendKey (p : Pend) : ℕ ×ₗ ℕ ×ₗ ℕ ×ₗ ℕ ×ₗ ℕ :=
  toLex (p.frame, toLex (p.eff, toLex (p.rank, toLex (p.sub, p.seq))))

/-- One stage of R217's order: the later criteria `b` decide only between equal values. -/
theorem ite_ne_lt_eq_true_iff (x y : Nat) (b : Bool) :
    (if x ≠ y then decide (x < y) else b) = true ↔ x < y ∨ x = y ∧ b = true := by
  split_ifs with h
  · simp [h]
  · simp [not_not.mp h]

theorem pendBefore_iff (a b : Pend) : pendBefore a b = true ↔ pendKey a < pendKey b := by
  simp only [pendBefore, ite_ne_lt_eq_true_iff, decide_eq_true_eq, pendKey, Prod.Lex.toLex_lt_toLex]

theorem pendBefore_eq_false_iff (a b : Pend) : pendBefore a b = false ↔ pendKey b ≤ pendKey a := by
  rw [← Bool.not_eq_true, pendBefore_iff, not_lt]

/-- A change enters before the first that it comes before: the library's insertion. -/
theorem insertPend_eq_orderedInsert (x : Pend) (l : List Pend) :
    insertPend x l = l.orderedInsert (fun a b => pendBefore a b = true) x := by
  induction l with
  | nil => rfl
  | cons y l ih => rw [insertPend, List.orderedInsert_cons, ih]

theorem insertPend_perm (x : Pend) (l : List Pend) : (insertPend x l).Perm (x :: l) := by
  rw [insertPend_eq_orderedInsert]
  exact List.perm_orderedInsert _ x l

theorem sublist_insertPend (x : Pend) (l : List Pend) : l.Sublist (insertPend x l) := by
  rw [insertPend_eq_orderedInsert]
  exact List.sublist_orderedInsert x l

/-- A change goes after those equal to it, before those that it comes before; both keep the list ordered. -/
theorem insertPend_pairwise (x : Pend) {l : List Pend} (h : l.Pairwise (fun a b => pendKey a ≤ pendKey b)) :
    (insertPend x l).Pairwise (fun a b => pendKey a ≤ pendKey b) := by
  induction l with
  | nil => exact List.pairwise_singleton _ x
  | cons y l ih =>
    obtain ⟨hy, hl⟩ := List.pairwise_cons.mp h
    rw [insertPend]
    split_ifs with hxy
    · have hlt : pendKey x ≤ pendKey y := ((pendBefore_iff x y).mp hxy).le
      exact List.pairwise_cons.mpr ⟨List.forall_mem_cons.mpr ⟨hlt, fun z hz => hlt.trans (hy z hz)⟩, h⟩
    · have hle : pendKey y ≤ pendKey x := (pendBefore_eq_false_iff x y).mp (Bool.eq_false_iff.mpr hxy)
      refine List.pairwise_cons.mpr ⟨fun z hz => ?_, ih hl⟩
      rcases List.mem_cons.mp ((insertPend_perm x l).mem_iff.mp hz) with rfl | hz
      · exact hle
      · exact hy z hz

/-- Settles O55. -/
theorem changesKeepOrder : Obligations.ChangesKeepOrder := by
  refine ⟨fun x l h => ⟨?ordered, insertPend_perm x l, sublist_insertPend x l⟩, pendBefore_iff⟩
  case ordered =>
    simp only [pendBefore_eq_false_iff] at h ⊢
    exact insertPend_pairwise x h

/-! ## The commands -/

/-- Settles O3: each is the run of its opcode's row (R250) on the state in which the command is among the outstanding ones. -/
theorem parlourCommandsComplete : Obligations.ParlourCommandsComplete :=
  ⟨fun _ _ h => runCmd_of_accepts h, fun _ _ h => runCmd_of_accepts h, fun _ _ h => runCmd_of_accepts h,
    fun _ _ h => runCmd_of_accepts h, fun _ _ h => runCmd_of_accepts h, fun _ _ h => runCmd_of_accepts h,
    fun _ _ h => runCmd_of_accepts h, fun _ _ h => runCmd_of_accepts h, fun _ _ h => runCmd_of_accepts h,
    fun _ _ h => runCmd_of_accepts h, fun _ _ h => runCmd_of_accepts h, fun _ _ h => runCmd_of_accepts h⟩

/-! ## Fence time-outs (R221) -/

theorem exec_plFenceTimeout_of_passed {id : Word} {x : Waiting} (hs : inService .head s = true)
    (hwait : s.head.pl.waiting.find? (fun w => w.id == id) = some x) (hpast : limitPassed x (wall s.head.mt) s = true) :
    exec (.plFenceTimeout id) s = .next (expireCommit x { s with head.pl.waiting := s.head.pl.waiting.erase x }) := by
  change execPlFenceTimeout id s = _
  rw [execPlFenceTimeout, onPart_of_inService _ hs]
  simp only [hwait, if_pos hpast]

/-! ## Compositions and power passes of closed frames (R242, R245) -/

theorem exec_paneComposeDone (hs : inService .head s = true) (pass : Bool) :
    exec (.paneComposeDone k n pass) s = .next (composeDone k n pass s) :=
  onPart_of_inService _ hs

theorem composeClosed_of_versionFor (hver : versionFor k r.n s = some w) (pass : Bool) :
    composeClosed r k pass s = if pass then powerPass r.scene k r.n w (r.live.contains k) s
      else compose r.scene k r.n w true (r.live.contains k) s := by
  simp only [composeClosed, hver]

/-- A composition of a closed frame ends once no power pass is left (R245). -/
theorem composeDone_closed_content (hopen : s.head.pl.openFrame ≠ some n) (hrec : recOf n s = some r)
    (hleft : passesLeft s = false) (hnext : nextContent r s = some k) :
    composeDone k n false s = composeClosed r k false s := by
  simp only [composeDone, if_neg hopen, hrec, hleft, hnext, Bool.false_eq_true, not_false_eq_true, and_self, if_false, if_true]

theorem composeDone_closed_pass (hopen : s.head.pl.openFrame ≠ some n) (hrec : recOf n s = some r)
    (hnext : nextPass r s = some k) : composeDone k n true s = composeClosed r k true s := by
  simp only [composeDone, if_neg hopen, hrec, hnext, if_true]

/-! ## Retirement notices (R237, R250) -/

/-- The oldest record of a queue leaves by its reply ring. -/
theorem sendRetire_queue_of_room {x : Retire} (hfind : s.head.pl.retires.find? (fun x => x.src == .queue q) = some x)
    (htakes : takesRetire (.queue q) s = true) (hfits : rqFits (queueAt q s) (slotsFor 20) = true) :
    sendRetire (.queue q) s = ringWrite q (retireReply x) { s with head.pl.retires := s.head.pl.retires.erase x } := by
  simp only [sendRetire, hfind, htakes, hfits, not_true_eq_false, if_false, if_true]

/-! ## PL_RETIRE as a command (R98, R250) -/

theorem firstErr_cons (x : Option Err) (l : List (Option Err)) : firstErr (x :: l) = x.or (firstErr l) := by
  cases x <;> rfl

/-- A command whose only fault is its role's is refused as the role says: the checks that R98 puts before it pass. -/
theorem headErr_of_role (hpass : headErr { o with role := fun _ _ => none } c s = none) (hrole : o.role c s = some e) :
    headErr o c s = some e := by
  simp only [headErr, firstErr_cons, Option.or_eq_none_iff] at hpass
  obtain ⟨hheader, htarget, honHead, hrecovery, -⟩ := hpass
  simp only [headErr, firstErr_cons, hheader, htarget, honHead, hrecovery, hrole, Option.none_or, Option.some_or]

/-- Software never sends PL_RETIRE (R250): as a command that passes every other check, it is refused with DENIED. -/
theorem exec_plRetire_command {src : Source} (h : HeadAccepts { specPlRetire with role := fun _ _ => none } c s) :
    exec (.plRetire { src := src, cmd := some c }) s = .next (refuse c 0x050D { status := stDenied } (take 0x050D c s)) := by
  obtain ⟨hp, hs, hgone, hstamp, hwait, hto, hpass⟩ := h
  have hrefused := runCmd_of_headErr (o := specPlRetire) hp hs hgone (by rwa [hstamp]) (by rwa [hstamp])
    (by rw [hstamp]; exact headErr_of_role hpass rfl)
  rwa [hstamp] at hrefused

/-- Settles O4 (R221, R236, R237, R245, R250). The FLAGS of a PL_RETIRE packet are log entry 22's choice. -/
theorem parlourEventsComplete : Obligations.ParlourEventsComplete := by
  refine ⟨fun id x s ⟨hs, hwait, hpast⟩ => exec_plFenceTimeout_of_passed hs hwait hpast, ?content, ?pass,
    fun a b s hs => onPart_of_inService _ hs, ?ring, fun src c s h => exec_plRetire_command h⟩
  case content =>
    rintro k n r w s ⟨hs, hopen, hrec, hleft, hnext, hver⟩
    rw [exec_paneComposeDone hs, composeDone_closed_content hopen hrec hleft hnext, composeClosed_of_versionFor hver]
    rfl
  case pass =>
    rintro k n r w s ⟨hs, hopen, hrec, hnext, hver⟩
    rw [exec_paneComposeDone hs, composeDone_closed_pass hopen hrec hnext, composeClosed_of_versionFor hver, if_pos rfl]
  case ring =>
    rintro q x s ⟨hs, hfind, htakes, hfits⟩
    exact (onPart_of_inService _ hs).trans (congrArg _ (sendRetire_queue_of_room hfind htakes hfits))

end Sys2Proof.Proofs

/-!
What an accepted command of the pixel path answers (R265 to R288).
-/
namespace Sys2Proof.Proofs

open Sys2Proof.Machine Sys2Proof.Laws

/-- Settles O5 (R265, R267, R269, R272, R277 to R281, R287, R288): each is the run of its opcode's row on the state in which the
command is among the outstanding ones. -/
theorem pixelCommandsComplete : Obligations.PixelCommandsComplete :=
  ⟨fun _ _ h => runCmd_of_accepts h, fun _ _ h => runCmd_of_accepts h, fun _ _ h => runCmd_of_accepts h,
    fun _ _ h => runCmd_of_accepts h, fun _ _ h => runCmd_of_accepts h, fun _ _ h => runCmd_of_accepts h,
    fun _ _ h => runCmd_of_accepts h, fun _ _ h => runCmd_of_accepts h, fun _ _ h => runCmd_of_accepts h⟩

end Sys2Proof.Proofs

/-!
What Pane push answers (R290 to R320): its commands once the Head accepts them, the sendings of panes and what becomes of their
transactions, the reports of the Tiles and the record made of them, the formats of chains and the blackout.
-/
namespace Sys2Proof.Proofs

open Sys2Proof.Machine Sys2Proof.Laws

variable {k : PaneKey} {r : FrameRec} {d n : Nat} {v : Ver} {fn : Word} {s : State}

/-! ## The commands -/

/-- Settles O14: each is the run of its opcode's row (R319) on the state in which the command is among the outstanding ones. -/
theorem panePushCommandsComplete : Obligations.PanePushCommandsComplete :=
  ⟨fun _ _ h => runCmd_of_accepts h, fun _ _ h => runCmd_of_accepts h, fun _ _ h => runCmd_of_accepts h,
    fun _ _ h => runCmd_of_accepts h, fun _ _ h => runCmd_of_accepts h⟩

/-! ## First sendings (R290 to R294, R301) -/

/-- A pane of the open window's list is ready to leave as version `v` on port `d`, which reaches its Tile (R290 to R293, R313). -/
structure WaitsToLeave (k : PaneKey) (r : FrameRec) (d : Nat) (v : Ver) (s : State) : Prop where
  window : openRec s = some r
  listed : (pushList r s).contains k = true
  ready : isReady r k s = true
  path : panePath k r s = some d
  version : pushVersion r k s = some v

theorem exec_panePacketSend_first (hs : inService .head s = true) : exec (.panePacketSend k false) s = .next (firstSend k s) := by
  change execPanePacketSend k false s = _
  rw [execPanePacketSend, onPart_of_inService _ hs, if_neg Bool.false_ne_true]

theorem WaitsToLeave.not_passed_over (h : WaitsToLeave k r d v s) :
    ¬ (¬ (pushList r s).contains k = true ∨ ¬ isReady r k s = true) :=
  not_or.mpr ⟨not_not.mpr h.listed, not_not.mpr h.ready⟩

theorem firstSend_from_cache (h : WaitsToLeave k r d v s) (hport : portTakes r k false d s = true)
    (hfirst : isFirstReady r k d (fun _ => false) s = true) (hbuf : bufOf d k r.n s = none) :
    firstSend k s = withPane r k v d (sendBytes r k false d) s := by
  simp only [firstSend, h.window, if_neg h.not_passed_over, h.path, h.version, if_pos hport, if_neg (not_not.mpr hfirst), hbuf]

theorem firstSend_from_buffer {b : List Byte} (h : WaitsToLeave k r d v s) (hport : portTakes r k false d s = true)
    (hfirst : isFirstReady r k d (fun _ => false) s = true) (hbuf : bufOf d k r.n s = some b) :
    firstSend k s = sendBytes r k false d b s := by
  simp only [firstSend, h.window, if_neg h.not_passed_over, h.path, h.version, if_pos hport, if_neg (not_not.mpr hfirst), hbuf]

/-- While the port takes no packet, a pane that the buffer does not hold and has room for is read ahead (R301). -/
theorem firstSend_reads_ahead (h : WaitsToLeave k r d v s) (hport : portTakes r k false d s = false)
    (hbuf : bufOf d k r.n s = none) (hroom : bufRoom (chainAt d s) = true)
    (hfirst : isFirstReady r k d (fun x => (bufOf d x r.n s).isSome) s = true) :
    firstSend k s = withPane r k v d (fun b => updChain d (fillBuf (k, r.n, b))) s := by
  have hreads : ¬ ((bufOf d k r.n s).isSome = true ∨ ¬ bufRoom (chainAt d s) = true ∨
      ¬ isFirstReady r k d (fun x => (bufOf d x r.n s).isSome) s = true) := by
    simp [hbuf, hroom, hfirst]
  simp only [firstSend, h.window, if_neg h.not_passed_over, h.path, h.version, if_neg (Bool.eq_false_iff.mp hport), if_neg hreads]

/-! ## Replays (R303, R304) -/

theorem exec_panePacketSend_replay (hs : inService .head s = true)
    (hrec : s.head.pl.frames.find? (fun r => (r.want.contains k && !r.isClosed) || r.serve.contains k) = some r)
    (hpath : panePath k r s = some d)
    (hver : (if r.want.contains k = true ∧ ¬ r.isClosed = true then pushVersion r k s else shownVer k s) = some v)
    (hport : portTakes r k true d s = true) :
    exec (.panePacketSend k true) s = .next (withPane r k v d (sendBytes r k true d) s) := by
  change execPanePacketSend k true s = _
  rw [execPanePacketSend, onPart_of_inService _ hs, if_pos rfl]
  simp only [replaySend, hrec, hpath, hver, if_pos hport]

theorem exec_replayReqReceived (hs : inService .head s = true) :
    exec (.replayReqReceived { msg := k } fn) s = .next (replayReqTaken k fn s) :=
  onPart_of_inService _ hs

theorem replayReqTaken_served (hrec : recByFn fn s = some r) (hshown : s.head.mt.lastN = some r.n)
    (htwice : (getKey r.served k).getD 0 < 2) (hver : (shownVer k s).isSome = true) :
    replayReqTaken k fn s = updRec r.n (fun x =>
      { x with served := putKey x.served k ((getKey r.served k).getD 0 + 1), serve := addKeys x.serve [k] }) s := by
  simp only [replayReqTaken, hrec]
  exact if_pos ⟨hshown, htwice, hver⟩

/-- A request of another frame than the shown one, a third one, or one for a pane with no SHOWN version is not served. -/
theorem replayReqTaken_not_served (hrec : recByFn fn s = some r)
    (hnot : s.head.mt.lastN ≠ some r.n ∨ 2 ≤ (getKey r.served k).getD 0 ∨ shownVer k s = none) :
    replayReqTaken k fn s = staleReplay k r.n s := by
  simp only [replayReqTaken, hrec]
  refine if_neg ?_
  rintro ⟨hshown, htwice, hver⟩
  rcases hnot with hother | hthird | hnone
  · exact hother hshown
  · exact absurd htwice (Nat.not_lt.mpr hthird)
  · simp [hnone] at hver

theorem replayReqTaken_unknown (hrec : recByFn fn s = none) : replayReqTaken k fn s = staleReplay k fn.toNat s := by
  simp only [replayReqTaken, hrec]

/-! ## The ends of transactions (R299, R300) -/

variable {x : Trans}

/-- An acknowledgement ends its transaction; a replay follows CRC_ERROR and NO_BANK, a resend LATE and DIVERGENT (R291, R299). -/
theorem exec_paneAckReceived {a : PaneAck} (hs : inService .head s = true) (hown : a.originB = s.head.sys.roleB)
    (htrans : s.head.pp.trans.find? (fun y => transKey y == a.key && y.fn == a.fn) = some x)
    (hrec : recByFn a.fn (updPp (fun p => { p with trans := p.trans.erase x }) s) = some r) :
    exec (.paneAckReceived { msg := a }) s = .next (
      let s1 := updPp (fun p => { p with trans := p.trans.erase x }) s
      let s2 := updRec r.n (fun r => { r with acks := putKey r.acks a.key a.status }) s1
      if a.status = 2 ∨ a.status = 5 then needReplay a.key r s2
      else if a.status = 3 then resendNext a.key r.n s2
      else if a.status = 4 then resendNext a.key r.n (divergent a.key a.fn s2)
      else s2) := by
  change execPaneAckReceived { msg := a } s = _
  rw [execPaneAckReceived, onPart_of_inService _ hs, overLink]
  simp only [ackTaken, if_neg (not_not.mpr hown), htrans, hrec]

/-- A lost transaction, out of time or out of reach, needs a replay (R300). -/
theorem exec_paneTransactionLost {unreachable : Bool} (hs : inService .head s = true)
    (htrans : s.head.pp.trans.find? (fun t => transKey t == k &&
      (if unreachable then t.lost else decide (t.sentAt + 50000 ≤ s.now))) = some x)
    (hrec : recByFn x.fn (updPp (fun p => { p with trans := p.trans.erase x }) s) = some r) :
    exec (.paneTransactionLost k unreachable) s =
      .next (needReplay k r (updPp (fun p => { p with trans := p.trans.erase x }) s)) := by
  change execPaneTransactionLost k unreachable s = _
  rw [execPaneTransactionLost, onPart_of_inService _ hs]
  simp only [htrans, hrec]

/-! ## Frame reports and frame status records (R306 to R308) -/

theorem exec_frameReportReceived_new {m : FrameReport} (hs : inService .head s = true) (hrec : recByFn m.fn s = some r)
    (hwritten : r.written = false) (hnew : r.reports.contains (m.chain, m.position) = false) :
    exec (.frameReportReceived { msg := m }) s = .next (updRec r.n (fun x =>
        { x with
          reports := x.reports ++ [(m.chain, m.position)]
          tileStale := x.tileStale + m.rejected + m.missing
          accepted := x.accepted + m.accepted })
      ((if m.rejected + m.missing = 0 then [] else unaccepted r m.chain m.position s).foldl
        (fun t k => resendNext k r.n t) s)) := by
  change execFrameReportReceived { msg := m } s = _
  rw [execFrameReportReceived, onPart_of_inService _ hs, overLink]
  simp only [reportTaken, hrec, hwritten, hnew, Bool.false_eq_true, or_self, if_false]

/-- The record of a frame that has flipped is written as soon as every Tile has reported, whatever the time (R308). -/
theorem exec_fsrWrite_all_reported (hs : inService .head s = true) (hrec : recOf n s = some r) (hwritten : r.written = false)
    (hflipped : r.flipped = true) (hall : (noReports r s).isEmpty = true) : exec (.fsrWrite n) s =
      .next (whenServed 3 (if s.head.pp.fsrEn then [(fsrAddr (BitVec.ofNat 32 n) s, 64)] else []) (fsrWrite r) s) := by
  change execFsrWrite n s = _
  rw [execFsrWrite, onPart_of_inService _ hs]
  simp only [hrec, hwritten, hflipped, hall, true_or, not_true_eq_false, Bool.false_eq_true, or_self, if_false]

/-! ## Formats and the blackout (R311, R316) -/

theorem exec_formatReturnTimer_of_due {c t : Nat} (hs : inService .head s = true) (hgood : (chainAt c s).goodSince = some t)
    (hdue : t + 1000000000 ≤ s.now) :
    exec (.formatReturnTimer c) s = .next (updChain c (fun q => { q with mayReturn := true }) s) := by
  change execFormatReturnTimer c s = _
  rw [execFormatReturnTimer, onPart_of_inService _ hs]
  simp only [hgood, if_pos hdue]

theorem exec_headBlackoutChange_of_changed (hs : inService .head s = true)
    (hchanged : blackoutState s.head.pp ≠ s.head.pp.blackout) : exec .headBlackoutChange s =
      .next (post .head 0x07 1 0x0004 (BitVec.ofNat 32 (b2n (blackoutState s.head.pp)))
        (BitVec.ofNat 64 (blackoutDetail s.head.pp))
        (sendBlackout (updPp (fun p => { p with blackout := blackoutState s.head.pp }) s))) := by
  change execHeadBlackoutChange s = _
  rw [execHeadBlackoutChange, onPart_of_inService _ hs]
  exact congrArg _ (if_neg hchanged)

theorem exec_blackoutBlockRepeat_of_due (hs : inService .head s = true) (hdue : s.head.pp.blackoutSent + 100000 ≤ s.now) :
    exec .blackoutBlockRepeat s = .next (sendBlackout s) := by
  change execBlackoutBlockRepeat s = _
  rw [execBlackoutBlockRepeat, onPart_of_inService _ hs, if_pos hdue]

/-- Settles O15 (R299, R300, R304, R308, R311, R316). Of the two times of R308 at which a record is written the clause has the one
when every report is in. Which chains are this Head's own is log entry 32's reading, that frame numbers do not come again log entry
79's, and that a message without its packet is one that the link has accepted log entry 95's. -/
theorem panePushEventsComplete : Obligations.PanePushEventsComplete := by
  refine ⟨?fromCache, ?fromBuffer, ?readAhead,
    fun k r d v s ⟨hs, hrec, hpath, hver, hport⟩ => exec_panePacketSend_replay hs hrec hpath hver hport,
    fun a x r s ⟨hs, hown, htrans, hrec⟩ => exec_paneAckReceived hs hown htrans hrec,
    fun k x r s ⟨hs, htrans, hrec⟩ => exec_paneTransactionLost hs htrans hrec,
    fun k x r s ⟨hs, htrans, hrec⟩ => exec_paneTransactionLost hs htrans hrec, ?served, ?notServed, ?unknown,
    fun m r s ⟨hs, hrec, hwritten, hnew⟩ => exec_frameReportReceived_new hs hrec hwritten hnew,
    fun n r s ⟨hs, hrec, hwritten, hflipped, hall⟩ => exec_fsrWrite_all_reported hs hrec hwritten hflipped hall,
    fun c x s ⟨hs, hgood, hdue⟩ => exec_formatReturnTimer_of_due hs hgood hdue,
    fun s ⟨hs, hchanged⟩ => exec_headBlackoutChange_of_changed hs hchanged,
    fun s ⟨hs, hdue⟩ => exec_blackoutBlockRepeat_of_due hs hdue⟩
  case fromCache =>
    rintro k r d v s ⟨hs, hopen, hlisted, hready, hpath, hver, hport, hfirst, hbuf⟩
    rw [exec_panePacketSend_first hs, firstSend_from_cache ⟨hopen, hlisted, hready, hpath, hver⟩ hport hfirst hbuf]
  case fromBuffer =>
    rintro k r d v b s ⟨hs, hopen, hlisted, hready, hpath, hver, hport, hfirst, hbuf⟩
    rw [exec_panePacketSend_first hs, firstSend_from_buffer ⟨hopen, hlisted, hready, hpath, hver⟩ hport hfirst hbuf]
  case readAhead =>
    rintro k r d v s ⟨hs, hopen, hlisted, hready, hpath, hver, hport, hbuf, hroom, hfirst⟩
    rw [exec_panePacketSend_first hs, firstSend_reads_ahead ⟨hopen, hlisted, hready, hpath, hver⟩ hport hbuf hroom hfirst]
  case served =>
    rintro k fn r s ⟨hs, hrec, hshown, htwice, hver⟩
    rw [exec_replayReqReceived hs, replayReqTaken_served hrec hshown htwice hver]
  case notServed =>
    rintro k fn r s ⟨hs, hrec, hnot⟩
    rw [exec_replayReqReceived hs, replayReqTaken_not_served hrec hnot]
  case unknown =>
    rintro k fn s ⟨hs, hrec⟩
    rw [exec_replayReqReceived hs, replayReqTaken_unknown hrec]

end Sys2Proof.Proofs

/-!
A port's transmitter after it has sent a packet: the credits drawn, the SEQ taken and the replay buffer (R340, R348).
-/
namespace Sys2Proof.Proofs

open Sys2Proof.Machine Sys2Proof.Laws

variable {p : Part} {k : Nat} {x : GPkt} {g : GlPort} {s : State}

@[simp] theorem portAt_emit (p : Part) (k : Nat) (o : Out) (s : State) : portAt p k (emit p o s) = portAt p k s := by
  cases p <;> rfl

/-- A port after a change of another port. -/
theorem portAt_updPort_other {j : Nat} (h : j ≠ k) (f : GlPort → GlPort) : portAt p j (updPort p k f s) = portAt p j s := by
  cases p <;> exact upd_getD_other _ _ _ _ _ h

theorem canStart_iff : canStart g x = true ↔
    x.len ≤ g.cred.getD x.cls 0 + g.credShared ∧ g.replayBuf.length < 2047 ∧ replayWords g + x.len ≤ 9362 := by
  simp only [canStart, Bool.and_eq_true, decide_eq_true_eq, and_assoc]

/-! ## Credits -/

section
variable {cls len : Nat}

theorem drawCredit_reserved (h : cls < g.cred.length) :
    (drawCredit g cls len).cred.getD cls 0 = g.cred.getD cls 0 - min (g.cred.getD cls 0) len :=
  upd_getD_same _ _ _ _ h

theorem drawCredit_shared : (drawCredit g cls len).credShared = g.credShared - (len - min (g.cred.getD cls 0) len) := rfl

theorem drawCredit_other {c : Nat} (h : c ≠ cls) : (drawCredit g cls len).cred.getD c 0 = g.cred.getD c 0 :=
  upd_getD_other _ _ _ _ _ h

theorem drawCredit_total (h : cls < g.cred.length) (hcover : len ≤ g.cred.getD cls 0 + g.credShared) :
    (drawCredit g cls len).cred.getD cls 0 + (drawCredit g cls len).credShared + len = g.cred.getD cls 0 + g.credShared := by
  rw [drawCredit_reserved h, drawCredit_shared]
  omega

/-- Shared credits are drawn only once no reserved one is left. -/
theorem drawCredit_reserved_first (h : cls < g.cred.length) (hshared : (drawCredit g cls len).credShared < g.credShared) :
    (drawCredit g cls len).cred.getD cls 0 = 0 := by
  rw [drawCredit_shared] at hshared
  rw [drawCredit_reserved h]
  omega

end

/-! ## The port after a packet -/

section
variable (h : k < (portsOf p s).length)
include h

theorem transmit_cred : (portAt p k (transmit p k x s)).cred = (drawCredit (portAt p k s) x.cls x.len).cred := by
  rw [transmit, portAt_emit, portAt_updPort h]

theorem transmit_credShared :
    (portAt p k (transmit p k x s)).credShared = (drawCredit (portAt p k s) x.cls x.len).credShared := by
  rw [transmit, portAt_emit, portAt_updPort h]

theorem transmit_seqNext : (portAt p k (transmit p k x s)).seqNext = (portAt p k s).seqNext + 1 := by
  rw [transmit, portAt_emit, portAt_updPort h]

theorem transmit_replayBuf : (portAt p k (transmit p k x s)).replayBuf =
    (portAt p k s).replayBuf ++ [{ x with seq := (portAt p k s).seqNext }] := by
  rw [transmit, portAt_emit, portAt_updPort h]

end

theorem portAt_transmit_other {j : Nat} (h : j ≠ k) : portAt p j (transmit p k x s) = portAt p j s := by
  rw [transmit, portAt_emit, portAt_updPort_other h]

/-- Settles O53 (R340, R348). -/
theorem creditsAndReplay : Obligations.CreditsAndReplay := by
  rintro p k x s ⟨hk, hcls, hstart⟩
  obtain ⟨hcover, hroom, -⟩ := canStart_iff.mp hstart
  refine ⟨?total, ?first, ?others, ?seq, transmit_replayBuf hk, ?room, still_transmit p k x s, fun j hj => portAt_transmit_other hj⟩
  case total =>
    rw [transmit_cred hk, transmit_credShared hk]
    exact drawCredit_total hcls hcover
  case first =>
    rw [transmit_cred hk, transmit_credShared hk]
    exact drawCredit_reserved_first hcls
  case others =>
    intro c hc
    rw [transmit_cred hk, drawCredit_other hc]
  case seq =>
    rw [transmit_seqNext hk]
    exact BitVec.toNat_add _ _
  case room =>
    rw [transmit_replayBuf hk, List.length_append, List.length_singleton]
    omega

end Sys2Proof.Proofs

/-!
What a packet that a link brings does (R334, R335, R337, R341, R348, R350, R351): accepted it takes effect, is passed on or is
discarded, and otherwise it does nothing but draw a NAK.
-/
namespace Sys2Proof.Proofs

open Sys2Proof.Machine Sys2Proof.Laws Sys2Proof.Safety

variable {p : Part} {k : Nat} {x : GPkt} {v : Via} {f : State → State} {s : State}

theorem still_afterPacket (p : Part) (k : Nat) (x : GPkt) (s : State) : still (afterPacket p k x s) = still s :=
  (still_freeRx _ _ _ _ _).trans ((still_emit _ _ _).trans (still_updPort (by intro _; rfl) _ _ _))

theorem inService_of_still {t : State} (h : still t = still s) : inService p t = inService p s := by
  change inService p (still t) = inService p (still s)
  rw [h]

/-! ## The receiver's judgement -/

theorem linkAccept_expected (hactive : (portAt p k s).state = .active) (hseq : x.seq = (portAt p k s).seqExp) :
    linkAccept p k x s = (true, emit p (.block k 0x55 [(x.seq.toNat : Nat), 0])
      (updPort p k (fun g => { g with seqExp := g.seqExp + 1, nakAt := none }) s)) := by
  rw [linkAccept, if_neg (not_not.mpr hactive), if_pos hseq]

theorem linkAccept_inactive (h : (portAt p k s).state ≠ .active) : linkAccept p k x s = (false, s) := if_pos h

theorem ne_of_seqDiff_ne_zero {a b : BitVec 12} (h : seqDiff a b ≠ 0) : a ≠ b := by
  rintro rfl
  exact h (sdiffW_self _)

theorem linkAccept_earlier (h : seqDiff x.seq (portAt p k s).seqExp < 0) : linkAccept p k x s = (false, s) := by
  rw [linkAccept, if_neg (ne_of_seqDiff_ne_zero h.ne), if_pos h, ite_self]

theorem linkAccept_later (hactive : (portAt p k s).state = .active) (h : 0 < seqDiff x.seq (portAt p k s).seqExp) :
    linkAccept p k x s = (false, nakNow p k s) := by
  rw [linkAccept, if_neg (not_not.mpr hactive), if_neg (ne_of_seqDiff_ne_zero h.ne'), if_neg h.not_gt]

/-! ## A message over a link -/

theorem overLink_refused (h : (linkAccept p v.port v.pkt s).1 = false) :
    overLink p (some v) f s = (linkAccept p v.port v.pkt s).2 :=
  if_pos (Bool.eq_false_iff.mp h)

theorem overLink_head_own (hactive : (portAt .head v.port s).state = .active) (hseq : v.pkt.seq = (portAt .head v.port s).seqExp)
    (hgood : packetBad v.pkt = false) (hown : v.port = 32 ∨ v.pkt.headB = s.head.sys.roleB) :
    overLink .head (some v) f s = f (afterPacket .head v.port v.pkt s) := by
  refine (overLink_taken _ _ _ _ hactive hseq).trans ((if_neg ?_).trans (if_neg ?_))
  · exact fun h => Bool.eq_false_iff.mp hgood h.1
  · exact fun h => hown.elim h.2.1 h.2.2

theorem overLink_head_partner (hactive : (portAt .head v.port s).state = .active)
    (hseq : v.pkt.seq = (portAt .head v.port s).seqExp) (hgood : packetBad v.pkt = false) (hport : v.port ≠ 32)
    (hother : v.pkt.headB ≠ s.head.sys.roleB) :
    overLink .head (some v) f s = passOver v.pkt (afterPacket .head v.port v.pkt s) := by
  refine (overLink_taken _ _ _ _ hactive hseq).trans ((if_neg ?_).trans (if_pos ⟨rfl, hport, hother⟩))
  exact fun h => Bool.eq_false_iff.mp hgood h.1

theorem overLink_head_bad (hactive : (portAt .head v.port s).state = .active) (hseq : v.pkt.seq = (portAt .head v.port s).seqExp)
    (hbad : packetBad v.pkt = true) (htwin : ¬ (v.port = 32 ∧ v.pkt.cls = 5)) : overLink .head (some v) f s =
      updPort .head v.port (fun g => { g with discards := g.discards + 1 }) (afterPacket .head v.port v.pkt s) :=
  (overLink_taken _ _ _ _ hactive hseq).trans (if_pos ⟨hbad, fun h => htwin h.2⟩)

theorem overLink_tile_good (hactive : (portAt .tile v.port s).state = .active) (hseq : v.pkt.seq = (portAt .tile v.port s).seqExp)
    (hgood : packetBad v.pkt = false) : overLink .tile (some v) f s = f (afterPacket .tile v.port v.pkt s) := by
  refine (overLink_taken _ _ _ _ hactive hseq).trans ((if_neg ?_).trans (if_neg nofun))
  exact fun h => Bool.eq_false_iff.mp hgood h.1

/-! ## A command that a link brings to a Tile -/

theorem runCmd_tile {o : OpSpec} {c : Cmd} (hp : c.part = .tile) (hs : inService .tile s = true) :
    runCmd o c s = .next (tileArrive o c s) := by
  simp only [runCmd, hp, hs, not_true_eq_false, if_false]

theorem tileArrive_linked {o : OpSpec} {c : Cmd} {b : Bool} {q : BitVec 12} (hlink : c.link = some q) (hsrc : c.src = .chain b k) :
    tileArrive o c s = overLink .tile (some { port := k, pkt := cmdPacket o c q b }) (fun t =>
      tileRun o c (if (cmdPacket o c q b).bcast ∨ ¬ toThisTile c t then hand .tile (1 - k) (cmdPacket o c q b) t else t)) s := by
  simp only [tileArrive, hlink, hsrc]

/-- Settles O60 (R334, R335, R337, R341, R348, R350, R351). What a message with and without its packet is rests on log entry 95, what
is passed over on log entry 41. -/
theorem linkAcceptsOnce : Obligations.LinkAcceptsOnce := by
  refine ⟨?own, ?partner, ?bad, ?ignored, ?later, ?tile⟩
  case own =>
    rintro i f v s ⟨hc, hs, hactive, hseq, hgood, hown⟩
    obtain ⟨g, hg⟩ := carried_row hc
    have hstill := still_afterPacket .head v.port v.pkt s
    rw [hg, hg, onPart_of_inService _ hs, onPart_of_inService _ ((inService_of_still hstill).trans hs),
      overLink_head_own hactive hseq hgood hown]
    exact ⟨rfl, hstill⟩
  case partner =>
    rintro i f v s ⟨hc, hs, hactive, hseq, hgood, hport, hother⟩
    obtain ⟨g, hg⟩ := carried_row hc
    rw [hg, onPart_of_inService _ hs, overLink_head_partner hactive hseq hgood hport hother]
  case bad =>
    rintro i f v s ⟨hc, hs, hactive, hseq, hbad, htwin⟩
    obtain ⟨g, hg⟩ := carried_row hc
    rw [hg, onPart_of_inService _ hs, overLink_head_bad hactive hseq hbad htwin]
  case ignored =>
    rintro i f v s ⟨hc, hs, hnot⟩
    obtain ⟨g, hg⟩ := carried_row hc
    have haccept : linkAccept .head v.port v.pkt s = (false, s) := hnot.elim linkAccept_inactive linkAccept_earlier
    rw [hg, onPart_of_inService _ hs, overLink_refused (by rw [haccept]), haccept]
  case later =>
    rintro i f v s ⟨hc, hs, hactive, hlater⟩
    obtain ⟨g, hg⟩ := carried_row hc
    have haccept := linkAccept_later hactive hlater
    rw [hg, onPart_of_inService _ hs, overLink_refused (by rw [haccept]), haccept]
    exact ⟨rfl, still_nakNow _ _ _⟩
  case tile =>
    rintro o c b k q s ⟨hp, hs, hlink, hsrc, hactive, hseq, hgood⟩
    rw [runCmd_tile hp hs, tileArrive_linked hlink hsrc, overLink_tile_good hactive hseq hgood]

end Sys2Proof.Proofs

/-!
Graed's commands once their part accepts them (R370), and the events that bring a link up (R355, R358 to R363, R371).
-/
namespace Sys2Proof.Proofs

open Sys2Proof.Machine Sys2Proof.Laws

variable {p : Part} {k : Nat} {c : Caps} {s : State}

/-- An event at a part in service answers what its function gives. -/
theorem onPart_next {f : State → State} {t : State} (hs : inService p s = true) (h : f s = t) : onPart p f s = .next t :=
  (onPart_of_inService f hs).trans (congrArg _ h)

/-! ## The commands -/

/-- Settles O6: each is the run of its opcode's row (R370) on the state in which the command is among the outstanding ones. What the
tests answer that GL_TEST stops is log entry 85's choice, when GL_RETRAIN answers log entry 31's reading. -/
theorem graedCommandsComplete : Obligations.GraedCommandsComplete :=
  ⟨fun _ _ h => runCmd_of_accepts h, fun _ _ h => runCmd_of_accepts h, fun _ _ h => runCmd_of_accepts h,
    fun _ _ h => runCmd_of_accepts h, fun _ _ h => runCmd_of_accepts h⟩

/-! ## Training (R355, R358 to R362) -/

/-- The eighth frame that a lane's receiver reports detected leads from DETECT to TRAIN, whatever it leaves on the lane. -/
theorem trainingFrame_eighth {f : TrainFrame} (hstate : (portAt p k s).state = .detect) (hcheck : f.check = frameCheck f)
    (hdet : f.detected = true) (hlane : f.lane < (portAt p k s).lanes.length)
    (hseven : ((portAt p k s).lanes.getD f.lane {}).detFrames = 7) :
    ∃ l, trainingFrame p k f s =
      updPort p k (fun g => { takeTrain g with state := .train, since := s.now, rate := trainRate g f.rateMax })
        (updPort p k (fun _ => { portAt p k s with lanes := l }) s) := by
  have hguard : ¬ (f.check ≠ frameCheck f ∨ (portAt p k s).lanes.length ≤ f.lane ∨ ¬ ((portAt p k s).state = .detect ∨
      (portAt p k s).state = .train ∨ ((portAt p k s).state = .retrain ∧ (portAt p k s).sub = 0))) :=
    not_or.mpr ⟨not_not.mpr hcheck, not_or.mpr ⟨Nat.not_le.mpr hlane, not_not.mpr (.inl hstate)⟩⟩
  rw [trainingFrame, if_neg hguard]
  simp only [hstate, hdet, hseven, if_true, Nat.reduceAdd, le_refl]
  exact ⟨_, rfl⟩

/-- The lanes in use on which both receivers are ready. -/
def readyLanes (g : GlPort) : List Nat :=
  (laneList g.laneUse).filter (fun i => (g.lanes.getD i {}).readyHere && (g.lanes.getD i {}).readyPeer)

/-- TRAIN has lasted its 4 ms. -/
theorem train_guard (hstate : (portAt p k s).state = .train) (hdue : (portAt p k s).since + 4000000 ≤ s.now) :
    ¬ ((portAt p k s).state ≠ .train ∨ s.now < (portAt p k s).since + 4000000) :=
  not_or.mpr ⟨not_not.mpr hstate, Nat.not_lt.mpr hdue⟩

theorem trainTimeout_none_ready (hstate : (portAt p k s).state = .train) (hdue : (portAt p k s).since + 4000000 ≤ s.now)
    (hfails : (portAt p k s).fails + 1 < 3) (hready : readyLanes (portAt p k s) = []) :
    trainTimeout p k s = updPort p k (fun g => { toDetect s.now g with fails := g.fails + 1 }) s := by
  unfold readyLanes at hready
  rw [trainTimeout, if_neg (train_guard hstate hdue)]
  simp only [hready, List.isEmpty_nil, not_true_eq_false, if_false, if_pos hfails]

theorem trainTimeout_some_ready {r : List Nat} (hstate : (portAt p k s).state = .train)
    (hdue : (portAt p k s).since + 4000000 ≤ s.now) (hready : readyLanes (portAt p k s) = r) (hsome : r ≠ []) :
    trainTimeout p k s = updPort p k (fun g => { g with
      state := .lock, since := s.now, laneActive := BitVec.ofNat 4 (r.foldl (fun a i => a + 2 ^ i) 0)
      lanes := g.lanes.mapIdx (fun i l => if r.contains i then l else { l with outSince := some s.now }) }) s := by
  unfold readyLanes at hready
  rw [trainTimeout, if_neg (train_guard hstate hdue)]
  simp only [hready]
  exact if_pos (mt List.isEmpty_iff.mp hsome)

theorem exec_trainTimeout (hs : inService p s = true) :
    exec (.trainTimeout p k) s = .next (trainTimeout p k (expireRetrains p s)) :=
  onPart_of_inService (fun s => trainTimeout p k (expireRetrains p s)) hs

/-! ## Block lock (R326, R355) -/

/-- A port's lanes once its active ones are locked, their descramblers in step with the last bits that came. -/
def lockedLanes (last : List (BitVec 64)) (g : GlPort) : List GlLane :=
  g.lanes.mapIdx (fun i l =>
    if g.laneActive.getLsbD i then { l with lock := true, descr := (descramble l.descr (last.getD i 0)).2 } else l)

variable {last : List (BitVec 64)}

theorem exec_blockLock_lock (hs : inService p s = true) (hlock : (portAt p k s).state = .lock) :
    exec (.blockLock p { port := k, last := last }) s = .next (sendCaps p k
      (updPort p k (fun g => { g with state := .caps, since := s.now, lanes := lockedLanes last g }) s)) := by
  change execBlockLock p { port := k, last := last } s = _
  rw [execBlockLock, onPart_of_inService _ hs]
  exact congrArg _ (if_pos hlock)

theorem exec_blockLock_retrain (hs : inService p s = true) (hretrain : (portAt p k s).state = .retrain)
    (hsub : (portAt p k s).sub = 1) : exec (.blockLock p { port := k, last := last }) s =
      .next (sendCaps p k (updPort p k (fun g => { g with sub := 2, lanes := lockedLanes last g }) s)) := by
  have hlock : ¬ (portAt p k s).state = .lock := by simp [hretrain]
  change execBlockLock p { port := k, last := last } s = _
  rw [execBlockLock, onPart_of_inService _ hs]
  exact congrArg _ ((if_neg hlock).trans (if_pos ⟨hretrain, hsub⟩))

/-! ## CAPS (R363) -/

/-- A port's counts after the first CAPS. -/
def firstCaps (c : Caps) (g : GlPort) : GlPort :=
  { g with lastCaps := some c, capsSame := 1, ackSame := if c.acked then 1 else 0 }

/-- A port's counts after one more of the same CAPS, acknowledged again. -/
def nextCaps (c : Caps) (g : GlPort) : GlPort :=
  { g with lastCaps := some c, capsSame := g.capsSame + 1, ackSame := g.ackSame + 1 }

theorem capsReceived_first (hstate : (portAt p k s).state = .caps) (hlast : (portAt p k s).lastCaps = none)
    (hvalid : pairingValid p k c s = true) :
    capsReceived p k c s = updPort p k (fun _ => firstCaps c (portAt p k s)) s := by
  have hfew : (if c.acked = true then 1 else 0) < 8 := by split <;> omega
  simp [capsReceived, hstate, hlast, hvalid, hfew, firstCaps]

theorem capsReceived_mismatch (hstate : (portAt p k s).state = .caps) (hlast : (portAt p k s).lastCaps = none)
    (hvalid : pairingValid p k c s = false) :
    capsReceived p k c s = endRetrainCmds p k false (post p 0x08 3 0x0007 (portDet k)
      (BitVec.ofNat 64 (c.version + 16 * b2n c.isTile + 32 * b2n c.headB + 64 * c.pair + 512 * c.port + 32768 * c.rate +
        131072 * c.lanes + 524288 * b2n c.acked))
      (updPort p k (fun g => { toHold s.now .mismatch g with peer := some c })
        (updPort p k (fun _ => firstCaps c (portAt p k s)) s))) := by
  simp [capsReceived, hstate, hlast, hvalid, firstCaps]

theorem sameCaps_self (c : Caps) : sameCaps c c = true := beq_self_eq_true _

/-- The CAPS that makes eight identical and acknowledged ones in a row takes a Tile's port to ACTIVE. -/
theorem capsReceived_eighth (hstate : (portAt .tile k s).state = .caps) (hlast : (portAt .tile k s).lastCaps = some c)
    (hacked : c.acked = true) (hsame : 8 ≤ (portAt .tile k s).capsSame) (hack : 7 ≤ (portAt .tile k s).ackSame)
    (hvalid : pairingValid .tile k c s = true) :
    capsReceived .tile k c s = capsReceived.updTimePort' .tile k (c.version = 1)
      (toActive .tile k (updPort .tile k (fun g => { g with peer := some c })
        (updPort .tile k (fun _ => nextCaps c (portAt .tile k s)) s))) := by
  have hn : ¬ (portAt .tile k s).capsSame + 1 = 8 := by omega
  have ha : ¬ (portAt .tile k s).ackSame + 1 < 8 := by omega
  simp [capsReceived, hstate, hlast, hacked, hvalid, sameCaps_self, hn, ha, nextCaps]

/-! ## Tests and figures of merit (R362, R370, R371) -/

/-- The first test on a port whose duration has passed. -/
def testEnded (p : Part) (k : Nat) (s : State) : Option (Nat × GlTest) :=
  (glWaitOf p s).tests.find? (fun e => e.1 == k && e.2.ends ≤ s.now)

theorem exec_glTestDone {b e : Nat} {x : Nat × GlTest} (hs : inService p s = true) (hx : testEnded p k s = some x) :
    exec (.glTestDone p k b e) s = .next (ok x.2.cmd 0x0804 (leBytes 8 b ++ leBytes 8 e)
      (setGlWait p { glWaitOf p s with tests := (glWaitOf p s).tests.erase x } s)) := by
  unfold testEnded at hx
  change execGlTestDone p k b e s = _
  rw [execGlTestDone, onPart_of_inService _ hs]
  simp only [hx]

theorem exec_fomMeasurement_high {l f : Nat} (hs : inService p s = true) (hhigh : (portAt p k s).fomMin + 16 ≤ f) :
    exec (.fomMeasurement p k l f) s = .next (updPort p k (fun g => { g with lanes := upd g.lanes l (fun x =>
      { x with fom := f, fomLowSince := if f + 16 < g.fomMin then some (x.fomLowSince.getD s.now) else none }) }) s) := by
  change execFomMeasurement p k l f s = _
  rw [execFomMeasurement, onPart_of_inService _ hs]
  simp only [Nat.not_lt.mpr hhigh, false_and, and_false, if_false]

/-- A low figure of an active lane is reported when none of the lane has been. -/
theorem exec_fomMeasurement_low {l f : Nat} (hs : inService p s = true) (hactive : (portAt p k s).state = .active)
    (hlane : (portAt p k s).laneActive.getLsbD l = true) (hlow : f < (portAt p k s).fomMin + 16)
    (hnever : ((portAt p k s).lanes.getD l {}).fomLowAt = none) :
    exec (.fomMeasurement p k l f) s = .next (post p 0x08 2 0x0008 (BitVec.ofNat 32 (k + 256 * l + 65536 * f)) 0
      (updPort p k (fun g => { g with lanes := upd g.lanes l (fun x =>
        { x with
          fom := f, fomLowAt := some s.now
          fomLowSince := if f + 16 < g.fomMin then some (x.fomLowSince.getD s.now) else none }) }) s)) := by
  change execFomMeasurement p k l f s = _
  rw [execFomMeasurement, onPart_of_inService _ hs]
  simp only [hactive, hlane, hlow, hnever, and_self, if_true]

/-- Settles O7 (R355, R358 to R363, R370, R371). That acknowledged CAPS make a port ACTIVE is stated of a Tile's port. What an ACTIVE
port's transmitter has before CREDIT_INIT is log entry 29's reading, when GL_RETRAIN answers log entry 31's. -/
theorem graedBringUpEventsComplete : Obligations.GraedBringUpEventsComplete := by
  refine ⟨fun p k b e x s ⟨hs, hx⟩ => exec_glTestDone hs hx,
    fun p k s ⟨hs, hactive⟩ => onPart_next hs (if_pos hactive),
    fun p k s ⟨hs, hoff, hk⟩ => onPart_next hs (if_pos ⟨hoff, hk⟩),
    fun p k s ⟨hs, hk, hon⟩ => onPart_next hs (if_pos ⟨hk, hon⟩),
    ?eighth, ?noneReady, ?someReady,
    fun p k l s ⟨hs, hlock⟩ => exec_blockLock_lock hs hlock,
    fun p k l s ⟨hs, hretrain, hsub⟩ => exec_blockLock_retrain hs hretrain hsub,
    fun p k s ⟨hs, hlock, hdue⟩ => onPart_next hs (if_pos ⟨hlock, hdue⟩),
    fun p k c s ⟨hs, hcaps, hlast, hvalid⟩ =>
      onPart_next hs (capsReceived_first hcaps hlast hvalid),
    fun p k c s ⟨hs, hcaps, hlast, hvalid⟩ =>
      onPart_next hs (capsReceived_mismatch hcaps hlast hvalid),
    fun k c s ⟨hs, hcaps, hlast, hacked, hsame, hack, hvalid⟩ =>
      onPart_next hs (capsReceived_eighth hcaps hlast hacked hsame hack hvalid),
    fun p k s ⟨hs, hcaps, hdue⟩ => onPart_next hs (if_pos ⟨hcaps, hdue⟩),
    fun p k s ⟨hs, hhold, hdue⟩ => onPart_next hs (if_pos ⟨hhold, hdue⟩),
    fun p k l f s ⟨hs, hhigh⟩ => exec_fomMeasurement_high hs hhigh,
    fun p k l f s ⟨hs, hactive, hlane, hlow, hnever⟩ => exec_fomMeasurement_low hs hactive hlane hlow hnever⟩
  case eighth =>
    rintro p k f s ⟨hs, hdetect, hcheck, hdet, hlane, hseven⟩
    obtain ⟨l, hl⟩ := trainingFrame_eighth hdetect hcheck hdet hlane hseven
    have hk := port_exists hlane
    refine ⟨_, onPart_next hs hl, ?_⟩
    rw [portAt_updPort (by simpa using hk), portAt_updPort hk]
    exact ⟨rfl, rfl, rfl⟩
  case noneReady =>
    rintro p k s ⟨hs, htrain, hdue, hfails, hready⟩
    rw [exec_trainTimeout hs, trainTimeout_none_ready htrain hdue hfails hready]
  case someReady =>
    rintro p k r s ⟨hs, htrain, hdue, hready, hsome⟩
    rw [exec_trainTimeout hs, trainTimeout_some_ready htrain hdue hready hsome]

end Sys2Proof.Proofs

/-!
The events of a link that is up (R340 to R342, R350 to R353, R355, R364 to R368): retraining, lanes, acknowledgement, replay and
credits.
-/
namespace Sys2Proof.Proofs

open Sys2Proof.Machine Sys2Proof.Laws

variable {p : Part} {k lane cause : Nat} {m : BitVec 4} {s : State}

/-! ## Lanes (R364 to R368) -/

/-- A lane of an ACTIVE port's set has failed (R364). -/
structure LaneFails (p : Part) (k lane cause : Nat) (s : State) : Prop where
  active : (portAt p k s).state = .active
  used : (portAt p k s).laneActive.getLsbD lane = true
  fails : laneFails s.now cause ((portAt p k s).lanes.getD lane {}) = true

theorem LaneFails.not_ignored (h : LaneFails p k lane cause s) : ¬ ((portAt p k s).state ≠ .active ∨
    ¬ (portAt p k s).laneActive.getLsbD lane = true ∨ ¬ laneFails s.now cause ((portAt p k s).lanes.getD lane {}) = true) :=
  not_or.mpr ⟨not_not.mpr h.active, not_or.mpr ⟨not_not.mpr h.used, not_not.mpr h.fails⟩⟩

theorem laneFail_drops (h : LaneFails p k lane cause s) (hm : (portAt p k s).laneActive &&& ~~~(1#4 <<< lane) = m) (hleft : m ≠ 0) :
    laneFail p k lane cause s = laneChanged p k (sendLaneSet p k m (nakNow p k
      (post p 0x08 2 0x0003 (BitVec.ofNat 32 (k + 256 * lane)) (BitVec.ofNat 64 cause)
        (updPort p k (fun g => { g with
          laneActive := m, laneDropped := true, laneReplay := true
          lanes := upd g.lanes lane (fun x => { x with lock := false, outSince := some s.now }) }) s)))) := by
  rw [laneFail, if_neg h.not_ignored, hm]
  exact if_neg hleft

theorem laneFail_last (h : LaneFails p k lane cause s) (hm : (portAt p k s).laneActive &&& ~~~(1#4 <<< lane) = 0) :
    laneFail p k lane cause s = toRetrain p k 1 s := by
  rw [laneFail, if_neg h.not_ignored]
  exact if_pos hm

/-- A port that takes the far end's lane set `m` for its set in `g`: the lanes added are locked, those gone are out from now
(R365, R368). -/
def takeLanes (now : Nat) (m : BitVec 4) (g x : GlPort) : GlPort :=
  let added := laneList (m &&& ~~~g.laneActive)
  let gone := laneList (g.laneActive &&& ~~~m)
  { x with
    laneActive := m, laneDropped := x.laneDropped || !gone.isEmpty, laneReplay := true
    lanes := x.lanes.mapIdx (fun i l =>
      if added.contains i then { l with outSince := none, lock := true }
      else if gone.contains i then { l with outSince := some now, lock := false } else l) }

theorem laneSetReceived_takes (hactive : (portAt p k s).state = .active) (hnew : m ≠ (portAt p k s).laneActive) (hsome : m ≠ 0) :
    laneSetReceived p k m s = laneChanged p k (sendLaneSet p k m ((laneList (m &&& ~~~(portAt p k s).laneActive)).foldl
      (fun a i => post p 0x08 1 0x0004 (BitVec.ofNat 32 (k + 256 * i)) 0 a)
      (updPort p k (takeLanes s.now m (portAt p k s)) s))) := by
  rw [laneSetReceived, if_neg (not_or.mpr ⟨not_not.mpr hactive, not_or.mpr ⟨hnew, hsome⟩⟩)]
  rfl

theorem exec_laneSetReceived {copy : Nat} (hs : inService p s = true) (hcopy : copy < 3) :
    exec (.laneSetReceived p k m copy) s = .next (laneSetReceived p k m s) := by
  change execLaneSetReceived p k m copy s = _
  rw [execLaneSetReceived, onPart_of_inService _ hs, if_pos hcopy]

/-- A dropped lane that has trained clean comes back by the end that adds it (R368). -/
theorem laneRetrain_adds {t : Nat} (hactive : (portAt p k s).state = .active)
    (hout : ((portAt p k s).lanes.getD lane {}).outSince = some t) (hdue : t + 1000000000 ≤ s.now)
    (hunused : (portAt p k s).laneActive.getLsbD lane = false) (hadds : addsLane p k s = true)
    (hm : (portAt p k s).laneActive ||| (1#4 <<< lane) = m) :
    laneRetrain p k lane true s = laneChanged p k (sendLaneSet p k m
      (post p 0x08 1 0x0004 (BitVec.ofNat 32 (k + 256 * lane)) 0 (updPort p k (fun g => { g with
        laneActive := m, laneReplay := true
        lanes := upd g.lanes lane (fun x => { x with outSince := none, lock := true }) }) s))) := by
  have hguard : ¬ ((portAt p k s).state ≠ .active ∨ s.now < t + 1000000000 ∨ (portAt p k s).laneActive.getLsbD lane = true) :=
    not_or.mpr ⟨not_not.mpr hactive, not_or.mpr ⟨Nat.not_lt.mpr hdue, Bool.eq_false_iff.mp hunused⟩⟩
  simp only [laneRetrain, hout, if_neg hguard, hadds, hm, and_self, if_true]

/-! ## Credits (R342) -/

theorem exec_creditInitReceived_shared {za b zb : Nat} (hs : inService p s = true) (hactive : (portAt p k s).state = .active)
    (hb : b ≠ 7) : exec (.creditInitReceived p k 7 za b zb) s = .next (
      let pad := fun (l : List Nat) => if l.isEmpty then List.replicate 8 0 else l
      drainPort p k ((portAt p k s).txq.length + 1) (updPort p k (fun g => { g with
        credShared := za, cred := upd (pad (pad g.cred)) b (fun _ => zb), credSize := upd (pad (pad g.credSize)) b (fun _ => zb)
        freedRx := upd (if g.freedRx.isEmpty then List.replicate 8 0 else g.freedRx) b (fun _ => 0) }) s)) := by
  change execCreditInitReceived p k 7 za b zb s = _
  rw [execCreditInitReceived, onPart_of_inService _ hs]
  simp only [if_pos hactive, if_true, if_neg hb]
  rfl

/-- Settles O8 (R340 to R342, R350 to R355, R364 to R368). Which end posts GL_LANE_DOWN, and which replay counts no attempt, is log
entry 28's reading; which queued packet leaves first log entry 30's; what RETRAIN keeps log entry 31's. -/
theorem graedLinkEventsComplete : Obligations.GraedLinkEventsComplete := by
  refine ⟨fun _ _ _ _ ⟨hs, hactive, hc⟩ => onPart_next hs (if_pos ⟨hactive, hc⟩),
    fun _ _ _ ⟨hs, hretrain, hdue⟩ => onPart_next hs (if_pos ⟨hretrain, hdue⟩),
    fun _ _ _ _ _ ⟨hs, hactive, hused, hfails, hleft⟩ =>
      onPart_next hs (laneFail_drops ⟨hactive, hused, hfails⟩ rfl hleft),
    fun _ _ _ _ _ ⟨hs, hactive, hused, hfails, hlast⟩ =>
      onPart_next hs (laneFail_last ⟨hactive, hused, hfails⟩ hlast),
    ?laneSet,
    fun _ _ _ _ _ ⟨hs, hactive, hout, hdue, hunused, hadds⟩ =>
      onPart_next hs (laneRetrain_adds hactive hout hdue hunused hadds rfl),
    fun _ _ _ _ ⟨hs, hactive⟩ => onPart_next hs (if_pos hactive),
    fun _ _ _ _ _ ⟨hs, hactive⟩ => onPart_next hs (if_pos hactive),
    fun _ _ _ _ ⟨hs, hactive, hheld, hdue⟩ => onPart_next hs (if_pos ⟨hactive, hheld, hdue⟩),
    fun _ _ _ _ _ _ _ ⟨hs, hactive⟩ => onPart_next hs (if_pos hactive),
    fun _ _ _ _ _ _ ⟨hs, hactive, hb⟩ => exec_creditInitReceived_shared hs hactive hb⟩
  case laneSet =>
    rintro p k m copy s ⟨hs, hactive, hcopy, hnew, hsome⟩
    rw [exec_laneSetReceived hs hcopy, laneSetReceived_takes hactive hnew hsome]
    rfl

end Sys2Proof.Proofs

/-!
Blocks that a port sends and receives (R326 to R330, R338, R341, R344, R349, R351), and packets that a Tile relays (R335).
-/
namespace Sys2Proof.Proofs

open Sys2Proof.Machine Sys2Proof.Laws Sys2Proof.Safety

variable {p : Part} {k : Nat} {s : State}

/-! ## Packets relayed (R335, R350) -/

theorem packetForward_relays {x : GPkt} (hactive : (portAt .tile k s).state = .active) (hseq : x.seq = (portAt .tile k s).seqExp)
    (hgood : packetBad x = false) (hother : forThisTile x s = false) :
    packetForward k x s = hand .tile (1 - k) x (afterPacket .tile k x s) := by
  simp only [packetForward, linkAccept_expected hactive hseq, hgood, hother, Bool.false_eq_true, false_and, not_true_eq_false, if_false]
  rfl

/-! ## Blocks received (R326 to R328, R338, R351) -/

variable {e : BlockErr}

/-- A port whose lane's descrambler has taken a block (R326). -/
def descrambled (e : BlockErr) (g : GlPort) : GlPort :=
  { g with lanes := upd g.lanes e.lane (fun l => { l with descr := (descramble (descramble l.descr e.before).2 e.bits).2 }) }

/-- A port that has counted a failed block on its lane (R364). -/
def blockCounted (now : Nat) (e : BlockErr) (g : GlPort) : GlPort :=
  { g with
    blockErrors := g.blockErrors + 1
    lanes := upd g.lanes e.lane (fun l =>
      { l with errTimes := (now :: l.errTimes.filter (fun t => decide (now ≤ t + 1000000))).take 64 }) }

theorem exec_blockError_good (hs : inService p s = true) (hgood : blockFails e = false) :
    exec (.blockError p k e) s = .next (updPort p k (descrambled e) s) := by
  change execBlockError p k e s = _
  rw [execBlockError, onPart_of_inService _ hs]
  exact congrArg _ (if_pos (Bool.eq_false_iff.mp hgood))

/-- A failed block amid a packet has the packet sent again (R351). -/
theorem exec_blockError_in_packet (hs : inService p s = true) (hbad : blockFails e = true) (hpkt : e.inPacket = true)
    (htime : e.timeMsg = false) (hactive : (portAt p k s).state = .active) : exec (.blockError p k e) s =
      .next (abortDown p k e.forwarding (nakNow p k (updPort p k (blockCounted s.now e) (updPort p k (descrambled e) s)))) := by
  change execBlockError p k e s = _
  rw [execBlockError, onPart_of_inService _ hs]
  exact congrArg _ ((if_neg (not_not.mpr hbad)).trans (if_pos ⟨hpkt, Bool.eq_false_iff.mp htime, hactive⟩))

/-- A failed block between packets or in a TIME-class message draws no NAK (R344). -/
theorem exec_blockError_no_nak (hs : inService p s = true) (hbad : blockFails e = true)
    (hnone : e.inPacket = false ∨ e.timeMsg = true) : exec (.blockError p k e) s =
      .next (updPort p k (blockCounted s.now e) (updPort p k (descrambled e) s)) := by
  change execBlockError p k e s = _
  rw [execBlockError, onPart_of_inService _ hs]
  refine congrArg _ ((if_neg (not_not.mpr hbad)).trans (if_neg ?_))
  rintro ⟨hpkt, htime, -⟩
  exact hnone.elim (fun h => Bool.eq_false_iff.mp h hpkt) htime

/-- Settles O9 (R326 to R330, R335, R338, R341, R344, R349 to R351). The bits that a lane has sent or received before a block are log
entry 94's choice. -/
theorem graedBlockEventsComplete : Obligations.GraedBlockEventsComplete :=
  ⟨fun _ _ _ _ ⟨hs, hactive⟩ => onPart_next hs (if_pos hactive),
    fun _ _ _ ⟨hs, hsends⟩ => onPart_next hs (if_pos hsends),
    fun _ _ _ ⟨hs, hsends⟩ => onPart_next hs (if_pos hsends),
    fun _ _ _ _ _ _ _ _ ⟨hs, hsends, hl, hn, hr, hc⟩ =>
      onPart_next hs (if_pos ⟨hsends, hl, hn, hr, hc⟩),
    fun _ _ _ ⟨hs, hk⟩ => onPart_next hs (if_pos hk),
    fun _ _ _ _ ⟨hs, hactive⟩ => onPart_next hs (if_pos hactive),
    fun _ _ _ ⟨hs, hk, hactive, hseq, hgood, hother⟩ =>
      onPart_next hs ((if_pos hk).trans (packetForward_relays hactive hseq hgood hother)),
    fun _ _ _ _ ⟨hs, hbad, hpkt, htime, hactive⟩ => exec_blockError_in_packet hs hbad hpkt htime hactive,
    fun _ _ _ _ ⟨hs, hgood⟩ => exec_blockError_good hs hgood,
    fun _ _ _ _ ⟨hs, hbad, hnone⟩ => exec_blockError_no_nak hs hbad hnone⟩

end Sys2Proof.Proofs

/-!
What reaches Landing over the link, and the upkeep of Larder (R347, R391, R398 to R407, R428, R429).
-/
namespace Sys2Proof.Proofs

open Sys2Proof.Machine Sys2Proof.Laws Sys2Proof.Safety

variable {k i : Nat} {m : TickMsg} {s : State}

theorem exec_frameReportSend {r : TileReport} (hs : inService .tile s = true) (hr : s.tile.ld.report = some r) :
    exec (.frameReportSend r.n) s = .next (updLd (fun l => { l with report := none, parityFrame := 0 })
      ((headsReaching s).foldl (fun a b => tileSend 5 1 5 b (reportBytes r b a) a) s)) := by
  change execFrameReportSend r.n s = _
  rw [execFrameReportSend, onPart_of_inService _ hs]
  simp only [hr, if_true]

/-! ## TICK messages (R347, R391, R406) -/

theorem exec_tickMessageReceived {p : Part} (hs : inService p s = true) :
    exec (.tickMessageReceived p k m) s = .next (tickMessageReceived p k m s) :=
  onPart_of_inService _ hs

/-- A Head notes a TICK message of the other ORIGIN (R391, log entry 46). -/
theorem tickMessageReceived_head_other (h : m.headB ≠ s.head.sys.roleB) :
    tickMessageReceived .head k m s = { freeRx .head k 0 1 s with head.tw.lastOtherTick := some (wall s.head.mt) } :=
  if_neg h

theorem tickMessageReceived_head_own (h : m.headB = s.head.sys.roleB) :
    tickMessageReceived .head k m s = freeRx .head k 0 1 s :=
  if_pos h

/-- A TICK message of a frame to come whose T_FLIP is the Tile's own is relayed and kept for the flip (R406). -/
theorem tickMessageReceived_tile_agrees (hframes : noFrames s = false) (hcomes : tileView s < tickFrame m s)
    (hflip : ownFlip (tickFrame m s).toNat s = some m.tFlip) : tickMessageReceived .tile k m s =
      updLd (fun l => { l with ticks := l.ticks ++ [m], tickCame := true })
        (timeSend .tile (1 - k) 0x87 (tickBlock m) (freeRx .tile k 0 1 s)) := by
  have hguard : ¬ (noFrames s = true ∨ tickFrame m s ≤ tileView s) :=
    not_or.mpr ⟨Bool.eq_false_iff.mp hframes, not_le.mpr hcomes⟩
  simp only [tickMessageReceived, if_neg hguard, hflip, if_true]
  rfl

/-! ## Pane packets (R398 to R402) -/

theorem panePacketReceived_judged {x : PanePkt} (hmine : forThisTile x.pkt s = true) (htyp : x.pkt.typ = 1)
    (hactive : (portAt .tile k s).state = .active) (hseq : x.pkt.seq = (portAt .tile k s).seqExp) (hgood : packetBad x.pkt = false) :
    panePacketReceived k x s = (
      let j := judgePane x (parsePane x.pkt) (afterPacket .tile k x.pkt s)
      paneAck k (parsePane x.pkt) j.1 j.2) := by
  have hhere : ¬ (¬ forThisTile x.pkt s = true ∨ x.pkt.typ ≠ 1) := not_or.mpr ⟨not_not.mpr hmine, not_not.mpr htyp⟩
  simp only [panePacketReceived, if_neg hhere, linkAccept_expected hactive hseq, hgood, Bool.false_eq_true, not_true_eq_false,
    if_false]
  rfl

/-! ## Larder (R428, R429) -/

theorem exec_larderRefetch_golden {v : Nat} (hs : inService .tile s = true) (hbad : s.tile.lr.bad.contains i = true)
    (hgolden : goldenLarder i s = some v) : exec (.larderRefetch i true) s =
      .next (post .tile 0x0A 1 0x0006 (BitVec.ofNat 32 i) 0
        (updLr (fun l => { writeRec i v l with refetches := l.refetches + 1, refetched := true }) s)) := by
  change execLarderRefetch i true s = _
  rw [execLarderRefetch, onPart_of_inService _ hs]
  simp only [hbad, hgolden, not_true_eq_false, if_false, if_true]

/-- Without a golden copy that reads, the record becomes the identity (R428). -/
theorem exec_larderRefetch_lost {b : Bool} (hs : inService .tile s = true) (hbad : s.tile.lr.bad.contains i = true)
    (hlost : b = false ∨ goldenLarder i s = none) : exec (.larderRefetch i b) s =
      .next (post .tile 0x0A 3 0x0007 (BitVec.ofNat 32 i) 0
        (updLr (fun l => { writeRec i identityRec l with goldenBad := true }) s)) := by
  have hnone : (if b = true then goldenLarder i s else none) = none := by
    rcases hlost with rfl | h
    · rfl
    · rw [h, ite_self]
  change execLarderRefetch i b s = _
  rw [execLarderRefetch, onPart_of_inService _ hs]
  simp only [hbad, hnone, not_true_eq_false, if_false]

/-- The records that a scrub of `w` words finds failing (R429). -/
def scrubFinds (w : Nat) (s1 s : State) : List Nat :=
  failingRecords (fun i h => decide ((2 * i + h + 259200 - s.tile.lr.scrubAt) % 259200 < w)) s1

theorem exec_larderScrub {w : Nat} {flips : List (Nat × Nat × Nat)} (hs : inService .tile s = true) :
    exec (.larderScrub w flips) s = .next (updLr (fun l => { l with scrubAt := (s.tile.lr.scrubAt + w) % 259200 })
      (noteBadRecords (scrubFinds w (flipLarder flips s) s) (flipLarder flips s))) := by
  change execLarderScrub w flips s = _
  rw [execLarderScrub, onPart_of_inService _ hs]
  rfl

/-- Settles O11 (R299, R347, R391, R398 to R407, R428, R429). Of the TICK messages at a Tile the clause has the one in time whose
T_FLIP agrees. That a Head notes one of the other ORIGIN is log entry 46's reading, that T_FLIP is checked on arrival log entry 58's,
what a pane draws without ticks log entry 56's, the layout of golden records log entry 53's. -/
theorem landingEventsComplete : Obligations.LandingEventsComplete :=
  ⟨fun _ _ ⟨hs, hr⟩ => exec_frameReportSend hs hr,
    fun _ _ _ ⟨hs, hother⟩ => (exec_tickMessageReceived hs).trans (congrArg _ (tickMessageReceived_head_other hother)),
    fun _ _ _ ⟨hs, hown⟩ => (exec_tickMessageReceived hs).trans (congrArg _ (tickMessageReceived_head_own hown)),
    fun _ _ _ ⟨hs, hframes, hcomes, hflip⟩ =>
      (exec_tickMessageReceived hs).trans (congrArg _ (tickMessageReceived_tile_agrees hframes hcomes hflip)),
    fun _ _ _ ⟨hs, hmine, htyp, hactive, hseq, hgood⟩ =>
      onPart_next hs (panePacketReceived_judged hmine htyp hactive hseq hgood),
    fun _ _ _ ⟨hs, hbad, hgolden⟩ => exec_larderRefetch_golden hs hbad hgolden,
    fun _ _ _ ⟨hs, hbad, hlost⟩ => exec_larderRefetch_lost hs hbad hlost,
    fun _ _ _ hs => exec_larderScrub hs⟩

end Sys2Proof.Proofs

/-!
The pair of Heads: the claim (R374, R375), Twin's commands (R392), and the events of the Doorbell lines, of pairing and of joining
(R372 to R379, R389, R393).
-/
namespace Sys2Proof.Proofs

open Sys2Proof.Machine Sys2Proof.Laws Sys2Proof.Safety

variable {b : Bool} {x : Nat} {h : Hello} {s : State}

/-! ## The claim -/

/-- The claim that R375 gives: none without ticks, one when a condition holds, else the one that stands. -/
def nextClaim (s : State) : Bool := ticksRun s && (mayClaim s || s.head.tw.dbClaim)

theorem setClaim_of_eq (hb : s.head.tw.dbClaim = b) : setClaim b s = s := if_pos hb

/-- Driving DB_CLAIM changes the claim, and sends the level when it changes. -/
theorem setClaim_eq (b : Bool) (s : State) :
    setClaim b s = { s with
      head.tw := { s.head.tw with dbClaim := b }
      head.out := if b = s.head.tw.dbClaim then s.head.out else .pin .dbClaim b :: s.head.out } := by
  by_cases hb : s.head.tw.dbClaim = b
  · subst hb
    rw [setClaim_of_eq rfl, if_pos rfl]
  · rw [setClaim, if_neg hb, if_neg (Ne.symm hb)]
    rfl

theorem noteBoth_eq (s : State) : noteBoth s = updTw (fun t => { t with bothSince := (noteBoth s).head.tw.bothSince }) s := by
  unfold noteBoth
  dsimp only
  split_ifs <;> rfl

theorem evalClaim_eq_setClaim (s : State) : evalClaim s = noteBoth (setClaim (nextClaim s) s) := by
  unfold evalClaim nextClaim
  cases hticks : ticksRun s with
  | false => rfl
  | true =>
    cases hmay : mayClaim s with
    | true => rfl
    | false => exact congrArg noteBoth (setClaim_of_eq rfl).symm

theorem evalClaim_dbClaim (s : State) : (evalClaim s).head.tw.dbClaim = nextClaim s := by
  rw [evalClaim_eq_setClaim, noteBoth_eq, setClaim_eq]
  rfl

theorem isPublisher_iff (s : State) :
    isPublisher s = true ↔ s.head.tw.dbClaim = true ∧ (peerClaim s = false ∨ s.head.tw.beat = false) := by
  rw [isPublisher, peerClaimLive, Bool.and_eq_true, Bool.not_eq_true', Bool.and_eq_false_iff]

/-- Settles O54 (R374, R375). How the partner's claim is read beside ROLE messages is log entry 45's reading, that a Head which has
handed over waits for its partner's claim log entry 43's. -/
theorem claimRules : Obligations.ClaimRules := by
  refine ⟨fun s => ⟨evalClaim_dbClaim s, ?frame⟩, isPublisher_iff⟩
  rw [evalClaim_dbClaim]
  calc evalClaim s
      = noteBoth (setClaim (nextClaim s) s) := evalClaim_eq_setClaim s
    _ = updTw (fun t => { t with bothSince := (evalClaim s).head.tw.bothSince }) (setClaim (nextClaim s) s) := by
      rw [evalClaim_eq_setClaim]
      exact noteBoth_eq _
    _ = _ := by
      rw [setClaim_eq]
      rfl

/-! ## The commands -/

/-- Settles O31: each is the run of its opcode's row (R392) on the state in which the command is among the outstanding ones. That
a handover is forwarded with its frame is log entry 43's reading, the takeover in claim mode log entry 46's, how a snapshot is asked
for log entry 41's. -/
theorem twinCommandsComplete : Obligations.TwinCommandsComplete :=
  ⟨fun _ _ h => runCmd_of_accepts h, fun _ _ h => runCmd_of_accepts h, fun _ _ h => runCmd_of_accepts h,
    fun _ _ h => runCmd_of_accepts h⟩

/-! ## The partner's line, its beat and the watchdog -/

theorem exec_dbPeerClaimChange (hs : inService .head s = true) :
    exec (.dbPeerClaimChange b) s = .next (twinEval (updTw (fun t => { t with peerLine := b }) s)) := by
  change execDbPeerClaimChange b s = _
  rw [execDbPeerClaimChange, onPart_of_inService _ hs]

theorem exec_peerBeatRegained (hs : inService .head s = true) :
    exec .peerBeatRegained s = .next (twinEval (updTw (fun t => { t with beat := true, dbFaultBeat := false }) s)) := by
  change execPeerBeatRegained s = _
  rw [execPeerBeatRegained, onPart_of_inService _ hs]

theorem exec_twinWatchdogExpiry (hs : inService .head s = true) :
    exec .twinWatchdogExpiry s = .next (noteBoth (updTw (fun t => { t with wdExpired := true }) s)) := by
  change execTwinWatchdogExpiry s = _
  rw [execTwinWatchdogExpiry, onPart_of_inService _ hs]

/-- ROLE messages carry the beat: the line alone is lost (R373, R393). -/
theorem exec_peerBeatLost_line (hs : inService .head s = true) (hrole : s.head.tw.lastRoleBeat = some x) (hlate : s.now < x + 50000)
    (hgood : s.head.tw.dbFaultBeat = false) : exec .peerBeatLost s =
      .next (twinEval (post .head 0x09 2 0x000D 0 0 (updTw (fun t => { t with dbFaultBeat := true }) s))) := by
  change execPeerBeatLost s = _
  rw [execPeerBeatLost, onPart_of_inService _ hs]
  simp only [hrole, hlate, hgood, decide_true, Bool.false_eq_true, if_true, if_false]

theorem exec_peerBeatLost_beat (hs : inService .head s = true) (hrole : s.head.tw.lastRoleBeat = none)
    (hbeat : s.head.tw.beat = true) : exec .peerBeatLost s = .next (beatLost s) := by
  change execPeerBeatLost s = _
  rw [execPeerBeatLost, onPart_of_inService _ hs]
  simp only [hrole, hbeat, Bool.false_eq_true, if_true, if_false]

/-! ## A split -/

/-- Both claims have stood for 20 µs (R375): Head B yields, Head A notes the split alone. -/
theorem exec_twSplit_of_due (hs : inService .head s = true) (hboth : s.head.tw.bothSince = some x) (hdue : x + 20000 ≤ s.now) :
    exec .twSplit s = .next (
      let s1 := updTw (fun t => { t with split := true }) s
      if s.head.sys.roleB then pairEval (setRole .alone (post .head 0x09 3 0x000C 0 0 (noteBoth (setClaim false s1)))) else s1) := by
  change execTwSplit s = _
  rw [execTwSplit, onPart_of_inService _ hs]
  simp only [hboth, hdue, decide_true, not_true_eq_false, if_false]

/-! ## HELLO and ROLE -/

theorem helloTaken_of_fault {k : Nat} (hup : twinUpNow s = true) (hk : helloFault h s = k + 1) :
    helloTaken h s = helloFailed (k + 1) h s := by
  rw [helloTaken, if_neg (not_not.mpr hup), hk]
  rfl

/-- A HELLO that passes, from a partner of this Head's firmware, pairs the two; a Head with ticks takes none from it (R377). -/
theorem helloTaken_of_match (hup : twinUpNow s = true) (hgood : helloFault h s = 0) (hfw : h.fwVersion = s.head.sys.fwVersion)
    (hticks : ticksRun s = true) : helloTaken h s =
      pairEval (twinEval (updTw (fun t => { t with paired := true, fault := 0, peer := some h, peerRoleClaim := h.claim }) s)) := by
  rw [helloTaken, if_neg (not_not.mpr hup), hgood]
  cases htick : h.tick with
  | none => simp only [hfw, ne_eq, not_true_eq_false, false_and, if_false]
  | some a => simp only [hfw, hticks, ne_eq, not_true_eq_false, false_and, if_false]

theorem exec_helloReceived (hs : inService .head s = true) : exec (.helloReceived { msg := h }) s = .next (helloTaken h s) :=
  onPart_of_inService _ hs

/-- A partner whose ROLE is not ALONE leaves a mirror as it is. -/
theorem exec_roleReceived {c : Bool} {r : Nat} (hs : inService .head s = true) (hup : twinUpNow s = true) (hr : r ≠ 0) :
    exec (.roleReceived c b { msg := r }) s = .next (twinEval (claimWire c (updTw (fun t =>
      { t with
        peerRoleClaim := c, peerRole := r, beat := t.beat || b
        lastRoleBeat := if b then some s.now else t.lastRoleBeat }) s))) := by
  change execRoleReceived c b { msg := r } s = _
  rw [execRoleReceived, onPart_of_inService _ hs, overLink]
  simp only [hup, hr, not_true_eq_false, false_and, and_false, if_false]

/-! ## Snapshots -/

theorem portAt_still (s : State) (k : Nat) : portAt .head k (still s) = stillPort (portAt .head k s) :=
  List.getD_map s.head.gl { lanes := [] } (f := stillPort)

theorem twinUpNow_still (s : State) : twinUpNow (still s) = twinUpNow s := by
  rw [twinUpNow, portAt_still]
  rfl

theorem twinUpNow_afterPacket (k : Nat) (y : GPkt) (s : State) : twinUpNow (afterPacket .head k y s) = twinUpNow s := by
  rw [← twinUpNow_still, still_afterPacket, twinUpNow_still]

/-- The request comes with the SEQ expected, over the twin port (log entry 95). -/
theorem overLink_request {f : State → State} (hup : twinUpNow s = true) :
    overLink .head (some (requestVia s)) f s = f (afterPacket .head 32 (requestVia s).pkt s) :=
  overLink_head_own (beq_iff_eq.mp hup) rfl rfl (.inl rfl)

/-- A claim holder that is not alone chooses the join frame (R378). -/
theorem exec_snapshotRequestReceived (hs : inService .head s = true) (hmode : s.head.tw.claimMode = false)
    (hclaim : s.head.tw.dbClaim = true) (hticks : ticksRun s = true) (hup : twinUpNow s = true) (hrole : s.head.tw.role ≠ .alone) :
    exec .snapshotRequestReceived s = .next (
      let t := afterPacket .head 32 (requestVia s).pkt s
      updTw (fun x => { x with snapFor := some (cutAhead 4 (wall t.head.mt) t) }) t) := by
  have hup' := (twinUpNow_afterPacket 32 (requestVia s).pkt s).trans hup
  change execSnapshotRequestReceived s = _
  rw [execSnapshotRequestReceived, onPart_of_inService _ hs, overLink_request hup]
  refine congrArg _ ((if_neg ?_).trans (if_neg fun h => hrole h.1))
  exact not_or.mpr ⟨Bool.eq_false_iff.mp hmode, not_or.mpr ⟨not_not.mpr hclaim, not_or.mpr ⟨not_not.mpr hticks, not_not.mpr hup'⟩⟩⟩

/-- A joining Head without its snapshot takes one over the twin port. -/
theorem snapshot_guard (hrole : s.head.tw.role = .joining) (hmode : s.head.tw.claimMode = false)
    (hnone : s.head.tw.joinFrame = none) (hup : twinUpNow s = true) :
    ¬ (s.head.tw.role ≠ .joining ∨ s.head.tw.claimMode = true ∨ s.head.tw.joinFrame.isSome = true ∨ ¬ twinUpNow s = true) := by
  simp [hrole, hmode, hnone, hup]

/-- Settles O32 (R372 to R379, R389, R393). How a fault of the Doorbell is judged by ROLE messages is log entry 45's reading, the
events and roles at a loss of beat, a split and a failed HELLO log entry 47's, the bytes of HELLO and of a snapshot request log
entry 41's, the request's SEQ log entry 95's. -/
theorem twinPairEventsComplete : Obligations.TwinPairEventsComplete := by
  refine ⟨fun s ⟨hs, hbeat, hdue⟩ => onPart_next hs (if_pos ⟨hbeat, hdue⟩),
    fun _ _ hs => exec_dbPeerClaimChange hs,
    fun s ⟨hs, hrole, hbeat⟩ => exec_peerBeatLost_beat hs hrole hbeat,
    fun x s ⟨hs, hrole, hlate, hgood⟩ => exec_peerBeatLost_line hs hrole hlate hgood,
    fun _ hs => exec_peerBeatRegained hs,
    fun _ hs => exec_twinWatchdogExpiry hs,
    fun x s ⟨hs, hboth, hdue, hB⟩ => (exec_twSplit_of_due hs hboth hdue).trans (congrArg _ (if_pos hB)),
    fun x s ⟨hs, hboth, hdue, hA⟩ => (exec_twSplit_of_due hs hboth hdue).trans (congrArg _ (if_neg (Bool.eq_false_iff.mp hA))),
    ?hello,
    fun h s ⟨hs, hup, hgood, hfw, hticks⟩ => (exec_helloReceived hs).trans (congrArg _ (helloTaken_of_match hup hgood hfw hticks)),
    fun h k s ⟨hs, hup, hk⟩ => (exec_helloReceived hs).trans (congrArg _ (helloTaken_of_fault hup hk)),
    fun s ⟨hs, hup, hdue⟩ => onPart_next hs (if_pos ⟨hup, hdue⟩),
    fun c b r s ⟨hs, hup, hr⟩ => exec_roleReceived hs hup hr,
    fun s ⟨hs, hmode, hclaim, hticks, hup, hrole⟩ => exec_snapshotRequestReceived hs hmode hclaim hticks hup hrole,
    ?taken, ?again⟩
  case hello =>
    rintro s ⟨hs, hup, hfirst⟩
    exact onPart_next hs (if_pos ⟨hup, .inl (by rw [hfirst]; nofun)⟩)
  case taken =>
    rintro sn s ⟨hs, hrole, hmode, hnone, hup, hlate⟩
    exact ⟨_, onPart_next hs ((if_neg (snapshot_guard hrole hmode hnone hup)).trans (if_neg hlate)), rfl, rfl⟩
  case again =>
    rintro sn s ⟨hs, hrole, hmode, hnone, hup, hlate⟩
    exact onPart_next hs ((if_neg (snapshot_guard hrole hmode hnone hup)).trans (if_pos hlate))

end Sys2Proof.Proofs

/-!
The commands of Landing, Larder and lamp drive (R416 to R434, R464), and the refresh cycles, row slots, dark states and blackout
inputs of a Tile (R436 to R463).
-/
namespace Sys2Proof.Proofs

open Sys2Proof.Machine Sys2Proof.Laws Sys2Proof.Safety

variable {n j r t : Nat} {a b : Bool} {c : Cmd} {o : RowObs} {x : TickPar} {s : State}

/-! ## Landing and Larder -/

theorem exec_lrReload_begins (h : TileAccepts specLrReload c s) (hnew : isReloading c s = false) :
    exec (.lrReload c) s = .next (specLrReload.run c (take 0x0A06 c s)) :=
  (if_neg fun hruns => Bool.eq_false_iff.mp hnew hruns.2.2).trans (runCmd_of_accepts (.inr h))

/-- Settles O10: each is the run of its opcode's row (R416, R417, R421, R423, R430) on the state in which the command is among the
outstanding ones. That LR_RELOAD given again ends it is log entry 96's choice, the key and layout of golden records log entry 53's
reading. -/
theorem landingLarderCommandsComplete : Obligations.LandingLarderCommandsComplete :=
  ⟨fun _ _ h => runCmd_of_accepts h, fun _ _ h => runCmd_of_accepts h, fun _ _ h => runCmd_of_accepts h,
    fun _ _ h => runCmd_of_accepts h, fun _ _ h => runCmd_of_accepts h,
    fun _ _ ⟨haccepts, hnew⟩ => exec_lrReload_begins haccepts hnew,
    fun _ _ ⟨hs, hpart, hruns⟩ => if_pos ⟨hs, hpart, hruns⟩,
    fun _ _ h => runCmd_of_accepts h⟩

/-! ## The commands of lamp drive -/

/-- Settles O16: each is the run of its opcode's row (R436, R440, R448, R451, R453, R454, R464, R465) on the state in which the
command is among the outstanding ones. The key and layout of golden trims are log entry 53's reading, when a fade without frames
starts log entry 62's. -/
theorem lampCommandsComplete : Obligations.LampCommandsComplete :=
  ⟨fun _ _ h => runCmd_of_accepts h, fun _ _ h => runCmd_of_accepts h, fun _ _ h => runCmd_of_accepts h,
    fun _ _ h => runCmd_of_accepts h, fun _ _ h => runCmd_of_accepts h, fun _ _ h => runCmd_of_accepts h,
    fun _ _ h => runCmd_of_accepts h, fun _ _ h => runCmd_of_accepts h, fun _ _ h => runCmd_of_accepts h,
    fun _ _ h => runCmd_of_accepts h⟩

/-! ## Refresh cycles and row slots (R436 to R441) -/

theorem refreshAt_of_due (hpar : tilePar n s = some x) (hdue : refreshDue n j s = true) : refreshAt n j s = (
    let a := cycleStart x n j
    let s1 := noteDetect (relight (noteDetect
      { s with tile.time.refN := n, tile.time.refJ := j, tile.time.refSeen := true, tile.time.rowSeen := false }))
    let s2 := takeSettings n (stepFade a (startFades n a (stepFade a s1)))
    { s2 with tile.lp.column := (s2.tile.lp.column + 1) % 480, tile.ht.hLeadNow := s2.tile.ht.hLead }) := by
  simp only [refreshAt, hpar, if_pos hdue]

theorem refreshAt_of_not_due (hdue : refreshDue n j s = false) : refreshAt n j s = s := by
  unfold refreshAt
  cases tilePar n s with
  | none => rfl
  | some _ => exact if_neg (Bool.eq_false_iff.mp hdue)

/-- What a row slot of cycle `j` does before the next slot is read: the quiet slot measures, a scan slot is lit and sensed. -/
def rowWork (x : TickPar) (j : Nat) (o : RowObs) (s : State) : Nat → State
  | 0 => measureSlot o (convertSamples (updLp (fun l => { l with lit := [], row := none }) s))
  | q + 1 =>
    let s2 := updLp (fun l => { l with lit := litSlot x j q s, row := some q }) s
    senseSlot q o.vf (s2.tile.lp.lit.foldl (openTest o.opens q) s2)

theorem rowWork_succ (q : Nat) : rowWork x j o s (q + 1) = (
    let s2 := updLp (fun l => { l with lit := litSlot x j q s, row := some q }) s
    senseSlot q o.vf (s2.tile.lp.lit.foldl (openTest o.opens q) s2)) := rfl

theorem rowAt_of_due (hpar : tilePar n s = some x) (hdue : rowDue n j r s = true) : rowAt n j r o s = (
    let s1 := rowWork x j o (noteDetect { s with tile.time.rowR := r, tile.time.rowSeen := true }) r
    if r ≤ 67 then landingRead (j / (cyclesOf x / x.slots)) r o s1 else s1) := by
  simp only [rowAt, hpar, if_pos hdue]
  cases r <;> rfl

theorem exec_row_read (hs : inService .tile s = true) (hpar : tilePar n s = some x) (hdue : rowDue n j r s = true) (hr : r ≤ 67) :
    exec (.row n j r o) s = .next (landingRead (j / (cyclesOf x / x.slots)) r o
      (rowWork x j o (noteDetect { s with tile.time.rowR := r, tile.time.rowSeen := true }) r)) :=
  onPart_next hs ((rowAt_of_due hpar hdue).trans (if_pos hr))

/-- After the last row slot of a cycle no slot is read. -/
theorem exec_row_last (hs : inService .tile s = true) (hpar : tilePar n s = some x) (hdue : rowDue n j 68 s = true) :
    exec (.row n j 68 o) s =
      .next (rowWork x j o (noteDetect { s with tile.time.rowR := 68, tile.time.rowSeen := true }) 68) :=
  onPart_next hs ((rowAt_of_due hpar hdue).trans (if_neg (by decide)))

/-! ## Blackout (R317, R459 to R463) -/

theorem exec_blackoutBlockReceived {k : Nat} (hs : inService .tile s = true) : exec (.blackoutBlockReceived k a b) s =
    .next (headBlackout (updLp (fun l =>
      if b then { l with headB := { active := a, at_ := s.now } } else { l with headA := { active := a, at_ := s.now } })
      (timeSend .tile (1 - k) 0x99 [((b2n a : Nat) : Int), ((b2n b : Nat) : Int)] (freeRx .tile k 0 1 s)))) := by
  change execBlackoutBlockReceived k a b s = _
  rw [execBlackoutBlockReceived, onPart_of_inService _ hs]
  rfl

/-- A change that leaves CHATTER as it is only takes the new level (R463). -/
theorem headPinChange_quiet (hnew : s.head.pp.pinBlackout ≠ a)
    (hquiet : s.head.pp.chatter = true ∨ (noteChange s.head.pp.changes s.now).length ≤ 1000) :
    headPinChange a s = noteBlackout (updPp (fun p =>
      { p with pinBlackout := a, changes := noteChange p.changes s.now, chatterAt := if a then p.chatterAt else s.now }) s) := by
  have hsets : (!s.head.pp.chatter && decide (1000 < (noteChange s.head.pp.changes s.now).length)) = false := by
    rcases hquiet with h | h
    · rw [h]
      rfl
    · rw [decide_eq_false (Nat.not_lt.mpr h), Bool.and_false]
  simp only [headPinChange, if_neg hnew, hsets, Bool.or_false, Bool.false_eq_true, if_false]
  rfl

theorem tilePinChange_quiet (hnew : s.tile.lp.pin ≠ a) (hquiet : (noteChange s.tile.lp.changes s.now).length ≤ 1000) :
    tilePinChange a s = ownBlackout (s.tile.lp.pin || s.tile.lp.chatter) (updLp (fun l =>
      { l with
        pin := a, changes := noteChange l.changes s.now, transitions := l.transitions + 1
        inactiveSince := if a then l.inactiveSince else s.now }) s) := by
  have hsets : (!s.tile.lp.chatter && decide (1000 < (noteChange s.tile.lp.changes s.now).length)) = false := by
    rw [decide_eq_false (Nat.not_lt.mpr hquiet), Bool.and_false]
  simp only [tilePinChange, if_neg hnew, hsets, Bool.or_false, Bool.false_eq_true, if_false]
  rfl

theorem exec_blackoutNChange_head (haon : aonRuns .head s = true) :
    exec (.blackoutNChange .head a) s = .next (headPinChange a s) := by
  change execBlackoutNChange .head a s = _
  rw [execBlackoutNChange, if_neg (not_not.mpr haon)]

theorem exec_blackoutNChange_tile (haon : aonRuns .tile s = true) :
    exec (.blackoutNChange .tile a) s = .next (tilePinChange a s) := by
  change execBlackoutNChange .tile a s = _
  rw [execBlackoutNChange, if_neg (not_not.mpr haon)]

theorem exec_chatterClear_head (haon : aonRuns .head s = true) (hchatter : s.head.pp.chatter = true)
    (hpin : s.head.pp.pinBlackout = false) (hdue : s.head.pp.chatterAt + chatterTime .head s ≤ s.now) :
    exec (.chatterClear .head) s =
      .next (postChatter (updPp (fun q => { q with chatter := false, changes := [] }) s)) :=
  congrArg _ ((if_neg (not_not.mpr haon)).trans (if_pos ⟨hchatter, Bool.eq_false_iff.mp hpin, hdue⟩))

theorem exec_chatterClear_tile (haon : aonRuns .tile s = true) (hchatter : s.tile.lp.chatter = true)
    (hpin : s.tile.lp.pin = false) (hdue : s.tile.lp.inactiveSince + chatterTime .tile s ≤ s.now) :
    exec (.chatterClear .tile) s = .next (ownBlackout true (post .tile 0x0B 2 0x0006 0
      (BitVec.ofNat 64 (s.tile.lp.changes.filter (fun t => s.now < t + 1000000000)).length)
      (updLp (fun l => { l with chatter := false, changes := [] }) s))) :=
  congrArg _ ((if_neg (not_not.mpr haon)).trans (if_pos ⟨hchatter, Bool.eq_false_iff.mp hpin, hdue⟩))

theorem exec_detectResumeTimer (hs : inService .tile s = true) (hok : (noteDetect s).tile.lp.okSince = some t)
    (hdue : t + 10000000 ≤ (noteDetect s).now) :
    exec .detectResumeTimer s = .next (updLp (fun l => { l with detecting := true }) (noteDetect s)) := by
  change execDetectResumeTimer s = _
  rw [execDetectResumeTimer, onPart_of_inService _ hs]
  simp only [hok, if_pos hdue]

/-- Settles O17 (R317, R436, R437, R441, R448, R450, R453, R454, R456, R459, R460, R462, R463). The corners of the scan and of
detection are log entry 62's reading, a Head's chatter log entry 63's, instants passed over log entry 64's; that a cycle which is
not due changes nothing is log entry 8's choice. -/
theorem lampEventsComplete : Obligations.LampEventsComplete :=
  ⟨fun _ _ _ _ ⟨hs, hpar, hdue⟩ => onPart_next hs (refreshAt_of_due hpar hdue),
    fun _ _ _ ⟨hs, hdue⟩ => onPart_next hs (refreshAt_of_not_due hdue),
    fun _ _ _ _ _ ⟨hs, hpar, hdue⟩ => exec_row_read hs hpar hdue (Nat.zero_le _),
    fun _ _ _ _ _ _ ⟨hs, hpar, hdue, hq⟩ => exec_row_read hs hpar hdue hq,
    fun _ _ _ _ _ ⟨hs, hpar, hdue⟩ => (exec_row_last hs hpar hdue).trans (congrArg _ (rowWork_succ 67)),
    fun _ _ _ hs => exec_blackoutBlockReceived hs,
    fun _ _ _ hs => exec_blackoutBlockReceived hs,
    fun _ ⟨hs, hactive, hdue⟩ => onPart_next hs (if_pos ⟨hactive, hdue⟩),
    fun _ ⟨hs, hactive, hdue⟩ => onPart_next hs (if_pos ⟨hactive, hdue⟩),
    fun v _ hs => onPart_of_inService (lpCtlWrite v) hs,
    fun _ _ ⟨haon, hnew, hquiet⟩ => (exec_blackoutNChange_head haon).trans (congrArg _ (headPinChange_quiet hnew hquiet)),
    fun _ _ ⟨haon, hnew, hquiet⟩ => (exec_blackoutNChange_tile haon).trans (congrArg _ (tilePinChange_quiet hnew hquiet)),
    fun _ ⟨haon, hchatter, hpin, hdue⟩ => exec_chatterClear_head haon hchatter hpin hdue,
    fun _ ⟨haon, hchatter, hpin, hdue⟩ => exec_chatterClear_tile haon hchatter hpin hdue,
    fun _ _ ⟨hs, hok, hdue⟩ => exec_detectResumeTimer hs hok hdue⟩

end Sys2Proof.Proofs

/-!
The rails of a Tile: their commands (R491), instants, samples, faults and input (R467 to R489).
-/
namespace Sys2Proof.Proofs

open Sys2Proof.Machine Sys2Proof.Laws

variable {n j r : Nat} {b : Bool} {s : State}

/-- Settles O20: each is the run of its opcode's row (R475, R477, R479 to R481, R488, R491) on the state in which the command is
among the outstanding ones. The span and rounding of the means that HT_GET_STATUS tells are log entry 66's reading, what RAIL_MASK
may hold log entry 98's choice. -/
theorem hearthCommandsComplete : Obligations.HearthCommandsComplete :=
  ⟨fun _ _ h => runCmd_of_accepts h, fun _ _ h => runCmd_of_accepts h, fun _ _ h => runCmd_of_accepts h,
    fun _ _ h => runCmd_of_accepts h, fun _ _ h => runCmd_of_accepts h, fun _ _ h => runCmd_of_accepts h,
    fun _ _ h => runCmd_of_accepts h⟩

/-! ## The load before a row slot (R473, R474) -/

/-- The state once the HEARTH instant of a row slot is taken. -/
def markHearth (n j r : Nat) (s : State) : State :=
  { s with tile.time.hearthN := n, tile.time.hearthJ := j, tile.time.hearthR := r, tile.time.hearthSeen := true }

theorem hearthAt_of_due (hdue : hearthDue n j r s = true) : hearthAt n j r b s =
    if r = 0 ∨ s.tile.lp.dark then updHt (fun h => { h with load := [0, 0, 0], late := false }) (markHearth n j r s)
    else if b then updHt (fun h => { h with load := s.tile.ld.load, late := false }) (markHearth n j r s)
    else noteLate (markHearth n j r s) :=
  if_pos hdue

theorem hearthAt_dark (hdue : hearthDue n j r s = true) (hdark : r = 0 ∨ s.tile.lp.dark = true) :
    hearthAt n j r b s = updHt (fun h => { h with load := [0, 0, 0], late := false }) (markHearth n j r s) :=
  (hearthAt_of_due hdue).trans (if_pos hdark)

theorem hearthAt_lit (hdue : hearthDue n j r s = true) (hr : r ≠ 0) (hlit : s.tile.lp.dark = false) : hearthAt n j r b s =
    if b then updHt (fun h => { h with load := s.tile.ld.load, late := false }) (markHearth n j r s)
    else noteLate (markHearth n j r s) :=
  (hearthAt_of_due hdue).trans (if_neg (not_or.mpr ⟨hr, Bool.eq_false_iff.mp hlit⟩))

/-! ## Samples, comparators and timers -/

theorem exec_vrefStep_of_due (hs : inService .tile s = true) (hdue : s.tile.ht.stepAt < s.tile.mt.cnt.toNat / 1000) :
    exec .vrefStep s =
      .next (updHt (fun h => { h with stepAt := s.tile.mt.cnt.toNat / 1000, rails := h.rails.map stepRef }) s) := by
  change execVrefStep s = _
  rw [execVrefStep, onPart_of_inService _ hs]
  exact congrArg _ (if_neg (Nat.not_le.mpr hdue))

/-- The times of a rail's current limits within the last 1 ms, with one now (R482). -/
def limitTimes (n : Nat) (s : State) : List Nat := (railAt n s).ocTimes.filter (fun t => s.now ≤ t + 1000000) ++ [s.now]

/-- A current limit that is not yet the 64th within 1 ms blocks its phase and is counted (R472, R482). -/
theorem exec_ilimHwEvent_counted {f : Nat} (hs : inService .tile s = true) (hn : n < 4) (hf : f < railPhases n)
    (hon : isOn (railAt n s) = true) (hfew : (limitTimes n s).length < 64) : exec (.ilimHwEvent n f) s =
      .next (updRail n (fun r =>
        { r with blocked := upd r.blocked f (fun _ => true), oc := r.oc + 1, ocTimes := limitTimes n s }) s) := by
  change execIlimHwEvent n f s = _
  rw [execIlimHwEvent, onPart_of_inService _ hs]
  refine congrArg _ ((if_neg ?_).trans (if_neg (Nat.not_le.mpr hfew)))
  exact not_or.mpr ⟨Nat.not_le.mpr hn, not_or.mpr ⟨Nat.not_le.mpr hf, not_not.mpr hon⟩⟩

theorem exec_htInputLow {v : Int} (hs : inService .tile s = true) (hok : s.tile.ht.inputLow = false) (hlow : v < 4300) :
    exec (.htInputLow v) s = .next (
      let s1 := (List.range 3).foldl (fun a n =>
        if isOn (railAt n a) then updRail n (stopped .retryWait a.now) (noteFault n 5 a) else a)
        (updHt (fun h => { h with inputLow := true, vin := v }) s)
      noteDetect (railDark (post .tile 0x0C 3 0x0009 0 (BitVec.ofInt 64 v) s1))) := by
  change execHtInputLow v s = _
  rw [execHtInputLow, onPart_of_inService _ hs]
  exact congrArg _ (if_neg (not_or.mpr ⟨Bool.eq_false_iff.mp hok, not_le.mpr hlow⟩))

theorem exec_htInputOk {v : Int} (hs : inService .tile s = true) (hlow : s.tile.ht.inputLow = true) (hok : 4500 ≤ v) :
    exec (.htInputOk v) s = .next (nvStart .tile (post .tile 0x0C 1 0x000A 0 (BitVec.ofInt 64 v)
      (updHt (fun h => { h with inputLow := false, vin := v }) s))) := by
  change execHtInputOk v s = _
  rw [execHtInputOk, onPart_of_inService _ hs]
  exact congrArg _ (if_neg (not_or.mpr ⟨not_not.mpr hlow, not_lt.mpr hok⟩))

theorem exec_hearthDarkRelease {t : Nat} (hs : inService .tile s = true) (hrun : s.tile.ht.runSince = some t)
    (hdue : t + 1000000 ≤ s.now) : exec .hearthDarkRelease s = .next (undark 6 s) := by
  change execHearthDarkRelease s = _
  rw [execHearthDarkRelease, onPart_of_inService _ hs]
  simp only [hrun, if_pos hdue]

/-- Settles O21 (R467, R468, R472 to R475, R477, R479, R481, R482, R484, R485, R487, R489). The corners of the regulators and the
clock of soft start are log entry 65's reading, instants passed over log entry 64's. -/
theorem hearthEventsComplete : Obligations.HearthEventsComplete := by
  refine ⟨fun n j r s ⟨hs, hdue, hr, hlit⟩ => onPart_next hs (hearthAt_lit hdue hr hlit),
    fun n j r s ⟨hs, hdue, hr, hlit⟩ => onPart_next hs (hearthAt_lit hdue hr hlit),
    fun n j r b s ⟨hs, hdue, hdark⟩ => onPart_next hs (hearthAt_dark hdue hdark),
    fun v s hs => onPart_of_inService (htCtlWrite v) hs,
    fun n v s ⟨hs, hn⟩ => onPart_next hs (if_neg (Nat.not_le.mpr hn)),
    fun v s hs => onPart_of_inService (railCtlWrite 3 v) hs,
    fun m s ⟨hs, hdue⟩ => ⟨_, onPart_next hs (if_neg (Nat.not_le.mpr hdue)), rfl⟩,
    fun s ⟨hs, hdue⟩ => exec_vrefStep_of_due hs hdue, ?limit,
    fun n v s ⟨hs, hn, hon, hover⟩ => onPart_next hs (if_pos ⟨hn, hon, hover⟩),
    fun n s ⟨hs, hn, hsoft, hdue⟩ => onPart_next hs (if_pos ⟨hn, hsoft, hdue⟩),
    fun n v s ⟨hs, hn, hwaits, hdue, hok⟩ => onPart_next hs (if_pos ⟨hn, hwaits, hdue, Bool.eq_false_iff.mp hok⟩),
    fun v s ⟨hs, hok, hlow⟩ => exec_htInputLow hs hok hlow,
    fun v s ⟨hs, hlow, hok⟩ => exec_htInputOk hs hlow hok,
    fun t s ⟨hs, hrun, hdue⟩ => exec_hearthDarkRelease hs hrun hdue⟩
  case limit =>
    rintro n f s ⟨hs, hn, hf, hon, hfew⟩
    exact exec_ilimHwEvent_counted hs hn hf hon (List.length_append.trans_lt hfew)

end Sys2Proof.Proofs

/-!
Dumbwaiter's commands at either part (R515), and the registers, descriptors, bursts and BULK packets of its channels (R494 to R514).
-/
namespace Sys2Proof.Proofs

open Sys2Proof.Machine Sys2Proof.Laws Sys2Proof.Safety

variable {p : Part} {c off : Nat} {v : Word} {host : Option (List Byte)} {b : DwBurst} {d : DwDesc} {s : State}

/-- Settles O18: each is the run of its opcode's row (R493, R494, R500, R501, R510, R511, R515) on the state in which the command
is among the outstanding ones. What START of a running channel, an abort and a failed reload do is log entry 67's reading. -/
theorem dumbwaiterCommandsComplete : Obligations.DumbwaiterCommandsComplete :=
  ⟨fun _ _ h => runCmd_of_accepts h, fun _ _ _ h => runCmd_of_accepts h, fun _ _ h => runCmd_of_accepts h,
    fun _ _ h => runCmd_of_accepts h, fun _ _ _ h => runCmd_of_accepts h, fun _ _ h => runCmd_of_accepts h⟩

/-! ## The registers of a channel (R500 to R502, R510, R511) -/

theorem exec_dwChCtlStart {r : Bool} (hs : inService p s = true) (hc : c < chanCount p) :
    exec (.dwChCtlStart p c r host) s = .next (startChan p c r host s) := by
  change execDwChCtlStart p c r host s = _
  rw [execDwChCtlStart, onPart_of_inService _ hs, if_pos hc]

theorem stopChan_of_running (hrun : (chanAt p c s).state = .running) :
    stopChan p c s = settle p c (updChan p c (fun x => { x with stopping := true }) s) :=
  if_neg (not_not.mpr hrun)

/-- An abort marks the newest descriptor fetched (R511, log entry 67). -/
theorem abortChan_of_running (hrun : (chanAt p c s).state = .running) (hfirst : (chanAt p c s).aborting = false) :
    abortChan p c s = settle p c (updChan p c (fun x =>
      { x with
        aborting := true
        runs := x.runs.mapIdx (fun i r =>
          if i + 1 = (chanAt p c s).runs.length ∧ r.err.isNone then { r with abortAt := some r.left } else r) }) s) :=
  if_neg (not_or.mpr ⟨not_not.mpr hrun, Bool.eq_false_iff.mp hfirst⟩)

theorem reloadChan_of_running (hrun : (chanAt p c s).state = .running) :
    reloadChan p c host s = settle p c (updChan p c (fun x => { x with reload := some host }) s) :=
  if_neg (not_not.mpr hrun)

theorem dwTail_of_fits (hfits : (chanAt p c s).state ≠ .running ∨ tooFarAhead (chanAt p c s) (chanAt p c s).entry v = false) :
    dwTail p c v s = updChan p c (fun x => { x with tail := v }) s :=
  if_neg fun h => hfits.elim (fun hstate => hstate h.1) (fun hnear => Bool.eq_false_iff.mp hnear h.2)

/-! ## Bursts (R494 to R498, R508, R509) -/

theorem exec_burstIssue_of_turn {r : DwRun} (hs : inService p s = true) (hc : c < chanCount p)
    (hissues : issuing (chanAt p c s) = some r) (hturn : nextIssuer p s = some c)
    (hporch : asksHost p r = false ∨ porchReady s = false) :
    exec (.burstIssue p c) s = .next (issueBurst p c r (takeTurn p c s)) := by
  have hgo : ¬ (asksHost p r = true ∧ porchReady s = true) :=
    not_and_or.mpr (hporch.imp Bool.eq_false_iff.mp Bool.eq_false_iff.mp)
  change execBurstIssue p c s = _
  rw [execBurstIssue, onPart_of_inService _ hs]
  simp only [hissues, if_pos (And.intro hc (And.intro hturn hgo))]

/-- The response of a burst takes effect once the stacks that its read touches serve. -/
theorem exec_burstResponse_of_found {r : BurstResp} (hs : inService p s = true)
    (hfound : findBurst p c r.offset (fun _ _ => true) s = some (b, d)) :
    exec (.burstResponse p c r) s = .next (whenServed 4 (burstSpans p d b) (burstResponse p c b d r) s) := by
  change execBurstResponse p c r s = _
  rw [execBurstResponse, onPart_of_inService _ hs]
  simp only [hfound]

/-- The burst at an offset whose host has not answered for 50 ms (R498). -/
def hostLate (c off : Nat) (s : State) : Option (DwBurst × DwDesc) :=
  findBurst .head c off (fun b d => d.srcSpace == 0 && b.data.isNone && decide (b.at_ + 50000000 ≤ s.now)) s

theorem exec_hostReadTimeout_of_late (hs : inService .head s = true) (hlate : hostLate c off s = some (b, d)) :
    exec (.hostReadTimeout c off) s = .next (burstError .head c b 3 s) := by
  unfold hostLate at hlate
  change execHostReadTimeout c off s = _
  rw [execHostReadTimeout, onPart_of_inService _ hs]
  simp only [hlate]

/-- The burst at an offset whose Tile has not answered for 1 ms, or which the link has lost (R498, R514). -/
def tileLate (c off : Nat) (s : State) : Option (DwBurst × DwDesc) :=
  findBurst .head c off (fun b d => (if b.data.isNone then d.srcSpace == 2 else d.dstSpace == 2) &&
    (decide (b.at_ + 1000000 ≤ s.now) || linkLost d s)) s

theorem exec_tileBurstTimeout_of_late (hs : inService .head s = true) (hlate : tileLate c off s = some (b, d)) :
    exec (.tileBurstTimeout c off) s = .next (burstError .head c b (if b.refused then 6 else 7) s) := by
  unfold tileLate at hlate
  change execTileBurstTimeout c off s = _
  rw [execTileBurstTimeout, onPart_of_inService _ hs]
  simp only [hlate]

/-! ## BULK packets at a Tile (R335, R512, R513) -/

/-- A BULK packet for this Tile alone. -/
structure BulkForTile (x : GPkt) (s : State) : Prop where
  pair : x.pair = s.tile.sys.pair
  chain : x.chain = s.tile.sys.chain
  position : x.position = s.tile.sys.position
  alone : x.bcast = false
  bulk : x.typ = 9

/-- The length that a BULK packet names. -/
def bulkLen (x : GPkt) : Nat := bits (fld x.payload 7 7) 42 32

theorem bulkReceived_write {x : BulkPkt} (hactive : (portAt .tile x.port s).state = .active)
    (hseq : x.pkt.seq = (portAt .tile x.port s).seqExp) (hgood : packetBad x.pkt = false) (hmine : BulkForTile x.pkt s)
    (hwrite : bits (fld x.pkt.payload 0 7) 6 4 = 0) (hsome : 1 ≤ bulkLen x.pkt) (hlimit : bulkLen x.pkt ≤ 1536) :
    bulkReceived x s = bulkWrite x.pkt (bits (fld x.pkt.payload 7 7) 31 0) (padTo (bulkLen x.pkt) (x.pkt.payload.drop 14))
      (afterPacket .tile x.port x.pkt s) := by
  unfold bulkLen at *
  simp only [bulkReceived, linkAccept_expected hactive hseq, hgood, hmine.pair, hmine.chain, hmine.position, hmine.alone,
    hmine.bulk, hwrite, hsome, hlimit, BEq.rfl, Bool.or_true, Bool.and_self, Bool.false_eq_true, ne_eq, not_true_eq_false,
    not_false_eq_true, and_self, or_self, if_true, if_false]
  rfl

/-- Settles O19 (R495 to R498, R501, R502, R504, R508 to R513). That an abort ends the newest descriptor fetched is log entry 67's
reading, which burst a response belongs to log entry 68's, that a read of Cellar waits granule by granule log entry 36's choice.
-/
theorem dumbwaiterEventsComplete : Obligations.DumbwaiterEventsComplete := by
  refine ⟨fun p c r h s ⟨hs, hc, _⟩ => exec_dwChCtlStart hs hc,
    fun p c s ⟨hs, hc, hrun⟩ => onPart_next hs ((if_pos hc).trans (stopChan_of_running hrun)),
    fun p c s ⟨hs, hc, hrun, hfirst⟩ => onPart_next hs ((if_pos hc).trans (abortChan_of_running hrun hfirst)),
    fun p c h s ⟨hs, hc, hrun⟩ => onPart_next hs ((if_pos hc).trans (reloadChan_of_running hrun)),
    fun p c v s ⟨hs, hc, hfits⟩ => onPart_next hs ((if_pos hc).trans (dwTail_of_fits hfits)),
    fun p c h s ⟨hs, hc, hmay⟩ => onPart_next hs (if_pos ⟨hc, hmay⟩),
    fun p c r s ⟨hs, hc, hissues, hturn, hporch⟩ => exec_burstIssue_of_turn hs hc hissues hturn hporch,
    fun p c r b d s ⟨hs, hfound, hserved⟩ => (exec_burstResponse_of_found hs hfound).trans (congrArg _ (if_pos hserved)),
    fun p c r b d s ⟨hs, hfound, hwaits⟩ =>
      (exec_burstResponse_of_found hs hfound).trans (congrArg _ (if_neg (Bool.eq_false_iff.mp hwaits))),
    fun c o b d s ⟨hs, hlate⟩ => exec_hostReadTimeout_of_late hs hlate,
    fun c o b d s ⟨hs, hlate⟩ => exec_tileBurstTimeout_of_late hs hlate, ?bulk⟩
  case bulk =>
    rintro x s ⟨hs, hactive, hseq, hgood, hpair, hchain, hposition, halone, htyp, hwrite, hsome, hlimit⟩
    exact onPart_next hs (bulkReceived_write hactive hseq hgood ⟨hpair, hchain, hposition, halone, htyp⟩ hwrite hsome hlimit)

end Sys2Proof.Proofs

/-!
The audio ports: their commands (R537), boundaries, TDM frames, host rings and the PLL (R518 to R538).
-/
namespace Sys2Proof.Proofs

open Sys2Proof.Machine Sys2Proof.Laws

variable {g p n : Nat} {s : State}

theorem dueAudio_of_due (hdue : audioDue g s = true) : dueAudio g s = audioBoundary g (audioFrameNow g s) s := if_pos hdue

theorem dueAudio_of_not_due (hdue : audioDue g s = false) : dueAudio g s = s := if_neg (Bool.eq_false_iff.mp hdue)

theorem exec_tdmFrame (hs : inService .head s = true) (hp : p < 8) :
    exec (.tdmFrame p n) s = .next (tdmDue p n (dueAudio (auPort p s).group s)) :=
  (onPart_of_inService _ hs).trans (congrArg _ (if_pos hp))

/-- The frame in progress leaves once: `hnew` says that the port has sent none from it on. -/
theorem tdmDue_of_new (hsends : isSending (auPort p s) = true) (hnew : ∀ k, (auPort p s).sentN = some k → k < n)
    (hnow : n = tdmFrameAt (auGroup (auPort p s).group s).rate (wall s.head.mt)) : tdmDue p n s = tdmFrame p n s := by
  refine if_pos ⟨hsends, ?_, hnow⟩
  cases hsent : (auPort p s).sentN with
  | none => rfl
  | some k => exact decide_eq_true (hnew k hsent)

theorem exec_tdmFrame_of_new (hs : inService .head s = true) (hp : p < 8) (htaken : audioDue (auPort p s).group s = false)
    (hsends : isSending (auPort p s) = true) (hnew : ∀ k, (auPort p s).sentN = some k → k < n)
    (hnow : n = tdmFrameAt (auGroup (auPort p s).group s).rate (wall s.head.mt)) :
    exec (.tdmFrame p n) s = .next (tdmFrame p n s) := by
  rw [exec_tdmFrame hs hp, dueAudio_of_not_due htaken, tdmDue_of_new hsends hnew hnow]

theorem exec_audio_of_due (hs : inService .head s = true) (hg : g < 8) (hdue : audioDue g s = true) :
    exec (.audio g (audioFrameNow g s)) s = .next (audioBoundary g (audioFrameNow g s) s) :=
  (onPart_of_inService _ hs).trans (congrArg _ ((if_pos ⟨hg, rfl⟩).trans (dueAudio_of_due hdue)))

/-- Settles O25. The commands are each the run of their opcode's row (R537) on the state in which the command is among the
outstanding ones; the events are those of R518, R519, R522 to R524, R526 to R529, R533 to R535 and R538. That a boundary acts
before the TDM frame that begins at it is log entry 70's reading. -/
theorem audioComplete : Obligations.AudioComplete := by
  refine ⟨fun _ _ h => runCmd_of_accepts h, fun _ _ h => runCmd_of_accepts h, fun _ _ h => runCmd_of_accepts h,
    fun _ _ h => runCmd_of_accepts h, fun _ _ h => runCmd_of_accepts h,
    fun g s ⟨hs, hg, hdue⟩ => exec_audio_of_due hs hg hdue,
    fun p v s hs => onPart_of_inService (updAuPort p (fun q => { q with tail := v })) hs, ?first, ?later, ?boundary,
    fun s ⟨hs, hlock⟩ => onPart_next hs (if_pos hlock), ?relock⟩
  case first =>
    rintro p n s ⟨hs, hp, htaken, hsends, hnone, hnow⟩
    exact exec_tdmFrame_of_new hs hp htaken hsends (fun k hk => nomatch hnone.symm.trans hk) hnow
  case later =>
    rintro p n m s ⟨hs, hp, htaken, hsends, hsent, hlt, hnow⟩
    exact exec_tdmFrame_of_new hs hp htaken hsends (fun k hk => Option.some.inj (hsent.symm.trans hk) ▸ hlt) hnow
  case boundary =>
    rintro p n s ⟨hs, hp, hdue⟩
    rw [exec_tdmFrame hs hp, dueAudio_of_due hdue]
  case relock =>
    rintro s ⟨hs, hunlocked⟩
    change execAuPllRelock s = _
    rw [execAuPllRelock, onPart_of_inService _ hs, if_neg (Bool.eq_false_iff.mp hunlocked)]

end Sys2Proof.Proofs

/-!
The thermal commands (R546, R548, R552, R561), and the conversions and trims of Chimney (R540 to R543, R551, R556 to R561).
-/
namespace Sys2Proof.Proofs

open Sys2Proof.Machine Sys2Proof.Laws

variable {p : Part} {k lane : Nat} {a b : Int} {s : State}

/-- Settles O12: each is the run of its opcode's row (R541, R545, R546, R548, R552, R557, R560, R561) on the state in which the
command is among the outstanding ones. The key of the forward-voltage calibration is log entry 53's reading. -/
theorem chimneyCommandsComplete : Obligations.ChimneyCommandsComplete :=
  ⟨fun _ _ h => runCmd_of_accepts h, fun _ _ h => runCmd_of_accepts h, fun _ _ h => runCmd_of_accepts h,
    fun _ _ h => runCmd_of_accepts h, fun _ _ h => runCmd_of_accepts h, fun _ _ h => runCmd_of_accepts h⟩

/-! ## Conversions -/

theorem exec_sensorConversion_of_due {l : List (Option Int)} (hs : inService p s = true) (haon : aonRuns p s = true)
    (hdue : (chOf p s).convAt + 1000000 ≤ s.now) : exec (.sensorConversion p l) s =
      .next (noteCool p (dieBandStep p (postBroken p (updCh p (fun c => { convert p l c with convAt := s.now }) s)))) := by
  have hguard : ¬ (¬ aonRuns p s = true ∨ s.now < (chOf p s).convAt + 1000000) :=
    not_or.mpr ⟨not_not.mpr haon, Nat.not_lt.mpr hdue⟩
  change execSensorConversion p l s = _
  simp only [execSensorConversion, if_neg hguard, if_pos hs]

/-! ## The sweep of the sinks (R557, R558) -/

/-- A bank reference without error lies on target. -/
theorem on_target_of_refErr_zero (bank : Nat) : decide (4096 < 20 * (([0, 0, 0, 0] : List Int).getD bank 0).natAbs) = false := by
  rcases bank with _ | _ | _ | _ | bank <;> rfl

/-- Every sink is evaluated after a sweep, while their trim is enabled. -/
def evalSinks (on : Bool) (s : State) : State := if on then (List.range 5760).foldl (fun a k => trimSink k a) s else s

/-- A sweep whose bank references were on target keeps its measurements. -/
theorem exec_trimSweepEval_on_target (hs : inService .tile s = true) (hdone : s.tile.ch.sweepDone = true)
    (hrefs : s.tile.ch.refErr = [0, 0, 0, 0]) : exec .trimSweepEval s = .next (applyIdle (updCh .tile
      (fun c => { c with sweepDone := false, refErr := [0, 0, 0, 0] })
      (evalSinks s.tile.ch.sinkEn (updCh .tile (keepSweep (fun _ => false)) s)))) := by
  change execTrimSweepEval s = _
  rw [execTrimSweepEval, onPart_of_inService _ hs, if_neg (not_not.mpr hdone)]
  simp only [hrefs, on_target_of_refErr_zero, Bool.false_eq_true, if_false, List.foldl_fixed]
  rfl

/-! ## The termination of a lane (R560) -/

/-- A lane's codes with new targets. -/
def retarget (a b : Int) (t : TermCode) : TermCode := { t with wantP := a.toNat, wantN := b.toNat }

theorem exec_termTrimMeasure_in_range (hs : inService p s = true) (hen : (chOf p s).termEn = true)
    (hlane : lane < (portAt p k s).lanes.length) (ha : 4 ≤ a ∧ a ≤ 27) (hb : 4 ≤ b ∧ b ≤ 27)
    (hfree : freeToTrim p k (updCh p (setTerm (retarget a b (termOf (chOf p s) k lane))) s) = true) :
    exec (.termTrimMeasure p k lane a b) s = .next (
      let s1 := updCh p (setTerm (retarget a b (termOf (chOf p s) k lane))) s
      moveTerm p (termOf (chOf p s1) k lane) s1) := by
  have hguard : ¬ (¬ (chOf p s).termEn = true ∨ (portAt p k s).lanes.length ≤ lane) :=
    not_or.mpr ⟨not_not.mpr hen, Nat.not_le.mpr hlane⟩
  have hgood {v : Int} (hv : 4 ≤ v ∧ v ≤ 27) : decide (v < 4 ∨ 27 < v) = false :=
    decide_eq_false (not_or.mpr ⟨not_lt.mpr hv.1, not_lt.mpr hv.2⟩)
  unfold retarget at *
  change execTermTrimMeasure p k lane a b s = _
  rw [execTermTrimMeasure, onPart_of_inService _ hs]
  simp only [if_neg hguard, hgood ha, hgood hb, Bool.false_eq_true, or_self, false_and, if_false, hfree, true_or, if_true]

theorem exec_trimSave_of_due (hs : inService p s = true) (hdue : (chOf p s).savedAt + 600000000000 ≤ s.now)
    (hsave : (chOf p s).saveDue = true) : exec (.trimSave p) s = .next (writeSettings p (trimRecords p s) none
      (updCh p (fun c => { c with saveDue := false, savedAt := s.now }) s)) := by
  change execTrimSave p s = _
  rw [execTrimSave, onPart_of_inService _ hs, if_pos hdue, saveTrims, if_pos hsave]

/-- Settles O13 (R540 to R543, R551, R556 to R561). A sweep with a bank off target and a target code out of range have no clause.
The corners of the conversions are log entry 71's reading, those of the self-trim log entry 72's, the layout of saved trims log
entry 53's. -/
theorem chimneyEventsComplete : Obligations.ChimneyEventsComplete := by
  refine ⟨fun p l s ⟨hs, haon, hdue, _⟩ => exec_sensorConversion_of_due hs haon hdue, ?measured, ?trimmed, ?termination,
    fun p s ⟨hs, hdue, hsave⟩ => exec_trimSave_of_due hs hdue hsave⟩
  case measured =>
    rintro s ⟨hs, hdone, hoff, hrefs⟩
    rw [exec_trimSweepEval_on_target hs hdone hrefs, hoff]
    rfl
  case trimmed =>
    rintro s ⟨hs, hdone, hon, hrefs⟩
    rw [exec_trimSweepEval_on_target hs hdone hrefs, hon]
    rfl
  case termination =>
    rintro p k lane a b s ⟨hs, hen, hlane, halow, hahigh, hblow, hbhigh, hfree⟩
    exact exec_termTrimMeasure_in_range hs hen hlane ⟨halow, hahigh⟩ ⟨hblow, hbhigh⟩ hfree

end Sys2Proof.Proofs

/-!
The Attic commands: identity, staging, activation and the load of Tiles (R579 to R598).
-/
namespace Sys2Proof.Proofs

open Sys2Proof.Machine Sys2Proof.Laws Sys2Proof.Safety

variable {o : OpSpec} {c : Cmd} {s : State}

/-- The state that an opcode asks for is checked last (R98). -/
theorem headErr_eq_or_state : headErr o c s = (headErr { o with state := fun _ _ => none } c s).or (o.state c s) := by
  simp only [headErr, firstErr_cons, firstErr, Option.or_none, Option.or_assoc]
  rfl

/-- AT_SET_CERT that passes every check but that of the key (R579): the write of the certificate is queued, or the command
is refused. -/
theorem exec_atSetCert (h : HeadAccepts { specAtSetCert with state := fun _ _ => none } c s) : exec (.atSetCert c) s = .next (
    let s1 := take 0x1004 c s
    if Config.keyMatches (c.params.drop 4) then
      nvPush .head [{ kind := .cert (c.params.drop 4), cmd := some (c, 0x1004, []) }] s1
    else refuse c 0x1004 { status := stFailed, reason := 0x0003 } s1) := by
  obtain ⟨hpart, hs, hgone, hstamp, hwait, hto, herr⟩ := h
  have hstate : headErr specAtSetCert c s =
      if Config.keyMatches (c.params.drop 4) then none else errReason stFailed 0x0003 :=
    headErr_eq_or_state.trans (congrArg (Option.or · _) herr)
  by_cases hkey : Config.keyMatches (c.params.drop 4) = true
  · have haccepts : Accepts specAtSetCert c s := .inl ⟨hpart, hs, hgone, hstamp, hwait, hto, hstate.trans (if_pos hkey)⟩
    exact (runCmd_of_accepts haccepts).trans (congrArg _ (if_pos hkey).symm)
  · have hrefused := runCmd_of_headErr (o := specAtSetCert) hpart hs hgone (hstamp.symm ▸ hwait) (hstamp.symm ▸ hto)
      (hstamp.symm ▸ hstate.trans (if_neg hkey))
    rw [hstamp] at hrefused
    exact hrefused.trans (congrArg _ (if_neg hkey).symm)

/-- Settles O35: each is the run of its opcode's row (R579 to R582, R586, R588 to R590, R592 to R595, R598) on the state in which
the command is among the outstanding ones. Keys, certificates and signatures are log entry 73's choice, AT_STAGE_ABORT without a
session and the erase of a whole slot log entry 74's reading, a certificate with another key and what a Head answers a challenge
log entry 75's. -/
theorem atticCommandsComplete : Obligations.AtticCommandsComplete :=
  ⟨fun _ _ h => runCmd_of_accepts h, fun _ _ h => runCmd_of_accepts h, fun _ _ h => runCmd_of_accepts h,
    fun _ _ h => exec_atSetCert h,
    fun _ _ h => runCmd_of_accepts h, fun _ _ h => runCmd_of_accepts h, fun _ _ h => runCmd_of_accepts h,
    fun _ _ h => runCmd_of_accepts h, fun _ _ h => runCmd_of_accepts h, fun _ _ h => runCmd_of_accepts h,
    fun _ _ h => runCmd_of_accepts h, fun _ _ h => runCmd_of_accepts h, fun _ _ h => runCmd_of_accepts h,
    fun _ _ h => runCmd_of_accepts h, fun _ _ h => runCmd_of_accepts h, fun _ _ h => runCmd_of_accepts h,
    fun _ _ h => runCmd_of_accepts h, fun _ _ h => runCmd_of_accepts h⟩

end Sys2Proof.Proofs

/-!
Resets, supplies, the hardware shutdown and watchdogs (R486, R548 to R552, R555, R605 to R617).
-/
namespace Sys2Proof.Proofs

open Sys2Proof.Machine Sys2Proof.Laws

variable {c n x : Nat} {s : State}

/-! ## The Tile's supplies and synthesiser (R486, R555, R606, R617) -/

/-- The first start since the power came (R606). -/
theorem exec_vinPowerOn_starts {b : BootInput} (hoff : s.tile.sys.vinOn = false) : exec (.vinPowerOn b) s =
    .next { startTile b 0x01 { s with tile.sys.vinOn := true } with tile.sys.starts := 0 } := by
  change execVinPowerOn b s = _
  rw [execVinPowerOn, if_neg (Bool.eq_false_iff.mp hoff)]

theorem exec_vcoreRestart_of_due (hfault : s.tile.sys.vcoreFaultAt = some x) (hdue : x + 100000000 ≤ s.now)
    (hvin : s.tile.sys.vinOn = true) : exec .vcoreRestart s =
      .next { startTile (sameInput .tile s) 0x07 (resetTile true s) with tile.ht.coreRestarted := true } := by
  change execVcoreRestart s = _
  simp only [execVcoreRestart, hfault]
  exact congrArg _ (if_neg (not_or.mpr ⟨Nat.not_lt.mpr hdue, not_not.mpr hvin⟩))

theorem exec_clockSynthLock_enables {k : Nat} (hs : inService .tile s = true) (hk : k < 2)
    (hoff : s.tile.gl.all (fun g => g.state == .disabled) = true) : exec (.clockSynthLock k) s =
      .next { s with tile.gl := s.tile.gl.map (fun g => { toDetect s.now g with en := true, fellBack := none, fails := 0 }) } := by
  change execClockSynthLock k s = _
  rw [execClockSynthLock, onPart_of_inService _ hs]
  exact congrArg _ (if_neg (not_or.mpr ⟨Nat.not_le.mpr hk, not_not.mpr hoff⟩))

/-! ## The hardware shutdown (R548 to R552) -/

/-- A part that is not tripped meets a cause of R548. -/
theorem trip_guard {p : Part} (haon : aonRuns p s = true) (hfirst : (chOf p s).tripped = false)
    (hcause : tripCauseHolds p c n s = true) :
    ¬ (¬ aonRuns p s = true ∨ (chOf p s).tripped = true ∨ ¬ tripCauseHolds p c n s = true) :=
  not_or.mpr ⟨not_not.mpr haon, not_or.mpr ⟨Bool.eq_false_iff.mp hfirst, not_not.mpr hcause⟩⟩

theorem exec_thermalTrip_head (haon : aonRuns .head s = true) (hfirst : (chOf .head s).tripped = false)
    (hcause : tripCauseHolds .head c n s = true) : exec (.thermalTrip .head c n) s =
      .next (haltHead 0x05 (emit .head (.pin .thermTrip false) (latchTrip .head c n s))) := by
  change execThermalTrip .head c n s = _
  rw [execThermalTrip, if_neg (trip_guard haon hfirst hcause)]

theorem exec_thermalTrip_tile (haon : aonRuns .tile s = true) (hfirst : (chOf .tile s).tripped = false)
    (hcause : tripCauseHolds .tile c n s = true) : exec (.thermalTrip .tile c n) s = .next (
      let s2 := resetTile false (nvStop .tile (latchTrip .tile c n s))
      { s2 with
        tile.sys.cause := 0x05, tile.lp.causes := 0x81
        tile.ht.rails := s2.tile.ht.rails.map (stopped .off s.now) }) := by
  change execThermalTrip .tile c n s = _
  rw [execThermalTrip, if_neg (trip_guard haon hfirst hcause)]

/-- A part that its trip halted has been cool for 10 s, and its third trip within 60 min does not hold it. -/
structure CoolAgain (p : Part) (x : Nat) (s : State) : Prop where
  cool : (chOf p s).coolSince = some x
  tripped : (chOf p s).tripped = true
  due : x + 10000000000 ≤ s.now
  few : tripsAtLast (chOf p s) < 3

theorem CoolAgain.not_held {p : Part} (h : CoolAgain p x s) :
    ¬ (¬ (chOf p s).tripped = true ∨ s.now < x + 10000000000 ∨ 3 ≤ tripsAtLast (chOf p s)) :=
  not_or.mpr ⟨not_not.mpr h.tripped, not_or.mpr ⟨Nat.not_lt.mpr h.due, Nat.not_le.mpr h.few⟩⟩

/-- A part's trip ends. -/
def endTrip (p : Part) (s : State) : State := updCh p (fun c => { c with tripped := false, coolSince := none }) s

theorem exec_tripCoolRestart_head (h : CoolAgain .head x s) : exec (.tripCoolRestart .head) s =
    .next (releaseHead (sameInput .head s) (emit .head (.pin .thermTrip true) { endTrip .head s with head.sys.cause := 0x05 })) := by
  change execTripCoolRestart .head s = _
  simp only [execTripCoolRestart, h.cool]
  exact congrArg _ (if_neg h.not_held)

theorem exec_tripCoolRestart_tile (h : CoolAgain .tile x s) (hvin : s.tile.sys.vinOn = true) : exec (.tripCoolRestart .tile) s =
    .next (startTile (sameInput .tile s) 0x05 (resetTile false (endTrip .tile s))) := by
  change execTripCoolRestart .tile s = _
  simp only [execTripCoolRestart, h.cool]
  exact congrArg _ ((if_neg h.not_held).trans (if_pos hvin))

/-- Settles O38 (R486, R548, R549, R551, R552, R555, R605, R606, R609, R611, R614, R617). That a part in reset starts through its
start-up sequence is log entry 7's choice; that POR_N ends the hold of a third trip and that a VCORE restart clears the trip log
are log entry 71's reading, that a restart is one step is log entry 76's, what PERST# does to a Head in reset log entry 77's. -/
theorem resetEventsComplete : Obligations.ResetEventsComplete :=
  ⟨fun _ hfree => congrArg _ (if_neg (Bool.eq_false_iff.mp hfree)),
    fun _ _ hheld => congrArg _ (if_pos hheld),
    fun _ _ ⟨hk, hgood⟩ => congrArg _ (if_neg (not_or.mpr ⟨Nat.not_le.mpr hk, Bool.eq_false_iff.mp hgood⟩)),
    fun _ _ hbad => congrArg _ (if_pos hbad),
    fun _ hfree => congrArg _ (if_neg (Bool.eq_false_iff.mp hfree)),
    fun _ hheld => congrArg _ (if_pos hheld),
    fun _ _ hoff => exec_vinPowerOn_starts hoff,
    fun _ hon => congrArg _ (if_neg (not_not.mpr hon)),
    fun _ _ ⟨hfault, hdue, hvin⟩ => exec_vcoreRestart_of_due hfault hdue hvin,
    fun _ _ ⟨hs, hk, hoff⟩ => exec_clockSynthLock_enables hs hk hoff,
    fun _ _ _ ⟨haon, hfirst, hcause⟩ => exec_thermalTrip_head haon hfirst hcause,
    fun _ _ _ ⟨haon, hfirst, hcause⟩ => exec_thermalTrip_tile haon hfirst hcause,
    fun _ _ ⟨hcool, htripped, hdue, hfew⟩ => exec_tripCoolRestart_head ⟨hcool, htripped, hdue, hfew⟩,
    fun _ _ ⟨hcool, htripped, hdue, hfew, hvin⟩ => exec_tripCoolRestart_tile ⟨hcool, htripped, hdue, hfew⟩ hvin,
    fun p _ hs => onPart_of_inService (fwRestart p 0x08) hs⟩

end Sys2Proof.Proofs
